-- ==== Sys2Proof/Word.lean ====
section
/-! DEFINITION. The words of the PN48: the SPI byte, the two-byte field and the four-byte register. -/

namespace Sys2Proof

/-- One byte of exchange memory, of a terms-line frame or of an SPI transaction. -/
abbrev Byte := BitVec 8

/-- A two-byte field: an SPI address, a host tag, a page word or a journal count. -/
abbrev Half := BitVec 16

/-- A four-byte register value. -/
abbrev Word := BitVec 32

end Sys2Proof
end

