-- ==== Sys2Proof/Syntax.lean ====
section
/-! DEFINITION. The commands the PN48 takes: one constructor for each row of spec/opcode_table.json. -/

namespace Sys2Proof

/-- The line ports A, B and C (00_scope.md section 2). -/
inductive LinePort where
  | a | b | c
  deriving DecidableEq, Repr

/-- The four connectors: a line port, or the barrel D (00_scope.md section 2). -/
inductive Connector where
  | line (p : LinePort)
  | barrel
  deriving DecidableEq, Repr

/-- Where a request stands and what every request carries (10.3.2): its slot, its port byte and its host tag. -/
structure Posting where
  slot : Fin 8
  port : Byte
  tag : Half
  deriving DecidableEq, Repr

/-- The rows of spec/opcode_table.json. A reading is the converter's raw result before it saturates (R124). -/
inductive Instr where
  /-- Power-on reset with the presence inputs of A to D at these levels (R194, R3). -/
  | powerOn (a b c d : Bool)
  | presenceAsserted (x : Connector)
  | presenceRemoved (x : Connector)
  | attachIntervalExpiry (x : Connector)
  | detachIntervalExpiry (x : Connector)
  | coreSequenceStart
  | iinCompletion (reading : Int)
  | voltageCompletion (x : Connector) (reading : Int)
  | vbatCompletion (reading : Int)
  | vsysCompletion (reading : Int)
  | iddCompletion (reading : Int)
  | periodTimerExpiry
  /-- A hail pulse on a line port, seen at a time in microseconds (R18). -/
  | hailPulse (p : LinePort) (time : Nat)
  | hailWithdrawn (p : LinePort)
  | heedEnd (p : LinePort)
  | heedWaitExpiry (p : LinePort)
  | startDelimiter (p : LinePort)
  | dataSymbol (p : LinePort) (value : Byte)
  | lineError (p : LinePort)
  | lineSilence (p : LinePort)
  | straySilence (p : LinePort)
  | endDelimiter (p : LinePort)
  | frameTransmitted (p : LinePort)
  | tenderWaitExpiry (p : LinePort)
  | claimWaitExpiry (p : LinePort)
  | settleWaitExpiry (p : LinePort)
  | lapseExpiry (p : LinePort)
  | softStartExpiry
  | breakExpiry
  /-- An SPI memory read of `count` data bytes (R176). -/
  | memRead (addr : Half) (count : Nat)
  /-- An SPI memory write of these whole data bytes (R176). -/
  | memWrite (addr : Half) (data : List Byte)
  | attnWrite (value : Word)
  | attnMaskWrite (value : Word)
  | restart
  | registerWriteIgnored (reg : Byte) (value : Word)
  | slotExamination
  | adopt (q : Posting)
  | refresh (q : Posting)
  | pin (q : Posting) (level : Byte) (volts limit : Half)
  | unpin (q : Posting)
  | hold (q : Posting)
  | resume (q : Posting)
  | release (q : Posting)
  | primary (q : Posting)
  | regulate (q : Posting) (mode : Byte) (target : Half)
  | telemetry (q : Posting) (mode : Byte) (period : Half)
  | abort (q : Posting) (target : Byte)
  deriving DecidableEq, Repr

end Sys2Proof
end

