-- ==== Sys2Proof/Config.lean ====
section
/-! DEFINITION. What the manual fixes for every PN48: the lengths of fixed timers, the ends of the conversion ranges,
the places of the areas of exchange memory; and the one value that the manual leaves open. -/

namespace Sys2Proof.Config

/-- What a byte of exchange memory that nothing has written reads as (R179: at power-on every byte is 0). -/
def unlistedByte : Byte := 0

/-- Exchange memory holds 2048 bytes (10.2). -/
def memBytes : Nat := 2048

/-- The spacing of hail pulses in microseconds (R18). -/
def hailSpacing : Nat := 100

/-- A frame has at most 31 bytes between its delimiters (2.3, R25). -/
def frameLimit : Nat := 31

/-- The ends of the conversion ranges (R124). -/
def iinMax : Nat := 10000
def voltsMax : Nat := 25500
def iddMax : Nat := 3300

/-- The IDD collection holds eight samples (R7). -/
def iddSamples : Nat := 8

/-- The overdraw guard trips at the tenth sample (R157). -/
def overdrawTrip : Nat := 10

/-- The 16-bit counters saturate here (R50-R52, R158, R189). -/
def counterMax : Nat := 65535

/-- The journal is a ring of 32 records (10.6). -/
def journalSize : Nat := 32

/-- The areas of exchange memory (10.2). -/
def draftBase : Nat := 0x000
def slotBase : Nat := 0x080
def pageBase : Nat := 0x180
def telemetryBase : Nat := 0x380
def writeNumberAt : Nat := 0x400
def withheldAt : Nat := 0x402
def releaseAt : Nat := 0x404
def journalBase : Nat := 0x410

/-- How deep role-change selections may follow one another inside one event. R95's note says one round settles the
roles; the bound only makes the recursion structural (DESIGN CHOICE, log entry 7). -/
def reportDepth : Nat := 8

/-- What the part shifts out under a data byte of MEM_WRITE or REG_WRITE, by the transaction's bytes and the place of the byte
in it. A free value: R176 gives no byte there (DESIGN CHOICE, log entry 36). -/
opaque writeEcho : List Byte → Nat → Byte

end Sys2Proof.Config
end

