-- ==== Sys2Proof/Machine/State.lean ====
section
/-! DEFINITION. Everything the manual gives the PN48, as plain data, grouped by the block that owns it, and the state
right after power-on. -/

namespace Sys2Proof.Machine

/-- One value for each line port. -/
structure PerPort (α : Type) where
  a : α
  b : α
  c : α
  deriving DecidableEq, Repr

/-- One value for each connector. -/
structure PerConn (α : Type) where
  a : α
  b : α
  c : α
  d : α
  deriving DecidableEq, Repr

/-! ### Connector Monitor (1.1) -/

inductive TrackerState where
  | empty | settling | attached
  deriving DecidableEq, Repr

/-- A presence tracker; an interval is stopped or runs with the length in ms it was given (R3). -/
structure Tracker where
  state : TrackerState
  attachInterval : Option Nat
  detachInterval : Option Nat
  deriving DecidableEq, Repr

inductive Origin where
  | base | negotiated | barrel
  deriving DecidableEq, Repr

/-- A contract (4.1): `level` is present exactly for NEGOTIATED. -/
structure Contract where
  origin : Origin
  level : Option Nat
  volts : Nat
  limit : Nat
  operating : Nat
  shared : Bool
  narrowed : Bool
  deriving DecidableEq, Repr

inductive BarrelState where
  | empty | settling | identifying | bound | unusable
  deriving DecidableEq, Repr

inductive UnusableCause where
  | volts | noCurrent | droop
  deriving DecidableEq, Repr

/-- The stored result of an identification (R8); `entry` is 1 to 8, or 255 for no match. -/
structure StoredId where
  average : Nat
  entry : Nat
  volts : Nat
  deriving DecidableEq, Repr

/-- The barrel record of D (1.1), without the latest VD, which is held apart from it (R10). -/
structure Barrel where
  state : BarrelState
  cause : Option UnusableCause
  count : Nat
  sum : Nat
  stored : Option StoredId
  live : Option Contract
  released : Bool
  pathFault : Bool
  refreshPending : Bool
  /-- the slot of the REFRESH in flight (R11) -/
  inFlight : Option (Fin 8)
  deriving DecidableEq, Repr

/-! ### Line monitors (2.2) -/

inductive LineCondition where
  | idle | hailed | sending | heeded | receiving | stray
  deriving DecidableEq, Repr

structure Line where
  cond : LineCondition
  hail : Bool
  lastPulse : Option Nat
  /-- spaced hail pulses seen so far in IDLE (R18) -/
  pulses : Nat
  /-- bytes of the stray frame so far (R31) -/
  strayBytes : Nat
  /-- the stray frame was counted at its overflow (R25) -/
  strayCounted : Bool
  deriving DecidableEq, Repr

/-! ### Frame engines and the engine queue (3.1) -/

inductive OutFrame where
  | ask
  | claim (level volts limit operating : Nat)
  | giveback
  deriving DecidableEq, Repr

inductive EngineState where
  | free | waitLine | heeding | awaiting | receiving | sending
  deriving DecidableEq, Repr

/-- The kind of a lease and the class of a queue entry (3.1). -/
inductive LeaseKind where
  | hail | send
  deriving DecidableEq, Repr

structure Lease where
  port : LinePort
  kind : LeaseKind
  deriving DecidableEq, Repr

/-- A frame an engine has taken from the slot (R38): the frame, its tag and its bytes between the delimiters. -/
structure TxFrame where
  frame : OutFrame
  tag : Nat
  bytes : List Byte
  deriving DecidableEq, Repr

structure Engine where
  state : EngineState
  lease : Option Lease
  heedTimer : Bool
  rx : List Byte
  tx : Option TxFrame
  deriving DecidableEq, Repr

structure Engines where
  e0 : Engine
  e1 : Engine
  deriving DecidableEq, Repr

inductive EngineId where
  | e0 | e1
  deriving DecidableEq, Repr

structure QueueEntry where
  port : LinePort
  cls : LeaseKind
  deriving DecidableEq, Repr

/-! ### Port records (4.1) -/

inductive PortState where
  | empty | settling | asking | base | claimed | shifting | bound | faulted
  deriving DecidableEq, Repr

inductive FaultCause where
  | noAnswer | noSettle | droop
  deriving DecidableEq, Repr

inductive LapseTarget where
  | live | staged
  deriving DecidableEq, Repr

inductive LevelForm where
  | fixed | span
  deriving DecidableEq, Repr

structure Level where
  form : LevelForm
  shared : Bool
  lo : Nat
  hi : Nat
  amps : Nat
  usable : Bool
  score : Nat
  deriving DecidableEq, Repr

inductive FeederClass where
  | other | adapter | dock
  deriving DecidableEq, Repr

structure Image where
  cls : FeederClass
  tag : Nat
  time : Word
  levels : List Level
  deriving DecidableEq, Repr

structure Pin where
  level : Nat
  volts : Nat
  limit : Nat
  deriving DecidableEq, Repr

inductive ProtocolTimer where
  | stopped | tenderWait | claimWait | settleWait
  deriving DecidableEq, Repr

inductive PortRequestKind where
  | refresh | pin | release
  deriving DecidableEq, Repr

structure PortRequest where
  kind : PortRequestKind
  slot : Fin 8
  deriving DecidableEq, Repr

/-- The record of one line port. The pinned flag is `pin.isSome` (R102: the flag and the pin clear together). -/
structure PortRecord where
  state : PortState
  cause : Option FaultCause
  held : Bool
  released : Bool
  silent : Bool
  barred : Bool
  lapsing : Option LapseTarget
  pathFault : Bool
  deferred : Bool
  refreshPending : Bool
  image : Option Image
  live : Option Contract
  staged : Option Contract
  pin : Option Pin
  slot : Option OutFrame
  timer : ProtocolTimer
  lapseTimer : Bool
  askTag : Option Nat
  claimTag : Option Nat
  askAttempts : Nat
  claimAttempts : Nat
  tagCounter : Nat
  badFrame : Nat
  staleFrame : Nat
  missedHail : Nat
  decline : Option Byte
  inFlight : Option PortRequest
  deriving DecidableEq, Repr

/-! ### Path Controller (6.1) -/

inductive PathState where
  | idle
  | closing (y : Connector)
  | closed (x : Connector)
  | opening (x : Connector)
  deriving DecidableEq, Repr

structure PrimaryRequest where
  target : Connector
  slot : Fin 8
  deriving DecidableEq, Repr

structure Path where
  state : PathState
  /-- `true` is closed -/
  switches : PerConn Bool
  softStart : Option Nat
  checkDeferred : Bool
  breakTimer : Option Nat
  pin : Option Connector
  lastPrimary : Option Connector
  inFlight : Option PrimaryRequest
  deriving DecidableEq, Repr

/-! ### Measurement Unit (7.1) -/

inductive Channel where
  | iin
  | volts (x : Connector)
  | vbat
  | vsys
  | idd
  deriving DecidableEq, Repr

structure ChannelRow where
  last : Nat
  min : Option Nat
  max : Option Nat
  deriving DecidableEq, Repr

structure ResultTable where
  iin : ChannelRow
  volts : PerConn ChannelRow
  vbat : ChannelRow
  vsys : ChannelRow
  idd : ChannelRow
  deriving DecidableEq, Repr

structure Measurement where
  /-- the channel the running core sequence converts next, none between sequences (R124) -/
  converting : Option Channel
  table : ResultTable
  droop : PerConn Nat
  dead : Bool
  periodTimer : Option Nat
  reload : Nat
  singlePending : Bool
  singles : List (Fin 8)
  deriving DecidableEq, Repr

/-! ### Budget and Regulator (8.1) -/

inductive RegMode where
  | auto | manual | off
  deriving DecidableEq, Repr

structure Regulator where
  spTarget : Nat
  spf : Nat
  iacc : Int
  output : Nat
  mode : RegMode
  manualTarget : Nat
  transfer : Bool
  lastPV : Nat
  overdraw : Nat
  saturation : Nat
  deriving DecidableEq, Repr

/-! ### Policy Unit (9.1) -/

structure IdEntry where
  lo : Nat
  hi : Nat
  amps : Nat
  deriving DecidableEq, Repr

/-- A policy: fields 1 to 29 and the ID entries; ID_COUNT is the number of entries. -/
structure Policy where
  vinMin : Nat
  vinMax : Nat
  ceiling : Nat
  pathMax : PerConn Nat
  derate : Nat
  sharedWeight : Nat
  standby : Nat
  shift : Nat
  switchMargin : Nat
  droopPct : Nat
  droopCount : Nat
  softStart : Nat
  breakMs : Nat
  closeWindow : Nat
  overdrawPct : Nat
  deadMv : Nat
  alpha : Nat
  kp : Nat
  ki : Nat
  satLo : Nat
  satHi : Nat
  manualRate : Nat
  fallback : Nat
  attachMs : Nat
  detachMs : Nat
  portEnable : Nat
  ids : List IdEntry
  deriving DecidableEq, Repr

inductive PolicyOrigin where
  | default | adopted
  deriving DecidableEq, Repr

/-! ### Exchange Unit (10.4, 10.6) -/

inductive SlotCopy where
  | free | taken | done
  deriving DecidableEq, Repr

/-- The part's copy of a request (R183). -/
structure Request where
  kind : Byte
  port : Byte
  tag : Half
  args : List Byte
  deriving DecidableEq, Repr

structure Slot where
  copy : SlotCopy
  mark : Bool
  req : Request
  deriving DecidableEq, Repr

structure Exchange where
  mem : List Host.Cell
  slots : Vector Slot 8
  /-- the write number W -/
  written : Half
  /-- the release point P -/
  released : Half
  withheld : Nat
  attn : BitVec 7
  mask : BitVec 7
  pageRev : PerConn Half
  telemetrySeq : Half
  /-- the MODEL's: the bytes shifted out in the latest MEM_READ or REG_READ -/
  spiOut : List Byte
  deriving DecidableEq, Repr

/-- The whole part. -/
structure State where
  /-- the presence inputs -/
  presence : PerConn Bool
  trackers : PerConn Tracker
  barrel : Barrel
  latestVD : Nat
  lines : PerPort Line
  engines : Engines
  queue : List QueueEntry
  ports : PerPort PortRecord
  prospect : Option Connector
  path : Path
  meas : Measurement
  reg : Regulator
  policy : Policy
  origin : PolicyOrigin
  exch : Exchange
  /-- the ms time base (R187) -/
  time : Word
  /-- the MODEL's: the commands that wait, first in first out -/
  pending : List Instr
  deriving DecidableEq, Repr

/-- Reasons a command stops the block with a fault: the manual names none, so there is none (no command faults). -/
inductive Fault where
  deriving DecidableEq, Repr

/-- Reasons a command has no meaning here. -/
inductive Refusal where
  /-- Raised by an arm of exec whose command has no meaning yet: safe, since the block does not go on. No arm of this
  model raises it. -/
  | notModelled (mnemonic : String)
  deriving DecidableEq, Repr

/-! ### Power-on values -/

/-- A stopped tracker in EMPTY (1.1). -/
def Tracker.cleared : Tracker := ⟨.empty, none, none⟩

/-- The cleared barrel record (1.1). -/
def Barrel.cleared : Barrel :=
  ⟨.empty, none, 0, 0, none, none, false, false, false, none⟩

/-- The line monitor at power-on and at detach (2.2). -/
def Line.cleared : Line := ⟨.idle, false, none, 0, 0, false⟩

/-- An engine without a lease (3.1). -/
def Engine.freed : Engine := ⟨.free, none, false, [], none⟩

/-- The cleared port record (4.1). -/
def PortRecord.cleared : PortRecord where
  state := .empty
  cause := none
  held := false
  released := false
  silent := false
  barred := false
  lapsing := none
  pathFault := false
  deferred := false
  refreshPending := false
  image := none
  live := none
  staged := none
  pin := none
  slot := none
  timer := .stopped
  lapseTimer := false
  askTag := none
  claimTag := none
  askAttempts := 0
  claimAttempts := 0
  tagCounter := 0
  badFrame := 0
  staleFrame := 0
  missedHail := 0
  decline := none
  inFlight := none

/-- A channel no conversion of which has completed (7.1). -/
def ChannelRow.cleared : ChannelRow := ⟨0, none, none⟩

/-- The default policy (9.1). -/
def Policy.initial : Policy where
  vinMin := 5000
  vinMax := 20000
  ceiling := 45000
  pathMax := ⟨3000, 3000, 5000, 4500⟩
  derate := 243
  sharedWeight := 224
  standby := 100
  shift := 500
  switchMargin := 5000
  droopPct := 80
  droopCount := 3
  softStart := 8
  breakMs := 3
  closeWindow := 10
  overdrawPct := 110
  deadMv := 9000
  alpha := 4096
  kp := 512
  ki := 64
  satLo := 0
  satHi := 9500
  manualRate := 50
  fallback := 1500
  attachMs := 20
  detachMs := 10
  portEnable := 15
  ids := [⟨300, 700, 2250⟩, ⟨900, 1300, 3250⟩, ⟨1500, 1900, 4500⟩]

/-- The draft area with the default policy (R179, 10.3.1), bytes that are not 0. -/
def Exchange.resetDraft : List Host.Cell :=
  [(0x00, 0x88), (0x01, 0x13), (0x02, 0x20), (0x03, 0x4E), (0x04, 0xC8), (0x05, 0xAF),
   (0x08, 0xB8), (0x09, 0x0B), (0x0A, 0xB8), (0x0B, 0x0B), (0x0C, 0x88), (0x0D, 0x13), (0x0E, 0x94), (0x0F, 0x11),
   (0x10, 0xF3), (0x12, 0xE0), (0x14, 0x64), (0x16, 0xF4), (0x17, 0x01), (0x18, 0x88), (0x19, 0x13),
   (0x1A, 80), (0x1B, 3), (0x1C, 8), (0x1D, 3), (0x1E, 10), (0x1F, 110), (0x20, 0x28), (0x21, 0x23),
   (0x23, 0x10), (0x25, 0x02), (0x26, 0x40), (0x2A, 0x1C), (0x2B, 0x25), (0x2C, 50), (0x2E, 0xDC), (0x2F, 0x05),
   (0x30, 20), (0x31, 10), (0x32, 15), (0x33, 3)]

/-- The three default identification entries in the draft area (9.1, 10.3.1). -/
def Exchange.resetIds : List Host.Cell :=
  [(0x34, 0x2C), (0x35, 0x01), (0x36, 0xBC), (0x37, 0x02), (0x38, 0xCA), (0x39, 0x08),
   (0x3A, 0x84), (0x3B, 0x03), (0x3C, 0x14), (0x3D, 0x05), (0x3E, 0xB2), (0x3F, 0x0C),
   (0x40, 0xDC), (0x41, 0x05), (0x42, 0x6C), (0x43, 0x07), (0x44, 0x94), (0x45, 0x11)]

/-- The pages of the cleared records and of the power-on telemetry (R179, 10.3.3, 10.3.4): the absent ask and claim
tags of A, B and C, and the absent path and primary connectors, are 0xFF. -/
def Exchange.resetPages : List Host.Cell :=
  [(0x1AB, 0xFF), (0x1AC, 0xFF), (0x22B, 0xFF), (0x22C, 0xFF), (0x2AB, 0xFF), (0x2AC, 0xFF),
   (0x3C2, 0xFF), (0x3C3, 0xFF)]

/-- A free, unmarked slot with an empty copy (R194; the copy's request fields: log entry 18). -/
def Slot.cleared : Slot := ⟨.free, false, ⟨0, 0, 0, List.replicate 10 0⟩⟩

/-- The state right after power-on with no plug seated (R15, R54, R84, R104, R122, R138, R162, R175, R194). -/
def State.reset : State where
  presence := ⟨false, false, false, false⟩
  trackers := ⟨.cleared, .cleared, .cleared, .cleared⟩
  barrel := .cleared
  latestVD := 0
  lines := ⟨.cleared, .cleared, .cleared⟩
  engines := ⟨.freed, .freed⟩
  queue := []
  ports := ⟨.cleared, .cleared, .cleared⟩
  prospect := none
  path :=
    { state := .idle, switches := ⟨false, false, false, false⟩, softStart := none, checkDeferred := false,
      breakTimer := none, pin := none, lastPrimary := none, inFlight := none }
  meas :=
    { converting := some .iin
      table := ⟨.cleared, ⟨.cleared, .cleared, .cleared, .cleared⟩, .cleared, .cleared, .cleared⟩
      droop := ⟨0, 0, 0, 0⟩, dead := false, periodTimer := none, reload := 1000, singlePending := false, singles := [] }
  reg :=
    { spTarget := 0, spf := 0, iacc := 0, output := 0, mode := .auto, manualTarget := 0, transfer := false, lastPV := 0,
      overdraw := 0, saturation := 0 }
  policy := .initial
  origin := .default
  exch :=
    { mem := Exchange.resetDraft ++ Exchange.resetIds ++ Exchange.resetPages
      slots := Vector.replicate 8 Slot.cleared
      written := 0, released := 0, withheld := 0, attn := 0b1000000, mask := 0, pageRev := ⟨0, 0, 0, 0⟩,
      telemetrySeq := 0, spiOut := [] }
  time := 0
  pending := []

end Sys2Proof.Machine
end

