-- ==== Sys2Proof/Machine/Ops.lean ====
section
/-! DEFINITION. The named operations every block shares: access by port, connector, engine and channel; exchange memory;
the journal; the completion of a request; the setters of State. -/

namespace Sys2Proof.Machine

/-! ### Access by port, connector, engine -/

def PerPort.get {α : Type} (v : PerPort α) : LinePort → α
  | .a => v.a
  | .b => v.b
  | .c => v.c

def PerPort.set {α : Type} (v : PerPort α) (p : LinePort) (x : α) : PerPort α :=
  match p with
  | .a => { v with a := x }
  | .b => { v with b := x }
  | .c => { v with c := x }

def PerConn.get {α : Type} (v : PerConn α) : Connector → α
  | .line .a => v.a
  | .line .b => v.b
  | .line .c => v.c
  | .barrel => v.d

def PerConn.set {α : Type} (v : PerConn α) (k : Connector) (x : α) : PerConn α :=
  match k with
  | .line .a => { v with a := x }
  | .line .b => { v with b := x }
  | .line .c => { v with c := x }
  | .barrel => { v with d := x }

def Engines.get (v : Engines) : EngineId → Engine
  | .e0 => v.e0
  | .e1 => v.e1

def Engines.set (v : Engines) (e : EngineId) (x : Engine) : Engines :=
  match e with
  | .e0 => { v with e0 := x }
  | .e1 => { v with e1 := x }

/-- The line ports in connector order. -/
def linePorts : List LinePort := [.a, .b, .c]

/-- The connectors in number order (00_scope.md section 2). -/
def connectors : List Connector := [.line .a, .line .b, .line .c, .barrel]

/-- Connector numbers 0 to 3. -/
def connectorNumber : Connector → Nat
  | .line .a => 0
  | .line .b => 1
  | .line .c => 2
  | .barrel => 3

/-- The connector a number names. -/
def connectorOf : Nat → Option Connector
  | 0 => some (.line .a)
  | 1 => some (.line .b)
  | 2 => some (.line .c)
  | 3 => some .barrel
  | _ => none

/-- The byte that gives a connector, 0xFF for none (00_scope.md section 2). -/
def connectorCode : Option Connector → Byte
  | some x => BitVec.ofNat 8 (connectorNumber x)
  | none => 0xFF

/-- A bit as a number. -/
def bit (b : Bool) (n : Nat) : Nat := if b then 2 ^ n else 0

/-! ### Setters -/

def State.withPresence (s : State) (v : PerConn Bool) : State := { s with presence := v }
def State.withTrackers (s : State) (v : PerConn Tracker) : State := { s with trackers := v }
def State.withBarrel (s : State) (v : Barrel) : State := { s with barrel := v }
def State.withLatestVD (s : State) (v : Nat) : State := { s with latestVD := v }
def State.withLines (s : State) (v : PerPort Line) : State := { s with lines := v }
def State.withEngines (s : State) (v : Engines) : State := { s with engines := v }
def State.withQueue (s : State) (v : List QueueEntry) : State := { s with queue := v }
def State.withPorts (s : State) (v : PerPort PortRecord) : State := { s with ports := v }
def State.withProspect (s : State) (v : Option Connector) : State := { s with prospect := v }
def State.withPath (s : State) (v : Path) : State := { s with path := v }
def State.withMeas (s : State) (v : Measurement) : State := { s with meas := v }
def State.withReg (s : State) (v : Regulator) : State := { s with reg := v }
def State.withPolicy (s : State) (v : Policy) : State := { s with policy := v }
def State.withOrigin (s : State) (v : PolicyOrigin) : State := { s with origin := v }
def State.withExch (s : State) (v : Exchange) : State := { s with exch := v }
def State.withTime (s : State) (v : Word) : State := { s with time := v }
def State.withPending (s : State) (v : List Instr) : State := { s with pending := v }

def State.port (s : State) (p : LinePort) : PortRecord := s.ports.get p
def State.setPort (s : State) (p : LinePort) (r : PortRecord) : State := s.withPorts (s.ports.set p r)
def State.line (s : State) (p : LinePort) : Line := s.lines.get p
def State.setLine (s : State) (p : LinePort) (l : Line) : State := s.withLines (s.lines.set p l)
def State.engine (s : State) (e : EngineId) : Engine := s.engines.get e
def State.setEngine (s : State) (e : EngineId) (g : Engine) : State := s.withEngines (s.engines.set e g)
def State.tracker (s : State) (x : Connector) : Tracker := s.trackers.get x
def State.setTracker (s : State) (x : Connector) (t : Tracker) : State := s.withTrackers (s.trackers.set x t)

/-- A port is attached while its presence tracker is ATTACHED (R17, R39). -/
def State.attached (s : State) (x : Connector) : Bool := decide ((s.tracker x).state = .attached)

/-- PORT_ENABLE of the live policy for a connector (1.3). -/
def Policy.enabled (q : Policy) (x : Connector) : Bool := q.portEnable.testBit (connectorNumber x)

/-! ### Numbers as bytes -/

/-- A one-byte field. -/
def byte (n : Nat) : Byte := BitVec.ofNat 8 n

/-- A little-endian field of two bytes (6.4). -/
def le2 (n : Nat) : List Byte := [byte n, byte (n / 256)]

/-- A little-endian field of four bytes (6.4). -/
def le4 (n : Nat) : List Byte := le2 n ++ le2 (n / 65536)

/-- Bytes filled up with 0 to a length, which they never exceed (10.3: every byte not named in a layout is written 0). -/
def padTo (n : Nat) (bs : List Byte) : List Byte := (bs ++ List.replicate (n - bs.length) 0).take n

/-- A counter of 16 bits that saturates (R50-R52, R158, R189). -/
def satInc (n : Nat) : Nat := if n < Config.counterMax then n + 1 else n

/-! ### Exchange memory (10.2) -/

/-- One byte of memory. -/
def readByte : List Host.Cell → Nat → Byte
  | [], _ => Config.unlistedByte
  | c :: m, a => if c.1 = a then c.2 else readByte m a

/-- The cells of a block of bytes, without those an unlisted address reads as. -/
def blockCells : Nat → List Byte → List Host.Cell
  | _, [] => []
  | a, b :: bs => if b = Config.unlistedByte then blockCells (a + 1) bs else (a, b) :: blockCells (a + 1) bs

/-- Store bytes at consecutive addresses from `a` on. -/
def writeBlock (m : List Host.Cell) (a : Nat) (bs : List Byte) : List Host.Cell :=
  m.filter (fun c => decide (c.1 < a)) ++ (blockCells a bs ++ m.filter (fun c => decide (a + bs.length ≤ c.1)))

/-- The canonical form: addresses strictly rising and below 2048, no cell equal to what an unlisted address reads as. -/
def Memory.wf (m : List Host.Cell) : Bool :=
  decide (m.Pairwise fun c d => c.1 < d.1) &&
    m.all fun c => decide (c.1 < Config.memBytes) && decide (c.2 ≠ Config.unlistedByte)

/-- The byte address an SPI address and an offset select: the lower 11 bits, wrapping (R176). -/
def spiAddress (addr : Half) (i : Nat) : Nat := (addr.toNat + i) % Config.memBytes

/-- Store the data bytes of a MEM_WRITE, the `i`-th at its wrapped address (R176). -/
def storeBytes (m : List Host.Cell) (addr : Half) : Nat → List Byte → List Host.Cell
  | _, [] => m
  | i, b :: bs => storeBytes (writeBlock m (spiAddress addr i) [b]) addr (i + 1) bs

/-- The data bytes of a MEM_READ: at an even address the whole word is fetched and `held` keeps its odd byte for the
next data byte; at an odd address with nothing held the byte itself is fetched (R176). -/
def fetchBytes (m : List Host.Cell) (addr : Half) : Nat → Nat → Option Byte → List Byte
  | _, 0, _ => []
  | i, n + 1, some h => h :: fetchBytes m addr (i + 1) n none
  | i, n + 1, none =>
    let a := spiAddress addr i
    if a % 2 = 0 then readByte m a :: fetchBytes m addr (i + 1) n (some (readByte m (a + 1)))
    else readByte m a :: fetchBytes m addr (i + 1) n none

/-- A little-endian number of two bytes in memory. -/
def read2 (m : List Host.Cell) (a : Nat) : Nat := (readByte m a).toNat + 256 * (readByte m (a + 1)).toNat

/-- A little-endian number of four bytes in memory. -/
def read4 (m : List Host.Cell) (a : Nat) : Nat := read2 m a + 65536 * read2 m (a + 2)

def Exchange.write (x : Exchange) (a : Nat) (bs : List Byte) : Exchange := { x with mem := writeBlock x.mem a bs }

/-! ### The journal (10.6) -/

/-- Records written and not given back: (W − P) mod 65536. -/
def Exchange.unconsumed (x : Exchange) : Nat := (x.written - x.released).toNat

/-- Where record number `n` lies (10.3.5). -/
def recordAddress (n : Half) : Nat := Config.journalBase + 16 * ((n.toNat + 31) % Config.journalSize)

/-- The 16 bytes of a record (10.3.5). -/
def recordBytes (n : Half) (kind port : Byte) (time : Word) (data : List Byte) : List Byte :=
  le2 n.toNat ++ ([kind, port] ++ (le4 time.toNat ++ padTo 8 data))

/-- Set attention causes (R178). -/
def Exchange.raise (x : Exchange) (causes : BitVec 7) : Exchange := { x with attn := x.attn ||| causes }

/-- The attention causes (10.1.1). -/
def causeSlotDone : BitVec 7 := 0b0000001
def causeJournal : BitVec 7 := 0b0000010
def causeJournalFull : BitVec 7 := 0b0000100
def causeTelemetry : BitVec 7 := 0b0001000
def causeSlotMisuse : BitVec 7 := 0b0010000
def causeNoSource : BitVec 7 := 0b0100000
def causeRestarted : BitVec 7 := 0b1000000

/-- Write a record with the next number (R187). -/
def Exchange.putRecord (x : Exchange) (time : Word) (kind port : Byte) (data : List Byte) : Exchange :=
  let n := x.written + 1
  { x with
    mem := writeBlock (writeBlock x.mem (recordAddress n) (recordBytes n kind port time data))
      Config.writeNumberAt (le2 n.toNat)
    written := n
    attn := x.attn ||| causeJournal }

/-- Withhold a record (R189). -/
def Exchange.withhold (x : Exchange) : Exchange :=
  { x with
    mem := writeBlock x.mem Config.withheldAt (le2 (satInc x.withheld))
    withheld := satInc x.withheld
    attn := x.attn ||| causeJournalFull }

/-- Submit a record: written while fewer than 32 are unconsumed, withheld otherwise (R187, R189). -/
def Exchange.submit (x : Exchange) (time : Word) (kind port : Byte) (data : List Byte) : Exchange :=
  if x.unconsumed < Config.journalSize then x.putRecord time kind port data else x.withhold

/-- The GAP record after a release that made room (R189). -/
def Exchange.gap (x : Exchange) (time : Word) : Exchange :=
  if 0 < x.withheld ∧ x.unconsumed < Config.journalSize then
    let y := x.putRecord time 0xFF 0xFF (le2 x.withheld)
    { y with mem := writeBlock y.mem Config.withheldAt (le2 0), withheld := 0 }
  else x

/-- Act on the release word at the end of a transaction that stored a byte of it (R188). -/
def Exchange.release (x : Exchange) (time : Word) : Exchange :=
  let v : Half := BitVec.ofNat 16 (read2 x.mem Config.releaseAt)
  if (v - x.released).toNat ≤ x.unconsumed then Exchange.gap { x with released := v } time else x

def State.journal (s : State) (kind port : Byte) (data : List Byte) : State :=
  s.withExch (s.exch.submit s.time kind port data)

def State.raise (s : State) (causes : BitVec 7) : State := s.withExch (s.exch.raise causes)

/-- The port byte of a connector's records. -/
def connectorByteOf (x : Connector) : Byte := byte (connectorNumber x)

/-! ### Slots (10.4, 10.5) -/

def slotAddress (k : Fin 8) : Nat := Config.slotBase + 32 * k.val

/-- The state byte for a copy (10.3.2). -/
def SlotCopy.code : SlotCopy → Byte
  | .free => 0
  | .taken => 2
  | .done => 3

def Exchange.slot (x : Exchange) (k : Fin 8) : Slot := x.slots[k.val]

def Exchange.setSlot (x : Exchange) (k : Fin 8) (v : Slot) : Exchange := { x with slots := x.slots.set k.val v }

/-- The result codes (10.3.2). -/
inductive ResultCode where
  | ok | clamped | refusedPolicy | badKind | badPort | badArg | notAttached | portBusy | declined | timedOut | lost
  | aborted | notEligible | noUsableLevel | notFound | pathFault
  deriving DecidableEq, Repr

def ResultCode.code : ResultCode → Byte
  | .ok => 0
  | .clamped => 1
  | .refusedPolicy => 2
  | .badKind => 3
  | .badPort => 4
  | .badArg => 5
  | .notAttached => 6
  | .portBusy => 7
  | .declined => 8
  | .timedOut => 9
  | .lost => 10
  | .aborted => 11
  | .notEligible => 12
  | .noUsableLevel => 13
  | .notFound => 14
  | .pathFault => 15

/-- A completion (R184): kind, port and host tag from the copy, the result code, the result data with unused bytes 0,
and the state byte DONE last; the copy becomes DONE and SLOT_DONE is set. -/
def Exchange.complete (x : Exchange) (k : Fin 8) (code : ResultCode) (data : List Byte) : Exchange :=
  let v := x.slot k
  let a := slotAddress k
  let m := writeBlock x.mem (a + 1) ([v.req.kind, v.req.port, code.code] ++ le2 v.req.tag.toNat)
  let m := writeBlock m (a + 16) (padTo 16 data)
  let m := writeBlock m a [SlotCopy.done.code]
  { x with
    mem := m
    slots := x.slots.set k.val { v with copy := .done }
    attn := x.attn ||| causeSlotDone }

def State.complete (s : State) (k : Fin 8) (code : ResultCode) (data : List Byte) : State :=
  s.withExch (s.exch.complete k code data)

end Sys2Proof.Machine
end

