-- ==== Sys2Proof/Machine/Operands.lean ====
section
/-! DEFINITION. The operands of commands as the part reads them: saturated readings, the symbols and frames of the terms
line, the arguments of requests. -/

namespace Sys2Proof.Machine

/-- A raw reading brought into a channel's range 0 to `hi` (R124). -/
def saturate (hi : Nat) (reading : Int) : Nat := min hi reading.toNat

/-! ### Symbols (R16) -/

/-- The eight middle bit-times of a value, least significant bit first. -/
def middleBits (v : Byte) : List Bool := (List.range 8).map fun i => v.getLsbD i

/-- A data byte as ten bit-times: start bit low, the data, stop bit high (R16). -/
def dataSymbolBits (v : Byte) : List Bool := [false] ++ middleBits v ++ [true]

/-- A delimiter as ten bit-times: the tenth is low (R16). -/
def delimiterBits (v : Byte) : List Bool := [false] ++ middleBits v ++ [false]

/-- The values in the middle of the start and of the end delimiter (R16). -/
def startDelimiterValue : Byte := 0xC5
def endDelimiterValue : Byte := 0x3A

/-- What the receiver takes ten bit-times for (R16). -/
inductive Symbol where
  | data (v : Byte)
  | startDelimiter
  | endDelimiter
  | invalid
  deriving DecidableEq, Repr

/-- The byte eight bit-times carry, least significant bit first. -/
def bitsByte : List Bool → Nat
  | [] => 0
  | b :: bs => (if b then 1 else 0) + 2 * bitsByte bs

/-- Read ten bit-times (R16): with the tenth high a data byte, with it low a delimiter or, matching neither, invalid. -/
def readSymbol (middle : List Bool) (tenth : Bool) : Symbol :=
  let v := byte (bitsByte middle)
  if tenth then .data v
  else if v = startDelimiterValue then .startDelimiter
  else if v = endDelimiterValue then .endDelimiter
  else .invalid

/-- The command a received symbol is, on a line port. -/
def Symbol.command (p : LinePort) : Symbol → Instr
  | .data v => .dataSymbol p v
  | .startDelimiter => .startDelimiter p
  | .endDelimiter => .endDelimiter p
  | .invalid => .lineError p

/-- The microseconds a frame of `n` bytes between its delimiters occupies the line (R16). -/
def frameMicros (n : Nat) : Nat := (n + 2) * 50

/-- The bit-times of a frame on the wire (R16). -/
def wireBits (frame : List Byte) : List Bool :=
  delimiterBits startDelimiterValue ++ frame.flatMap dataSymbolBits ++ delimiterBits endDelimiterValue

/-! ### The CRC (R21) -/

/-- One message bit through the register (R21 step 3). -/
def crcBit (r : Byte) (b : Bool) : Byte :=
  if b ^^ r.getLsbD 7 then (r <<< 1) ^^^ 0x2F else r <<< 1

/-- One message byte, bit 0 first. -/
def crcByte (r v : Byte) : Byte := (middleBits v).foldl crcBit r

/-- The CRC of header, length and payload (R21). -/
def crc (bytes : List Byte) : Byte := bytes.foldl crcByte 0xFF

/-! ### Frames the part sends (R20, R22) -/

/-- The kind of a laptop frame (2.3.1). -/
def OutFrame.kind : OutFrame → Nat
  | .ask => 0x1
  | .claim _ _ _ _ => 0x2
  | .giveback => 0x3

/-- The payload of a laptop frame, in codes (R22). -/
def OutFrame.payload : OutFrame → List Byte
  | .ask => []
  | .claim level volts limit operating => [byte level, byte (volts / 100), byte (limit / 50), byte (operating / 50)]
  | .giveback => []

/-- The header byte: kind in bits 7-4, tag in bits 3-1, direction in bit 0 (2.3). -/
def headerByte (kind tag dir : Nat) : Byte := byte (16 * kind + 2 * tag + dir)

/-- The bytes of a laptop frame between its delimiters (R20). -/
def frameBytes (f : OutFrame) (tag : Nat) : List Byte :=
  let body := [headerByte f.kind tag 0, byte f.payload.length] ++ f.payload
  body ++ [crc body]

/-! ### Frames the part receives (R26-R29) -/

/-- A decoded feeder frame. -/
inductive FeederFrame where
  | tender (cls : FeederClass) (levels : List Level)
  | grant
  | decline (reason : Byte)
  | settled
  | cut (volts amps : Nat)
  deriving DecidableEq, Repr

/-- A level's usability, by its codes (R28). -/
def usableCodes (form : LevelForm) (lo hi amps : Nat) : Bool :=
  decide (50 ≤ lo ∧ lo ≤ 240 ∧ lo ≤ hi ∧ hi ≤ 240 ∧ 1 ≤ amps ∧ amps ≤ 120) &&
    (decide (form = .span) || decide (hi = lo))

/-- One level entry of a TENDER (R27). -/
def decodeLevel (flags lo hi amps : Byte) : Level :=
  let form := if flags.getLsbD 0 then LevelForm.span else LevelForm.fixed
  { form := form, shared := flags.getLsbD 1, lo := lo.toNat * 100, hi := hi.toNat * 100, amps := amps.toNat * 50,
    usable := usableCodes form lo.toNat hi.toNat amps.toNat, score := 0 }

/-- The level entries of a payload, in order (R27). -/
def decodeLevels : List Byte → List Level
  | f :: lo :: hi :: a :: rest => decodeLevel f lo hi a :: decodeLevels rest
  | _ => []

/-- The class byte; above 2 is OTHER (R27). -/
def decodeClass (b : Byte) : FeederClass :=
  if b = 1 then .adapter else if b = 2 then .dock else .other

/-- Payload by kind, with the lengths of 2.3.1 (R26 checks 4 to 6). -/
def decodePayload (kind : Nat) (payload : List Byte) : Option FeederFrame :=
  if kind = 0x8 then
    match payload with
    | c :: entries =>
      if entries.length % 4 = 0 ∧ 4 ≤ entries.length ∧ entries.length ≤ 24 then
        some (.tender (decodeClass c) (decodeLevels entries))
      else none
    | [] => none
  else if kind = 0x9 then if payload = [] then some .grant else none
  else if kind = 0xA then
    match payload with
    | [r] => some (.decline r)
    | _ => none
  else if kind = 0xB then if payload = [] then some .settled else none
  else if kind = 0xC then
    match payload with
    | [v, a] => some (.cut (v.toNat * 100) (a.toNat * 50))
    | _ => none
  else none

/-- The checks of R26 in order over the gathered bytes; an accepted frame gives its tag and its content. -/
def acceptFrame (rx : List Byte) : Option (Nat × FeederFrame) :=
  match rx with
  | header :: length :: rest =>
    if rest.length ≠ length.toNat + 1 then none
    else if crc (header :: length :: rest.dropLast) ≠ rest.getLastD 0 then none
    else if header.getLsbD 0 = false then none
    else
      match decodePayload (header.toNat / 16) rest.dropLast with
      | some f => some (header.toNat / 2 % 8, f)
      | none => none
  | _ => none

/-! ### Requests (10.3.2) -/

/-- The request kinds. -/
def kindAdopt : Byte := 0x01
def kindRefresh : Byte := 0x02
def kindPin : Byte := 0x03
def kindUnpin : Byte := 0x04
def kindHold : Byte := 0x05
def kindResume : Byte := 0x06
def kindRelease : Byte := 0x07
def kindPrimary : Byte := 0x08
def kindRegulate : Byte := 0x09
def kindTelemetry : Byte := 0x0A
def kindAbort : Byte := 0x0B

/-- Byte `offset` (6 to 15) of a request's slot, from the copied arguments. -/
def Request.arg (r : Request) (offset : Nat) : Nat := (r.args.getD (offset - 6) 0).toNat

/-- The two-byte argument at an even offset. -/
def Request.arg2 (r : Request) (offset : Nat) : Nat := r.arg offset + 256 * r.arg (offset + 1)

/-- The line port a port byte names. -/
def linePortOf (b : Byte) : Option LinePort :=
  match b.toNat with
  | 0 => some .a
  | 1 => some .b
  | 2 => some .c
  | _ => none

/-- The first sixteen bytes of a slot with a posted request (10.3.2): POSTED, kind, port, no result, tag, arguments. -/
def postedBytes (q : Posting) (kind : Byte) (args : List Byte) : List Byte :=
  [1, kind, q.port, 0] ++ (le2 q.tag.toNat ++ padTo 10 args)

/-- The request that stands in a slot (R183). -/
def readRequest (m : List Host.Cell) (k : Fin 8) : Request :=
  let a := slotAddress k
  { kind := readByte m (a + 1), port := readByte m (a + 2), tag := BitVec.ofNat 16 (read2 m (a + 4)),
    args := (List.range 10).map fun i => readByte m (a + 6 + i) }

end Sys2Proof.Machine
end

