-- ==== Sys2Proof/Machine/Flags.lean ====
section
/-! DEFINITION. Codes, flag words and registers the host sees: state codes, page flags, STATUS, ATTN and ATTN_L. -/

namespace Sys2Proof.Machine

/-! ### Codes (10.3.2, 10.3.3, 10.3.5) -/

def PortState.code : PortState → Byte
  | .empty => 0
  | .settling => 1
  | .asking => 2
  | .base => 3
  | .claimed => 4
  | .shifting => 5
  | .bound => 6
  | .faulted => 7

def BarrelState.code : BarrelState → Byte
  | .empty => 0
  | .settling => 1
  | .identifying => 8
  | .bound => 6
  | .unusable => 9

def FaultCause.code : FaultCause → Byte
  | .noAnswer => 1
  | .noSettle => 2
  | .droop => 3

/-- The unusable cause on the page of D (10.3.3). -/
def UnusableCause.code : UnusableCause → Byte
  | .droop => 3
  | .volts => 4
  | .noCurrent => 5

def Origin.code : Origin → Byte
  | .base => 0
  | .negotiated => 1
  | .barrel => 2

def LapseTarget.code : LapseTarget → Byte
  | .live => 0
  | .staged => 1

def FeederClass.code : FeederClass → Byte
  | .other => 0
  | .adapter => 1
  | .dock => 2

def PortRequestKind.code : PortRequestKind → Byte
  | .refresh => kindRefresh
  | .pin => kindPin
  | .release => kindRelease

def PathState.code : PathState → Byte
  | .idle => 0
  | .closing _ => 1
  | .closed _ => 2
  | .opening _ => 3

def RegMode.code : RegMode → Byte
  | .auto => 0
  | .manual => 1
  | .off => 2

def PolicyOrigin.code : PolicyOrigin → Byte
  | .default => 0
  | .adopted => 1

/-! ### Derived conditions -/

/-- The path connector: the connector named in the path state (6.1). -/
def PathState.connector : PathState → Option Connector
  | .idle => none
  | .closing y => some y
  | .closed x => some x
  | .opening x => some x

/-- The primary: the connector of CLOSED (6.1). -/
def PathState.primary : PathState → Option Connector
  | .closed x => some x
  | _ => none

/-- The path is CLOSING or CLOSED on a connector. -/
def PathState.holds (s : PathState) (x : Connector) : Bool := decide (s = .closing x) || decide (s = .closed x)

/-- The derived telemetry mode (R133). -/
inductive TelemetryMode where
  | off | single | repeating
  deriving DecidableEq, Repr

def TelemetryMode.code : TelemetryMode → Nat
  | .off => 0
  | .single => 1
  | .repeating => 2

def Measurement.mode (m : Measurement) : TelemetryMode :=
  if m.periodTimer.isSome then .repeating else if m.singlePending then .single else .off

/-- The pinned flag (R102). -/
def PortRecord.pinned (r : PortRecord) : Bool := r.pin.isSome

/-! ### Registers (10.1.1) -/

/-- ATTN_L is driven low while an enabled cause is set (R178); `true` is high, released. -/
def State.attnL (s : State) : Bool := decide (s.exch.attn &&& s.exch.mask = 0)

/-- A register value from its four bytes, bits 7-0 first (R176). -/
def wordOf (b0 b1 b2 b3 : Byte) : Word := b3 ++ b2 ++ b1 ++ b0

def identWord : Word := wordOf 0x54 0x48 0x01 0x00

/-- STATUS at the moment it is fetched (R177). -/
def State.statusWord (s : State) : Word :=
  wordOf (byte ((s.origin.code).toNat + bit s.meas.dead 1 + 4 * s.meas.mode.code)) s.path.state.code
    (connectorCode s.path.state.connector) (connectorCode s.path.state.primary)

/-- The register value a REG_READ fetches (R176, R177). -/
def State.readRegister (s : State) (reg : Byte) : Word :=
  match reg.toNat with
  | 0 => identWord
  | 1 => s.statusWord
  | 2 => s.exch.attn.zeroExtend 32
  | 3 => s.exch.mask.zeroExtend 32
  | _ => 0

/-- Write 1 to clear (R178). -/
def clearCauses (attn : BitVec 7) (value : Word) : BitVec 7 := attn &&& ~~~ (value.truncate 7)

/-! ### Page flags (10.3.3) -/

/-- The flags word of a line port's page. -/
def PortRecord.flags (r : PortRecord) : Nat :=
  bit r.held 0 + bit r.pinned 1 + bit r.released 2 + bit r.silent 3 + bit r.barred 4 + bit r.lapsing.isSome 5 +
    bit (decide (r.lapsing = some .staged)) 6 + bit r.pathFault 7 + bit r.deferred 8 + bit r.refreshPending 9 +
    bit r.live.isSome 10 + bit r.staged.isSome 11 + bit r.image.isSome 12 + bit r.decline.isSome 13

/-- The flags word of D's page. -/
def Barrel.flags (b : Barrel) : Nat :=
  bit b.released 2 + bit b.pathFault 7 + bit b.refreshPending 9 + bit b.live.isSome 10 + bit b.stored.isSome 14

/-- The flags byte of a level entry. -/
def Level.flags (l : Level) : Nat := bit (decide (l.form = .span)) 0 + bit l.shared 1 + bit l.usable 2

/-- The flags byte of a contract. -/
def Contract.flags (c : Contract) : Nat := bit c.shared 0 + bit c.narrowed 1

end Sys2Proof.Machine
end

