-- ==== Sys2Proof/Machine/Selector.lean ====
section
/-! DEFINITION. The Selector (Chapter 5): scoring of levels, the claim, the claim role, the primary prospect, pins; and
the eligibility and live scores the Path Controller shares with it (R106, R107). -/

namespace Sys2Proof.Machine

/-! ### Scores (R86-R88, R92) -/

/-- The window's bounds in 100 mV steps (R86). -/
def Policy.windowLo (q : Policy) : Nat := (q.vinMin + 99) / 100 * 100
def Policy.windowHi (q : Policy) : Nat := q.vinMax / 100 * 100

/-- The chosen volts of a level, none when it is no candidate (R86). -/
def chosenVolts (q : Policy) (l : Level) : Option Nat :=
  if l.usable then
    match l.form with
    | .fixed => if q.windowLo ≤ l.lo ∧ l.lo ≤ q.windowHi then some l.lo else none
    | .span =>
      let v := min l.hi q.windowHi
      if l.lo ≤ v ∧ q.windowLo ≤ v then some v else none
  else none

/-- The lesser of the level amps and PATHMAX (R87). -/
def usableAmps (q : Policy) (x : Connector) (l : Level) : Nat := min l.amps (q.pathMax.get x)

/-- Power capped at CEILING_MW and weighted when shared (R87 steps 2-4, R92). -/
def weightedPower (q : Policy) (volts amps : Nat) (shared : Bool) : Nat :=
  let power := min (volts * amps / 1000) q.ceiling
  if shared then power * q.sharedWeight / 256 else power

/-- The score of a level on a connector; 0 for a level that is no candidate (R87). -/
def levelScore (q : Policy) (x : Connector) (l : Level) : Nat :=
  match chosenVolts q l with
  | none => 0
  | some v => weightedPower q v (usableAmps q x l) l.shared

/-- A candidate level of an image. -/
structure Candidate where
  index : Nat
  volts : Nat
  score : Nat
  level : Level
  deriving DecidableEq, Repr

/-- The candidates of an image from index `i` on (R86). -/
def candidatesFrom (q : Policy) (x : Connector) : Nat → List Level → List Candidate
  | _, [] => []
  | i, l :: ls =>
    match chosenVolts q l with
    | none => candidatesFrom q x (i + 1) ls
    | some v => ⟨i, v, levelScore q x l, l⟩ :: candidatesFrom q x (i + 1) ls

/-- Whether a later candidate beats the best so far: higher score, then lower chosen volts (R88). -/
def beats (c best : Candidate) : Bool :=
  decide (best.score < c.score) || (decide (c.score = best.score) && decide (c.volts < best.volts))

/-- The winner: ties go to the lower volts, then to the lower index, which comes first (R88). -/
def bestOf : List Candidate → Option Candidate
  | [] => none
  | c :: cs => some (cs.foldl (fun best d => if beats d best then d else best) c)

def winner (q : Policy) (x : Connector) (levels : List Level) : Option Candidate := bestOf (candidatesFrom q x 1 levels)

/-- The contract score of figures on a connector (R92). -/
def contractScore (q : Policy) (x : Connector) (volts limit : Nat) (shared : Bool) : Nat :=
  weightedPower q volts (min limit (q.pathMax.get x)) shared

def Contract.score (q : Policy) (x : Connector) (c : Contract) : Nat := contractScore q x c.volts c.limit c.shared

/-! ### The claim (R89-R91, R97-R99) -/

/-- Rounded down to a multiple of 50. -/
def floor50 (n : Nat) : Nat := n / 50 * 50

/-- The ceiling current at a voltage (R89, R141). -/
def Policy.ceilingCurrent (q : Policy) (volts : Nat) : Nat := q.ceiling * 1000 / volts

/-- The limit of a claim (R89). -/
def claimLimit (q : Policy) (x : Connector) (volts : Nat) (l : Level) : Nat :=
  floor50 (min (usableAmps q x l) (q.ceilingCurrent volts))

/-- The operating amps for a role (R90). -/
def claimOperating (q : Policy) (primary : Bool) (limit : Nat) : Nat :=
  if primary then limit else floor50 (min q.standby limit)

/-- The figures of a claim (R89). -/
structure Claim where
  level : Nat
  volts : Nat
  limit : Nat
  operating : Nat
  shared : Bool
  deriving DecidableEq, Repr

/-- The outcomes of a selection (R64, R91); `noClaim` carries the shared flag the live contract takes. -/
inductive Outcome where
  | claim (c : Claim)
  | noClaim (shared : Bool)
  | noCandidate
  deriving DecidableEq, Repr

/-- The claim role of a line port: `true` is PRIMARY (R90). -/
def isPrimaryRole (prospect : Option Connector) (path : PathState) (p : LinePort) : Bool :=
  decide (prospect = some (.line p)) || path.holds (.line p)

def State.role (s : State) (p : LinePort) : Bool := isPrimaryRole s.prospect s.path.state p

/-- The level at an index of an image, counted from 1. -/
def Image.level (i : Image) (index : Nat) : Option Level := if index = 0 then none else i.levels[index - 1]?

/-- The shared flag of the pinned level (R99). -/
def pinShared (i : Option Image) (q : Pin) : Bool :=
  match i with
  | none => false
  | some i => ((i.level q.level).map Level.shared).getD false

/-- The claim a selection on an image composes for a role, pinned or automatic (R89, R90, R99). -/
def composeClaim (q : Policy) (p : LinePort) (primary : Bool) (i : Image) (pin : Option Pin) : Option Claim :=
  match pin with
  | some n => some ⟨n.level, n.volts, n.limit, claimOperating q primary n.limit, pinShared (some i) n⟩
  | none =>
    match winner q (.line p) i.levels with
    | none => none
    | some c =>
      let limit := claimLimit q (.line p) c.volts c.level
      some ⟨c.index, c.volts, limit, claimOperating q primary limit, c.level.shared⟩

/-- A contract is NEGOTIATED. -/
def Contract.negotiated (c : Contract) : Bool := decide (c.origin = .negotiated)

/-- The live contract already carries a claim's four figures (R91). -/
def Contract.carries (c : Contract) (k : Claim) : Bool :=
  c.negotiated && decide (c.level = some k.level) && decide (c.volts = k.volts) && decide (c.limit = k.limit) &&
    decide (c.operating = k.operating)

/-- The comparison of R91. -/
def compareClaim (live : Option Contract) : Option Claim → Outcome
  | none => .noCandidate
  | some k =>
    match live with
    | some c => if c.carries k then .noClaim k.shared else .claim k
    | none => .claim k

/-! ### Eligibility and live scores (R6, R106, R107) -/

def Barrel.eligible (b : Barrel) : Bool :=
  b.live.isSome && (decide (b.state = .bound) || decide (b.state = .identifying)) && !b.released && !b.pathFault

/-- The states in which a line port is eligible (R106). -/
def portStateEligible (path : PathState) (p : LinePort) : PortState → Bool
  | .asking => true
  | .base => true
  | .claimed => true
  | .bound => true
  | .shifting => path.holds (.line p)
  | .empty => false
  | .settling => false
  | .faulted => false

def State.eligible (s : State) : Connector → Bool
  | .line p =>
    portStateEligible s.path.state p (s.port p).state && !(s.port p).released && !(s.port p).pathFault
  | .barrel => s.barrel.eligible

/-- No claim or identification outstanding (R106). -/
def State.atRest (s : State) : Connector → Bool
  | .line p => decide ((s.port p).state = .base) || decide ((s.port p).state = .bound)
  | .barrel => decide (s.barrel.state = .bound)

/-- The live contract of a connector. -/
def State.live (s : State) : Connector → Option Contract
  | .line p => (s.port p).live
  | .barrel => s.barrel.live

/-- The live score of a connector (R107). -/
def State.liveScore (s : State) (x : Connector) : Nat := ((s.live x).map (Contract.score s.policy x)).getD 0

/-- The leader of scored connectors in number order: highest score, ties to the lower number (R94, R108, R109). -/
def leader : List (Connector × Nat) → Option (Connector × Nat)
  | [] => none
  | c :: cs => some (cs.foldl (fun best d => if best.2 < d.2 then d else best) c)

/-! ### The primary prospect (R93, R94) -/

/-- The contract score of the staged contract if present, otherwise of the live contract (R93). -/
def stagedOrLiveScore (q : Policy) (x : Connector) (r : PortRecord) : Nat :=
  match r.staged with
  | some c => c.score q x
  | none => (r.live.map (Contract.score q x)).getD 0

/-- The prospective score of a line port (R93, rows in order). -/
def portProspective (q : Policy) (p : LinePort) (r : PortRecord) : Option Nat :=
  if r.state = .empty ∨ r.state = .settling ∨ r.state = .faulted ∨ r.released = true ∨ r.pathFault = true then none
  else if r.held = true ∨ r.barred = true then some (stagedOrLiveScore q (.line p) r)
  else
    match r.pin with
    | some n => some (contractScore q (.line p) n.volts n.limit (pinShared r.image n))
    | none =>
      if r.state = .shifting then some (stagedOrLiveScore q (.line p) r)
      else
        match r.image with
        | none => some ((r.live.map (Contract.score q (.line p))).getD 0)
        | some i =>
          match winner q (.line p) i.levels with
          | some c => some c.score
          | none => some (stagedOrLiveScore q (.line p) r)

/-- The prospective score of a connector (R93). -/
def State.prospective (s : State) : Connector → Option Nat
  | .line p => portProspective s.policy p (s.port p)
  | .barrel => if s.barrel.eligible then some (s.liveScore .barrel) else none

/-- The connectors that have a prospective score, in number order. -/
def State.prospects (s : State) : List (Connector × Nat) :=
  connectors.filterMap fun x => (s.prospective x).map fun n => (x, n)

/-- The connector on which the path is CLOSING or CLOSED. -/
def PathState.heldBy : PathState → Option Connector
  | .closing y => some y
  | .closed x => some x
  | _ => none

/-- The incumbent with its prospective score (R94). -/
def State.incumbent (s : State) : Option (Connector × Nat) :=
  match s.path.state.heldBy with
  | none => none
  | some x => (s.prospective x).map fun n => (x, n)

/-- The prospect by score: the leader, unless the incumbent is within the margin (R94 case 3). -/
def prospectByScore (q : Policy) (incumbent lead : Option (Connector × Nat)) : Option Connector :=
  match lead, incumbent with
  | none, _ => none
  | some l, none => some l.1
  | some l, some i => if l.1 = i.1 then some l.1 else if i.2 + q.switchMargin < l.2 then some l.1 else some i.1

/-- The primary pin names a connector with a prospective score (R94 case 1). -/
def State.pinProspect (s : State) : Option Connector :=
  match s.path.pin with
  | some x => if (s.prospective x).isSome then some x else none
  | none => none

/-- The primary prospect (R94). -/
def State.findProspect (s : State) : Option Connector :=
  match s.pinProspect with
  | some x => some x
  | none =>
    match s.meas.dead, s.incumbent with
    | true, some i => some i.1
    | _, i => prospectByScore s.policy i (leader s.prospects)

/-- Recompute the prospect (R95). -/
def State.recomputeProspect (s : State) : State := s.withProspect s.findProspect

/-! ### A selection (R85) -/

/-- Write the scores into the image (R85 step 1, R87). -/
def rescore (q : Policy) (p : LinePort) (r : PortRecord) : PortRecord :=
  { r with image := r.image.map fun i =>
      { i with levels := i.levels.map fun l => { l with score := levelScore q (.line p) l } } }

/-- A selection on a line port: scores, prospect, role, claim, comparison (R85). -/
def State.select (s : State) (p : LinePort) : State × Outcome :=
  let t := (s.setPort p (rescore s.policy p (s.port p))).recomputeProspect
  match (t.port p).image with
  | none => (t, .noCandidate)
  | some i => (t, compareClaim (t.port p).live (composeClaim t.policy p (t.role p) i (t.port p).pin))

/-- The live contract matches the pin (R99). -/
def State.matchesPin (s : State) (p : LinePort) : Bool :=
  match (s.port p).live, (s.port p).pin with
  | some c, some n =>
    c.carries ⟨n.level, n.volts, n.limit, claimOperating s.policy (s.role p) n.limit, false⟩
  | _, _ => false

/-! ### Pins (R97, R98, R100, R101) -/

/-- Why a pin is void (10.3.5). -/
inductive VoidReason where
  | index | level | volts
  deriving DecidableEq, Repr

def VoidReason.code : VoidReason → Byte
  | .index => 1
  | .level => 2
  | .volts => 3

/-- The re-check of a pin against a new image (R100). -/
def pinVoid (i : Image) (n : Pin) : Option VoidReason :=
  match i.level n.level with
  | none => some .index
  | some l => if l.usable = false then some .level else if n.volts < l.lo ∨ l.hi < n.volts then some .volts else none

/-- Lower a standing pin's limit to the level's usable amps (R100, R101). -/
def lowerPin (q : Policy) (p : LinePort) (i : Image) (n : Pin) : Pin :=
  match i.level n.level with
  | none => n
  | some l =>
    let amps := usableAmps q (.line p) l
    if amps < n.limit then { n with limit := floor50 amps } else n

/-- The check of R97 and the clamping of R98: a pin, or the code of the refusal. -/
def clampPin (q : Policy) (p : LinePort) (i : Image) (index volts limit : Nat) : Except ResultCode Pin :=
  match i.level index with
  | none => .error .badArg
  | some l =>
    if l.usable = false then .error .badArg
    else
      let lo := max l.lo q.windowLo
      let hi := min l.hi q.windowHi
      if hi < lo then .error .notEligible
      else
        .ok ⟨index, min hi (max lo (volts / 100 * 100)), floor50 (min (usableAmps q (.line p) l) (max 50 limit))⟩

end Sys2Proof.Machine
end

