-- ==== Sys2Proof/Machine/Engines.lean ====
section
/-! DEFINITION. Frame engines, leases and the engine queue (Chapter 3). -/

namespace Sys2Proof.Machine

def engineIds : List EngineId := [.e0, .e1]

/-- The engine leased to a port (R37: at most one). -/
def State.engineOf (s : State) (p : LinePort) : Option EngineId :=
  if s.engines.e0.lease.map Lease.port = some p then some .e0
  else if s.engines.e1.lease.map Lease.port = some p then some .e1
  else none

/-- A port is in the queue. -/
def State.queued (s : State) (p : LinePort) : Bool := s.queue.any fun q => decide (q.port = p)

/-- A port needs an engine (R39). -/
def State.needsEngine (s : State) (p : LinePort) : Bool :=
  s.attached (.line p) && ((s.port p).slot.isSome || (s.line p).hail)

/-! ### The error counters (R50-R52) -/

def State.countBadFrame (s : State) (p : LinePort) : State :=
  s.setPort p { s.port p with badFrame := satInc (s.port p).badFrame }

def State.countStaleFrame (s : State) (p : LinePort) : State :=
  s.setPort p { s.port p with staleFrame := satInc (s.port p).staleFrame }

def State.countMissedHail (s : State) (p : LinePort) : State :=
  s.setPort p { s.port p with missedHail := satInc (s.port p).missedHail }

/-! ### The queue (R40, R41) -/

/-- A port joins with class HAIL: after the last HAIL entry, ahead of every SEND entry (R40). -/
def joinHail (q : List QueueEntry) (p : LinePort) : List QueueEntry :=
  q.filter (fun e => decide (e.cls = .hail)) ++ (⟨p, .hail⟩ :: q.filter fun e => decide (e.cls = .send))

/-- A port joins with a class (R40). -/
def joinQueue (q : List QueueEntry) (p : LinePort) : LeaseKind → List QueueEntry
  | .hail => joinHail q p
  | .send => q ++ [⟨p, .send⟩]

/-- An entry of a port is removed (R49). -/
def leaveQueue (q : List QueueEntry) (p : LinePort) : List QueueEntry := q.filter fun e => decide (e.port ≠ p)

/-- Hail present is set on a queued port: a SEND entry becomes HAIL and moves, a HAIL entry stays (R41). -/
def raiseClass (q : List QueueEntry) (p : LinePort) : List QueueEntry :=
  if q.any fun e => decide (e = ⟨p, .send⟩) then joinHail (leaveQueue q p) p else q

/-! ### Serving a lease (R43-R46) -/

/-- The monitor enters a condition, its pulse count and stray marks cleared. -/
def Line.enter (l : Line) (c : LineCondition) : Line :=
  { l with cond := c, pulses := 0, strayBytes := 0, strayCounted := false }

/-- The engine begins the heed pulse (R44): the monitor passes through SENDING (R19). -/
def State.beginHeed (s : State) (e : EngineId) (p : LinePort) : State :=
  (s.setEngine e { s.engine e with state := .heeding }).setLine p ((s.line p).enter .sending)

/-- The engine takes the frame out of the slot with the tag counter's value and begins to send (R46, R23, R38). -/
def State.takeFrame (s : State) (e : EngineId) (p : LinePort) (f : OutFrame) : State :=
  let tag := (s.port p).tagCounter
  ((s.setPort p { s.port p with slot := none, tagCounter := (tag + 1) % 7 }).setEngine e
    { s.engine e with state := .sending, tx := some ⟨f, tag, frameBytes f tag⟩ }).setLine p ((s.line p).enter .sending)

/-- The engine acts on the first case of R43 that applies: heed, send or wait for the line (R46), or end the lease. -/
def State.serve (s : State) (e : EngineId) (p : LinePort) : State :=
  if (s.line p).hail then s.beginHeed e p
  else
    match (s.port p).slot with
    | some f =>
      if (s.line p).cond = .idle then s.takeFrame e p f
      else s.setEngine e { s.engine e with state := .waitLine }
    | none => s.setEngine e Engine.freed

/-- A lease begins (R43): a HAIL lease without a hail counts a missed hail. -/
def State.beginLease (s : State) (e : EngineId) (p : LinePort) (k : LeaseKind) : State :=
  let t := s.setEngine e { Engine.freed with state := .waitLine, lease := some ⟨p, k⟩ }
  (if k = .hail ∧ (t.line p).hail = false then t.countMissedHail p else t).serve e p

/-- A freed engine is given to the queue's entries from the head on, until a lease lasts (R42). -/
def giveOut (e : EngineId) : List QueueEntry → State → State
  | [], s => s
  | q :: rest, s =>
    if (s.engine e).state = .free then giveOut e rest ((s.withQueue rest).beginLease e q.port q.cls) else s

def State.giveEngine (s : State) (e : EngineId) : State := giveOut e s.queue s

/-- A port applies for an engine if it needs one and has neither an engine nor an entry (R39). -/
def State.apply (s : State) (p : LinePort) : State :=
  if s.needsEngine p && (s.engineOf p).isNone && !s.queued p then
    let k := if (s.line p).hail then LeaseKind.hail else LeaseKind.send
    if s.engines.e0.state = .free then s.beginLease .e0 p k
    else if s.engines.e1.state = .free then s.beginLease .e1 p k
    else s.withQueue (joinQueue s.queue p k)
  else s

/-- A port's lease ends (R37, R42): the engine is given out, then the port applies if it still needs one. -/
def State.endLease (s : State) (e : EngineId) (p : LinePort) : State :=
  (((s.setEngine e Engine.freed).giveEngine e).apply p)

/-- The lease a port holds, if any, ends. -/
def State.endLeaseOf (s : State) (p : LinePort) : State :=
  match s.engineOf p with
  | some e => s.endLease e p
  | none => s

/-- The monitor of a port has become IDLE from a STRAY: an engine in WAIT_LINE looks at the port again (R46). -/
def State.lineFreed (s : State) (p : LinePort) : State :=
  match s.engineOf p with
  | some e =>
    if (s.engine e).state = .waitLine then
      let t := s.serve e p
      if (t.engine e).state = .free then t.endLease e p else t
    else s
  | none => s

/-- A detach takes the port's engine, queue entry and line (R49, R17). -/
def State.dropLine (s : State) (p : LinePort) : State :=
  let t := (s.withQueue (leaveQueue s.queue p)).setLine p Line.cleared
  match t.engineOf p with
  | some e => (t.setEngine e Engine.freed).giveEngine e
  | none => t

end Sys2Proof.Machine
end

