-- ==== Sys2Proof/Machine/Pages.lean ====
section
/-! DEFINITION. The byte layouts the part writes: contracts, port pages, the telemetry page, the policy draft; and the
writing of a page under its revision or sequence word (R190-R192). -/

namespace Sys2Proof.Machine

/-- A contract in 10 bytes, zeros when absent (10.3.3). -/
def contractBytes : Option Contract → List Byte
  | none => List.replicate 10 0
  | some c =>
    [c.origin.code, byte (c.level.getD 0)] ++ le2 c.volts ++ le2 c.limit ++ le2 c.operating ++ [byte c.flags, 0]

/-- A pin in 6 bytes, zeros when absent (10.3.3). -/
def pinBytes : Option Pin → List Byte
  | none => List.replicate 6 0
  | some q => [byte q.level, 0] ++ le2 q.volts ++ le2 q.limit

/-- A tag byte, 0xFF when absent (10.3.3). -/
def tagByte : Option Nat → Byte
  | none => 0xFF
  | some t => byte t

/-- A level entry in 12 bytes (10.3.3). -/
def levelBytes (l : Level) : List Byte :=
  [byte l.flags, 0] ++ le2 l.lo ++ le2 l.hi ++ le2 l.amps ++ le4 l.score

/-- The image fields of a line port's page, from offset 0x2D on (10.3.3). -/
def imageBytes : Option Image → List Byte
  | none => []
  | some i =>
    [i.cls.code, byte i.levels.length, byte i.tag] ++ le4 i.time.toNat ++ i.levels.flatMap levelBytes

/-- The contents of a line port's page after the revision word (R191). -/
def portPage (r : PortRecord) : List Byte :=
  padTo 126 <|
    [r.state.code, (r.cause.map FaultCause.code).getD 0] ++ le2 r.flags ++
    [(r.inFlight.map fun q => q.kind.code).getD 0, r.decline.getD 0] ++
    contractBytes r.live ++ contractBytes r.staged ++ pinBytes r.pin ++
    le2 r.badFrame ++ le2 r.staleFrame ++ le2 r.missedHail ++
    [byte r.tagCounter, byte r.askAttempts, byte r.claimAttempts, tagByte r.askTag, tagByte r.claimTag] ++
    imageBytes r.image

/-- The contents of D's page after the revision word (R191). -/
def barrelPage (b : Barrel) : List Byte :=
  padTo 126 <|
    [b.state.code, (b.cause.map UnusableCause.code).getD 0] ++ le2 b.flags ++
    [if b.inFlight.isSome then kindRefresh else 0, 0] ++
    contractBytes b.live ++ List.replicate 16 0 ++
    [byte b.count, 0] ++ le2 b.sum ++ [0, 0] ++
    (match b.stored with
      | none => []
      | some i => [byte i.entry, 0] ++ le2 i.average ++ [0, 0] ++ le2 i.volts)

/-- Where a connector's page begins (10.3.3). -/
def pageAddress (x : Connector) : Nat := Config.pageBase + 128 * connectorNumber x

/-- Write a page at an address: the word rises by 2 over the whole write (R190). -/
def writePage (m : List Host.Cell) (a : Nat) (word : Half) (contents : List Byte) : List Host.Cell :=
  writeBlock m a (le2 word.toNat ++ contents)

/-- The page contents of a connector. -/
def State.pageOf (s : State) : Connector → List Byte
  | .line p => portPage (s.port p)
  | .barrel => barrelPage s.barrel

/-- Rewrite a connector's page (R190). -/
def State.rewritePage (s : State) (x : Connector) : State :=
  let rev := s.exch.pageRev.get x + 2
  s.withExch { s.exch with
    mem := writePage s.exch.mem (pageAddress x) rev (s.pageOf x)
    pageRev := s.exch.pageRev.set x rev }

/-- Whether an event changed a connector's record (R55, R10). MODEL'S CHOICE (log entry 32): D's request in flight counts as
an item of its record, since D's page shows it (10.3.3), though section 1.1, R10 and R191 do not list it. -/
def recordChanged (s t : State) : Connector → Bool
  | .line p => decide (s.port p ≠ t.port p)
  | .barrel => decide (s.barrel ≠ t.barrel)

/-- The rewrite of one page if the event changed its record. -/
def State.refreshPage (s t : State) (x : Connector) : State := if recordChanged s t x then t.rewritePage x else t

/-- End of an event that led from `s` to `t`: each port page whose record the event changed is rewritten once (R190). -/
def State.finish (s t : State) : State := connectors.foldl (fun u x => s.refreshPage u x) t

/-! ### The telemetry page (R136, R192) -/

/-- One channel: last, minimum and maximum; an empty spread shows the last value (R136). -/
def channelBytes (row : ChannelRow) : List Byte :=
  le2 row.last ++ le2 (row.min.getD row.last) ++ le2 (row.max.getD row.last)

/-- A connector's voltage channel, zeros while its PORT_ENABLE bit is 0 (R136, R137). -/
def State.voltageBytes (s : State) (x : Connector) : List Byte :=
  if s.policy.enabled x then channelBytes (s.meas.table.volts.get x) else List.replicate 6 0

/-- The contents of the telemetry page after the sequence word (10.3.4). -/
def State.telemetryPage (s : State) : List Byte :=
  padTo 126 <|
    le4 s.time.toNat ++ channelBytes s.meas.table.iin ++ connectors.flatMap s.voltageBytes ++
    channelBytes s.meas.table.vbat ++ channelBytes s.meas.table.vsys ++ channelBytes s.meas.table.idd ++
    le2 s.reg.spTarget ++ le2 s.reg.spf ++ le2 s.reg.lastPV ++ le2 s.reg.output ++ le2 s.reg.saturation ++
    [s.reg.mode.code, s.path.state.code, connectorCode s.path.state.connector, connectorCode s.path.state.primary,
      byte (bit s.meas.dead 0)]

/-- Write the telemetry page (R190, R192). -/
def State.writeTelemetry (s : State) : State :=
  let seq := s.exch.telemetrySeq + 2
  s.withExch { s.exch with
    mem := writePage s.exch.mem Config.telemetryBase seq s.telemetryPage
    telemetrySeq := seq }

/-! ### The policy draft (10.3.1) -/

def idEntryBytes (e : IdEntry) : List Byte := le2 e.lo ++ le2 e.hi ++ le2 e.amps

/-- The policy as the draft area holds it, unused entries zero (R170, R174). -/
def draftBytes (q : Policy) : List Byte :=
  padTo 100 <|
    le2 q.vinMin ++ le2 q.vinMax ++ le4 q.ceiling ++
    le2 q.pathMax.a ++ le2 q.pathMax.b ++ le2 q.pathMax.c ++ le2 q.pathMax.d ++
    le2 q.derate ++ le2 q.sharedWeight ++ le2 q.standby ++ le2 q.shift ++ le2 q.switchMargin ++
    [byte q.droopPct, byte q.droopCount, byte q.softStart, byte q.breakMs, byte q.closeWindow, byte q.overdrawPct] ++
    le2 q.deadMv ++ le2 q.alpha ++ le2 q.kp ++ le2 q.ki ++ le2 q.satLo ++ le2 q.satHi ++ le2 q.manualRate ++
    le2 q.fallback ++ [byte q.attachMs, byte q.detachMs, byte q.portEnable, byte q.ids.length] ++
    (q.ids.take 8).flatMap idEntryBytes

/-- Write the live policy into the draft area (R170, R174). -/
def State.writeDraft (s : State) : State := s.withExch (s.exch.write Config.draftBase (draftBytes s.policy))

end Sys2Proof.Machine
end

