-- ==== Sys2Proof/Machine/Negotiation.lean ====
section
/-! DEFINITION. The Negotiation Unit (Chapter 4): what each event does to a port record, its journal records and the
completions it makes. The reports that follow an event are in Reports.lean. -/

namespace Sys2Proof.Machine

/-- The BASE contract (4.1, R32). -/
def Contract.base : Contract := ⟨.base, none, 5000, 500, 500, false, false⟩

/-- The port byte of a line port's records. -/
def lineByte (p : LinePort) : Byte := connectorByteOf (.line p)

/-- The resting state (R56). -/
def PortRecord.resting (r : PortRecord) : PortState :=
  match r.live with
  | some c => if c.negotiated then .bound else .base
  | none => .base

/-- The port enters its resting state. -/
def State.toRest (s : State) (p : LinePort) : State := s.setPort p { s.port p with state := (s.port p).resting }

/-! ### Completions (R79, R80, R78, R184) -/

/-- The state and the live figures in result data (10.3.2). -/
def figuresData (state : Byte) (live : Option Contract) : List Byte :=
  [state, 0] ++ le2 ((live.map Contract.volts).getD 0) ++ le2 ((live.map Contract.limit).getD 0) ++
    le2 ((live.map Contract.operating).getD 0)

/-- The result data of REFRESH and RELEASE on a line port. -/
def PortRecord.data (r : PortRecord) : List Byte := figuresData r.state.code r.live

/-- The result data of PIN: the figures, then the pin in force (10.3.2). -/
def PortRecord.pinData (r : PortRecord) : List Byte := r.data ++ pinBytes r.pin

def PortRecord.requestData (r : PortRecord) : PortRequestKind → List Byte
  | .refresh => r.data
  | .pin => r.pinData
  | .release => r.data

/-- Complete the request in flight on a port if it is one of these kinds. -/
def State.completePort (s : State) (p : LinePort) (kinds : List PortRequestKind) (code : ResultCode) : State :=
  match (s.port p).inFlight with
  | some q =>
    if kinds.contains q.kind then
      (s.setPort p { s.port p with inFlight := none }).complete q.slot code ((s.port p).requestData q.kind)
    else s
  | none => s

/-! ### The pieces of the rules -/

/-- The live contract takes a value; every change of it clears the path_fault flag, in the change itself (R82). -/
def PortRecord.setLive (r : PortRecord) (c : Option Contract) : PortRecord :=
  { r with live := c, pathFault := r.pathFault && decide (r.live = c) }

/-- Put a frame into the outbound slot, replacing any frame there (R38). -/
def PortRecord.put (r : PortRecord) (f : OutFrame) : PortRecord := { r with slot := some f }

/-- Withdraw an unsent ASK. -/
def PortRecord.withdrawAsk (r : PortRecord) : PortRecord :=
  if r.slot = some .ask then { r with slot := none } else r

/-- Withdraw an unsent CLAIM. -/
def PortRecord.withdrawClaim (r : PortRecord) : PortRecord :=
  match r.slot with
  | some (.claim _ _ _ _) => { r with slot := none }
  | _ => r

/-- The outstanding claim is retired (R60 step 7). -/
def PortRecord.retire (r : PortRecord) : PortRecord :=
  { r.withdrawClaim with staged := none, claimTag := none, timer := .stopped, claimAttempts := 0 }

/-- The claim is made: staged contract, CLAIM in the slot, CLAIMED (R64). -/
def PortRecord.makeClaim (r : PortRecord) (c : Claim) : PortRecord :=
  { r.put (.claim c.level c.volts c.limit c.operating) with
    staged := some ⟨.negotiated, some c.level, c.volts, c.limit, c.operating, c.shared, false⟩
    claimAttempts := 1, claimTag := none, timer := .stopped, state := .claimed }

/-- The ask ends (R61). -/
def PortRecord.endAsk (r : PortRecord) : PortRecord := { r.withdrawAsk with timer := .stopped, askTag := none }

/-- The lapse stops (R69, R71, R75, R78). -/
def PortRecord.stopLapse (r : PortRecord) : PortRecord := { r with lapsing := none, lapseTimer := false }

/-- A fresh ASK: the port enters ASKING (R57, R79). -/
def PortRecord.startAsk (r : PortRecord) : PortRecord :=
  { r.put .ask with askAttempts := 1, claimAttempts := 0, askTag := none, timer := .stopped, state := .asking }

/-- What a REFRESH clears at once (R79). -/
def PortRecord.clearBars (r : PortRecord) : PortRecord := { r with released := false, silent := false, barred := false }

/-- The staged contract carries a claim's four figures (R63). -/
def PortRecord.stagedCarries (r : PortRecord) (c : Claim) : Bool :=
  match r.staged with
  | some k => k.carries c
  | none => false

/-- The shared flag of the live contract takes the winner's value (R91). -/
def PortRecord.setShared (r : PortRecord) (shared : Bool) : PortRecord :=
  r.setLive (r.live.map fun c => { c with shared := shared })

/-! ### Selection (R63, R64) -/

/-- The machine acts on the Selector's outcome (R64). -/
def State.applyOutcome (s : State) (p : LinePort) : Outcome → State
  | .claim c => s.setPort p ((s.port p).makeClaim c)
  | .noClaim shared =>
    let t := (s.setPort p ((s.port p).setShared shared)).toRest p
    let t := t.completePort p [.refresh] .ok
    if t.matchesPin p then t.completePort p [.pin] .ok else t
  | .noCandidate =>
    let t := s.toRest p
    let t := t.journal 0x11 (lineByte p) [byte (((s.port p).image.map fun i => i.levels.length).getD 0)]
    t.completePort p [.refresh] .noUsableLevel

/-- Held, released or barred: no selection runs (R63). -/
def PortRecord.blocked (r : PortRecord) : Bool := r.held || r.released || r.barred

/-- A call for selection that is not a capture (R63). -/
def State.callSelection (s : State) (p : LinePort) : State :=
  let r := s.port p
  if r.image.isNone then s
  else
    match r.state with
    | .shifting => s.setPort p { r with deferred := true }
    | .base => if r.blocked then s else (s.select p).1.applyOutcome p (s.select p).2
    | .bound => if r.blocked then s else (s.select p).1.applyOutcome p (s.select p).2
    | .claimed =>
      if r.blocked then s
      else
        let t := (s.select p).1
        match (s.select p).2 with
        | .claim c =>
          if r.stagedCarries c then t else (t.setPort p (t.port p).retire).applyOutcome p (.claim c)
        | o => (t.setPort p (t.port p).retire).applyOutcome p o
    | .empty => s
    | .settling => s
    | .asking => s
    | .faulted => s

/-- The selection step of a capture (R60 step 7, R61). -/
def State.captureSelection (s : State) (p : LinePort) : State :=
  let r := s.port p
  match r.state with
  | .faulted => s
  | .shifting => s.setPort p { r with deferred := true }
  | _ =>
    let t := if r.state = .claimed then s.setPort p r.retire else s
    if r.held then (t.toRest p).completePort p [.refresh] .ok
    else if r.released then t.toRest p
    else (t.select p).1.applyOutcome p (t.select p).2

/-! ### Attach and detach (R57, R58) -/

def State.portAttach (s : State) (p : LinePort) : State :=
  (s.setPort p ((s.port p).startAsk.setLive (some .base))).journal 0x01 (lineByte p) []

/-- A detach clears the record, drops the line and the lease, and ends a request with LOST. -/
def State.portDetach (s : State) (p : LinePort) : State :=
  let r := s.port p
  let t := s.setPort p PortRecord.cleared
  let t := t.journal 0x02 (lineByte p) (le2 r.badFrame ++ le2 r.staleFrame ++ le2 r.missedHail)
  let t := match r.inFlight with
    | some q => t.complete q.slot .lost (PortRecord.cleared.requestData q.kind)
    | none => t
  t.dropLine p

/-! ### Transmission reports (R59) -/

def State.txReport (s : State) (p : LinePort) (f : OutFrame) (tag : Nat) : State :=
  let r := s.port p
  match f with
  | .ask => if r.state = .asking then s.setPort p { r with askTag := some tag, timer := .tenderWait } else s
  | .claim _ _ _ _ =>
    if r.state = .claimed ∧ r.withdrawClaim = r then
      s.setPort p { r with claimTag := some tag, timer := .claimWait }
    else s
  | .giveback => s.completePort p [.release] .ok

/-! ### Coverage, narrowing and lapse (R71, R72) -/

/-- The amps of the usable levels that contain a voltage (R71). -/
def containingAmps (i : Image) (volts : Nat) : List Nat :=
  i.levels.filterMap fun l => if l.usable && decide (l.lo ≤ volts) && decide (volts ≤ l.hi) then some l.amps else none

/-- The largest of some amps. -/
def largest (l : List Nat) : Nat := l.foldl max 0

/-- A lapse whose target is the checked contract is cancelled (R71). -/
def PortRecord.cancelLapse (r : PortRecord) (t : LapseTarget) : PortRecord :=
  if r.lapsing = some t then r.stopLapse else r

/-- Write a checked contract back: a narrowed live contract is a change of it (R82). -/
def PortRecord.setContract (r : PortRecord) (t : LapseTarget) (c : Contract) : PortRecord :=
  match t with
  | .live => r.setLive (some c)
  | .staged => { r with staged := some c }

/-- The coverage check of one contract against the new image (R71, R72). -/
def State.coverContract (s : State) (p : LinePort) (i : Image) (t : LapseTarget) (c : Contract) : State :=
  let r := s.port p
  let amps := containingAmps i c.volts
  if amps = [] then
    (s.setPort p { r with lapsing := some t, lapseTimer := true }).journal 0x07 (lineByte p) ([t.code, 1] ++ le2 c.limit)
  else if c.limit ≤ largest amps then s.setPort p (r.cancelLapse t)
  else
    let n := { c with limit := largest amps, operating := min c.operating (largest amps), narrowed := true }
    (s.setPort p ((r.setContract t n).cancelLapse t)).journal 0x07 (lineByte p) ([t.code, 0] ++ le2 n.limit)

/-- The coverage check at a capture: the live contract in ASKING, CLAIMED and BOUND, the staged one in SHIFTING, and only
when NEGOTIATED (R71). -/
def State.coverage (s : State) (p : LinePort) (i : Image) : State :=
  let checked (t : LapseTarget) (k : Option Contract) : State :=
    match k with
    | some c => if c.negotiated then s.coverContract p i t c else s
    | none => s
  match (s.port p).state with
  | .asking => checked .live (s.port p).live
  | .claimed => checked .live (s.port p).live
  | .bound => checked .live (s.port p).live
  | .shifting => checked .staged (s.port p).staged
  | _ => s

/-! ### Pins made void (R100, R101) -/

/-- A void pin is removed, journalled, and a PIN in flight completes with LOST (R100). -/
def State.voidPin (s : State) (p : LinePort) (n : Pin) (why : VoidReason) : State :=
  let t := s.setPort p { s.port p with pin := none }
  let t := t.journal 0x10 (lineByte p) ([byte n.level, why.code] ++ le2 n.volts ++ le2 n.limit)
  t.completePort p [.pin] .lost

/-- The re-check of a pin at a capture (R100). -/
def State.recheckPin (s : State) (p : LinePort) (i : Image) : State :=
  match (s.port p).pin with
  | none => s
  | some n =>
    match pinVoid i n with
    | some why => s.voidPin p n why
    | none => s.setPort p { s.port p with pin := some (lowerPin s.policy p i n) }

/-- The re-check of a pin at an adoption (R101). -/
def State.adoptPin (s : State) (p : LinePort) : State :=
  match (s.port p).pin, (s.port p).image with
  | some n, some i =>
    if n.volts < s.policy.windowLo ∨ s.policy.windowHi < n.volts then s.voidPin p n .volts
    else s.setPort p { s.port p with pin := some (lowerPin s.policy p i n) }
  | _, _ => s

/-! ### Tender capture (R60) -/

/-- Steps 1 to 3: the image, the flags, the TENDER record. -/
def State.storeImage (s : State) (p : LinePort) (i : Image) (answer : Bool) : State :=
  let t := s.setPort p { s.port p with image := some i, silent := false, barred := false }
  t.journal 0x03 (lineByte p)
    [i.cls.code, byte i.levels.length, byte (i.levels.countP fun l => l.usable), byte i.tag, if answer then 1 else 0]

/-- Capture of a tender, the steps in order (R60). -/
def State.capture (s : State) (p : LinePort) (i : Image) (answer : Bool) : State :=
  let s := s.storeImage p i answer
  let s := if (s.port p).state = .asking then s.setPort p (s.port p).endAsk else s
  let s := s.coverage p i
  let s := s.recheckPin p i
  s.captureSelection p

/-! ### Answers to a claim (R65-R69) -/

/-- GRANT: SHIFTING, with SETTLE_WAIT (R65). -/
def State.granted (s : State) (p : LinePort) : State :=
  s.setPort p { s.port p with state := .shifting, timer := .settleWait }

/-- DECLINE (R66). -/
def State.declined (s : State) (p : LinePort) (reason : Byte) : State :=
  let r := s.port p
  let t := (s.setPort p { r with
    staged := none, timer := .stopped, claimTag := none, claimAttempts := 0, decline := some reason, barred := true
    state := r.resting })
  let t := t.journal 0x05 (lineByte p)
    ([reason, byte ((r.staged.bind Contract.level).getD 0)] ++ le2 ((r.staged.map Contract.volts).getD 0) ++
      le2 ((r.staged.map Contract.limit).getD 0))
  t.completePort p [.refresh, .pin] .declined

/-- The lapse at SETTLED, by its target (R69 step 4). -/
def PortRecord.settleLapse (r : PortRecord) : PortRecord :=
  match r.lapsing with
  | some .live => r.stopLapse
  | some .staged => { r with lapsing := some .live }
  | none => r

/-- SETTLED: the claimed terms become live (R69). -/
def State.settled (s : State) (p : LinePort) : State :=
  let r := (s.port p).settleLapse
  let t := s.setPort p { r with
    live := r.staged, staged := none, timer := .stopped, claimTag := none, claimAttempts := 0, pathFault := false
    state := .bound }
  let t := t.journal 0x04 (lineByte p)
    ([byte ((r.staged.bind Contract.level).getD 0), 0] ++ le2 ((r.staged.map Contract.volts).getD 0) ++
      le2 ((r.staged.map Contract.limit).getD 0) ++ le2 ((r.staged.map Contract.operating).getD 0))
  let t := if r.refreshPending then t else t.completePort p [.refresh] .ok
  let t := if t.matchesPin p then t.completePort p [.pin] .ok else t
  let u := t.port p
  if u.refreshPending then
    t.setPort p { u.clearBars.startAsk with refreshPending := false, deferred := false }
  else if u.deferred then (t.setPort p { u with deferred := false }).callSelection p
  else t

/-! ### Cuts (R74) -/

/-- A contract after a CUT. -/
def Contract.cut (c : Contract) (amps : Nat) : Contract :=
  { c with limit := min c.limit amps, operating := min c.operating amps, narrowed := true }

/-- The contract a CUT applies to (R74). -/
def PortRecord.cutTarget (r : PortRecord) (volts : Nat) : Option (LapseTarget × Contract) :=
  let live := match r.live with
    | some c => if c.volts = volts then some (LapseTarget.live, c) else none
    | none => none
  match r.state, r.staged with
  | .shifting, some c => if c.volts = volts then some (.staged, c) else live
  | _, _ => live

/-- An unsolicited CUT (R74); one that matches neither contract is stale (R51). -/
def State.takeCut (s : State) (p : LinePort) (volts amps : Nat) : State :=
  let r := s.port p
  match r.cutTarget volts with
  | none => s.countStaleFrame p
  | some (t, c) =>
    let n := c.cut amps
    let r := r.setContract t n
    let r := if t = .live then { r with pathFault := false } else r
    (s.setPort p r).journal 0x06 (lineByte p) ([t.code, 0] ++ le2 volts ++ le2 amps ++ le2 n.limit)

/-! ### Faults (R75, R76) -/

/-- The port enters FAULTED with a cause (R75). -/
def State.enterFaulted (s : State) (p : LinePort) (cause : FaultCause) : State :=
  let r := s.port p
  let t := s.setPort p { (r.stopLapse.put .giveback).setLive (some .base) with
    cause := some cause, staged := none, timer := .stopped, askTag := none, claimTag := none
    claimAttempts := 0, refreshPending := false, deferred := false, state := .faulted }
  let t := t.journal 0x09 (lineByte p) [cause.code]
  t.completePort p [.refresh, .pin] (if cause = .droop then .lost else .timedOut)

/-- A droop report for a line port (R76). -/
def State.portDroop (s : State) (p : LinePort) : State :=
  let r := s.port p
  if r.lapsing.isSome then s
  else
    match r.state with
    | .asking => s.enterFaulted p .droop
    | .base => s.enterFaulted p .droop
    | .claimed => s.enterFaulted p .droop
    | .bound => s.enterFaulted p .droop
    | _ => s

/-! ### Protocol timers (R62, R67, R70, R73) -/

/-- TENDER_WAIT expires (R62). -/
def State.tenderTimeout (s : State) (p : LinePort) : State :=
  let r := { s.port p with askTag := none, timer := .stopped }
  if r.askAttempts < 3 then s.setPort p { r.put .ask with askAttempts := r.askAttempts + 1 }
  else
    let t := s.setPort p { r with silent := true, state := r.resting }
    let t := t.journal 0x0A (lineByte p) []
    let t := t.completePort p [.refresh, .pin] .timedOut
    t.callSelection p

/-- The CLAIM of the staged contract. -/
def Contract.claimFrame (c : Contract) : OutFrame := .claim (c.level.getD 0) c.volts c.limit c.operating

/-- CLAIM_WAIT expires (R67). -/
def State.claimTimeout (s : State) (p : LinePort) : State :=
  let r := { s.port p with claimTag := none, timer := .stopped }
  if 2 ≤ r.claimAttempts then (s.setPort p r).enterFaulted p .noAnswer
  else if r.held then
    let t := s.setPort p { r with staged := none, claimAttempts := 0, state := r.resting }
    t.completePort p [.refresh, .pin] .timedOut
  else s.setPort p { r with slot := r.staged.map Contract.claimFrame, claimAttempts := 2 }

/-- LAPSE expires (R73). -/
def State.lapse (s : State) (p : LinePort) : State :=
  let r := s.port p
  let t := s.setPort p { r.stopLapse with
    live := some .base, pathFault := false, state := if r.state = .bound then .base else r.state }
  t.journal 0x08 (lineByte p) (le2 ((r.live.map Contract.volts).getD 0))

/-! ### Host requests on a line port (R77-R80, R102) -/

/-- RELEASE on an attached port that is not FAULTED (R78); `k` is the request's slot. R78 completes the request at once in
step 3 and sets the record in step 4; which record the result data show is not said. MODEL'S CHOICE (log entry 34): the one
after step 4. -/
def State.portRelease (s : State) (p : LinePort) (k : Fin 8) : State :=
  let r := s.port p
  let back := ((r.live.map Contract.negotiated).getD false) || r.staged.isSome
  let r1 := if back then { r.put .giveback with inFlight := some ⟨.release, k⟩ } else r.withdrawAsk
  let r2 := { r1.stopLapse.setLive (some .base) with
    released := true, staged := none, timer := .stopped, refreshPending := false, deferred := false
    askTag := none, claimTag := none, claimAttempts := 0, state := .base }
  let t := s.setPort p r2
  if back then t else t.complete k .ok r2.data

/-- REFRESH on an attached port (R79). -/
def State.portRefresh (s : State) (p : LinePort) (k : Fin 8) : State :=
  let r := { (s.port p).clearBars with inFlight := some ⟨.refresh, k⟩ }
  if r.state = .shifting then s.setPort p { r with refreshPending := true }
  else
    let r := if r.state = .claimed then r.retire else r
    s.setPort p { r.startAsk with cause := none }

/-- An accepted PIN: stored, in flight, with its call for selection (R80, R98). -/
def State.portPin (s : State) (p : LinePort) (k : Fin 8) (n : Pin) : State :=
  (s.setPort p { s.port p with pin := some n, inFlight := some ⟨.pin, k⟩ }).callSelection p

/-- UNPIN on a port that holds a pin (R102). -/
def State.portUnpin (s : State) (p : LinePort) (k : Fin 8) : State :=
  let t := s.setPort p { s.port p with pin := none }
  ((t.completePort p [.pin] .lost).complete k .ok []).callSelection p

/-! ### Delivery of a frame (R24, R30, R68) -/

/-- The port is in a state from ASKING to FAULTED. -/
def PortRecord.negotiating (r : PortRecord) : Bool := decide (r.state ≠ .empty) && decide (r.state ≠ .settling)

/-- A delivered frame, classified by its tag (R24) and by the port's state (R60, R65-R69, R74). -/
def State.deliver (s : State) (p : LinePort) (tag : Nat) (f : FeederFrame) : State :=
  let r := s.port p
  let answersClaim := decide (r.claimTag = some tag)
  match f with
  | .tender cls levels =>
    if r.negotiating && (decide (tag = 7) || decide (r.askTag = some tag)) then
      s.capture p ⟨cls, tag, s.time, levels⟩ (decide (tag ≠ 7))
    else s.countStaleFrame p
  | .grant => if answersClaim && decide (r.state = .claimed) then s.granted p else s.countStaleFrame p
  | .decline reason =>
    if answersClaim && decide (r.state = .claimed) then s.declined p reason else s.countStaleFrame p
  | .settled => if answersClaim && decide (r.state = .shifting) then s.settled p else s.countStaleFrame p
  | .cut volts amps => if r.negotiating && decide (tag = 7) then s.takeCut p volts amps else s.countStaleFrame p

end Sys2Proof.Machine
end

