-- ==== Sys2Proof/Machine/BarrelUnit.lean ====
section
/-! DEFINITION. The barrel machine (section 1.5): identification, outcome, reclassification, droop, requests on D. -/

namespace Sys2Proof.Machine

/-- The port byte of D's records. -/
def barrelByte : Byte := connectorByteOf .barrel

/-- The result data of a request on D (R11). -/
def Barrel.data (b : Barrel) : List Byte := figuresData b.state.code b.live

/-- Complete the REFRESH in flight on D (R11). -/
def State.completeBarrel (s : State) (code : ResultCode) : State :=
  match s.barrel.inFlight with
  | some k => (s.withBarrel { s.barrel with inFlight := none }).complete k code s.barrel.data
  | none => s

/-- D's droop counter is cleared (R6, R130). -/
def State.clearDroop (s : State) (x : Connector) : State :=
  s.withMeas { s.meas with droop := s.meas.droop.set x 0 }

/-- The first ID entry that contains an average, with its number from `n` on (R8). -/
def matchId (average : Nat) : Nat → List IdEntry → Option (Nat × Nat)
  | _, [] => none
  | n, e :: es => if e.lo ≤ average ∧ average ≤ e.hi then some (n, e.amps) else matchId average (n + 1) es

/-- The entry number and the amps for an average; no match gives 0xFF and the fallback (R8). -/
def Policy.classify (q : Policy) (average : Nat) : Nat × Nat :=
  match matchId average 1 q.ids with
  | some m => m
  | none => (255, q.fallback)

/-- The outcome of an identification: a cause of UNUSABLE, or none for BOUND (R9). -/
def Policy.barrelCause (q : Policy) (volts amps : Nat) : Option UnusableCause :=
  if volts < q.vinMin ∨ q.vinMax < volts then some .volts
  else if amps = 0 then some .noCurrent
  else none

/-- The BARREL contract (R6, R9). -/
def Contract.ofBarrel (volts amps : Nat) : Contract := ⟨.barrel, none, volts, amps, amps, false, false⟩

/-- The outcome byte of a BARREL_ID record (10.3.5). -/
def outcomeByte : Option UnusableCause → Byte
  | none => 0
  | some .volts => 1
  | some .noCurrent => 2
  | some .droop => 0

/-- The outcome takes effect (R9): a contract is installed, with D's droop counter cleared (R6), or removed; BARREL_ID is
submitted (R10). A reclassification that finds D BOUND on the same volts and limit under another entry number takes effect
too (R14), and R9 with R6 installs a contract then, where the Note after R14 has unchanged terms leave path_fault as it is.
MODEL'S CHOICE (log entry 33): it installs, so path_fault clears. -/
def State.barrelOutcome (s : State) (i : StoredId) (amps : Nat) : State :=
  let cause := s.policy.barrelCause i.volts amps
  let b := { s.barrel with stored := some i, refreshPending := false, cause := cause }
  let b := match cause with
    | none => { b with state := .bound, live := some (.ofBarrel i.volts amps), pathFault := false }
    | some _ => { b with state := .unusable, live := none }
  let t := s.withBarrel b
  (if cause.isNone then t.clearDroop .barrel else t).journal 0x12 barrelByte
    ([byte i.entry, outcomeByte cause] ++ le2 i.average ++ le2 i.volts ++ le2 (if cause.isNone then amps else 0))

/-- Identification completes (R8, R9, R11). -/
def State.identify (s : State) : State :=
  let average := s.barrel.sum / Config.iddSamples
  let found := s.policy.classify average
  let t := s.barrelOutcome ⟨average, found.1, s.latestVD / 100 * 100⟩ found.2
  t.completeBarrel (if t.barrel.state = .bound then .ok else .noUsableLevel)

/-- An IDD result reaches the barrel machine (R7). -/
def State.barrelSample (s : State) (sample : Nat) : State :=
  if s.barrel.state = .identifying then
    let t := s.withBarrel { s.barrel with count := s.barrel.count + 1, sum := s.barrel.sum + sample }
    if Config.iddSamples ≤ t.barrel.count then t.identify else t
  else s

/-- Reclassification at an adoption: nothing when state, entry, volts and limit stay (R14). -/
def State.reclassify (s : State) (i : StoredId) : State :=
  let found := s.policy.classify i.average
  let bound := (s.policy.barrelCause i.volts found.2).isNone
  let same :=
    if bound then
      decide (s.barrel.state = .bound) && decide (i.entry = found.1) &&
        decide (s.barrel.live.map Contract.volts = some i.volts) &&
        decide (s.barrel.live.map Contract.limit = some found.2)
    else decide (s.barrel.state = .unusable) && decide (i.entry = found.1) && s.barrel.live.isNone
  if same then s else s.barrelOutcome ⟨i.average, found.1, i.volts⟩ found.2

/-- What an adoption does to the barrel record (R14). -/
def State.barrelAdopt (s : State) : State :=
  match s.barrel.stored with
  | none => s
  | some i =>
    match s.barrel.state, s.barrel.cause with
    | .bound, _ => s.reclassify i
    | .unusable, some .volts => s.reclassify i
    | .unusable, some .noCurrent => s.reclassify i
    | _, _ => s

/-- The barrel is attached (R13). -/
def Barrel.present (b : Barrel) : Bool := decide (b.state ≠ .empty) && decide (b.state ≠ .settling)

/-- D enters IDENTIFYING with an empty accumulator (R7). -/
def Barrel.startId (b : Barrel) : Barrel := { b with state := .identifying, count := 0, sum := 0 }

def State.barrelAttach (s : State) : State :=
  (s.withBarrel s.barrel.startId).journal 0x01 barrelByte []

/-- A detach of D clears the barrel record, keeps the latest VD, and ends a REFRESH with LOST (R13, R5). -/
def State.barrelDetach (s : State) : State :=
  let t := (s.withBarrel { Barrel.cleared with inFlight := s.barrel.inFlight }).clearDroop .barrel
  (t.journal 0x02 barrelByte []).completeBarrel .lost

/-- A droop report for D (R12). -/
def State.barrelDroop (s : State) : State :=
  let b := s.barrel
  match b.state with
  | .bound => s.withBarrel { b with live := none, state := .unusable, cause := some .droop }
  | .identifying =>
    (s.withBarrel { b with
      live := none, state := .unusable, cause := some .droop, count := 0, sum := 0, refreshPending := false }).completeBarrel
      .lost
  | _ => s

/-- REFRESH on D while attached (R11). -/
def State.barrelRefresh (s : State) (k : Fin 8) : State :=
  s.withBarrel { s.barrel.startId with released := false, refreshPending := true, cause := none, inFlight := some k }

/-- RELEASE on D while attached (R13). -/
def State.barrelRelease (s : State) (k : Fin 8) : State :=
  let t := s.withBarrel { s.barrel with released := true }
  t.complete k .ok t.barrel.data

end Sys2Proof.Machine
end

