-- ==== Sys2Proof/Machine/PathControl.lean ====
section
/-! DEFINITION. The Path Controller (Chapter 6): switches, choice of primary, evaluation, close check, loss and break. -/

namespace Sys2Proof.Machine

/-- The eligible connectors with their live scores, in number order (R108, R109). -/
def State.contenders (s : State) : List (Connector × Nat) :=
  (connectors.filter s.eligible).map fun x => (x, s.liveScore x)

/-- The primary pin names an eligible connector. -/
def State.eligiblePin (s : State) : Option Connector :=
  match s.path.pin with
  | some x => if s.eligible x then some x else none
  | none => none

/-- A fresh choice (R108). -/
def State.freshChoice (s : State) : Option Connector :=
  match s.eligiblePin with
  | some x => some x
  | none => (leader s.contenders).map Prod.fst

/-- The connector of CLOSED(x) that wins by score: the leader, beyond the margin (R109 step 3). -/
def State.challengerByScore (s : State) (x : Connector) : Option Connector :=
  match leader s.contenders with
  | some y => if y.1 ≠ x ∧ s.liveScore x + s.policy.switchMargin < y.2 then some y.1 else none
  | none => none

/-- The challenger of CLOSED(x), if any (R109 steps 1 to 3). -/
def State.challenger (s : State) (x : Connector) : Option Connector :=
  match s.eligiblePin with
  | some y => if y ≠ x then some y else if s.meas.dead then none else s.challengerByScore x
  | none => if s.meas.dead then none else s.challengerByScore x

/-- The path enters CLOSING(y): its switch closes, the soft start runs (R111). -/
def State.enterClosing (s : State) (y : Connector) : State :=
  s.withPath { s.path with
    state := .closing y, switches := s.path.switches.set y true, softStart := some s.policy.softStart
    checkDeferred := false, breakTimer := none }

/-- The path leaves CLOSING or CLOSED for OPENING(y): its switch opens, the break runs (R113, R115, R116). -/
def State.openPath (s : State) (y : Connector) : State :=
  s.withPath { s.path with
    state := .opening y, switches := s.path.switches.set y false, softStart := none, checkDeferred := false
    breakTimer := some s.policy.breakMs }

/-- The causes of a loss (R116). -/
inductive LossCause where
  | detached | faulted | unusable | released
  deriving DecidableEq, Repr

def LossCause.code : LossCause → Byte
  | .detached => 1
  | .faulted => 2
  | .unusable => 3
  | .released => 4

/-- Which cause of R116's table a connector's record shows, if any. -/
def State.lossCause (s : State) : Connector → Option LossCause
  | .line p =>
    match (s.port p).state with
    | .empty => some .detached
    | .settling => some .detached
    | .faulted => some .faulted
    | _ => if (s.port p).released then some .released else none
  | .barrel =>
    match s.barrel.state with
    | .empty => some .detached
    | .settling => some .detached
    | .unusable => some .unusable
    | _ => if s.barrel.released then some .released else none

/-- The result data of PRIMARY (10.3.2). -/
def Path.data (p : Path) : List Byte := [p.state.code, connectorCode p.state.connector, connectorCode p.pin]

/-- A PRIMARY in flight whose target is `y` completes (R118). -/
def State.completePrimary (s : State) (y : Connector) (code : ResultCode) : State :=
  match s.path.inFlight with
  | some q =>
    if q.target = y then (s.withPath { s.path with inFlight := none }).complete q.slot code s.path.data else s
  | none => s

/-- Loss of the path connector (R116): FAILOVER only from CLOSED. -/
def State.losePath (s : State) (y : Connector) : State :=
  let t := s.openPath y
  let t :=
    if s.path.state = .closed y then
      t.journal 0x0C (connectorByteOf y) [((s.lossCause y).getD .released).code]
    else t
  t.completePrimary y .lost

/-- A PRIMARY in flight whose target has stopped being eligible by a cause of R116's table, while it is not the path
connector, completes with LOST (R118). A target lost while the path is OPENING on it is the path connector, yet no path is
CLOSING or CLOSED on it: R116 and R118 do not say when its request ends. MODEL'S CHOICE (log entry 15): it stays in flight
until the first evaluation after the path has left OPENING, and the result data show the path as `s` has it. -/
def State.dropLostPrimary (s : State) : State :=
  match s.path.inFlight with
  | some q =>
    if s.path.state.connector ≠ some q.target ∧ (s.lossCause q.target).isSome then s.completePrimary q.target .lost
    else s
  | none => s

/-- The decision of R109 in CLOSED(x), made as R115 lays down: the challenger must be at rest. -/
def State.improve (s : State) (x : Connector) : State :=
  match s.challenger x with
  | some y => if s.atRest y then s.openPath x else s
  | none => s

/-- What an evaluation does to the path, by the path state (R110). -/
def State.evaluatePath (s : State) : State :=
  match s.path.state with
  | .idle =>
    match s.freshChoice with
    | some y => s.enterClosing y
    | none => s
  | .closing y => if s.eligible y then s else s.losePath y
  | .closed x => if s.eligible x then s.improve x else s.losePath x
  | .opening _ => s

/-- An evaluation (R110). The same evaluation may change the path (an improvement by step 3 of R109) and end a PRIMARY whose
target is not the path connector; R118 does not say which path its result data show. MODEL'S CHOICE (log entry 15): the path
after the evaluation's own change. -/
def State.evaluate (s : State) : State := s.evaluatePath.dropLostPrimary

/-- The latest sample of a connector's voltage (R125). -/
def State.latestVolts (s : State) (y : Connector) : Nat := (s.meas.table.volts.get y).last

/-- The volts of a connector's live contract. -/
def State.liveVolts (s : State) (y : Connector) : Nat := ((s.live y).map Contract.volts).getD 0

/-- The close check passes: the sample differs from the live volts by no more than the window (R112). -/
def State.closePasses (s : State) (y : Connector) (sample : Nat) : Bool :=
  let v := s.liveVolts y
  let window := v * s.policy.closeWindow / 100
  decide (sample ≤ v + window) && decide (v ≤ sample + window)

/-- The path enters CLOSED(y): PRIMARY is journalled, the request completes, an evaluation follows (R112, R118). -/
def State.enterClosed (s : State) (y : Connector) : State :=
  let t := s.withPath { s.path with state := .closed y, checkDeferred := false, softStart := none, lastPrimary := some y }
  let t := t.journal 0x0B (connectorByteOf y) [connectorCode s.path.lastPrimary, connectorByteOf y]
  (t.completePrimary y .ok).evaluate

/-- The owner sets the path_fault flag (R113). -/
def State.setPathFault (s : State) : Connector → State
  | .line p => s.setPort p { s.port p with pathFault := true }
  | .barrel => s.withBarrel { s.barrel with pathFault := true }

/-- A failed close check (R113). -/
def State.failClose (s : State) (y : Connector) (sample : Nat) : State :=
  let t := (s.openPath y).setPathFault y
  let t := t.journal 0x0D (connectorByteOf y) (le2 sample ++ le2 (s.liveVolts y))
  t.completePrimary y .pathFault

/-- The close check of CLOSING(y) with a sample (R112, R113). -/
def State.closeCheck (s : State) (y : Connector) (sample : Nat) : State :=
  if s.closePasses y sample then s.enterClosed y else s.failClose y sample

/-- The connector's rail is allowed to be moving: a line port SHIFTING or lapsing (R112). -/
def State.railMoving (s : State) : Connector → Bool
  | .line p => decide ((s.port p).state = .shifting) || (s.port p).lapsing.isSome
  | .barrel => false

/-- The soft-start timer expires in CLOSING(y) (R112). -/
def State.softStartEnds (s : State) (y : Connector) : State :=
  let t := s.withPath { s.path with softStart := none }
  if t.railMoving y then t.withPath { t.path with checkDeferred := true } else t.closeCheck y (t.latestVolts y)

/-- The break timer expires in OPENING (R117). -/
def State.breakEnds (s : State) : State :=
  let t := s.withPath { s.path with breakTimer := none }
  match t.freshChoice with
  | some y => t.enterClosing y
  | none =>
    let u := t.withPath { t.path with state := .idle }
    (u.journal 0x0E 0xFF [connectorCode u.path.lastPrimary]).raise causeNoSource

end Sys2Proof.Machine
end

