-- ==== Sys2Proof/Machine/RegulatorUnit.lean ====
section
/-! DEFINITION. Budget and Regulator (Chapter 8): the draw budget, the setpoint filter, the regulator step, modes, the
overdraw guard and the saturation count. -/

namespace Sys2Proof.Machine

/-! ### The budget (R141-R144) -/

/-- The least of the live limit, PATHMAX and the ceiling current (R141 step 2). -/
def budgetRaw (q : Policy) (x : Connector) (c : Contract) : Nat :=
  min c.limit (min (q.pathMax.get x) (q.ceilingCurrent c.volts))

/-- A line port in SHIFTING (R141 step 4). -/
def State.shifting (s : State) : Connector → Bool
  | .line p => decide ((s.port p).state = .shifting)
  | .barrel => false

/-- The draw budget of a contract on the path connector (R141 steps 1 to 4). -/
def budgetOf (q : Policy) (x : Connector) (c : Contract) (shifting : Bool) : Nat :=
  let derated := budgetRaw q x c * q.derate / 256
  if shifting then min derated q.shift else derated

/-- SP_target as R141 gives it: 0 unless the path is CLOSED. -/
def State.budget (s : State) : Nat :=
  match s.path.state with
  | .closed x =>
    match s.live x with
    | some c => budgetOf s.policy x c (s.shifting x)
    | none => 0
  | _ => 0

/-- A recomputed SP_target; a fall passes to SPf at once (R142, R144). -/
def Regulator.setTarget (r : Regulator) (n : Nat) : Regulator := { r with spTarget := n, spf := min r.spf n }

def State.recomputeBudget (s : State) : State := s.withReg (s.reg.setTarget s.budget)

/-! ### The output (R148) -/

/-- Clamp an integer into a range. -/
def clampInt (lo hi v : Int) : Int := max lo (min hi v)

/-- Clamp a computed output into SATLO to SATHI (R147 step 5). -/
def clampOutput (q : Policy) (v : Int) : Nat := (clampInt q.satLo q.satHi v).toNat

/-- Clamp a count into SATLO to SATHI (R150, R160). -/
def clampCount (q : Policy) (n : Nat) : Nat := max q.satLo (min q.satHi n)

/-- Clamp I_acc into SATLO × 256 to SATHI × 256 (R147 step 3). -/
def clampAcc (q : Policy) (v : Int) : Int := clampInt (q.satLo * 256) (q.satHi * 256) v

/-- The output and I_acc at SATLO (R155, R157, R160). -/
def Regulator.atSatLo (r : Regulator) (q : Policy) : Regulator := { r with output := q.satLo, iacc := q.satLo * 256 }

/-! ### The regulator step (R145-R149, R152, R157, R158) -/

/-- The filter advance (R145). -/
def advanceFilter (q : Policy) (spf target : Nat) : Nat :=
  if spf < target then spf + max 1 (q.alpha * (target - spf) / 65536) else spf

/-- The output of the PI formula from an error and I_acc; the division truncates toward zero (R147 steps 4 and 5). -/
def piOutput (q : Policy) (e acc : Int) : Nat := clampOutput q ((q.kp * e + acc).tdiv 256)

/-- The ordinary PI step (R147). -/
def Regulator.piStep (r : Regulator) (q : Policy) (pv : Nat) : Regulator :=
  let e : Int := (r.spf : Int) - pv
  let acc := clampAcc q (r.iacc + q.ki * e)
  { r with iacc := acc, output := piOutput q e acc }

/-- The bumpless first step (R152). -/
def Regulator.transferStep (r : Regulator) (q : Policy) (pv : Nat) : Regulator :=
  let e : Int := (r.spf : Int) - pv
  let acc := clampAcc q (r.output * 256 - q.kp * e)
  { r with iacc := acc, output := piOutput q e acc, transfer := false }

/-- One step of the MANUAL ramp toward the manual target (R149). -/
def rampOutput (rate output target : Nat) : Nat :=
  if output ≤ target then (if target - output ≤ rate then target else output + rate)
  else if output - target ≤ rate then target else output - rate

/-- The MANUAL step (R149). -/
def Regulator.manualStep (r : Regulator) (q : Policy) : Regulator :=
  let out := rampOutput q.manualRate r.output r.manualTarget
  { r with output := out, iacc := out * 256 }

/-- The mode's computation (R146 part 2). -/
def Regulator.compute (r : Regulator) (q : Policy) (pv : Nat) : Regulator :=
  match r.mode with
  | .auto => if r.transfer then r.transferStep q pv else r.piStep q pv
  | .manual => r.manualStep q
  | .off => r

/-- The overdraw threshold (R157). -/
def overdrawThreshold (q : Policy) (limit : Nat) : Nat := limit * q.overdrawPct / 100

/-- The guard trips at this sample (R157). -/
def Regulator.trips (r : Regulator) (q : Policy) (limit pv : Nat) : Bool :=
  decide (overdrawThreshold q limit < pv) && decide (Config.overdrawTrip ≤ r.overdraw + 1)

/-- The overdraw guard (R157). -/
def Regulator.guard (r : Regulator) (q : Policy) (limit pv : Nat) : Regulator :=
  if r.trips q limit pv then
    { r.atSatLo q with manualTarget := if r.mode = .manual then q.satLo else r.manualTarget, overdraw := 0 }
  else if overdrawThreshold q limit < pv then { r with overdraw := r.overdraw + 1 }
  else { r with overdraw := 0 }

/-- The saturation count (R158). -/
def Regulator.countSaturation (r : Regulator) (q : Policy) : Regulator :=
  if r.mode = .auto ∧ r.output = q.satHi then { r with saturation := satInc r.saturation } else r

/-- Parts 1 and 2 of a step: the filter advance and the mode's computation (R146). -/
def Regulator.advance (r : Regulator) (q : Policy) (pv : Nat) : Regulator :=
  Regulator.compute { r with spf := advanceFilter q r.spf r.spTarget } q pv

/-- A whole regulator step (R146). -/
def Regulator.step (r : Regulator) (q : Policy) (limit pv : Nat) : Regulator :=
  (((r.advance q pv).guard q limit pv).countSaturation q)

/-- The live limit of the path connector (R157). -/
def State.pathLimit (s : State) (x : Connector) : Nat := ((s.live x).map Contract.limit).getD 0

/-- An IIN result is delivered in CLOSED(x): the last PV, and a step unless the mode is OFF; a trip is journalled
(R146, R157). -/
def State.deliverIin (s : State) (x : Connector) (pv : Nat) : State :=
  let r := { s.reg with lastPV := pv }
  if r.mode = .off then s.withReg r
  else
    let limit := s.pathLimit x
    let t := s.withReg (r.step s.policy limit pv)
    if (r.advance s.policy pv).trips s.policy limit pv then
      t.journal 0x0F (connectorByteOf x) ([r.mode.code, 0] ++ le2 pv ++ le2 (overdrawThreshold s.policy limit))
    else t

/-! ### Modes (R150-R154, R163) -/

/-- A change to AUTO (R152, R154, R163); `closed` says the path is CLOSED. -/
def Regulator.toAuto (r : Regulator) (q : Policy) (closed : Bool) : Regulator :=
  match r.mode with
  | .auto => r
  | .manual => { r with mode := .auto, transfer := closed }
  | .off => { r.atSatLo q with mode := .auto, transfer := false }

/-- REGULATE with MANUAL: the clamped target, and the change (R150, R151, R154). -/
def Regulator.toManual (r : Regulator) (q : Policy) (target : Nat) : Regulator :=
  let r := { r with manualTarget := clampCount q target }
  match r.mode with
  | .auto => { r with mode := .manual, iacc := r.output * 256, transfer := false }
  | .manual => r
  | .off => { r.atSatLo q with mode := .manual, transfer := false }

/-- A change to OFF (R153). -/
def Regulator.toOff (r : Regulator) : Regulator :=
  match r.mode with
  | .off => r
  | _ => { r with mode := .off, output := 0, iacc := 0, overdraw := 0, transfer := false }

/-- The path leaves CLOSED (R155). -/
def Regulator.pathLeft (r : Regulator) (q : Policy) : Regulator :=
  let r := { r with overdraw := 0, transfer := false }
  match r.mode with
  | .off => { r with output := 0, iacc := 0 }
  | _ => r.atSatLo q

/-- The re-clamp at an adoption (R160 steps 2 to 4). -/
def Regulator.adopt (r : Regulator) (q : Policy) (closed : Bool) : Regulator :=
  let r := { r with manualTarget := clampCount q r.manualTarget }
  match r.mode with
  | .off => { r with output := 0, iacc := 0 }
  | _ => if closed then { r with output := clampCount q r.output, iacc := clampAcc q r.iacc } else r.atSatLo q

/-- The path is CLOSED. -/
def State.pathClosed (s : State) : Bool := s.path.state.primary.isSome

end Sys2Proof.Machine
end

