-- ==== Sys2Proof/Machine/Reports.lean ====
section
/-! DEFINITION. What follows an event once its owner has finished handling it (R5, R6, R82, R95, R119, R142): the Path
Controller evaluates, the droop counters clear, Budget and Regulator recomputes, the Selector recomputes the prospect
and each line port whose claim role changed receives one call for selection. Each event of these ends with its page
rewrites (R190). Log entries 6, 7 and 8. -/

namespace Sys2Proof.Machine

/-- A settle start and a settle abandoned are not passed to the Path Controller (R5). -/
def PortState.reported : PortState → PortState
  | .settling => .empty
  | k => k

def BarrelState.reported : BarrelState → BarrelState
  | .settling => .empty
  | k => k

/-- Whether an event from `s` to `t` changed what a connector's owner reports to the Path Controller (R82, R6, R110). -/
def ownerReports (s t : State) : Connector → Bool
  | .line p =>
    decide ((s.port p).state.reported ≠ (t.port p).state.reported) || decide ((s.port p).live ≠ (t.port p).live) ||
      decide ((s.port p).released ≠ (t.port p).released) || decide ((s.port p).pathFault ≠ (t.port p).pathFault)
  | .barrel =>
    decide (s.barrel.state.reported ≠ t.barrel.state.reported) || decide (s.barrel.live ≠ t.barrel.live) ||
      decide (s.barrel.released ≠ t.barrel.released) || decide (s.barrel.pathFault ≠ t.barrel.pathFault) ||
      (t.barrel.live.isSome && decide (s.barrel.stored ≠ t.barrel.stored))

/-- The evaluation that the owners' reports bring (R110). -/
def State.reportOwners (s t : State) : State := if connectors.any (ownerReports s t) then t.evaluate else t

/-- The droop counter of a connector whose live contract changed clears (R130). -/
def State.reportDroop (s t : State) (x : Connector) : State := if s.live x ≠ t.live x then t.clearDroop x else t

/-- An input of R141 changed: the path, or the live contract or SHIFTING of the path connector (R142). -/
def budgetReports (s t : State) : Bool :=
  decide (s.path.state ≠ t.path.state) ||
    match t.path.state.connector with
    | some x => decide (s.live x ≠ t.live x) || decide (s.shifting x ≠ t.shifting x)
    | none => false

/-- The path left CLOSED (R155). -/
def leftClosed (s t : State) : Bool := s.pathClosed && decide (s.path.state ≠ t.path.state)

/-- Budget and Regulator takes the reports (R142, R155). -/
def State.reportBudget (s t : State) : State :=
  if budgetReports s t then
    let u := t.recomputeBudget
    if leftClosed s t then u.withReg (u.reg.pathLeft u.policy) else u
  else t

/-- One round of reports of an event that led from `s` to `t`. -/
def State.report (s t : State) : State :=
  let t := s.reportOwners t
  let t := connectors.foldl (fun u x => s.reportDroop u x) t
  (s.reportBudget t).recomputeProspect

/-- The line ports whose claim role differs before and after (R95). -/
def roleChanges (s t : State) : List LinePort := linePorts.filter fun p => decide (s.role p ≠ t.role p)

/-- An event with its reports, which ends, where `pages` is set, with the rewrite of the page of each record it changed
(R190; log entry 8). -/
def State.concludes (pages : Bool) (s t : State) : State := if pages then s.finish (s.report t) else s.report t

/-- All that follows an event from `s` to `t`: its reports and page rewrites, then one call for selection for each changed
role, each an event of its own (R95, R96, R119), at the end of which its port applies for an engine if it has come to need
one (R39). -/
def settle (pages : Bool) : Nat → State → State → State
  | 0, s, t => s.concludes pages t
  | n + 1, s, t =>
    (roleChanges s (s.concludes pages t)).foldl (fun u p => settle pages n u ((u.callSelection p).apply p))
      (s.concludes pages t)

/-- An event that leads from `s` to `t`. -/
def State.settles (s t : State) : State := settle true Config.reportDepth s t

/-- An event inside an adoption or a restart, which rewrites the pages once, at its own end (R171 step 8, R193; log entry
8). -/
def State.settlesWithin (s t : State) : State := settle false Config.reportDepth s t

/-- An event of the Negotiation Unit on a line port: at its end the port applies for an engine if it has come to need one
(R39). -/
def State.portEvent (s : State) (p : LinePort) (t : State) : State := s.settles (t.apply p)

/-- An event of the Negotiation Unit inside an adoption or a restart. -/
def State.portEventWithin (s : State) (p : LinePort) (t : State) : State := s.settlesWithin (t.apply p)

end Sys2Proof.Machine
end

