-- ==== Sys2Proof/Machine/MeasurementUnit.lean ====
section
/-! DEFINITION. The Measurement Unit (Chapter 7): the result table, droop, the dead-battery flag, publishing; the commands
of the core sequence. -/

namespace Sys2Proof.Machine

/-- A result enters a channel's row (R125). -/
def ChannelRow.enter (r : ChannelRow) (v : Nat) : ChannelRow :=
  { last := v, min := some (match r.min with
      | none => v
      | some m => if v < m then v else m),
    max := some (match r.max with
      | none => v
      | some m => if m < v then v else m) }

/-- A publish empties the spread of a channel (R136). -/
def ChannelRow.emptied (r : ChannelRow) : ChannelRow := { r with min := none, max := none }

def ResultTable.get (t : ResultTable) : Channel → ChannelRow
  | .iin => t.iin
  | .volts x => t.volts.get x
  | .vbat => t.vbat
  | .vsys => t.vsys
  | .idd => t.idd

def ResultTable.set (t : ResultTable) (c : Channel) (r : ChannelRow) : ResultTable :=
  match c with
  | .iin => { t with iin := r }
  | .volts x => { t with volts := t.volts.set x r }
  | .vbat => { t with vbat := r }
  | .vsys => { t with vsys := r }
  | .idd => { t with idd := r }

/-- The channel after a channel in the core sequence (R124). -/
def Channel.following : Channel → Option Channel
  | .iin => some (.volts (.line .a))
  | .volts (.line .a) => some (.volts (.line .b))
  | .volts (.line .b) => some (.volts (.line .c))
  | .volts (.line .c) => some (.volts .barrel)
  | .volts .barrel => some .vbat
  | .vbat => some .vsys
  | .vsys => some .idd
  | .idd => none

/-- A channel's range ends here (R124). -/
def Channel.top : Channel → Nat
  | .iin => Config.iinMax
  | .idd => Config.iddMax
  | _ => Config.voltsMax

/-- The saturated result of a reading (R124). -/
def Channel.result (c : Channel) (reading : Int) : Nat := saturate c.top reading

/-- A conversion completes: its result is entered before anything else reads it (R125). -/
def State.enterResult (s : State) (c : Channel) (v : Nat) : State :=
  s.withMeas { s.meas with
    converting := c.following, table := s.meas.table.set c ((s.meas.table.get c).enter v) }

/-! ### Droop (R127-R130) -/

/-- The droop check applies to a connector (R127). -/
def State.droopApplies (s : State) (x : Connector) : Bool :=
  (s.live x).isSome && decide (s.path.state ≠ .closing x) &&
    match x with
    | .line p => (s.port p).negotiating && decide ((s.port p).state ≠ .shifting) && (s.port p).lapsing.isNone
    | .barrel => decide (s.barrel.state = .bound) || decide (s.barrel.state = .identifying)

/-- The droop threshold (R128). -/
def State.droopThreshold (s : State) (x : Connector) : Nat := s.liveVolts x * s.policy.droopPct / 100

/-- The droop report reaches the owner (R129, R76, R12). -/
def State.ownerDroop (s : State) : Connector → State
  | .line p => s.portEvent p (s.portDroop p)
  | .barrel => s.settles s.barrelDroop

/-- The droop check of a sample (R128, R129). -/
def State.checkDroop (s : State) (x : Connector) (v : Nat) : State :=
  if s.droopApplies x && decide (v < s.droopThreshold x) then
    if s.policy.droopCount ≤ s.meas.droop.get x + 1 then
      ((s.clearDroop x).journal 0x15 (connectorByteOf x) (le2 v ++ le2 (s.droopThreshold x))).ownerDroop x
    else s.withMeas { s.meas with droop := s.meas.droop.set x (s.meas.droop.get x + 1) }
  else s.clearDroop x

/-- A VD result replaces the latest VD (R7). -/
def State.noteVD (s : State) (x : Connector) (v : Nat) : State :=
  match x with
  | .barrel => s.withLatestVD v
  | .line _ => s

/-- The deferred close check (R112). -/
def State.deferredCheck (s : State) (x : Connector) (v : Nat) : State :=
  if s.path.state = .closing x ∧ s.path.checkDeferred = true ∧ s.railMoving x = false then s.settles (s.closeCheck x v)
  else s

/-! ### The dead-battery flag (R131, R132) -/

/-- The flag after a VBAT result (R131). -/
def deadAfter (deadMv : Nat) (dead : Bool) (v : Nat) : Bool :=
  if deadMv = 0 then false else if dead then decide (v < deadMv + 500) else decide (v < deadMv)

/-- The flag changes to a value, which is journalled (R131, R132). -/
def State.deadChange (s : State) (dead : Bool) (v : Nat) : State :=
  (s.withMeas { s.meas with dead := dead }).journal 0x14 0xFF ([if dead then 1 else 0, 0] ++ le2 v)

/-- The flag takes a value; a change is an event, reported to the Selector (R131, R95). -/
def State.setDead (s : State) (dead : Bool) (v : Nat) : State :=
  if s.meas.dead = dead then s else s.settles (s.deadChange dead v)

/-! ### Publishing (R133-R136) -/

def ResultTable.emptied (t : ResultTable) : ResultTable :=
  { iin := t.iin.emptied, volts := ⟨t.volts.a.emptied, t.volts.b.emptied, t.volts.c.emptied, t.volts.d.emptied⟩,
    vbat := t.vbat.emptied, vsys := t.vsys.emptied, idd := t.idd.emptied }

/-- A publish, its steps in order (R136). -/
def State.publish (s : State) : State :=
  let t := s.writeTelemetry.raise causeTelemetry
  (t.withMeas { t.meas with table := t.meas.table.emptied }).withReg { t.reg with saturation := 0 }

/-- The result data of TELEMETRY (10.3.2, R133). -/
def Measurement.data (m : Measurement) : List Byte := le2 m.reload

/-- The publish single pending causes, and the completion of every waiting SINGLE (R134). -/
def State.publishSingle (s : State) : State :=
  if s.meas.singlePending then
    let t := s.publish
    s.meas.singles.foldl (fun u k => u.complete k .ok u.meas.data)
      (t.withMeas { t.meas with singlePending := false, singles := [] })
  else s

/-! ### The commands -/

/-- CORE_SEQUENCE_START: the next millisecond begins, and with it a sequence (R124; log entry 2). -/
def execCoreSequenceStart (s : State) : Host.Outcome State Fault Refusal :=
  .next ((s.withTime (s.time + 1)).withMeas { s.meas with converting := some .iin })

/-- IIN_COMPLETION (R125, R126, R146). -/
def execIinCompletion (reading : Int) (s : State) : Host.Outcome State Fault Refusal :=
  let v := Channel.iin.result reading
  let t := s.enterResult .iin v
  .next (match t.path.state with
    | .closed x => t.deliverIin x v
    | _ => t)

/-- VOLTAGE_COMPLETION (R125, R126, R128, R112, R7). -/
def execVoltageCompletion (x : Connector) (reading : Int) (s : State) : Host.Outcome State Fault Refusal :=
  let v := (Channel.volts x).result reading
  .next ((((s.enterResult (.volts x) v).noteVD x v).checkDroop x v).deferredCheck x v)

/-- VBAT_COMPLETION (R125, R131). -/
def execVbatCompletion (reading : Int) (s : State) : Host.Outcome State Fault Refusal :=
  let v := Channel.vbat.result reading
  let t := s.enterResult .vbat v
  .next (t.setDead (deadAfter t.policy.deadMv t.meas.dead v) v)

/-- VSYS_COMPLETION (R125, R126). -/
def execVsysCompletion (reading : Int) (s : State) : Host.Outcome State Fault Refusal :=
  .next (s.enterResult .vsys (Channel.vsys.result reading))

/-- IDD_COMPLETION: identification, then a SINGLE publish (R7, R134; log entry 22). -/
def execIddCompletion (reading : Int) (s : State) : Host.Outcome State Fault Refusal :=
  let v := Channel.idd.result reading
  let t := s.enterResult .idd v
  let t := if t.barrel.state = .identifying then t.settles (t.barrelSample v) else t
  .next t.publishSingle

/-- PERIOD_TIMER_EXPIRY (R135). -/
def execPeriodTimerExpiry (s : State) : Host.Outcome State Fault Refusal :=
  .next (match s.meas.periodTimer with
    | some _ =>
      let t := s.publish
      t.withMeas { t.meas with periodTimer := some t.meas.reload }
    | none => s)

end Sys2Proof.Machine
end

