-- ==== Sys2Proof/Machine/Presence.lean ====
section
/-! DEFINITION. The Connector Monitor's presence trackers (sections 1.2 to 1.4) and POWER_ON, the commands of the
presence family. -/

namespace Sys2Proof.Machine

/-- Settle start and settle abandoned reach the owner (R5, R57, R13). -/
def State.ownerSettling (s : State) (x : Connector) (start : Bool) : State :=
  match x with
  | .line p => s.setPort p { s.port p with state := if start then .settling else .empty }
  | .barrel => s.withBarrel { s.barrel with state := if start then .settling else .empty }

/-- An EMPTY tracker takes an asserted presence: SETTLING, with the live ATTACH_MS (R1). -/
def State.startSettling (s : State) (x : Connector) : State :=
  (s.setTracker x ⟨.settling, some s.policy.attachMs, none⟩).ownerSettling x true

/-- A SETTLING tracker goes back to EMPTY (R1, R4). -/
def State.abandonSettling (s : State) (x : Connector) : State :=
  (s.setTracker x Tracker.cleared).ownerSettling x false

/-- The attach event, with the line monitor starting in IDLE (R5, R17, R57, R13). -/
def State.attachEvent (s : State) (x : Connector) : State :=
  let t := s.setTracker x ⟨.attached, none, none⟩
  match x with
  | .line p => s.portEvent p ((t.setLine p Line.cleared).portAttach p)
  | .barrel => s.settles t.barrelAttach

/-- What the detach event does to the tracker, the droop counter and the owner (R2, R4, R5, R58, R13). -/
def State.detached (s : State) (x : Connector) : State :=
  let t := (s.setTracker x Tracker.cleared).clearDroop x
  match x with
  | .line p => t.portDetach p
  | .barrel => t.barrelDetach

/-- The detach event (R2, R5). -/
def State.detachEvent (s : State) (x : Connector) : State := s.settles (s.detached x)

/-- The presence input of a connector takes a level. -/
def State.setPresence (s : State) (x : Connector) (v : Bool) : State := s.withPresence (s.presence.set x v)

/-- Presence asserted (R1, R2, R4). -/
def State.assertPresence (s : State) (x : Connector) : State :=
  let s := s.setPresence x true
  if s.policy.enabled x then
    match (s.tracker x).state with
    | .empty => s.startSettling x
    | .settling => s
    | .attached => s.setTracker x { s.tracker x with detachInterval := none }
  else s

/-- Presence removed (R1, R2, R4). -/
def State.removePresence (s : State) (x : Connector) : State :=
  let s := s.setPresence x false
  if s.policy.enabled x then
    match (s.tracker x).state with
    | .empty => s
    | .settling => s.abandonSettling x
    | .attached =>
      if (s.tracker x).detachInterval.isNone then
        s.setTracker x { s.tracker x with detachInterval := some s.policy.detachMs }
      else s
  else s

/-- The attach interval of a SETTLING tracker expires (R1). -/
def State.attachExpires (s : State) (x : Connector) : State :=
  if (s.tracker x).state = .settling ∧ (s.tracker x).attachInterval.isSome = true then s.attachEvent x else s

/-- The detach interval of an ATTACHED tracker expires (R2). -/
def State.detachExpires (s : State) (x : Connector) : State :=
  if (s.tracker x).state = .attached ∧ (s.tracker x).detachInterval.isSome = true then s.detachEvent x else s

/-- An adoption that changed a connector's PORT_ENABLE bit acts on its tracker (R4); `s.policy` is the new policy. -/
def State.enableChange (s : State) (old : Policy) (x : Connector) : State :=
  match old.enabled x, s.policy.enabled x, (s.tracker x).state with
  | true, false, .settling => s.abandonSettling x
  | true, false, .attached => s.settlesWithin (s.detached x)
  | false, true, .empty => if s.presence.get x then s.startSettling x else s
  | _, _, _ => s

/-! ### The commands -/

/-- The presence inputs asserted as the part leaves power-on reset (R3). -/
def powerOnLevels (a b c d : Bool) : List Connector :=
  (if a then [.line .a] else []) ++ ((if b then [.line .b] else []) ++ ((if c then [.line .c] else []) ++
    if d then [.barrel] else []))

/-- POWER_ON: every block at its power-on values (R194 and the blocks' own rules), then each asserted presence input
counts as an assertion at that moment (R3). The waiting commands stay (log entry 18). -/
def execPowerOn (a b c d : Bool) (s : State) : Host.Outcome State Fault Refusal :=
  let t := State.reset.withPending s.pending
  .next (t.finish ((powerOnLevels a b c d).foldl State.assertPresence t))

/-- PRESENCE_ASSERTED (R1, R2, R4). -/
def execPresenceAsserted (x : Connector) (s : State) : Host.Outcome State Fault Refusal :=
  .next (s.finish (s.assertPresence x))

/-- PRESENCE_REMOVED (R1, R2, R4). -/
def execPresenceRemoved (x : Connector) (s : State) : Host.Outcome State Fault Refusal :=
  .next (s.finish (s.removePresence x))

/-- ATTACH_INTERVAL_EXPIRY (R1). -/
def execAttachIntervalExpiry (x : Connector) (s : State) : Host.Outcome State Fault Refusal :=
  .next (s.attachExpires x)

/-- DETACH_INTERVAL_EXPIRY (R2). -/
def execDetachIntervalExpiry (x : Connector) (s : State) : Host.Outcome State Fault Refusal :=
  .next (s.detachExpires x)

end Sys2Proof.Machine
end

