-- ==== Sys2Proof/Machine/Adoption.lean ====
section
/-! DEFINITION. The Policy Unit (Chapter 9): the proposal read from the draft, clamping, the structural checks, and the
installation of a policy with its effects in the order of R171. -/

namespace Sys2Proof.Machine

/-! ### The proposal (R165) -/

/-- The values read from the draft area: fields 1 to 29 (with no entries), ID_COUNT and all eight entry places. -/
structure Proposal where
  fields : Policy
  count : Nat
  entries : List IdEntry
  deriving DecidableEq, Repr

/-- One byte of the draft area as a number. -/
def read1 (m : List Host.Cell) (a : Nat) : Nat := (readByte m a).toNat

/-- The entry place `k`, from 0 (10.3.1). -/
def readEntry (m : List Host.Cell) (k : Nat) : IdEntry :=
  ⟨read2 m (0x34 + 6 * k), read2 m (0x36 + 6 * k), read2 m (0x38 + 6 * k)⟩

/-- Fields 1 to 29 at the offsets of 10.3.1. -/
def readFields (m : List Host.Cell) : Policy where
  vinMin := read2 m 0x00
  vinMax := read2 m 0x02
  ceiling := read4 m 0x04
  pathMax := ⟨read2 m 0x08, read2 m 0x0A, read2 m 0x0C, read2 m 0x0E⟩
  derate := read2 m 0x10
  sharedWeight := read2 m 0x12
  standby := read2 m 0x14
  shift := read2 m 0x16
  switchMargin := read2 m 0x18
  droopPct := read1 m 0x1A
  droopCount := read1 m 0x1B
  softStart := read1 m 0x1C
  breakMs := read1 m 0x1D
  closeWindow := read1 m 0x1E
  overdrawPct := read1 m 0x1F
  deadMv := read2 m 0x20
  alpha := read2 m 0x22
  kp := read2 m 0x24
  ki := read2 m 0x26
  satLo := read2 m 0x28
  satHi := read2 m 0x2A
  manualRate := read2 m 0x2C
  fallback := read2 m 0x2E
  attachMs := read1 m 0x30
  detachMs := read1 m 0x31
  portEnable := read1 m 0x32
  ids := []

/-- The proposal (R165). -/
def readDraft (m : List Host.Cell) : Proposal :=
  { fields := readFields m, count := read1 m 0x33, entries := (List.range 8).map (readEntry m) }

/-! ### Clamping (R166, R167) -/

/-- A value brought into a range (R166). -/
def clampNat (lo hi n : Nat) : Nat := max lo (min hi n)

/-- DEAD_MV: 0 is kept (R166). -/
def clampDead (n : Nat) : Nat := if n = 0 then 0 else clampNat 2500 20000 n

/-- An entry's three values (R166). -/
def clampEntry (e : IdEntry) : IdEntry := ⟨min 3300 e.lo, min 3300 e.hi, min 8000 e.amps⟩

/-- Fields 1 to 29 brought into the ranges of 9.1 (R166). -/
def clampFields (q : Policy) : Policy where
  vinMin := clampNat 5000 24000 q.vinMin
  vinMax := clampNat 5000 24000 q.vinMax
  ceiling := clampNat 5000 240000 q.ceiling
  pathMax := ⟨clampNat 500 8000 q.pathMax.a, clampNat 500 8000 q.pathMax.b, clampNat 500 8000 q.pathMax.c,
    clampNat 500 8000 q.pathMax.d⟩
  derate := clampNat 128 256 q.derate
  sharedWeight := clampNat 0 256 q.sharedWeight
  standby := clampNat 50 1000 q.standby
  shift := clampNat 0 3000 q.shift
  switchMargin := clampNat 0 65535 q.switchMargin
  droopPct := clampNat 50 95 q.droopPct
  droopCount := clampNat 1 15 q.droopCount
  softStart := clampNat 1 50 q.softStart
  breakMs := clampNat 1 20 q.breakMs
  closeWindow := clampNat 5 25 q.closeWindow
  overdrawPct := clampNat 100 150 q.overdrawPct
  deadMv := clampDead q.deadMv
  alpha := clampNat 1 65535 q.alpha
  kp := clampNat 0 65535 q.kp
  ki := clampNat 0 65535 q.ki
  satLo := clampNat 0 10000 q.satLo
  satHi := clampNat 0 10000 q.satHi
  manualRate := clampNat 1 10000 q.manualRate
  fallback := clampNat 0 8000 q.fallback
  attachMs := clampNat 1 255 q.attachMs
  detachMs := clampNat 1 255 q.detachMs
  portEnable := clampNat 0 15 q.portEnable
  ids := q.ids

/-- The entries considered: 1 to ID_COUNT, and none when ID_COUNT is above 8 (R166). -/
def Proposal.considered (p : Proposal) : List IdEntry := if p.count ≤ 8 then p.entries.take p.count else []

/-- The policy a proposal installs, clamped (R166, R170). -/
def Proposal.clamped (p : Proposal) : Policy := { clampFields p.fields with ids := p.considered.map clampEntry }

/-- Fields 1 to 29 in draft order (9.1). -/
def Policy.numbers (q : Policy) : List Nat :=
  [q.vinMin, q.vinMax, q.ceiling, q.pathMax.a, q.pathMax.b, q.pathMax.c, q.pathMax.d, q.derate, q.sharedWeight, q.standby,
    q.shift, q.switchMargin, q.droopPct, q.droopCount, q.softStart, q.breakMs, q.closeWindow, q.overdrawPct, q.deadMv,
    q.alpha, q.kp, q.ki, q.satLo, q.satHi, q.manualRate, q.fallback, q.attachMs, q.detachMs, q.portEnable]

/-- The numbers, from `n` on, of the places where two lists differ. -/
def differing : Nat → List Nat → List Nat → List Nat
  | n, a :: as, b :: bs => if a = b then differing (n + 1) as bs else n :: differing (n + 1) as bs
  | _, _, _ => []

/-- The field numbers, from `n` on, of the entries that clamping replaced (R167). -/
def clampedEntries : Nat → List IdEntry → List Nat
  | _, [] => []
  | n, e :: es => if clampEntry e = e then clampedEntries (n + 1) es else n :: clampedEntries (n + 1) es

/-- The clamped fields in rising order (R167). -/
def Proposal.clampedFields (p : Proposal) : List Nat :=
  differing 1 p.fields.numbers p.clamped.numbers ++ clampedEntries 31 p.considered

/-! ### The structural checks (R168) -/

inductive Contradiction where
  | order | count
  deriving DecidableEq, Repr

def Contradiction.code : Contradiction → Byte
  | .order => 1
  | .count => 2

/-- The field number, from `n` on, of the first entry whose mv_lo is above its mv_hi. -/
def badEntry : Nat → List IdEntry → Option Nat
  | _, [] => none
  | n, e :: es => if e.hi < e.lo then some n else badEntry (n + 1) es

/-- The first contradiction of the clamped proposal: its field and its reason (R168). -/
def Proposal.contradiction (p : Proposal) : Option (Nat × Contradiction) :=
  if p.clamped.vinMax < p.clamped.vinMin then some (2, .order)
  else if p.clamped.satHi ≤ p.clamped.satLo then some (24, .order)
  else if 8 < p.count then some (30, .count)
  else (badEntry 31 p.clamped.ids).map fun n => (n, .order)

/-- The result data of ADOPT (R169, 10.3.2). -/
def Proposal.data (p : Proposal) (refused : Nat) (reason : Byte) : List Byte :=
  [byte p.clampedFields.length, byte (p.clampedFields.headD 0), byte refused, reason]

/-! ### Installation (R170, R171) -/

/-- The clamped proposal becomes the live policy and is written back; POLICY is journalled (R170). -/
def State.install (s : State) (p : Proposal) : State :=
  let t := ((s.withPolicy p.clamped).withOrigin .adopted).writeDraft
  t.journal 0x13 0xFF [byte p.clampedFields.length, byte (p.clampedFields.headD 0), byte p.clamped.ids.length]

/-- Step 1: the presence trackers take the changed PORT_ENABLE bits (R171, R4). -/
def State.adoptTrackers (s : State) (old : Policy) : State := connectors.foldl (fun u x => u.enableChange old x) s

/-- Step 2: the droop counters are set to 0, and DEAD_MV 0 clears a set flag (R171, R130, R132, R137). -/
def State.adoptMeasurement (s : State) : State :=
  let t := s.withMeas { s.meas with droop := ⟨0, 0, 0, 0⟩ }
  if t.policy.deadMv = 0 ∧ t.meas.dead = true then t.settlesWithin (t.deadChange false t.meas.table.vbat.last) else t

/-- Step 3: the barrel machine reclassifies D; a D left as it is makes no report (R171, R14). -/
def State.adoptBarrel (s : State) : State :=
  if s.barrelAdopt.barrel = s.barrel then s else s.settlesWithin s.barrelAdopt

/-- Every image is rescored and every pin is re-checked (R103, R101). -/
def State.adoptImages (s : State) : State :=
  linePorts.foldl (fun u p => u.adoptPin p) (linePorts.foldl (fun u p => u.setPort p (rescore u.policy p (u.port p))) s)

/-- Step 4: the Selector, with the role changes it reports (R171, R103, R95). -/
def State.adoptSelector (s : State) : State := s.settlesWithin s.adoptImages

/-- The adoption's call for selection on a port clears the barred flag first (R171 step 5, R103). R39 gives a port that comes
to need an engine a FREE one at once; R171's Note has the CLAIM go out in a later lease, after the ADOPT has completed.
MODEL'S CHOICE (log entry 35): the lease begins here, within the adoption, and the frame then belongs to the engine. -/
def State.adoptCall (s : State) (p : LinePort) : State :=
  s.portEventWithin p ((s.setPort p { s.port p with barred := false }).callSelection p)

/-- Step 5: one call for selection on each line port. -/
def State.adoptNegotiation (s : State) : State := linePorts.foldl (fun u p => u.adoptCall p) s

/-- Step 6: one evaluation with the new policy (R121). -/
def State.adoptPath (s : State) : State := s.settlesWithin s.evaluate

/-- Step 7: Budget and Regulator (R160). -/
def State.adoptRegulator (s : State) : State :=
  let t := s.recomputeBudget
  t.withReg (t.reg.adopt t.policy t.pathClosed)

/-- Steps 1 to 7, in order (R171). -/
def State.adoptEffects (s : State) (old : Policy) : State :=
  (s.adoptTrackers old).adoptMeasurement.adoptBarrel.adoptSelector.adoptNegotiation.adoptPath.adoptRegulator

/-- An ADOPT taken from slot `k`: its completion and then its page rewrites are step 8 (R165 to R171). -/
def State.reqAdopt (s : State) (k : Fin 8) : State :=
  let p := readDraft s.exch.mem
  match p.contradiction with
  | some (field, reason) => s.complete k .refusedPolicy (p.data field reason.code)
  | none =>
    s.finish (((s.install p).adoptEffects s.policy).complete k (if p.clampedFields = [] then .ok else .clamped) (p.data 0 0))

end Sys2Proof.Machine
end

