-- ==== Sys2Proof/Machine/Requests.lean ====
section
/-! DEFINITION. The slot reader and the requests (sections 10.4 and 10.5): examination, taking, dispatch, what each kind
does at once, and the commands SLOT_EXAMINATION and the request rows. Log entries 4, 5 and 20. -/

namespace Sys2Proof.Machine

/-! ### Kinds and port bytes (R183) -/

/-- The eleven request kinds (10.3.2). -/
inductive RequestKind where
  | adopt | refresh | pin | unpin | hold | resume | release | primary | regulate | telemetry | abort
  deriving DecidableEq, Repr

/-- The kind a byte names, 0x01 to 0x0B (10.3.2). -/
def requestKind (b : Byte) : Option RequestKind :=
  match b.toNat with
  | 0x01 => some .adopt
  | 0x02 => some .refresh
  | 0x03 => some .pin
  | 0x04 => some .unpin
  | 0x05 => some .hold
  | 0x06 => some .resume
  | 0x07 => some .release
  | 0x08 => some .primary
  | 0x09 => some .regulate
  | 0x0A => some .telemetry
  | 0x0B => some .abort
  | _ => none

/-- The port byte is in the kind's range; it is not checked for ADOPT, REGULATE, TELEMETRY and ABORT (R183). -/
def RequestKind.portFits : RequestKind → Byte → Bool
  | .adopt, _ => true
  | .refresh, b => (connectorOf b.toNat).isSome
  | .pin, b => (linePortOf b).isSome
  | .unpin, b => (linePortOf b).isSome
  | .hold, b => (linePortOf b).isSome
  | .resume, b => (linePortOf b).isSome
  | .release, b => (connectorOf b.toNat).isSome
  | .primary, b => (connectorOf b.toNat).isSome || decide (b = 0xFF)
  | .regulate, _ => true
  | .telemetry, _ => true
  | .abort, _ => true

/-- A port-bound request is in flight on the port a byte names (R183). -/
def State.portBusy (s : State) (b : Byte) : Bool :=
  match linePortOf b with
  | some p => (s.port p).inFlight.isSome
  | none => s.barrel.inFlight.isSome

/-- PORT_BUSY applies (R183 step 3). -/
def State.busy (s : State) (b : Byte) : RequestKind → Bool
  | .refresh => s.portBusy b
  | .pin => s.portBusy b
  | .release => s.portBusy b
  | .primary => s.path.inFlight.isSome
  | _ => false

/-! ### What each kind does (R77-R80, R97-R102, R118, R133, R150, R186, R11, R13) -/

/-- REFRESH on a line port (R79). -/
def State.reqRefreshPort (s : State) (k : Fin 8) (p : LinePort) : State :=
  if (s.port p).negotiating then s.portEvent p (s.portRefresh p k) else s.complete k .notAttached (s.port p).data

/-- REFRESH on D (R11). -/
def State.reqRefreshBarrel (s : State) (k : Fin 8) : State :=
  if s.barrel.present then s.settles (s.barrelRefresh k) else s.complete k .notAttached s.barrel.data

/-- REFRESH. -/
def State.reqRefresh (s : State) (k : Fin 8) (b : Byte) : State :=
  match linePortOf b with
  | some p => s.reqRefreshPort k p
  | none => s.reqRefreshBarrel k

/-- PIN on a line port: the refusals of R77, R80 and R97, or the clamped pin (R80, R97, R98). -/
def State.reqPinPort (s : State) (k : Fin 8) (p : LinePort) (r : Request) : State :=
  if (s.port p).negotiating = false then s.complete k .notAttached (s.port p).pinData
  else if (s.port p).state = .faulted ∨ (s.port p).released = true then s.complete k .notEligible (s.port p).pinData
  else
    match (s.port p).image with
    | none => s.complete k .badArg (s.port p).pinData
    | some i =>
      match clampPin s.policy p i (r.arg 6) (r.arg2 8) (r.arg2 10) with
      | .error code => s.complete k code (s.port p).pinData
      | .ok n => s.portEvent p (s.portPin p k n)

/-- PIN; the port byte is 0 to 2 (R183). -/
def State.reqPin (s : State) (k : Fin 8) (r : Request) : State :=
  match linePortOf r.port with
  | some p => s.reqPinPort k p r
  | none => s

/-- UNPIN on a line port (R102). -/
def State.reqUnpinPort (s : State) (k : Fin 8) (p : LinePort) : State :=
  if (s.port p).negotiating = false then s.complete k .notAttached []
  else if (s.port p).pinned then s.portEvent p (s.portUnpin p k)
  else s.complete k .ok []

/-- UNPIN. -/
def State.reqUnpin (s : State) (k : Fin 8) (b : Byte) : State :=
  match linePortOf b with
  | some p => s.reqUnpinPort k p
  | none => s

/-- HOLD on a line port (R77). -/
def State.reqHoldPort (s : State) (k : Fin 8) (p : LinePort) : State :=
  if (s.port p).negotiating then s.portEvent p ((s.setPort p { s.port p with held := true }).complete k .ok [])
  else s.complete k .notAttached []

/-- HOLD. -/
def State.reqHold (s : State) (k : Fin 8) (b : Byte) : State :=
  match linePortOf b with
  | some p => s.reqHoldPort k p
  | none => s

/-- RESUME on a line port: the call for selection comes only when the flag was set (R77). -/
def State.reqResumePort (s : State) (k : Fin 8) (p : LinePort) : State :=
  if (s.port p).negotiating = false then s.complete k .notAttached []
  else if (s.port p).held then
    s.portEvent p (((s.setPort p { s.port p with held := false }).complete k .ok []).callSelection p)
  else s.complete k .ok []

/-- RESUME. -/
def State.reqResume (s : State) (k : Fin 8) (b : Byte) : State :=
  match linePortOf b with
  | some p => s.reqResumePort k p
  | none => s

/-- RELEASE on a FAULTED port: the released flag alone (R78). -/
def State.releaseFaulted (s : State) (k : Fin 8) (p : LinePort) : State :=
  (s.setPort p { s.port p with released := true }).complete k .ok (s.port p).data

/-- RELEASE on a line port (R78). -/
def State.reqReleasePort (s : State) (k : Fin 8) (p : LinePort) : State :=
  if (s.port p).negotiating = false then s.complete k .notAttached (s.port p).data
  else if (s.port p).state = .faulted then s.portEvent p (s.releaseFaulted k p)
  else s.portEvent p (s.portRelease p k)

/-- RELEASE on D (R13). -/
def State.reqReleaseBarrel (s : State) (k : Fin 8) : State :=
  if s.barrel.present then s.settles (s.barrelRelease k) else s.complete k .notAttached s.barrel.data

/-- RELEASE. -/
def State.reqRelease (s : State) (k : Fin 8) (b : Byte) : State :=
  match linePortOf b with
  | some p => s.reqReleasePort k p
  | none => s.reqReleaseBarrel k

/-- PRIMARY up to its evaluation (R118). -/
def State.takePrimary (s : State) (k : Fin 8) : Option Connector → State
  | none =>
    let t := s.withPath { s.path with pin := none }
    t.complete k .ok t.path.data
  | some x =>
    if s.eligible x = false then s.complete k .notEligible s.path.data
    else if s.path.state = .closed x then
      let t := s.withPath { s.path with pin := some x }
      t.complete k .ok t.path.data
    else s.withPath { s.path with pin := some x, inFlight := some ⟨x, k⟩ }

/-- PRIMARY: every one taken makes an evaluation (R118, R110; log entry 14). -/
def State.reqPrimary (s : State) (k : Fin 8) (b : Byte) : State :=
  s.settles (s.takePrimary k (connectorOf b.toNat)).evaluate

/-- The result data of REGULATE (R150, 10.3.2). -/
def regulateData (before : Nat) (r : Regulator) : List Byte := le2 before ++ [r.mode.code, 0] ++ le2 r.manualTarget

/-- REGULATE (R150). -/
def State.reqRegulate (s : State) (k : Fin 8) (mode target : Nat) : State :=
  match mode with
  | 0 =>
    let t := s.withReg (s.reg.toAuto s.policy s.pathClosed)
    t.complete k .ok (regulateData s.reg.output t.reg)
  | 1 =>
    let t := s.withReg (s.reg.toManual s.policy target)
    t.complete k (if clampCount s.policy target = target then .ok else .clamped) (regulateData s.reg.output t.reg)
  | 2 =>
    let t := s.withReg s.reg.toOff
    t.complete k .ok (regulateData s.reg.output t.reg)
  | _ => s.complete k .badArg (regulateData s.reg.output s.reg)

/-- REPEAT: the clamped period becomes the reload period; a stopped timer starts (R133). -/
def Measurement.repeating (m : Measurement) (period : Nat) : Measurement :=
  let n := clampNat 10 10000 period
  { m with reload := n, periodTimer := some (m.periodTimer.getD n) }

/-- TELEMETRY (R133). -/
def State.reqTelemetry (s : State) (k : Fin 8) (mode period : Nat) : State :=
  match mode with
  | 0 =>
    let t := s.withMeas { s.meas with periodTimer := none }
    t.complete k .ok t.meas.data
  | 1 => s.withMeas { s.meas with singlePending := true, singles := s.meas.singles ++ [k] }
  | 2 =>
    let t := s.withMeas (s.meas.repeating period)
    t.complete k (if clampNat 10 10000 period = period then .ok else .clamped) t.meas.data
  | _ => s.complete k .badArg s.meas.data

/-- A port forgets a request in a slot (R81). -/
def PortRecord.forget (r : PortRecord) (j : Fin 8) : PortRecord :=
  if r.inFlight.map PortRequest.slot = some j then { r with inFlight := none } else r

/-- D forgets a REFRESH in a slot (R11). -/
def Barrel.forget (b : Barrel) (j : Fin 8) : Barrel := if b.inFlight = some j then { b with inFlight := none } else b

/-- The Path Controller forgets a PRIMARY in a slot; the pin stays (R118). -/
def Path.forget (p : Path) (j : Fin 8) : Path :=
  if p.inFlight.map PrimaryRequest.slot = some j then { p with inFlight := none } else p

/-- A SINGLE in a slot leaves the list; the publish still takes place (R134). -/
def Measurement.forget (m : Measurement) (j : Fin 8) : Measurement :=
  { m with singles := m.singles.filter fun i => decide (i ≠ j) }

/-- The owner of the request in a slot forgets it (R186). -/
def State.forget (s : State) (j : Fin 8) : State :=
  let t := s.withPorts ⟨s.ports.a.forget j, s.ports.b.forget j, s.ports.c.forget j⟩
  ((t.withBarrel (t.barrel.forget j)).withPath (t.path.forget j)).withMeas (t.meas.forget j)

/-- The target is ended with ABORTED, and the ABORT completes with its kind (R186). -/
def State.abortTarget (s : State) (k j : Fin 8) : State :=
  s.finish (((s.forget j).complete j .aborted []).complete k .ok [(s.exch.slot j).req.kind])

/-- ABORT (R186). -/
def State.reqAbort (s : State) (k : Fin 8) (target : Nat) : State :=
  if h : target < 8 then
    let j : Fin 8 := ⟨target, h⟩
    if j ≠ k ∧ (s.exch.slot j).copy = .taken then s.abortTarget k j else s.complete k .notFound []
  else s.complete k .badArg []

/-! ### Taking and examination (R181-R183) -/

/-- Dispatch to the owner (R183, R185). -/
def State.dispatch (s : State) (k : Fin 8) (r : Request) : RequestKind → State
  | .adopt => s.reqAdopt k
  | .refresh => s.reqRefresh k r.port
  | .pin => s.reqPin k r
  | .unpin => s.reqUnpin k r.port
  | .hold => s.reqHold k r.port
  | .resume => s.reqResume k r.port
  | .release => s.reqRelease k r.port
  | .primary => s.reqPrimary k r.port
  | .regulate => s.reqRegulate k (r.arg 6) (r.arg2 8)
  | .telemetry => s.reqTelemetry k (r.arg 6) (r.arg2 8)
  | .abort => s.reqAbort k (r.arg 6)

/-- The checks of R183 in order, then the dispatch. -/
def State.checkRequest (s : State) (k : Fin 8) (r : Request) : State :=
  match requestKind r.kind with
  | none => s.complete k .badKind []
  | some kind =>
    if kind.portFits r.port = false then s.complete k .badPort []
    else if s.busy r.port kind then s.complete k .portBusy []
    else s.dispatch k r kind

/-- The copy is made, and copy and state byte become TAKEN (R183). -/
def Exchange.take (x : Exchange) (k : Fin 8) : Exchange :=
  (x.setSlot k { x.slot k with copy := .taken, req := readRequest x.mem k }).write (slotAddress k) [SlotCopy.taken.code]

/-- A request is taken (R183). -/
def State.takeRequest (s : State) (k : Fin 8) : State :=
  (s.withExch (s.exch.take k)).checkRequest k (readRequest s.exch.mem k)

/-- What an examination does (R182). -/
inductive Examined where
  | nothing | take | giveBack | misuse
  deriving DecidableEq, Repr

/-- The table of R182. -/
def examined (copy : SlotCopy) (found : Byte) : Examined :=
  if found = copy.code then .nothing
  else
    match copy with
    | .free => if found = 1 then .take else .misuse
    | .taken => .misuse
    | .done => if found = 0 then .giveBack else .misuse

/-- An examination clears the mark (R181). -/
def Exchange.clearMark (x : Exchange) (k : Fin 8) : Exchange := x.setSlot k { x.slot k with mark := false }

/-- A misused state byte is restored from the copy, with SLOT_MISUSE (R182). -/
def Exchange.misuse (x : Exchange) (k : Fin 8) : Exchange :=
  (x.write (slotAddress k) [(x.slot k).copy.code]).raise causeSlotMisuse

/-- The action of an examination whose mark is cleared (R182). -/
def State.examineAs (s : State) (k : Fin 8) : Examined → State
  | .nothing => s
  | .take => s.takeRequest k
  | .giveBack => s.withExch (s.exch.setSlot k { s.exch.slot k with copy := .free })
  | .misuse => s.withExch (s.exch.misuse k)

/-- One examination of a slot, whole (R181, R182). -/
def State.examine (s : State) (k : Fin 8) : State :=
  (s.withExch (s.exch.clearMark k)).examineAs k (examined (s.exch.slot k).copy (readByte s.exch.mem (slotAddress k)))

/-- The slots in number order. -/
def slotIds : List (Fin 8) := [0, 1, 2, 3, 4, 5, 6, 7]

/-- The lowest-numbered marked slot (R181). -/
def Exchange.lowestMarked (x : Exchange) : Option (Fin 8) := slotIds.find? fun k => (x.slot k).mark

/-- The slot reader examines the lowest marked slot (R181). -/
def State.readerStep (s : State) : State :=
  match s.exch.lowestMarked with
  | some k => s.examine k
  | none => s

/-- The slot reader examines the marked slots of a list, in its order. -/
def State.readSlots (s : State) (ks : List (Fin 8)) : State :=
  ks.foldl (fun u k => if (u.exch.slot k).mark then u.examine k else u) s

/-! ### Posting (10.3.2, R180) -/

/-- A state byte was stored: its slot is marked (R180). -/
def Exchange.setMark (x : Exchange) (k : Fin 8) : Exchange := x.setSlot k { x.slot k with mark := true }

/-- The host writes a slot's first sixteen bytes in one MEM_WRITE (R180). -/
def Exchange.post (x : Exchange) (q : Posting) (kind : Byte) (args : List Byte) : Exchange :=
  (x.write (slotAddress q.slot) (postedBytes q kind args)).setMark q.slot

/-- A request row: the posting, then the slot reader's examinations up to and with its slot, lowest first (R181; log
entry 4). -/
def State.request (s : State) (q : Posting) (kind : Byte) (args : List Byte) : State :=
  (s.withExch (s.exch.post q kind args)).readSlots (slotIds.filter fun k => decide (k ≤ q.slot))

/-! ### The commands -/

/-- SLOT_EXAMINATION (R181, R182). -/
def execSlotExamination (s : State) : Host.Outcome State Fault Refusal := .next s.readerStep

/-- ADOPT (R165-R171). -/
def execAdopt (q : Posting) (s : State) : Host.Outcome State Fault Refusal := .next (s.request q kindAdopt [])

/-- REFRESH (R79, R11). -/
def execRefresh (q : Posting) (s : State) : Host.Outcome State Fault Refusal := .next (s.request q kindRefresh [])

/-- PIN (R80, R97, R98). -/
def execPin (q : Posting) (level : Byte) (volts limit : Half) (s : State) : Host.Outcome State Fault Refusal :=
  .next (s.request q kindPin ([level, 0] ++ le2 volts.toNat ++ le2 limit.toNat))

/-- UNPIN (R102). -/
def execUnpin (q : Posting) (s : State) : Host.Outcome State Fault Refusal := .next (s.request q kindUnpin [])

/-- HOLD (R77). -/
def execHold (q : Posting) (s : State) : Host.Outcome State Fault Refusal := .next (s.request q kindHold [])

/-- RESUME (R77). -/
def execResume (q : Posting) (s : State) : Host.Outcome State Fault Refusal := .next (s.request q kindResume [])

/-- RELEASE (R78, R13). -/
def execRelease (q : Posting) (s : State) : Host.Outcome State Fault Refusal := .next (s.request q kindRelease [])

/-- PRIMARY (R118). -/
def execPrimary (q : Posting) (s : State) : Host.Outcome State Fault Refusal := .next (s.request q kindPrimary [])

/-- REGULATE (R150). -/
def execRegulate (q : Posting) (mode : Byte) (target : Half) (s : State) : Host.Outcome State Fault Refusal :=
  .next (s.request q kindRegulate ([mode, 0] ++ le2 target.toNat))

/-- TELEMETRY (R133). -/
def execTelemetry (q : Posting) (mode : Byte) (period : Half) (s : State) : Host.Outcome State Fault Refusal :=
  .next (s.request q kindTelemetry ([mode, 0] ++ le2 period.toNat))

/-- ABORT (R186). -/
def execAbort (q : Posting) (target : Byte) (s : State) : Host.Outcome State Fault Refusal :=
  .next (s.request q kindAbort [target])

end Sys2Proof.Machine
end

