-- ==== Sys2Proof/Machine/Spi.lean ====
section
/-! DEFINITION. The SPI port (sections 10.1 and 10.2) and the restart (R193): the decoding of a transaction, memory reads
and writes, register reads and writes, and the commands of the SPI family, each of them one transaction. -/

namespace Sys2Proof.Machine

/-! ### Memory transactions (R176, R180, R188) -/

/-- A MEM_WRITE of `count` bytes from `addr` on stored the byte at `a` (R176: the address wraps). -/
def storedAt (addr : Half) (count a : Nat) : Bool :=
  decide ((a + Config.memBytes - addr.toNat % Config.memBytes) % Config.memBytes < count)

/-- The marks of the slots whose state byte a transaction stored are set (R180). -/
def Exchange.markStored (x : Exchange) (addr : Half) (count : Nat) : Exchange :=
  slotIds.foldl (fun y k => if storedAt addr count (slotAddress k) then y.setMark k else y) x

/-- A transaction that stored a byte of the release word acts on it (R188). -/
def Exchange.releaseStored (x : Exchange) (addr : Half) (count : Nat) (time : Word) : Exchange :=
  if storedAt addr count Config.releaseAt || storedAt addr count (Config.releaseAt + 1) then x.release time else x

/-- A MEM_WRITE: the bytes, then at its end the marks and the release word (R176, R180, R188). -/
def Exchange.memWrite (x : Exchange) (addr : Half) (data : List Byte) (time : Word) : Exchange :=
  let y := { x with mem := storeBytes x.mem addr 0 data }
  (y.markStored addr data.length).releaseStored addr data.length time

/-- The bytes a MEM_READ shifts out: zeros under the operation, the address and the turnaround byte, then the data (R176). -/
def readOut (m : List Host.Cell) (addr : Half) (count : Nat) : List Byte :=
  List.replicate 4 0 ++ fetchBytes m addr 0 count none

/-! ### Restart (R193) -/

/-- Every slot FREE and unmarked, with its state byte (R193). -/
def Exchange.freeSlots (x : Exchange) : Exchange :=
  slotIds.foldl (fun y k =>
    (y.setSlot k { y.slot k with copy := .free, mark := false }).write (slotAddress k) [SlotCopy.free.code]) x

/-- The Exchange Unit's own part of a restart: the slots, the counts and their control words, ATTN and the mask (R193). -/
def Exchange.restart (x : Exchange) : Exchange :=
  { (x.freeSlots.write Config.writeNumberAt (List.replicate 6 0)) with
    written := 0, released := 0, withheld := 0, attn := causeRestarted, mask := 0 }

/-- The restart on a port record (R84, R81). -/
def PortRecord.restart (r : PortRecord) : PortRecord :=
  { r with held := false, released := false, pin := none, inFlight := none }

/-- The restart on the barrel record (R15). -/
def Barrel.restart (b : Barrel) : Barrel := { b with released := false, inFlight := none }

/-- The restart on the Path Controller (R123). -/
def Path.restart (p : Path) : Path := { p with pin := none, inFlight := none }

/-- The restart on the Measurement Unit (R138). -/
def Measurement.restart (m : Measurement) : Measurement :=
  { m with periodTimer := none, singlePending := false, singles := [] }

/-- What the blocks clear at a restart, before any report (R84, R15, R123, R138, R163). -/
def State.restartBlocks (s : State) : State :=
  let t := s.withExch s.exch.restart
  let t := t.withPorts ⟨t.ports.a.restart, t.ports.b.restart, t.ports.c.restart⟩
  let t := (t.withBarrel t.barrel.restart).withPath t.path.restart
  (t.withMeas t.meas.restart).withReg (t.reg.toAuto t.policy t.pathClosed)

/-- The port receives a call for selection at a restart: a flag of it was cleared (R84). -/
def PortRecord.restartCalls (r : PortRecord) : Bool := r.held || r.pinned || r.released

/-- The calls for selection of a restart of `s` (R84, R104). -/
def State.restartCall (s u : State) (p : LinePort) : State :=
  if (s.port p).restartCalls then u.portEventWithin p (u.callSelection p) else u

/-- The whole restart: the blocks, one evaluation with its reports, the calls for selection, then the draft, the four
pages and the telemetry page (R193, R123, R104, R84, R174, R191, R192; log entry 23). -/
def State.restart (s : State) : State :=
  let t := s.settlesWithin s.restartBlocks.evaluate
  let t := linePorts.foldl s.restartCall t
  (connectors.foldl (fun u x => u.rewritePage x) t.writeDraft).writeTelemetry

/-! ### Register writes (R177, R178) -/

/-- The effect of a REG_WRITE (R177, R178, R193). -/
def State.writeRegister (s : State) (reg : Byte) (value : Word) : State :=
  match reg.toNat with
  | 2 => s.withExch { s.exch with attn := clearCauses s.exch.attn value }
  | 3 => s.withExch { s.exch with mask := value.truncate 7 }
  | 4 => if value = 1 then s.restart else s
  | _ => s

/-! ### Transactions (10.1, R176) -/

/-- The whole bytes of a transaction's bits, each byte most significant bit first; a byte that the release of the chip
select cuts short is discarded (10.1, R176). -/
def wireBytes : List Bool → List Byte
  | b7 :: b6 :: b5 :: b4 :: b3 :: b2 :: b1 :: b0 :: bits => byte (bitsByte [b0, b1, b2, b3, b4, b5, b6, b7]) :: wireBytes bits
  | _ => []

/-- The operation bytes (10.1). -/
def opMemRead : Byte := 0xA1
def opMemWrite : Byte := 0xA2
def opRegRead : Byte := 0xB1
def opRegWrite : Byte := 0xB2

/-- What the part takes a transaction for (R176). -/
inductive Transaction where
  | memRead (addr : Half)
  | memWrite (addr : Half) (data : List Byte)
  | regRead (reg : Byte)
  | regWrite (reg : Byte) (value : Word)
  | ignored
  deriving DecidableEq, Repr

/-- The decoding of a transaction's whole bytes (R176): the address is big-endian; a REG_WRITE acts at its fourth data byte
and takes no notice of a fifth; another operation byte, and a transaction that ends before its address, its register number
or the fourth data byte of its REG_WRITE, is ignored. -/
def readTransaction : List Byte → Transaction
  | op :: x :: rest =>
    if op = opRegRead then .regRead x
    else if op = opRegWrite then
      match rest with
      | b0 :: b1 :: b2 :: b3 :: _ => .regWrite x (wordOf b0 b1 b2 b3)
      | _ => .ignored
    else
      match rest with
      | low :: data =>
        if op = opMemRead then .memRead (x ++ low) else if op = opMemWrite then .memWrite (x ++ low) data else .ignored
      | [] => .ignored
  | _ => .ignored

/-- The bytes the part shifts out under a transaction's whole bytes (R176): in MEM_READ the data after the operation, the
address and the turnaround byte; in REG_READ the four bytes of the register, bits 7-0 first, after the operation, the number
and the turnaround byte; under the data of a MEM_WRITE or REG_WRITE a free value, since R176 gives no byte there (DESIGN
CHOICE, log entry 36); 0x00 everywhere else. -/
def State.shiftedOut (s : State) (bytes : List Byte) : List Byte :=
  match readTransaction bytes with
  | .memRead addr => (readOut s.exch.mem addr (bytes.length - 4)).take bytes.length
  | .regRead reg =>
    (List.replicate 3 0 ++ le4 (s.readRegister reg).toNat ++ List.replicate (bytes.length - 7) 0).take bytes.length
  | .memWrite _ data => List.replicate 3 0 ++ (List.range' 3 data.length).map (Config.writeEcho bytes)
  | .regWrite _ _ => List.replicate 2 0 ++ (List.range' 2 (bytes.length - 2)).map (Config.writeEcho bytes)
  | .ignored => List.replicate bytes.length 0

/-- A transaction of whole bytes (R176): a read leaves what it shifted out in the model's own field `spiOut` (log entry 19),
a write acts, anything else is ignored. -/
def State.transact (s : State) (bytes : List Byte) : State :=
  match readTransaction bytes with
  | .memRead _ => s.withExch { s.exch with spiOut := s.shiftedOut bytes }
  | .memWrite addr data => s.withExch (s.exch.memWrite addr data s.time)
  | .regRead _ => s.withExch { s.exch with spiOut := s.shiftedOut bytes }
  | .regWrite reg value => s.writeRegister reg value
  | .ignored => s

/-- A transaction from the assertion of the chip select to its release, as the bits the host shifted in (R176). -/
def State.transfer (s : State) (bits : List Bool) : State := s.transact (wireBytes bits)

/-- The bytes of a MEM_READ of `count` data bytes; the host's bytes from the turnaround byte on are not read (10.1). -/
def memReadBytes (addr : Half) (count : Nat) : List Byte :=
  [opMemRead, byte (addr.toNat / 256), byte addr.toNat, 0] ++ List.replicate count 0

/-- The bytes of a MEM_WRITE (10.1). -/
def memWriteBytes (addr : Half) (data : List Byte) : List Byte :=
  [opMemWrite, byte (addr.toNat / 256), byte addr.toNat] ++ data

/-- The bytes of a REG_READ with `extra` bytes after the four data bytes (10.1). -/
def regReadBytes (reg : Byte) (extra : Nat) : List Byte := [opRegRead, reg, 0] ++ List.replicate (4 + extra) 0

/-- The bytes of a REG_WRITE (10.1). -/
def regWriteBytes (reg : Byte) (value : Word) : List Byte := [opRegWrite, reg] ++ le4 value.toNat

/-! ### The commands -/

/-- MEM_READ (R176). -/
def execMemRead (addr : Half) (count : Nat) (s : State) : Host.Outcome State Fault Refusal :=
  .next (s.transact (memReadBytes addr count))

/-- MEM_WRITE (R176, R180, R188). -/
def execMemWrite (addr : Half) (data : List Byte) (s : State) : Host.Outcome State Fault Refusal :=
  .next (s.transact (memWriteBytes addr data))

/-- ATTN_WRITE: a REG_WRITE to register 2 (R178). -/
def execAttnWrite (value : Word) (s : State) : Host.Outcome State Fault Refusal :=
  .next (s.transact (regWriteBytes 2 value))

/-- ATTN_MASK_WRITE: a REG_WRITE to register 3 (R177). -/
def execAttnMaskWrite (value : Word) (s : State) : Host.Outcome State Fault Refusal :=
  .next (s.transact (regWriteBytes 3 value))

/-- RESTART: a REG_WRITE of 1 to CONTROL (R193). -/
def execRestart (s : State) : Host.Outcome State Fault Refusal := .next (s.transact (regWriteBytes 4 1))

/-- REGISTER_WRITE_IGNORED (R177). A register and value that do act are that write (log entry 30). -/
def execRegisterWriteIgnored (reg : Byte) (value : Word) (s : State) : Host.Outcome State Fault Refusal :=
  .next (s.transact (regWriteBytes reg value))

end Sys2Proof.Machine
end

