-- ==== Sys2Proof/Machine/TermsLine.lean ====
section
/-! DEFINITION. The terms line (Chapter 2) and the exchanges of the engines with it (3.4): the line commands. -/

namespace Sys2Proof.Machine

/-- A heeded frame breaks: counted once as bad, the monitor IDLE, the lease ends (R25, R45, R48). -/
def State.breakFrame (s : State) (p : LinePort) : State :=
  ((s.setLine p ((s.line p).enter .idle)).countBadFrame p).endLeaseOf p

/-- A STRAY ends: the monitor IDLE, the frame counted unless it was at its overflow (R31, R25), a waiting engine looks
again (R46). -/
def State.endStray (s : State) (p : LinePort) : State :=
  let t := s.setLine p ((s.line p).enter .idle)
  (if (s.line p).strayCounted then t else t.countBadFrame p).lineFreed p

/-- The spaced pulses seen with one more at a time (R18). -/
def Line.pulseCount (l : Line) (time : Nat) : Nat :=
  if 0 < l.pulses ∧ l.lastPulse.map (fun t => t + Config.hailSpacing) = some time then l.pulses + 1 else 1

/-- The third spaced pulse: hail present, HAILED; the Engine Queue is told (R18, R39, R41). -/
def State.hailSeen (s : State) (p : LinePort) (time : Nat) : State :=
  let t := s.setLine p { (s.line p).enter .hailed with hail := true, lastPulse := some time }
  if t.queued p then t.withQueue (raiseClass t.queue p) else t.apply p

/-- The monitor leaves a broken frame at a hail pulse, which is the latest pulse seen but not the first of a new tone
(R18, R25, R31, R45; log entry 11). -/
def State.notePulse (s : State) (p : LinePort) (time : Nat) : State :=
  s.setLine p { s.line p with lastPulse := some time }

/-- A hail pulse on an attached port, by the line condition (R18, R25, R31, R45). -/
def State.takePulse (s : State) (p : LinePort) (time : Nat) : State :=
  let l := s.line p
  match l.cond with
  | .idle =>
    if 3 ≤ l.pulseCount time then s.hailSeen p time
    else s.setLine p { l with lastPulse := some time, pulses := l.pulseCount time }
  | .hailed => s.notePulse p time
  | .sending => s
  | .heeded =>
    (((s.notePulse p time).setLine p ((s.notePulse p time).line p |>.enter .idle)).countMissedHail p).endLeaseOf p
  | .receiving => (s.notePulse p time).breakFrame p
  | .stray => (s.notePulse p time).endStray p

/-- 300 µs without a pulse in HAILED: the hail is withdrawn (R18); a queue entry stays (R41). -/
def State.withdrawHail (s : State) (p : LinePort) : State :=
  if (s.line p).cond = .hailed then s.setLine p { (s.line p).enter .idle with hail := false } else s

/-- The heed pulse ends (R19, R44). -/
def State.endHeed (s : State) (p : LinePort) : State :=
  match s.engineOf p with
  | some e =>
    if (s.engine e).state = .heeding then
      (s.setEngine e { s.engine e with state := .awaiting, heedTimer := true }).setLine p
        { (s.line p).enter .heeded with hail := false }
    else s
  | none => s

/-- The heed wait runs out (R45). -/
def State.endHeedWait (s : State) (p : LinePort) : State :=
  match s.engineOf p with
  | some e =>
    if (s.engine e).state = .awaiting ∧ (s.engine e).heedTimer = true then
      ((s.setLine p ((s.line p).enter .idle)).countMissedHail p).endLease e p
    else s
  | none => s

/-- A start delimiter on an attached port (R25, R31, R16). -/
def State.takeStart (s : State) (p : LinePort) : State :=
  match (s.line p).cond with
  | .heeded =>
    match s.engineOf p with
    | some e =>
      (s.setEngine e { s.engine e with state := .receiving, heedTimer := false, rx := [] }).setLine p
        ((s.line p).enter .receiving)
    | none => s
  | .receiving => s.breakFrame p
  | .idle => s.setLine p { (s.line p).enter .stray with hail := false }
  | .hailed => s.setLine p { (s.line p).enter .stray with hail := false }
  | .sending => s
  | .stray => s

/-- A data byte on an attached port (R25, R31, R45, R17). -/
def State.takeData (s : State) (p : LinePort) (v : Byte) : State :=
  let l := s.line p
  match l.cond with
  | .receiving =>
    match s.engineOf p with
    | some e =>
      if (s.engine e).rx.length < Config.frameLimit then
        s.setEngine e { s.engine e with rx := (s.engine e).rx ++ [v] }
      else ((s.setLine p { l.enter .stray with strayCounted := true }).countBadFrame p).endLease e p
    | none => s
  | .heeded => s.breakFrame p
  | .stray =>
    if l.strayCounted then s
    else if Config.frameLimit ≤ l.strayBytes then s.endStray p
    else s.setLine p { l with strayBytes := l.strayBytes + 1 }
  | .idle => s
  | .hailed => s
  | .sending => s

/-- A line error: within a frame or while one is awaited (R16, R25, R45). -/
def State.takeError (s : State) (p : LinePort) : State :=
  match (s.line p).cond with
  | .heeded => s.breakFrame p
  | .receiving => s.breakFrame p
  | _ => s

/-- 1 ms of silence within a received frame (R25). -/
def State.takeSilence (s : State) (p : LinePort) : State :=
  if (s.line p).cond = .receiving then s.breakFrame p else s

/-- 1 ms of silence in STRAY (R31, R25). -/
def State.takeStraySilence (s : State) (p : LinePort) : State :=
  if (s.line p).cond = .stray then s.endStray p else s

/-- The gathered frame is checked and delivered or discarded. The lease ends once the Negotiation Unit has taken the frame,
and within the same event (R26, R30, R48; log entry 9). -/
def State.receive (s : State) (p : LinePort) (e : EngineId) : State :=
  let t := s.setLine p ((s.line p).enter .idle)
  match acceptFrame (s.engine e).rx with
  | some f => s.settles ((t.deliver p f.1 f.2).endLeaseOf p)
  | none => s.finish ((t.countBadFrame p).endLeaseOf p)

/-- An end delimiter on an attached port (R25, R31, R45). -/
def State.takeEnd (s : State) (p : LinePort) : State :=
  match (s.line p).cond with
  | .receiving =>
    match s.engineOf p with
    | some e => s.receive p e
    | none => s
  | .heeded => s.finish (s.breakFrame p)
  | .stray => if (s.line p).strayCounted then s else s.finish (s.endStray p)
  | .idle => s
  | .hailed => s
  | .sending => s

/-- The end of a sent frame: the monitor IDLE, the report, then the lease ends (R46, R47; log entry 9). -/
def State.endSending (s : State) (p : LinePort) : State :=
  match s.engineOf p with
  | some e =>
    match (s.engine e).state, (s.engine e).tx with
    | .sending, some x =>
      let t := s.setLine p ((s.line p).enter .idle)
      s.settles ((t.txReport p x.frame x.tag).endLeaseOf p)
    | _, _ => s
  | none => s

/-- The wire of a port that is not attached is ignored (R17). -/
def State.ifAttached (s : State) (p : LinePort) (t : State) : State := if s.attached (.line p) then t else s

/-! ### The commands -/

/-- HAIL_PULSE (R18). -/
def execHailPulse (p : LinePort) (time : Nat) (s : State) : Host.Outcome State Fault Refusal :=
  .next (s.finish (s.ifAttached p (s.takePulse p time)))

/-- HAIL_WITHDRAWN (R18). -/
def execHailWithdrawn (p : LinePort) (s : State) : Host.Outcome State Fault Refusal :=
  .next (s.finish (s.ifAttached p (s.withdrawHail p)))

/-- HEED_END (R19, R44). -/
def execHeedEnd (p : LinePort) (s : State) : Host.Outcome State Fault Refusal :=
  .next (s.finish (s.endHeed p))

/-- HEED_WAIT_EXPIRY (R45). -/
def execHeedWaitExpiry (p : LinePort) (s : State) : Host.Outcome State Fault Refusal :=
  .next (s.finish (s.endHeedWait p))

/-- START_DELIMITER (R25, R31). -/
def execStartDelimiter (p : LinePort) (s : State) : Host.Outcome State Fault Refusal :=
  .next (s.finish (s.ifAttached p (s.takeStart p)))

/-- DATA_SYMBOL (R25, R31, R45). -/
def execDataSymbol (p : LinePort) (v : Byte) (s : State) : Host.Outcome State Fault Refusal :=
  .next (s.finish (s.ifAttached p (s.takeData p v)))

/-- LINE_ERROR (R25, R45). -/
def execLineError (p : LinePort) (s : State) : Host.Outcome State Fault Refusal :=
  .next (s.finish (s.ifAttached p (s.takeError p)))

/-- LINE_SILENCE (R25). -/
def execLineSilence (p : LinePort) (s : State) : Host.Outcome State Fault Refusal :=
  .next (s.finish (s.ifAttached p (s.takeSilence p)))

/-- STRAY_SILENCE (R31, R25). -/
def execStraySilence (p : LinePort) (s : State) : Host.Outcome State Fault Refusal :=
  .next (s.finish (s.ifAttached p (s.takeStraySilence p)))

/-- END_DELIMITER (R26, R30, R31, R45). -/
def execEndDelimiter (p : LinePort) (s : State) : Host.Outcome State Fault Refusal :=
  .next (s.ifAttached p (s.takeEnd p))

/-- FRAME_TRANSMITTED (R47). -/
def execFrameTransmitted (p : LinePort) (s : State) : Host.Outcome State Fault Refusal :=
  .next (s.endSending p)

end Sys2Proof.Machine
end

