-- ==== Sys2Proof/Machine/Timers.lean ====
section
/-! DEFINITION. The protocol timers, the LAPSE timer and the path timers: their expiries as commands. An expiry of a
timer that is not running so cannot occur and changes nothing (log entry 3). -/

namespace Sys2Proof.Machine

/-- TENDER_WAIT_EXPIRY (R62). -/
def execTenderWaitExpiry (p : LinePort) (s : State) : Host.Outcome State Fault Refusal :=
  .next (if (s.port p).state = .asking ∧ (s.port p).timer = .tenderWait then s.portEvent p (s.tenderTimeout p) else s)

/-- CLAIM_WAIT_EXPIRY (R67). -/
def execClaimWaitExpiry (p : LinePort) (s : State) : Host.Outcome State Fault Refusal :=
  .next (if (s.port p).state = .claimed ∧ (s.port p).timer = .claimWait then s.portEvent p (s.claimTimeout p) else s)

/-- SETTLE_WAIT_EXPIRY (R70). -/
def execSettleWaitExpiry (p : LinePort) (s : State) : Host.Outcome State Fault Refusal :=
  .next (if (s.port p).state = .shifting ∧ (s.port p).timer = .settleWait then s.portEvent p (s.enterFaulted p .noSettle)
    else s)

/-- LAPSE_EXPIRY (R73). -/
def execLapseExpiry (p : LinePort) (s : State) : Host.Outcome State Fault Refusal :=
  .next (if (s.port p).lapseTimer = true then s.portEvent p (s.lapse p) else s)

/-- The soft start of CLOSING(y) runs out (R112). -/
def State.softStartExpires (s : State) : State :=
  match s.path.state, s.path.softStart with
  | .closing y, some _ => s.settles (s.softStartEnds y)
  | _, _ => s

/-- SOFT_START_EXPIRY (R112). -/
def execSoftStartExpiry (s : State) : Host.Outcome State Fault Refusal :=
  .next s.softStartExpires

/-- The break of OPENING runs out (R117). -/
def State.breakExpires (s : State) : State :=
  match s.path.state, s.path.breakTimer with
  | .opening _, some _ => s.settles s.breakEnds
  | _, _ => s

/-- BREAK_EXPIRY (R117). -/
def execBreakExpiry (s : State) : Host.Outcome State Fault Refusal :=
  .next s.breakExpires

end Sys2Proof.Machine
end

