-- ==== Sys2Proof/Machine/Dispatch.lean ====
section
/-! DEFINITION. exec: one arm for each row of the table, each one call of its meaning. -/

namespace Sys2Proof.Machine

def exec (i : Instr) (s : State) : Host.Outcome State Fault Refusal :=
  match i with
  | .powerOn a b c d => Sys2Proof.Machine.execPowerOn a b c d s
  | .presenceAsserted x => Sys2Proof.Machine.execPresenceAsserted x s
  | .presenceRemoved x => Sys2Proof.Machine.execPresenceRemoved x s
  | .attachIntervalExpiry x => Sys2Proof.Machine.execAttachIntervalExpiry x s
  | .detachIntervalExpiry x => Sys2Proof.Machine.execDetachIntervalExpiry x s
  | .coreSequenceStart => Sys2Proof.Machine.execCoreSequenceStart s
  | .iinCompletion reading => Sys2Proof.Machine.execIinCompletion reading s
  | .voltageCompletion x reading => Sys2Proof.Machine.execVoltageCompletion x reading s
  | .vbatCompletion reading => Sys2Proof.Machine.execVbatCompletion reading s
  | .vsysCompletion reading => Sys2Proof.Machine.execVsysCompletion reading s
  | .iddCompletion reading => Sys2Proof.Machine.execIddCompletion reading s
  | .periodTimerExpiry => Sys2Proof.Machine.execPeriodTimerExpiry s
  | .hailPulse p time => Sys2Proof.Machine.execHailPulse p time s
  | .hailWithdrawn p => Sys2Proof.Machine.execHailWithdrawn p s
  | .heedEnd p => Sys2Proof.Machine.execHeedEnd p s
  | .heedWaitExpiry p => Sys2Proof.Machine.execHeedWaitExpiry p s
  | .startDelimiter p => Sys2Proof.Machine.execStartDelimiter p s
  | .dataSymbol p value => Sys2Proof.Machine.execDataSymbol p value s
  | .lineError p => Sys2Proof.Machine.execLineError p s
  | .lineSilence p => Sys2Proof.Machine.execLineSilence p s
  | .straySilence p => Sys2Proof.Machine.execStraySilence p s
  | .endDelimiter p => Sys2Proof.Machine.execEndDelimiter p s
  | .frameTransmitted p => Sys2Proof.Machine.execFrameTransmitted p s
  | .tenderWaitExpiry p => Sys2Proof.Machine.execTenderWaitExpiry p s
  | .claimWaitExpiry p => Sys2Proof.Machine.execClaimWaitExpiry p s
  | .settleWaitExpiry p => Sys2Proof.Machine.execSettleWaitExpiry p s
  | .lapseExpiry p => Sys2Proof.Machine.execLapseExpiry p s
  | .softStartExpiry => Sys2Proof.Machine.execSoftStartExpiry s
  | .breakExpiry => Sys2Proof.Machine.execBreakExpiry s
  | .memRead addr count => Sys2Proof.Machine.execMemRead addr count s
  | .memWrite addr data => Sys2Proof.Machine.execMemWrite addr data s
  | .attnWrite value => Sys2Proof.Machine.execAttnWrite value s
  | .attnMaskWrite value => Sys2Proof.Machine.execAttnMaskWrite value s
  | .restart => Sys2Proof.Machine.execRestart s
  | .registerWriteIgnored reg value => Sys2Proof.Machine.execRegisterWriteIgnored reg value s
  | .slotExamination => Sys2Proof.Machine.execSlotExamination s
  | .adopt q => Sys2Proof.Machine.execAdopt q s
  | .refresh q => Sys2Proof.Machine.execRefresh q s
  | .pin q level volts limit => Sys2Proof.Machine.execPin q level volts limit s
  | .unpin q => Sys2Proof.Machine.execUnpin q s
  | .hold q => Sys2Proof.Machine.execHold q s
  | .resume q => Sys2Proof.Machine.execResume q s
  | .release q => Sys2Proof.Machine.execRelease q s
  | .primary q => Sys2Proof.Machine.execPrimary q s
  | .regulate q mode target => Sys2Proof.Machine.execRegulate q mode target s
  | .telemetry q mode period => Sys2Proof.Machine.execTelemetry q mode period s
  | .abort q target => Sys2Proof.Machine.execAbort q target s

end Sys2Proof.Machine
end

