-- ==== Sys2Proof/WellFormed.lean ====
section
/-! DEFINITION. Which commands are well formed: the operands are ones the row of the table can carry. Every command
has a meaning all the same (the part answers a request with a bad port byte by BAD_PORT). -/

namespace Sys2Proof

/-- The port bytes 0 to 2: requests for line ports only (10.3.2). -/
def linePortByte (b : Byte) : Bool := decide (b.toNat ≤ 2)

/-- The port bytes 0 to 3 (10.3.2). -/
def connectorByte (b : Byte) : Bool := decide (b.toNat ≤ 3)

/-- The port bytes of PRIMARY: 0 to 3, or 0xFF (10.3.2). -/
def primaryByte (b : Byte) : Bool := connectorByte b || decide (b = 0xFF)

/-- A register write the part ignores (R177): IDENT, STATUS, a register above 4, or CONTROL with a value other than 1. -/
def ignoredWrite (reg : Byte) (value : Word) : Bool :=
  decide (reg.toNat ≤ 1) || decide (4 < reg.toNat) || (decide (reg.toNat = 4) && decide (value ≠ 1))

/-- Well-formedness of a command. -/
def Instr.wellFormed : Instr → Bool
  | .powerOn _ _ _ _ => true
  | .presenceAsserted _ => true
  | .presenceRemoved _ => true
  | .attachIntervalExpiry _ => true
  | .detachIntervalExpiry _ => true
  | .coreSequenceStart => true
  | .iinCompletion _ => true
  | .voltageCompletion _ _ => true
  | .vbatCompletion _ => true
  | .vsysCompletion _ => true
  | .iddCompletion _ => true
  | .periodTimerExpiry => true
  | .hailPulse _ _ => true
  | .hailWithdrawn _ => true
  | .heedEnd _ => true
  | .heedWaitExpiry _ => true
  | .startDelimiter _ => true
  | .dataSymbol _ _ => true
  | .lineError _ => true
  | .lineSilence _ => true
  | .straySilence _ => true
  | .endDelimiter _ => true
  | .frameTransmitted _ => true
  | .tenderWaitExpiry _ => true
  | .claimWaitExpiry _ => true
  | .settleWaitExpiry _ => true
  | .lapseExpiry _ => true
  | .softStartExpiry => true
  | .breakExpiry => true
  | .memRead _ _ => true
  | .memWrite _ _ => true
  | .attnWrite _ => true
  | .attnMaskWrite _ => true
  | .restart => true
  | .registerWriteIgnored reg value => ignoredWrite reg value
  | .slotExamination => true
  | .adopt _ => true
  | .refresh q => connectorByte q.port
  | .pin q _ _ _ => linePortByte q.port
  | .unpin q => linePortByte q.port
  | .hold q => linePortByte q.port
  | .resume q => linePortByte q.port
  | .release q => connectorByte q.port
  | .primary q => primaryByte q.port
  | .regulate _ _ _ => true
  | .telemetry _ _ _ => true
  | .abort _ _ => true

end Sys2Proof
end

