-- ==== Sys2Proof/Safety.lean ====
section
/-! DEFINITION. What a safe run keeps: the relations between pieces of state that the manual says always hold, each as a
predicate on one state. -/

namespace Sys2Proof.Machine

/-- Exchange memory is in canonical form. -/
def State.memoryOk (s : State) : Prop := Memory.wf s.exch.mem = true

/-- No more than 32 journal records are unconsumed at any time (R187). -/
def State.journalOk (s : State) : Prop := s.exch.unconsumed ≤ Config.journalSize

/-- A switch is closed exactly while the path is CLOSING or CLOSED on its connector (R105). -/
def State.switchesOk (s : State) : Prop := ∀ x, s.path.switches.get x = s.path.state.holds x

/-- The live policy lies in the ranges of 9.1 and has no contradiction of R168 (R166, R168, R170). -/
def Policy.inForce (q : Policy) : Prop :=
  clampFields q = q ∧ q.ids.map clampEntry = q.ids ∧ q.ids.length ≤ 8 ∧ q.vinMin ≤ q.vinMax ∧ q.satLo < q.satHi ∧
    ∀ e ∈ q.ids, e.lo ≤ e.hi

/-- The output and I_acc lie within the mode's range, and the manual target within [SATLO, SATHI] (R148, R149). -/
def Regulator.inRange (r : Regulator) (q : Policy) : Prop :=
  (q.satLo ≤ r.manualTarget ∧ r.manualTarget ≤ q.satHi) ∧
    match r.mode with
    | .off => r.output = 0 ∧ r.iacc = 0
    | _ =>
      q.satLo ≤ r.output ∧ r.output ≤ q.satHi ∧ (q.satLo : Int) * 256 ≤ r.iacc ∧ r.iacc ≤ (q.satHi : Int) * 256

/-- SPf never exceeds SP_target, and the outputs are in range (R144, R148). -/
def State.regulatorOk (s : State) : Prop := s.reg.spf ≤ s.reg.spTarget ∧ s.reg.inRange s.policy

/-- While the path is not CLOSED the block holds the state of R155. -/
def State.openPathOk (s : State) : Prop :=
  s.pathClosed = false →
    (s.reg.mode ≠ .off → s.reg.output = s.policy.satLo ∧ s.reg.iacc = (s.policy.satLo : Int) * 256) ∧
      s.reg.overdraw = 0 ∧ s.reg.transfer = false

/-- The owner's state agrees with the presence tracker (1.2, R57). -/
def trackerAgrees (t : TrackerState) (state : PortState) : Prop :=
  match t with
  | .empty => state = .empty
  | .settling => state = .settling
  | .attached => state ≠ .empty ∧ state ≠ .settling

/-- The protocol timer runs only in its state, and in SHIFTING it does run (4.2). -/
def timerAgrees (t : ProtocolTimer) (state : PortState) : Prop :=
  match t with
  | .stopped => state ≠ .shifting
  | .tenderWait => state = .asking
  | .claimWait => state = .claimed
  | .settleWait => state = .shifting

/-- The contracts and timers a port record has in each state (4.2, R56). -/
def PortRecord.consistent (r : PortRecord) : Prop :=
  (r.staged.isSome = true ↔ r.state = .claimed ∨ r.state = .shifting) ∧
    (r.live.isSome = true ↔ r.state ≠ .empty ∧ r.state ≠ .settling) ∧
    timerAgrees r.timer r.state ∧ (r.lapseTimer = true → r.state ≠ .empty ∧ r.state ≠ .settling) ∧ r.tagCounter < 7

/-- The barrel state agrees with D's tracker, and D has a contract in BOUND, may have one in IDENTIFYING, and has none
in another state (1.2, R9, R11, R12). -/
def barrelAgrees (t : TrackerState) (b : Barrel) : Prop :=
  (match t with
    | .empty => b.state = .empty
    | .settling => b.state = .settling
    | .attached => b.state ≠ .empty ∧ b.state ≠ .settling) ∧
    (b.state = .bound → b.live.isSome = true) ∧ (b.live.isSome = true → b.state = .bound ∨ b.state = .identifying)

/-- Every connector's record is consistent. -/
def State.recordsOk (s : State) : Prop :=
  (∀ p, trackerAgrees (s.tracker (.line p)).state (s.port p).state ∧ (s.port p).consistent) ∧
    barrelAgrees (s.tracker .barrel).state s.barrel

/-- Each engine is leased to at most one port and each port holds at most one engine or one queue entry; only attached
ports do (R37, R39, R49). -/
def State.enginesOk (s : State) : Prop :=
  (∀ e, (s.engine e).state = .free ↔ (s.engine e).lease = none) ∧
    (∀ l m, s.engines.e0.lease = some l → s.engines.e1.lease = some m → l.port ≠ m.port) ∧
    (s.queue.map QueueEntry.port).Nodup ∧
    (∀ p, s.queued p = true → s.engineOf p = none) ∧
    ∀ p, (s.queued p = true ∨ (s.engineOf p).isSome = true) → s.attached (.line p) = true

/-- The condition of the port's line monitor that goes with each state of its engine (table of 3.1). -/
def engineAgrees (state : EngineState) (cond : LineCondition) : Prop :=
  match state with
  | .free => True
  | .waitLine => cond = .stray
  | .heeding => cond = .sending
  | .awaiting => cond = .heeded
  | .receiving => cond = .receiving
  | .sending => cond = .sending

/-- No port waits that could be served: entries stand in the queue only while both engines are leased (R39, R42), an attached
port with a filled slot or a hail holds an engine or an entry (R39), and HAIL entries stand ahead of SEND entries (R40). The
line of a leased port is as its engine has it (3.1), another line is IDLE, HAILED or STRAY, and hail present is set exactly
in HAILED and during the heed pulse (R18, R19). -/
def State.enginesServed (s : State) : Prop :=
  (s.queue ≠ [] → ∀ e, (s.engine e).state ≠ .free) ∧
  (∀ p, s.attached (.line p) = true → ((s.port p).slot ≠ none ∨ (s.line p).hail = true) →
    s.queued p = true ∨ (s.engineOf p).isSome = true) ∧
  (s.queue.Pairwise fun q r => q.cls = .send → r.cls = .send) ∧
  (∀ e l, (s.engine e).lease = some l → engineAgrees (s.engine e).state (s.line l.port).cond) ∧
  ∀ p, (s.engineOf p = none → (s.line p).cond = .idle ∨ (s.line p).cond = .hailed ∨ (s.line p).cond = .stray) ∧
    ((s.line p).hail = true ↔
      (s.line p).cond = .hailed ∨ ∃ e, s.engineOf p = some e ∧ (s.engine e).state = .heeding)

/-- The prospect is the one R94 gives (R95). -/
def State.prospectOk (s : State) : Prop := s.prospect = s.findProspect

/-- SP_target is the figure R141 gives (R142). -/
def State.budgetOk (s : State) : Prop := s.reg.spTarget = s.budget

/-! ### The terms statements use -/

/-- The 128 bytes of a connector's page are its revision word and its record (R190, R191). -/
def State.pageShown (t : State) (x : Connector) : Prop :=
  ∀ i, i < 128 → readByte t.exch.mem (pageAddress x + i) = (le2 (t.exch.pageRev.get x).toNat ++ t.pageOf x).getD i 0

/-- The page of a connector stands in `t` as in `u`. -/
def State.pageKept (u t : State) (x : Connector) : Prop :=
  t.exch.pageRev.get x = u.exch.pageRev.get x ∧
    ∀ i, i < 128 → readByte t.exch.mem (pageAddress x + i) = readByte u.exch.mem (pageAddress x + i)

/-- `t` is `u` with the pages rewritten whose records differ between `s` and `u` (R190); every other byte of memory and
every other field is as in `u`. -/
def State.withPagesOf (s u t : State) : Prop :=
  t.withExch u.exch = u ∧ { t.exch with mem := u.exch.mem, pageRev := u.exch.pageRev } = u.exch ∧
    (∀ a, a < 0x180 ∨ 0x380 ≤ a → readByte t.exch.mem a = readByte u.exch.mem a) ∧
    ∀ x, if recordChanged s u x then t.exch.pageRev.get x = u.exch.pageRev.get x + 2 ∧ t.pageShown x
      else u.pageKept t x

/-- A command on `s` completes in `u` with the pages of the changed records rewritten: its whole effect and its frame. -/
def leads (c : Instr) (s u : State) : Prop := ∃ t, exec c s = .next t ∧ s.withPagesOf u t

/-- A 16-bit counter after one more (R50-R52, R158: it saturates at 65535). -/
def counted (n : Nat) : Nat := if n < 65535 then n + 1 else n

/-- A channel's row after a result (R125). -/
def rowAfter (r : ChannelRow) (v : Nat) : ChannelRow :=
  ⟨v, some (min (r.min.getD v) v), some (max (r.max.getD v) v)⟩

/-- A state in which a result of a channel has been entered and the sequence goes on with the channel `next` (R124,
R125). -/
def State.entered (s : State) (table : ResultTable) (next : Option Channel) : State :=
  s.withMeas { s.meas with converting := next, table := table }

/-- `t` follows a publish of `u`: the telemetry page shows `u` under its sequence word, raised by 2, TELEMETRY is set, every
spread is empty and the saturation count is 0 (R136, R158, R190, R192). -/
def State.published (u t : State) : Prop :=
  (∀ i, i < 128 → readByte t.exch.mem (0x380 + i) =
      (le2 (u.exch.telemetrySeq + 2).toNat ++ u.telemetryPage).getD i 0) ∧
    t.exch.telemetrySeq = u.exch.telemetrySeq + 2 ∧ t.exch.attn &&& causeTelemetry = causeTelemetry ∧
    t.reg = { u.reg with saturation := 0 } ∧
    ∀ c, t.meas.table.get c = ⟨(u.meas.table.get c).last, none, none⟩

/-- A line monitor at rest, hail and last pulse as before. -/
def Line.idled (l : Line) : Line := ⟨.idle, l.hail, l.lastPulse, 0, 0, false⟩

/-- A port with an engine and nothing more for one, and no other port waiting: its lease ends in a FREE engine. -/
def State.lastLease (s : State) (p : LinePort) (e : EngineId) : Prop :=
  s.engineOf p = some e ∧ s.queue = [] ∧ (s.port p).slot = none ∧ (s.line p).hail = false

/-! ### Engines at work -/

/-- The bytes of a laptop frame between its delimiters (R20 to R22): header with kind, tag and direction bit 0, length,
payload in steps of 100 mV and 50 mA, and the CRC of all of these. -/
def sentBytes (f : OutFrame) (tag : Nat) : List Byte :=
  let head := fun kind : Nat => BitVec.ofNat 8 (16 * kind + 2 * tag)
  let code := fun n : Nat => BitVec.ofNat 8 n
  let body := match f with
    | .ask => [head 1, 0]
    | .claim level volts limit operating =>
      [head 2, 4, code level, code (volts / 100), code (limit / 50), code (operating / 50)]
    | .giveback => [head 3, 0]
  body ++ [crc body]

/-- The engine that a port takes: FREE, and engine 0 if both are (R39). -/
def State.takes (s : State) (e : EngineId) : Prop :=
  match e with
  | .e0 => s.engines.e0.state = .free
  | .e1 => s.engines.e0.state ≠ .free ∧ s.engines.e1.state = .free

/-- Engine `e` has been leased to a port and has begun to send: it is SENDING the frame with the tag that the port's counter
had in `s`, the frame is out of the slot, the counter stands at the next tag and the line is SENDING (R46, R20, R22, R23,
R38). -/
def State.begins (s t : State) (e : EngineId) (p : LinePort) (f : OutFrame) : Prop :=
  let tag := (s.port p).tagCounter
  t.engine e = ⟨.sending, some ⟨p, .send⟩, false, [], some ⟨f, tag, sentBytes f tag⟩⟩ ∧ (t.port p).slot = none ∧
    (t.port p).tagCounter = (tag + 1) % 7 ∧ (t.line p).cond = .sending

/-- A frame waits in the outbound slot of a port, or the engine leased to it is SENDING the frame's bytes under a tag (R38,
R46, R20, R22). -/
def State.sends (t : State) (p : LinePort) (f : OutFrame) : Prop :=
  (t.port p).slot = some f ∨
    ∃ e tag, (t.engine e).lease.map Lease.port = some p ∧ (t.engine e).state = .sending ∧
      (t.engine e).tx = some ⟨f, tag, sentBytes f tag⟩

/-- What a frame put into the slot of a port brings (R38, R39): it is sent or waits; on an attached port with an engine or an
entry these stay and the frame waits; otherwise, and without a hail, the port takes a FREE engine, which begins to send on an
IDLE line and waits for a STRAY one (R43, R46), or joins the queue with class SEND where no engine is FREE. -/
def State.puts (s t : State) (p : LinePort) (f : OutFrame) : Prop :=
  t.sends p f ∧ (s.attached (.line p) = true →
    (∀ e, s.engineOf p = some e → (s.engine e).state ≠ .free → (t.port p).slot = some f ∧ t.engine e = s.engine e) ∧
    (∀ k, s.engineOf p = none → (⟨p, k⟩ : QueueEntry) ∈ s.queue →
      (t.port p).slot = some f ∧ (⟨p, k⟩ : QueueEntry) ∈ t.queue) ∧
    (s.engineOf p = none → s.queued p = false → (s.line p).hail = false →
      (∀ e, s.takes e → (s.line p).cond = .idle → s.begins t e p f) ∧
      (∀ e, s.takes e → (s.line p).cond = .stray →
        t.engine e = ⟨.waitLine, some ⟨p, .send⟩, false, [], none⟩ ∧ (t.port p).slot = some f ∧
          (t.port p).tagCounter = (s.port p).tagCounter ∧ t.line p = s.line p) ∧
      ((∀ e, (s.engine e).state ≠ .free) →
        (t.port p).slot = some f ∧ (⟨p, .send⟩ : QueueEntry) ∈ t.queue ∧ t.engines = s.engines ∧
          (t.port p).tagCounter = (s.port p).tagCounter ∧ t.line p = s.line p)))

/-- Command `c` on `s` completes in `u` with engine `e` acting on its port as R43 lays down: a hail is heeded (R44); without
one the slot's frame is sent on an IDLE line, with the port's tag, and waits on a STRAY one (R46). -/
def serves (c : Instr) (s u : State) (e : EngineId) (p : LinePort) : Prop :=
  let r := u.port p
  let l := u.line p
  let engine := fun g : Engine => u.withEngines (u.engines.set e g)
  let driven := u.lines.set p { l.idled with cond := .sending }
  (l.hail = true → leads c s ((engine { u.engine e with state := .heeding }).withLines driven)) ∧
  (l.hail = false → ∀ f, r.slot = some f →
    (l.cond = .idle → leads c s
      (((engine { u.engine e with state := .sending, tx := some ⟨f, r.tagCounter, sentBytes f r.tagCounter⟩ }).withLines
        driven).withPorts (u.ports.set p { r with slot := none, tagCounter := (r.tagCounter + 1) % 7 }))) ∧
    (l.cond = .stray → leads c s (engine { u.engine e with state := .waitLine })))

/-- A port after the missed hail that a lease of a kind counts at its start (R43, R52). -/
def State.missedBy (u : State) (p : LinePort) (k : LeaseKind) : State :=
  if k = .hail ∧ (u.line p).hail = false then
    u.withPorts (u.ports.set p { u.port p with missedHail := counted (u.port p).missedHail })
  else u

/-- Command `c` on `s` completes in `u` with a lease of engine `e` begun for a port with a hail or a filled slot (R42,
R43). -/
def leases (c : Instr) (s u : State) (e : EngineId) (q : QueueEntry) : Prop :=
  serves c s ((u.withEngines (u.engines.set e ⟨.waitLine, some ⟨q.port, q.cls⟩, false, [], none⟩)).missedBy q.port q.cls) e
    q.port

/-- Command `c` on `s` completes in `u` with the lease of port `p`, which has no hail, on engine `e` ended (R37). With nobody
waiting the engine is FREE, or the port applies again if its slot is filled (R39, R48). With a queue, both engines leased,
the head entry takes the engine with its class for the lease kind, and the port with a filled slot joins the queue's end
(R42). A head that has nothing to do has its lease ended at once, a missed hail counted for class HAIL, and the engine goes
on (R43). -/
def leaseEnds (c : Instr) (s u : State) (p : LinePort) (e : EngineId) : Prop :=
  let v := u.withEngines (u.engines.set e Engine.freed)
  let filled := (u.port p).slot ≠ none
  s.engineOf p = some e → v.engineOf p = none → u.queued p = false → (u.line p).hail = false →
  (u.queue = [] → ¬ filled → leads c s v) ∧
  (u.attached (.line p) = true →
    (u.queue = [] → filled → ∀ o, v.takes o → leases c s v o ⟨p, .send⟩) ∧
    ∀ q rest, u.queue = q :: rest → (∀ o, (u.engine o).state ≠ .free) →
      ((u.line q.port).hail = true ∨ (u.port q.port).slot ≠ none →
        leases c s (v.withQueue (rest ++ if (u.port p).slot = none then [] else [⟨p, .send⟩])) e q) ∧
      ((u.line q.port).hail = false → (u.port q.port).slot = none → rest = [] →
        let w := (v.withQueue []).missedBy q.port q.cls
        (¬ filled → leads c s w) ∧ (filled → leases c s w e ⟨p, .send⟩)))

/-- The commands that let the slot reader examine a slot: SLOT_EXAMINATION and the request rows. -/
def examines : Instr → Bool
  | .slotExamination => true
  | .adopt _ => true
  | .refresh _ => true
  | .pin _ _ _ _ => true
  | .unpin _ => true
  | .hold _ => true
  | .resume _ => true
  | .release _ => true
  | .primary _ => true
  | .regulate _ _ _ => true
  | .telemetry _ _ _ => true
  | .abort _ _ => true
  | _ => false

/-- No request in flight is that of slot `k`. -/
def State.unheld (s : State) (k : Fin 8) : Prop :=
  (∀ p q, (s.port p).inFlight = some q → q.slot ≠ k) ∧ s.barrel.inFlight ≠ some k ∧
    (∀ q, s.path.inFlight = some q → q.slot ≠ k) ∧ k ∉ s.meas.singles

/-- Slot `k` is FREE, no request of it is in flight, and the slot reader has nothing to examine up to it. -/
def State.slotReady (s : State) (k : Fin 8) : Prop :=
  (s.exch.slot k).copy = .free ∧ (∀ j, j ≤ k → (s.exch.slot j).mark = false) ∧ s.unheld k

/-- The slot holds a completed request (R184): the state byte DONE, kind, port, result code and host tag, and the result
data; the copy is DONE and SLOT_DONE is set. -/
def State.slotDone (t : State) (q : Posting) (kind : Byte) (code : ResultCode) (data : List Byte) : Prop :=
  (t.exch.slot q.slot).copy = .done ∧ t.exch.attn &&& causeSlotDone = causeSlotDone ∧
    (∀ i, i < 6 →
      readByte t.exch.mem (slotAddress q.slot + i) = ([3, kind, q.port, code.code] ++ le2 q.tag.toNat).getD i 0) ∧
    ∀ i, i < 16 → readByte t.exch.mem (slotAddress q.slot + 16 + i) = (padTo 16 data).getD i 0

/-- The slot holds a request in flight (R183): the state byte and the copy are TAKEN. -/
def State.slotTaken (t : State) (k : Fin 8) : Prop :=
  (t.exch.slot k).copy = .taken ∧ readByte t.exch.mem (slotAddress k) = 2

/-- Outside slot `k` a request changed nothing of the Exchange Unit. -/
def State.slotAlone (s t : State) (k : Fin 8) : Prop :=
  (∀ a, a < slotAddress k ∨ slotAddress k + 32 ≤ a → readByte t.exch.mem a = readByte s.exch.mem a) ∧
    (∀ j, j ≠ k → t.exch.slot j = s.exch.slot j) ∧
    { t.exch with mem := s.exch.mem, slots := s.exch.slots, attn := s.exch.attn } = s.exch

/-! ### Journal records, frames, requests and the path -/

/-- The first records a command submits are these, each with its kind, its port byte and its data. While fewer than 32 are
unconsumed a record stands in its entry under the next number and JOURNAL is set (R187); each further one is withheld and
JOURNAL_FULL is set (R189). -/
def State.journals (s t : State) (records : List (Byte × Byte × List Byte)) : Prop :=
  ∀ i kind port data, records[i]? = some (kind, port, data) →
    let n := s.exch.written + BitVec.ofNat 16 (i + 1)
    if s.exch.unconsumed + i < 32 then
      t.exch.attn &&& causeJournal = causeJournal ∧
        ∀ j, j < 16 → readByte t.exch.mem (0x410 + 16 * ((n.toNat + 31) % 32) + j) =
          (le2 n.toNat ++ [kind, port] ++ le4 s.time.toNat ++ padTo 8 data).getD j 0
    else t.exch.attn &&& causeJournalFull = causeJournalFull ∧ min 65535 (s.exch.withheld + 1) ≤ t.exch.withheld

/-- A selection on the port came to these figures: the port has claimed them, the CLAIM in its slot or with an engine, or is
BOUND on a contract that carries them; the operating amps are those of either role (R64, R89 to R91, R99). -/
def State.chose (t : State) (p : LinePort) (level volts limit : Nat) (shared : Bool) : Prop :=
  ∃ operating, (operating = limit ∨ operating = min t.policy.standby limit / 50 * 50) ∧
    ((t.port p).state = .claimed ∧ t.sends p (.claim level volts limit operating) ∧
      (t.port p).staged = some ⟨.negotiated, some level, volts, limit, operating, shared, false⟩ ∨
    (t.port p).state = .bound ∧ (t.port p).live.map (fun l =>
      (l.origin, l.level, l.volts, l.limit, l.operating, l.shared)) =
        some (.negotiated, some level, volts, limit, operating, shared))

/-- The amps of the usable levels that contain a voltage (R71). -/
def ampsAt (levels : List Level) (volts : Nat) : List Nat :=
  (levels.filter fun l => l.usable && decide (l.lo ≤ volts ∧ volts ≤ l.hi)).map Level.amps

/-- The resting state that goes with a live contract (R56). -/
def restingOn (live : Option Contract) : PortState :=
  if live.map Contract.origin = some .negotiated then .bound else .base

/-- The request in slot `k` has completed with a code (R184). -/
def State.answered (t : State) (k : Fin 8) (code : ResultCode) : Prop :=
  (t.exch.slot k).copy = .done ∧ readByte t.exch.mem (slotAddress k) = 3 ∧
    readByte t.exch.mem (slotAddress k + 3) = code.code

/-- A port has this request in flight, and no other is in flight from the same slot. -/
def State.soleRequest (s : State) (p : LinePort) (q : PortRequest) : Prop :=
  (s.port p).inFlight = some q ∧ (s.withPorts (s.ports.set p { s.port p with inFlight := none })).unheld q.slot

/-- The Path Controller has this PRIMARY in flight, and no other request is in flight from the same slot. -/
def State.solePrimary (s : State) (q : PrimaryRequest) : Prop :=
  s.path.inFlight = some q ∧ (s.withPath { s.path with inFlight := none }).unheld q.slot

/-- A path that was CLOSING or CLOSED on a connector is OPENING: its switch is open and the break runs (R113, R115,
R116). DEDUCED (log entry 16): the soft-start timer has stopped. -/
def State.pathOpened (s t : State) (x : Connector) : Prop :=
  t.path.state = .opening x ∧ t.path.switches = s.path.switches.set x false ∧ t.path.breakTimer = some s.policy.breakMs ∧
    t.path.softStart = none ∧ t.path.checkDeferred = false

/-- The FAILOVER record of a lost connector: only a CLOSED path makes one (R116). -/
def State.failover (s : State) (x : Connector) (cause : Byte) : List (Byte × Byte × List Byte) :=
  if s.path.state = .closed x then [(0x0C, connectorCode (some x), [cause])] else []

/-! ### A tender on the wire -/

/-- The bytes of a TENDER between its delimiters: kind 0x8 with the tag and direction 1, the length, the class, the level
entries of four bytes each, and the CRC (2.3). -/
def tenderBytes (tag : Nat) (cls : Byte) (entries : List (Byte × Byte × Byte × Byte)) : List Byte :=
  let body := [BitVec.ofNat 8 (0x81 + 2 * tag), BitVec.ofNat 8 (1 + 4 * entries.length), cls] ++
    entries.flatMap fun e => [e.1, e.2.1, e.2.2.1, e.2.2.2]
  body ++ [crc body]

/-- The level an entry gives, with its usable mark (R27, R28), not yet scored. -/
def levelOf (e : Byte × Byte × Byte × Byte) : Level where
  form := if e.1.getLsbD 0 then .span else .fixed
  shared := e.1.getLsbD 1
  lo := e.2.1.toNat * 100
  hi := e.2.2.1.toNat * 100
  amps := e.2.2.2.toNat * 50
  usable := decide (50 ≤ e.2.1.toNat ∧ e.2.1.toNat ≤ e.2.2.1.toNat ∧ e.2.2.1.toNat ≤ 240 ∧ 1 ≤ e.2.2.2.toNat ∧
    e.2.2.2.toNat ≤ 120 ∧ (e.1.getLsbD 0 = true ∨ e.2.2.1 = e.2.1))
  score := 0

/-! ### The draft as the tables of 9.1 and 10.3.1 give it -/

/-- A field of the draft: its offset, its bytes, and the ends of its range. -/
structure DraftField where
  offset : Nat
  size : Nat
  lo : Nat
  hi : Nat
  deriving DecidableEq, Repr

/-- Fields 1 to 29. -/
def draftTable : List DraftField :=
  [⟨0x00, 2, 5000, 24000⟩, ⟨0x02, 2, 5000, 24000⟩, ⟨0x04, 4, 5000, 240000⟩, ⟨0x08, 2, 500, 8000⟩, ⟨0x0A, 2, 500, 8000⟩,
   ⟨0x0C, 2, 500, 8000⟩, ⟨0x0E, 2, 500, 8000⟩, ⟨0x10, 2, 128, 256⟩, ⟨0x12, 2, 0, 256⟩, ⟨0x14, 2, 50, 1000⟩,
   ⟨0x16, 2, 0, 3000⟩, ⟨0x18, 2, 0, 65535⟩, ⟨0x1A, 1, 50, 95⟩, ⟨0x1B, 1, 1, 15⟩, ⟨0x1C, 1, 1, 50⟩, ⟨0x1D, 1, 1, 20⟩,
   ⟨0x1E, 1, 5, 25⟩, ⟨0x1F, 1, 100, 150⟩, ⟨0x20, 2, 2500, 20000⟩, ⟨0x22, 2, 1, 65535⟩, ⟨0x24, 2, 0, 65535⟩,
   ⟨0x26, 2, 0, 65535⟩, ⟨0x28, 2, 0, 10000⟩, ⟨0x2A, 2, 0, 10000⟩, ⟨0x2C, 2, 1, 10000⟩, ⟨0x2E, 2, 0, 8000⟩,
   ⟨0x30, 1, 1, 255⟩, ⟨0x31, 1, 1, 255⟩, ⟨0x32, 1, 0, 15⟩]

/-- A little-endian number in memory (R165). -/
def draftNumber (m : List Host.Cell) (a : Nat) : Nat → Nat
  | 0 => 0
  | n + 1 => (readByte m a).toNat + 256 * draftNumber m (a + 1) n

/-- A field's value in the draft, clamped; a DEAD_MV of 0 is kept (R166). -/
def DraftField.clamped (f : DraftField) (m : List Host.Cell) : Nat :=
  let n := draftNumber m f.offset f.size
  if f.offset = 0x20 ∧ n = 0 then 0 else max f.lo (min f.hi n)

/-- The three values of an ID entry place, from 0 (10.3.1). -/
def draftEntry (m : List Host.Cell) (k : Nat) : IdEntry :=
  ⟨draftNumber m (0x34 + 6 * k) 2, draftNumber m (0x36 + 6 * k) 2, draftNumber m (0x38 + 6 * k) 2⟩

/-- ID_COUNT of the draft. -/
def draftCount (m : List Host.Cell) : Nat := (readByte m 0x33).toNat

/-- The ID entries considered: 1 to ID_COUNT, none where ID_COUNT is above 8 (R166). -/
def draftEntries (m : List Host.Cell) : List IdEntry :=
  if draftCount m ≤ 8 then (List.range (draftCount m)).map (draftEntry m) else []

/-- An entry clamped (R166). -/
def entryClamped (e : IdEntry) : IdEntry := ⟨min e.lo 3300, min e.hi 3300, min e.amps 8000⟩

/-- The numbers of the clamped fields, rising (R167). -/
def draftReplaced (m : List Host.Cell) : List Nat :=
  ((draftTable.zip (List.range' 1 29)).filter fun f => decide (f.1.clamped m ≠ draftNumber m f.1.offset f.1.size)).map
    Prod.snd ++
  (((draftEntries m).zip (List.range' 31 8)).filter fun e => decide (entryClamped e.1 ≠ e.1)).map Prod.snd

/-- The first contradiction of the clamped draft, with its field and its reason: 1 ORDER, 2 COUNT (R168, R169). -/
def draftContradiction (m : List Host.Cell) : Option (Nat × Byte) :=
  let value := fun n => (draftTable[n - 1]?.map fun f => f.clamped m).getD 0
  if value 2 < value 1 then some (2, 1)
  else if value 24 ≤ value 23 then some (24, 1)
  else if 8 < draftCount m then some (30, 2)
  else
    (((draftEntries m).zip (List.range' 31 8)).find? fun e => decide ((entryClamped e.1).hi < (entryClamped e.1).lo)).map
      fun e => (e.2, 1)

/-! ### What an adoption leaves (R171), from `s` to `t` with the policy of `t` installed -/

/-- A connector whose PORT_ENABLE bit the adoption clears while it is attached (R4). -/
def State.disables (s t : State) (x : Connector) : Prop :=
  s.policy.enabled x = true ∧ t.policy.enabled x = false ∧ s.attached x = true

/-- The tracker of a connector and its owner's record, by the table of R4: a bit that stays leaves the tracker; a cleared one
makes it EMPTY, a detach where it was ATTACHED; a set one starts the attach interval where presence is asserted. -/
def State.adoptedTracker (s t : State) (x : Connector) : Prop :=
  (s.policy.enabled x = t.policy.enabled x → t.tracker x = s.tracker x) ∧
  (s.policy.enabled x = true → t.policy.enabled x = false →
    t.tracker x = (if (s.tracker x).state = .empty then s.tracker x else ⟨.empty, none, none⟩) ∧
    ((s.tracker x).state = .settling → match x with
      | .line p => (t.port p).state = .empty
      | .barrel => t.barrel.state = .empty) ∧
    (s.attached x = true → match x with
      | .line p => t.port p = PortRecord.cleared ∧ t.line p = Line.cleared ∧ t.queued p = false ∧
          (s.enginesOk → t.engineOf p = none)
      | .barrel => t.barrel = Barrel.cleared)) ∧
  (s.policy.enabled x = false → t.policy.enabled x = true → (s.tracker x).state = .empty →
    if s.presence.get x = true then
      t.tracker x = ⟨.settling, some t.policy.attachMs, none⟩ ∧ match x with
        | .line p => (t.port p).state = .settling
        | .barrel => t.barrel.state = .settling
    else t.tracker x = s.tracker x)

/-- The ID entry number and the amps a policy gives an average: the first entry that holds it, or 255 with the fallback
(R8). -/
def Policy.identified (q : Policy) (average : Nat) : Nat × Nat :=
  match q.ids.findIdx? fun e => decide (e.lo ≤ average ∧ average ≤ e.hi) with
  | some i => (i + 1, (q.ids.getD i ⟨0, 0, 0⟩).amps)
  | none => (255, q.fallback)

/-- Volts in the window and amps above 0 (R9). -/
def Policy.binds (q : Policy) (volts amps : Nat) : Bool := decide (q.vinMin ≤ volts ∧ volts ≤ q.vinMax ∧ amps ≠ 0)

/-- D is BOUND, or UNUSABLE for its volts or its amps: an adoption reclassifies it (R14). -/
def Barrel.judged (b : Barrel) : Prop :=
  b.state = .bound ∨ b.state = .unusable ∧ (b.cause = some .volts ∨ b.cause = some .noCurrent)

/-- A policy leaves a stored identification with the state, entry, volts and limit D has (R14; a change of the UNUSABLE cause
alone is none, DEDUCED log entry 17). -/
def Barrel.sameUnder (b : Barrel) (q : Policy) (i : StoredId) : Prop :=
  let found := q.identified i.average
  found.1 = i.entry ∧
    (q.binds i.volts found.2 = true → b.state = .bound ∧ b.live.map (fun k => (k.volts, k.limit)) = some (i.volts, found.2)) ∧
    (q.binds i.volts found.2 = false → b.state = .unusable ∧ b.live = none)

/-- The reclassification changes D (R14). -/
def State.reclassifies (s : State) (q : Policy) (i : StoredId) : Prop :=
  s.barrel.judged ∧ s.barrel.stored = some i ∧ ¬ s.barrel.sameUnder q i

/-- The barrel record of a D whose PORT_ENABLE bit stays (R14): as it was, or with the outcome of its stored average and
volts. MODEL'S CHOICE (log entry 33): a contract installed anew clears path_fault. -/
def State.adoptedBarrel (s t : State) : Prop :=
  ((∀ i, ¬ s.reclassifies t.policy i) → t.barrel = s.barrel) ∧
  ∀ i, s.reclassifies t.policy i →
    let found := t.policy.identified i.average
    t.barrel.stored = some ⟨i.average, found.1, i.volts⟩ ∧ t.barrel.released = s.barrel.released ∧
    (t.policy.binds i.volts found.2 = true → t.barrel.state = .bound ∧ t.barrel.cause = none ∧
      t.barrel.live = some ⟨.barrel, none, i.volts, found.2, found.2, false, false⟩ ∧ t.barrel.pathFault = false) ∧
    (t.policy.binds i.volts found.2 = false → t.barrel.state = .unusable ∧ t.barrel.live = none ∧
      t.barrel.cause = some (if i.volts < t.policy.vinMin ∨ t.policy.vinMax < i.volts then .volts else .noCurrent))

/-- A voltage outside a policy's window, whose bounds are in 100 mV steps (R86, R101). -/
def Policy.outside (q : Policy) (volts : Nat) : Bool :=
  decide (volts < (q.vinMin + 99) / 100 * 100 ∨ q.vinMax / 100 * 100 < volts)

/-- The record of a line port whose PORT_ENABLE bit stays: the image rescored, held ports' images too (R103); the pin void
outside the new window, and otherwise with its limit lowered to the new usable amps (R101); barred cleared; the figures of the
live contract kept (R172); and the call for selection applied as R63 gives (R103). -/
def State.adoptedPort (s t : State) (p : LinePort) : Prop :=
  let r := s.port p
  let u := t.port p
  let settledOn := fun (level volts limit : Nat) (shared : Bool) =>
    (r.state = .base ∨ r.state = .bound → t.chose p level volts limit shared) ∧
    (r.state = .claimed → u.state = .claimed ∧
        u.staged.map (fun k => (k.level, k.volts, k.limit)) = some (some level, volts, limit) ∨
      t.chose p level volts limit shared)
  u.image = r.image.map (fun i =>
    { i with levels := i.levels.map fun l => { l with score := levelScore t.policy (.line p) l } }) ∧
  u.barred = false ∧ u.held = r.held ∧ u.released = r.released ∧ u.silent = r.silent ∧ u.lapsing = r.lapsing ∧
  u.live.map (fun k => { k with shared := false }) = r.live.map (fun k => { k with shared := false }) ∧
  (r.pin = none → u.pin = none) ∧
  (∀ n i l, r.pin = some n → r.image = some i → n.level ≠ 0 → i.levels[n.level - 1]? = some l →
    (t.policy.outside n.volts = true → u.pin = none ∧ u.inFlight.map PortRequest.kind ≠ some .pin) ∧
    (t.policy.outside n.volts = false →
      let amps := min l.amps (t.policy.pathMax.get (.line p))
      u.pin = some { n with limit := if amps < n.limit then amps / 50 * 50 else n.limit })) ∧
  (r.state = .asking ∨ r.state = .faulted ∨ r.held = true ∨ r.released = true ∨ r.image = none →
    u.state = r.state ∧ u.staged = r.staged ∧ u.live = r.live) ∧
  (r.state = .shifting → r.image ≠ none →
    u.state = .shifting ∧ u.staged = r.staged ∧ u.live = r.live ∧ u.deferred = true) ∧
  ∀ i, r.image = some i → r.held = false → r.released = false →
    (u.pin = none → winner t.policy (.line p) i.levels = none → r.state = .base ∨ r.state = .bound ∨ r.state = .claimed →
      u.state = restingOn u.live ∧ (r.state = .claimed → u.staged = none)) ∧
    (∀ c, u.pin = none → winner t.policy (.line p) i.levels = some c →
      let limit := min (min c.level.amps (t.policy.pathMax.get (.line p))) (t.policy.ceiling * 1000 / c.volts) / 50 * 50
      settledOn c.index c.volts limit c.level.shared) ∧
    ∀ n l, u.pin = some n → 0 < n.level → i.levels[n.level - 1]? = some l → settledOn n.level n.volts n.limit l.shared

/-- An evaluation finds nothing to do (R108 to R110): IDLE only with nothing eligible, CLOSING and CLOSED on an eligible
connector, and CLOSED with no challenger at rest, be it the pin or, with the pin clear or void of effect and the battery not
flat, the leader beyond the margin. -/
def State.pathEvaluated (t : State) : Prop :=
  (t.path.state = .idle → ∀ x, t.eligible x = false) ∧ (∀ y, t.path.state = .closing y → t.eligible y = true) ∧
  ∀ z, t.path.state = .closed z → t.eligible z = true ∧
    ∀ y, y ≠ z → t.eligible y = true → t.atRest y = true →
      t.path.pin ≠ some y ∧
      ((∀ x, t.path.pin = some x → x = z ∨ t.eligible x = false) → t.meas.dead = false →
        (∀ w, t.eligible w = true → t.liveScore w ≤ t.liveScore y ∧
          (t.liveScore w = t.liveScore y → connectorNumber y ≤ connectorNumber w)) →
        t.liveScore y ≤ t.liveScore z + t.policy.switchMargin)

/-- The path after the evaluations of an adoption (R121, R172): a break runs on, a soft start runs on while its connector is
eligible, and a path that leaves CLOSING or CLOSED opens with the new BREAK_MS. -/
def State.adoptedPath (s t : State) : Prop :=
  let opened := fun y => t.path.state = .opening y ∧ t.path.switches = s.path.switches.set y false ∧
    t.path.breakTimer = some t.policy.breakMs
  t.path.pin = s.path.pin ∧ t.path.lastPrimary = s.path.lastPrimary ∧ t.pathEvaluated ∧
  (∀ y, s.path.state = .opening y →
    t.path.state = .opening y ∧ t.path.switches = s.path.switches ∧ t.path.breakTimer = s.path.breakTimer) ∧
  (∀ y, s.path.state = .closing y → s.eligible y = true →
    (t.eligible y = true → t.path.state = .closing y ∧ t.path.switches = s.path.switches ∧
      t.path.softStart = s.path.softStart ∧ t.path.checkDeferred = s.path.checkDeferred) ∧
    (t.eligible y = false → opened y)) ∧
  ∀ z, s.path.state = .closed z → s.eligible z = true →
    (t.path.state = .closed z ∧ t.path.switches = s.path.switches ∨ opened z) ∧ (t.eligible z = false → opened z)

/-- The regulator after an adoption (R160): the output, I_acc and the manual target in the new range, and a fall of SP_target
passed to SPf; all else kept unless the path left CLOSED (R155). -/
def State.adoptedRegulator (s t : State) : Prop :=
  let q := t.policy
  let clamp := fun n : Nat => max q.satLo (min q.satHi n)
  t.reg.mode = s.reg.mode ∧ t.reg.lastPV = s.reg.lastPV ∧ t.reg.saturation = s.reg.saturation ∧
  t.reg.manualTarget = clamp s.reg.manualTarget ∧ t.reg.spf ≤ s.reg.spf ∧ t.reg.spf ≤ t.reg.spTarget ∧
  (∀ p, t.path.state = .closed (.line p) → t.reg.spf = min s.reg.spf t.reg.spTarget) ∧
  (s.reg.mode = .off → t.reg.output = 0 ∧ t.reg.iacc = 0) ∧
  (s.reg.mode ≠ .off → t.pathClosed = false → t.reg.output = q.satLo ∧ t.reg.iacc = (q.satLo : Int) * 256) ∧
  (s.reg.mode ≠ .off → t.pathClosed = true → t.reg.output = clamp s.reg.output ∧
    t.reg.iacc = max ((q.satLo : Int) * 256) (min ((q.satHi : Int) * 256) s.reg.iacc)) ∧
  (s.pathClosed = t.pathClosed → t.reg.transfer = s.reg.transfer ∧ t.reg.overdraw = s.reg.overdraw) ∧
  (s.pathClosed = true → t.pathClosed = false → t.reg.transfer = false ∧ t.reg.overdraw = 0)

/-- The PIN_VOID record of a line port whose pin a policy makes void with VOLTS (R101, R100). -/
def State.voidRecord (s : State) (q : Policy) (p : LinePort) : List (Byte × Byte × List Byte) :=
  match (s.port p).pin, (s.port p).image with
  | some n, some _ =>
    if q.outside n.volts then
      [(0x10, connectorCode (some (.line p)), [BitVec.ofNat 8 n.level, 3] ++ le2 n.volts ++ le2 n.limit)]
    else []
  | _, _ => []

/-- The records that follow POLICY in an adoption, up to the first selection (R171): DETACH of the first disabled connector,
with FAILOVER where the path was CLOSED on it; else DEAD; else BARREL_ID, with FAILOVER where D was the primary; else the
PIN_VOIDs, of the ports in their order (MODEL'S CHOICE, log entry 7), which end a PIN in flight with LOST. -/
def State.adoptionRecords (s t : State) (policy : Byte × Byte × List Byte) : Prop :=
  let clears := s.meas.dead = true ∧ t.policy.deadMv = 0
  (∀ x, s.disables t x → (∀ y, s.disables t y → connectorNumber x ≤ connectorNumber y) → s.eligible x = true → s.enginesOk →
    s.journals t ([policy, (0x02, connectorCode (some x), match x with
      | .line p => le2 (s.port p).badFrame ++ le2 (s.port p).staleFrame ++ le2 (s.port p).missedHail
      | .barrel => [])] ++ s.failover x 1)) ∧
  ((∀ x, ¬ s.disables t x) →
    (clears → s.journals t [policy, (0x14, 0xFF, [0, 0] ++ le2 s.meas.table.vbat.last)]) ∧
    (¬ clears → s.attached .barrel = true → ∀ i, s.reclassifies t.policy i →
      let found := t.policy.identified i.average
      let bound := t.policy.binds i.volts found.2
      let outcome : Byte := if bound then 0 else if i.volts < t.policy.vinMin ∨ t.policy.vinMax < i.volts then 1 else 2
      let record : Byte × Byte × List Byte := (0x12, 3, [BitVec.ofNat 8 found.1, outcome] ++ le2 i.average ++ le2 i.volts ++
        le2 (if bound then found.2 else 0))
      s.journals t [policy, record] ∧
        (bound = false → s.eligible .barrel = true → s.journals t ([policy, record] ++ s.failover .barrel 3))) ∧
    (¬ clears → (∀ i, ¬ s.reclassifies t.policy i) →
      s.journals t (policy :: s.voidRecord t.policy .a ++ s.voidRecord t.policy .b ++ s.voidRecord t.policy .c) ∧
        ∀ p f, s.soleRequest p f → f.kind = .pin → s.voidRecord t.policy p ≠ [] → t.answered f.slot .lost))

/-! ### Kinds of commands -/

/-- The commands that are events of the terms line, of a timer of a port or of the path, or of a debounce interval. -/
def eventOnly : Instr → Bool
  | .attachIntervalExpiry _ => true
  | .detachIntervalExpiry _ => true
  | .hailPulse _ _ => true
  | .hailWithdrawn _ => true
  | .heedEnd _ => true
  | .heedWaitExpiry _ => true
  | .startDelimiter _ => true
  | .dataSymbol _ _ => true
  | .lineError _ => true
  | .lineSilence _ => true
  | .straySilence _ => true
  | .endDelimiter _ => true
  | .frameTransmitted _ => true
  | .tenderWaitExpiry _ => true
  | .claimWaitExpiry _ => true
  | .settleWaitExpiry _ => true
  | .lapseExpiry _ => true
  | .softStartExpiry => true
  | .breakExpiry => true
  | _ => false

/-- The request rows, each with where it stands and the byte of its kind (10.3.2). -/
def requestOf : Instr → Option (Posting × Byte)
  | .adopt q => some (q, 0x01)
  | .refresh q => some (q, 0x02)
  | .pin q _ _ _ => some (q, 0x03)
  | .unpin q => some (q, 0x04)
  | .hold q => some (q, 0x05)
  | .resume q => some (q, 0x06)
  | .release q => some (q, 0x07)
  | .primary q => some (q, 0x08)
  | .regulate q _ _ => some (q, 0x09)
  | .telemetry q _ _ => some (q, 0x0A)
  | .abort q _ => some (q, 0x0B)
  | _ => none

/-- A request was refused at once: its slot is DONE with a code and data, and nothing else changed. -/
def State.refused (s t : State) (q : Posting) (kind : Byte) (code : ResultCode) (data : List Byte) : Prop :=
  t.slotDone q kind code data ∧ s.slotAlone t q.slot ∧ t.withExch s.exch = s

/-- The requests that reach a line port, D or the Path Controller, with where they stand. -/
def routed : Instr → Option Posting
  | .refresh q => some q
  | .pin q _ _ _ => some q
  | .unpin q => some q
  | .hold q => some q
  | .resume q => some q
  | .release q => some q
  | .primary q => some q
  | _ => none

/-- A command changed none of what only the host, the presence inputs and the Policy Unit decide. -/
def State.settingsKept (s t : State) : Prop :=
  t.presence = s.presence ∧ t.policy = s.policy ∧ t.origin = s.origin ∧ t.time = s.time ∧ t.exch.mask = s.exch.mask ∧
    t.exch.released = s.exch.released ∧ t.meas.table = s.meas.table ∧ t.meas.reload = s.meas.reload ∧
    t.reg.mode = s.reg.mode ∧ t.reg.manualTarget = s.reg.manualTarget ∧ t.reg.lastPV = s.reg.lastPV ∧
    t.reg.saturation = s.reg.saturation ∧ t.latestVD = s.latestVD ∧ t.meas.dead = s.meas.dead ∧
    t.meas.periodTimer = s.meas.periodTimer ∧ t.meas.singlePending = s.meas.singlePending ∧
    t.meas.converting = s.meas.converting ∧ t.exch.telemetrySeq = s.exch.telemetrySeq ∧ t.exch.spiOut = s.exch.spiOut ∧
    ∀ a, a < 0x80 ∨ 0x380 ≤ a ∧ a < 0x400 ∨ 0x404 ≤ a ∧ a < 0x410 ∨ 0x610 ≤ a →
      readByte t.exch.mem a = readByte s.exch.mem a

end Sys2Proof.Machine
end

