-- ==== Sys2Proof/Certificates/Slice0/Obligations.lean ====
section
/-! DEFINITION. The statements about the PN48. `leads c s u` (Safety.lean) says that command `c` on `s` completes in `u`,
with the port pages of the changed records rewritten and nothing else changed. -/

open Sys2Proof Sys2Proof.Machine

/-! ### The queue of commands -/

/-- MODEL'S CHOICE (the block's queue; log entry 1): a step runs the command at the front with the queue's rest, and an
empty queue idles. -/
def Obligations.StepRunsFrontCommand : Prop :=
  (∀ s c rest, s.pending = c :: rest → step s = exec c (s.withPending rest)) ∧ ∀ s, s.pending = [] → step s = .next s

/-- MODEL'S CHOICE (log entry 1): no command touches the commands that wait. -/
def Obligations.CommandsLeaveQueue : Prop :=
  ∀ c s t, exec c s = .next t → t.pending = s.pending

/-! ### Power-on (R15, R54, R122, R138, R162, R175, R179, R194, R3) -/

/-- POWER_ON from any state: the Exchange Unit as R194 says, every block at its power-on values, the trackers of the
seated plugs in SETTLING with the default ATTACH_MS (R3). MODEL'S CHOICE (log entry 18): the command carries the presence
levels, the waiting commands stay, and the page of a seated plug is rewritten once, for its start of settling. -/
def Obligations.PowerOnState : Prop :=
  ∀ s a b c d, ∃ t, exec (.powerOn a b c d) s = .next t ∧
    (t.exch.attn = causeRestarted ∧ t.exch.mask = 0 ∧ t.attnL = true ∧ t.exch.written = 0 ∧ t.exch.released = 0 ∧
      t.exch.withheld = 0 ∧ t.time = 0 ∧ ∀ k, (t.exch.slot k).copy = .free ∧ (t.exch.slot k).mark = false) ∧
    t.presence = ⟨a, b, c, d⟩ ∧
    (∀ x, t.tracker x = if t.presence.get x then ⟨.settling, some 20, none⟩ else ⟨.empty, none, none⟩) ∧
    (∀ p, t.port p = { PortRecord.cleared with state := if t.presence.get (.line p) then .settling else .empty }) ∧
    t.barrel = { Barrel.cleared with state := if d then .settling else .empty } ∧ t.latestVD = 0 ∧
    (∀ p, t.line p = ⟨.idle, false, none, 0, 0, false⟩) ∧
    t.engines = ⟨.freed, .freed⟩ ∧ t.queue = [] ∧ t.prospect = none ∧
    t.path = ⟨.idle, ⟨false, false, false, false⟩, none, false, none, none, none, none⟩ ∧
    t.meas.dead = false ∧ t.meas.droop = ⟨0, 0, 0, 0⟩ ∧ t.meas.periodTimer = none ∧ t.meas.reload = 1000 ∧
    t.meas.singlePending = false ∧ t.meas.singles = [] ∧ t.meas.mode = .off ∧ t.meas.converting = some .iin ∧
    (∀ k, t.meas.table.get k = ⟨0, none, none⟩) ∧
    t.reg = ⟨0, 0, 0, 0, .auto, 0, false, 0, 0, 0⟩ ∧ t.policy = .initial ∧ t.origin = .default ∧
    (∀ i, i < 100 → readByte t.exch.mem i = (draftBytes t.policy).getD i 0) ∧
    (∀ a, 0x400 ≤ a ∧ a < 0x800 ∨ 0x80 ≤ a ∧ a < 0x180 → readByte t.exch.mem a = 0) ∧
    (∀ x, t.exch.pageRev.get x = (if t.presence.get x then 2 else 0) ∧ t.pageShown x) ∧
    (t.exch.telemetrySeq = 0 ∧
      ∀ i, i < 128 → readByte t.exch.mem (0x380 + i) = ([0, 0] ++ t.telemetryPage).getD i 0) ∧
    t.pending = s.pending

/-- Every invariant stated below holds in the state right after reset. -/
def Obligations.ResetIsSafe : Prop :=
  State.reset.memoryOk ∧ State.reset.journalOk ∧ State.reset.switchesOk ∧ State.reset.policy.inForce ∧
    State.reset.regulatorOk ∧ State.reset.openPathOk ∧ State.reset.recordsOk ∧ State.reset.enginesOk ∧
    State.reset.enginesServed ∧ State.reset.prospectOk ∧ State.reset.budgetOk

/-! ### What every step keeps -/

/-- Exchange memory stays in its canonical form, and no more than 32 journal records are unconsumed at any time (R187). -/
def Obligations.StepKeepsExchangeUnit : Prop :=
  ∀ s t, step s = .next t → (s.memoryOk → t.memoryOk) ∧ (s.journalOk → t.journalOk)

/-- A switch is closed exactly while the path is CLOSING or CLOSED on its connector, so at most one is (R105). -/
def Obligations.StepKeepsSwitches : Prop :=
  ∀ s t, s.switchesOk → step s = .next t →
    t.switchesOk ∧ ∀ x y, t.path.switches.get x = true → t.path.switches.get y = true → x = y

/-- The live policy stays within its ranges and without contradiction (R166, R168, R170). -/
def Obligations.StepKeepsPolicyInForce : Prop :=
  ∀ s t, s.policy.inForce → step s = .next t → t.policy.inForce

/-- SPf never exceeds SP_target; the output, I_acc and the manual target stay in the mode's ranges; and while the path is
not CLOSED the output stands at SATLO (at 0 in OFF), nothing is counted and no transfer is pending (R144, R148, R149, R155,
R156). -/
def Obligations.StepKeepsRegulator : Prop :=
  ∀ s t, s.policy.inForce → step s = .next t →
    (s.regulatorOk → t.regulatorOk) ∧ (s.openPathOk → t.openPathOk)

/-- The contracts, timers and states of every connector's record agree (R56, section 4.2, sections 1.2 and 1.5). -/
def Obligations.StepKeepsRecordsConsistent : Prop :=
  ∀ s t, s.recordsOk → step s = .next t → t.recordsOk

/-- Leases and queue entries stay unique and belong to attached ports (R37, R39, R49). No port waits that could be served: no
engine is FREE while the queue holds an entry (R42), an attached port with a filled slot or a hail holds an engine or an
entry (R39), HAIL entries stand ahead of SEND entries (R40), and each line is as its engine has it (3.1). -/
def Obligations.StepKeepsEnginesExclusive : Prop :=
  ∀ s t, s.enginesOk → step s = .next t → t.enginesOk ∧ (s.enginesServed → t.enginesServed)

/-- The primary prospect is the one R94 gives (R95), and SP_target is the figure R141 gives (R142, R160). -/
def Obligations.StepKeepsDerivedFigures : Prop :=
  ∀ s t, s.recordsOk → step s = .next t → (s.prospectOk → t.prospectOk) ∧ (s.budgetOk → t.budgetOk)

/-- After every command, the page of each connector whose record the command changed shows that record under its revision
word, whose parity no command but POWER_ON changes (R190, R191). MODEL'S CHOICE: D's request in flight counts as an item of
its record (log entry 32), and the bytes of absent items that the layout does not name are 0 (log entry 21). -/
def Obligations.ChangedRecordsAreOnTheirPages : Prop :=
  (∀ c s t x, exec c s = .next t → recordChanged s t x = true → t.pageShown x) ∧
    ∀ c s t x, exec c s = .next t → (∀ a b d e, c ≠ .powerOn a b d e) →
      (t.exch.pageRev.get x).getLsbD 0 = (s.exch.pageRev.get x).getLsbD 0

/-! ### What no other command touches -/

/-- The live policy and its origin change only where the slot reader may take an ADOPT, or at power-on (R164, R170, R175);
the host's scratch area and the end of the draft area change only by MEM_WRITE and POWER_ON (R179, section 10.2). -/
def Obligations.PolicyAndScratchFrames : Prop :=
  ∀ c s t, exec c s = .next t → (∀ a b d e, c ≠ .powerOn a b d e) →
    (examines c = false → t.policy = s.policy ∧ t.origin = s.origin) ∧
      ∀ a, (∀ x y, c ≠ .memWrite x y) → (0x64 ≤ a ∧ a < 0x80 ∨ 0x610 ≤ a) →
        readByte t.exch.mem a = readByte s.exch.mem a

/-- The events of lines, timers and debounce intervals, and the requests to a line port, D or the Path Controller, leave
what other commands decide: the policy, the presence inputs, ATTN_MASK, the release point, the result table, the regulator's
mode, manual target and counts, telemetry, the time base, the trackers (but for the debounce expiries), and memory outside
the slots, the port pages, the journal and its counts. -/
def Obligations.EventsAndPortRequestsKeepSettings : Prop :=
  ∀ c s t, exec c s = .next t → (eventOnly c = true ∨ ∃ q, routed c = some q ∧ s.slotReady q.slot) →
    s.settingsKept t ∧
      ((∀ x, c ≠ .attachIntervalExpiry x ∧ c ≠ .detachIntervalExpiry x) → t.trackers = s.trackers)

/-! ### Presence (R1, R2, R4, R57, R13) -/

/-- PRESENCE_ASSERTED and PRESENCE_REMOVED: the input is recorded; on an enabled connector an EMPTY tracker enters SETTLING
for the live ATTACH_MS and a SETTLING one goes back to EMPTY, each followed by its owner; in ATTACHED a removal starts the
detach interval with the live DETACH_MS unless it runs, and an assertion stops it (R1, R2, R4, R13, R57). -/
def Obligations.PresenceMovesTheTracker : Prop :=
  ∀ s x,
    (let u := s.withPresence (s.presence.set x true)
      let state := (s.tracker x).state
      (s.policy.enabled x = true → state = .empty →
        leads (.presenceAsserted x) s
          (let w := u.withTrackers (s.trackers.set x ⟨.settling, some s.policy.attachMs, none⟩)
          match x with
          | .line p => w.withPorts (s.ports.set p { s.port p with state := .settling })
          | .barrel => w.withBarrel { s.barrel with state := .settling })) ∧
      (s.policy.enabled x = true → state = .attached →
        leads (.presenceAsserted x) s
          (u.withTrackers (s.trackers.set x { s.tracker x with detachInterval := none }))) ∧
      (s.policy.enabled x = false ∨ state = .settling → leads (.presenceAsserted x) s u)) ∧
    (let u := s.withPresence (s.presence.set x false)
      let state := (s.tracker x).state
      (s.policy.enabled x = true → state = .settling →
        leads (.presenceRemoved x) s
          (let w := u.withTrackers (s.trackers.set x ⟨.empty, none, none⟩)
          match x with
          | .line p => w.withPorts (s.ports.set p { s.port p with state := .empty })
          | .barrel => w.withBarrel { s.barrel with state := .empty })) ∧
      (s.policy.enabled x = true → state = .attached →
        leads (.presenceRemoved x) s
          (u.withTrackers (s.trackers.set x
            { s.tracker x with detachInterval := some ((s.tracker x).detachInterval.getD s.policy.detachMs) }))) ∧
      (s.policy.enabled x = false ∨ state = .empty → leads (.presenceRemoved x) s u))

/-- ATTACH_INTERVAL_EXPIRY on a line port: ATTACHED with its line IDLE; BASE live contract, first ASK, ASKING (R1, R17,
R57). The lower FREE engine begins to send the ASK: its tag is the tag counter's value, which moves on, and its bytes are
those of R20 to R22 (R39, R43, R46, R23); with no engine FREE the port joins the queue (R39). On D: IDENTIFYING with an
empty accumulator (R13). No other tracker changes, and the journal takes ATTACH. -/
def Obligations.AttachExpiryAttaches : Prop :=
  (∀ s p n, (s.tracker (.line p)).state = .settling → (s.tracker (.line p)).attachInterval = some n →
    ∃ t, exec (.attachIntervalExpiry (.line p)) s = .next t ∧
      t.trackers = s.trackers.set (.line p) ⟨.attached, none, none⟩ ∧ (t.port p).state = .asking ∧
      (t.port p).live = some ⟨.base, none, 5000, 500, 500, false, false⟩ ∧ (t.port p).askAttempts = 1 ∧
      (t.port p).timer = .stopped ∧
      ((s.withTrackers t.trackers).withLines (s.lines.set p ⟨.idle, false, none, 0, 0, false⟩)).puts t p .ask ∧
      s.journals t [(0x01, connectorCode (some (.line p)), [])] ∧ t.barrel = s.barrel) ∧
  ∀ s n, (s.tracker .barrel).state = .settling → (s.tracker .barrel).attachInterval = some n →
    ∃ t, exec (.attachIntervalExpiry .barrel) s = .next t ∧
      t.trackers = s.trackers.set .barrel ⟨.attached, none, none⟩ ∧
      t.barrel = { s.barrel with state := .identifying, count := 0, sum := 0 } ∧ s.journals t [(0x01, 3, [])]

/-- DETACH_INTERVAL_EXPIRY: the tracker is EMPTY, the record is cleared, the line port loses its line, lease and queue
entry, its engine serves the head of the queue (R42, R43), the droop counter is 0, and D keeps the latest VD (R2, R5, R13,
R49, R58). A path on the connector opens, the journal takes DETACH with the counters and, where the path was CLOSED, FAILOVER
with DETACHED (R116); a PRIMARY in flight for it ends with LOST (R118). DEDUCED (log entry 16): a soft start ends with the
CLOSING it belongs to. -/
def Obligations.DetachExpiryClears : Prop :=
  (∀ s p n, s.enginesOk → (s.tracker (.line p)).state = .attached → (s.tracker (.line p)).detachInterval = some n →
    ∃ t, exec (.detachIntervalExpiry (.line p)) s = .next t ∧
      t.trackers = s.trackers.set (.line p) ⟨.empty, none, none⟩ ∧ t.port p = PortRecord.cleared ∧
      t.line p = Line.cleared ∧ t.queued p = false ∧ t.engineOf p = none ∧ t.meas.droop.get (.line p) = 0 ∧
      t.barrel = s.barrel ∧
      (∀ e q rest, s.engineOf p = some e → s.queue = q :: rest →
        ((s.line q.port).hail = true →
          (t.engine e).lease = some ⟨q.port, q.cls⟩ ∧ (t.engine e).state = .heeding) ∧
        ((s.line q.port).hail = false → ∀ f, (s.port q.port).slot = some f → (s.line q.port).cond = .idle →
          let tag := (s.port q.port).tagCounter
          t.engine e = ⟨.sending, some ⟨q.port, q.cls⟩, false, [], some ⟨f, tag, sentBytes f tag⟩⟩)) ∧
      (s.eligible (.line p) = true →
        (s.path.state = .closing (.line p) ∨ s.path.state = .closed (.line p) → s.pathOpened t (.line p)) ∧
        s.journals t ([(0x02, connectorCode (some (.line p)),
          le2 (s.port p).badFrame ++ le2 (s.port p).staleFrame ++ le2 (s.port p).missedHail)] ++ s.failover (.line p) 1) ∧
        ∀ q, s.solePrimary q → q.target = .line p → s.path.state ≠ .opening (.line p) →
          t.path.inFlight = none ∧ t.answered q.slot .lost)) ∧
  ∀ s n, (s.tracker .barrel).state = .attached → (s.tracker .barrel).detachInterval = some n →
    ∃ t, exec (.detachIntervalExpiry .barrel) s = .next t ∧
      t.trackers = s.trackers.set .barrel ⟨.empty, none, none⟩ ∧ t.barrel = Barrel.cleared ∧
      t.latestVD = s.latestVD ∧ t.meas.droop.get .barrel = 0 ∧
      (s.eligible .barrel = true →
        (s.path.state = .closing .barrel ∨ s.path.state = .closed .barrel → s.pathOpened t .barrel) ∧
        s.journals t ([(0x02, 3, [])] ++ s.failover .barrel 1) ∧
        ∀ q, s.solePrimary q → q.target = .barrel → s.path.state ≠ .opening .barrel →
          t.path.inFlight = none ∧ t.answered q.slot .lost)

/-! ### Measurement (R124-R136, R7-R9) and the regulator step (R145-R158) -/

/-- CORE_SEQUENCE_START begins a sequence with IIN; VSYS goes into the table alone; IIN_COMPLETION while the path is not
CLOSED enters its result, and CLOSED in OFF it also sets the last PV (R124, R125, R126, R146). MODEL'S CHOICE (log entry 2):
the start advances the ms time base by 1. -/
def Obligations.ConversionsOutsideTheRegulator : Prop :=
  (∀ s, leads .coreSequenceStart s ((s.withTime (s.time + 1)).withMeas { s.meas with converting := some .iin })) ∧
    (∀ s r, leads (.vsysCompletion r) s
      (s.entered { s.meas.table with vsys := rowAfter s.meas.table.vsys (min 25500 r.toNat) } (some .idd))) ∧
    ∀ s r,
      let v : Nat := min 10000 r.toNat
      let u := s.entered { s.meas.table with iin := rowAfter s.meas.table.iin v } (some (.volts (.line .a)))
      (s.pathClosed = false → leads (.iinCompletion r) s u) ∧
        (s.pathClosed = true → s.reg.mode = .off → leads (.iinCompletion r) s (u.withReg { s.reg with lastPV := v }))

/-- The PI step of AUTO (R147), after the filter advance (R145), where the guard does not trip, with the overdraw and the
saturation count (R157, R158). -/
def Obligations.IinStepInAuto : Prop :=
  ∀ s r x k, s.path.state = .closed x → s.live x = some k → s.reg.mode = .auto → s.reg.transfer = false →
    let v : Nat := min 10000 r.toNat
    let above := k.limit * s.policy.overdrawPct / 100 < v
    (above → s.reg.overdraw + 1 < 10) →
    let spf : Nat := if s.reg.spf < s.reg.spTarget then
      s.reg.spf + max 1 (s.policy.alpha * (s.reg.spTarget - s.reg.spf) / 65536) else s.reg.spf
    let e : Int := (spf : Int) - v
    let acc := max ((s.policy.satLo : Int) * 256) (min ((s.policy.satHi : Int) * 256) (s.reg.iacc + s.policy.ki * e))
    let out := (max (s.policy.satLo : Int) (min (s.policy.satHi : Int) ((s.policy.kp * e + acc).tdiv 256))).toNat
    leads (.iinCompletion r) s
      ((s.entered { s.meas.table with iin := rowAfter s.meas.table.iin v } (some (.volts (.line .a)))).withReg
        { s.reg with
          spf := spf, iacc := acc, output := out, lastPV := v, overdraw := if above then s.reg.overdraw + 1 else 0
          saturation := if out = s.policy.satHi then counted s.reg.saturation else s.reg.saturation })

/-- The first AUTO step with transfer pending (R152): the integral takes what the proportional term does not, so that the
output stays where the clamp of I_acc does not act. -/
def Obligations.IinTransferStepIsBumpless : Prop :=
  ∀ s r x k, s.path.state = .closed x → s.live x = some k → s.reg.mode = .auto → s.reg.transfer = true →
    s.reg.inRange s.policy → s.policy.satLo ≤ s.policy.satHi →
    let v : Nat := min 10000 r.toNat
    v ≤ k.limit * s.policy.overdrawPct / 100 →
    let spf : Nat := if s.reg.spf < s.reg.spTarget then
      s.reg.spf + max 1 (s.policy.alpha * (s.reg.spTarget - s.reg.spf) / 65536) else s.reg.spf
    let acc : Int := (s.reg.output : Int) * 256 - s.policy.kp * ((spf : Int) - v)
    ((s.policy.satLo : Int) * 256 ≤ acc ∧ acc ≤ (s.policy.satHi : Int) * 256) →
    ∃ t, exec (.iinCompletion r) s = .next t ∧ t.reg.output = s.reg.output ∧ t.reg.iacc = acc ∧ t.reg.spf = spf ∧
      t.reg.transfer = false ∧ t.reg.overdraw = 0 ∧ t.reg.lastPV = v ∧ t.reg.mode = .auto ∧
      t.reg.spTarget = s.reg.spTarget ∧ t.reg.manualTarget = s.reg.manualTarget ∧ t.exch = s.exch ∧
      t.withReg s.reg = s.entered { s.meas.table with iin := rowAfter s.meas.table.iin v } (some (.volts (.line .a)))

/-- The MANUAL step: after the filter advance the output moves toward the manual target, to it where the difference is at
most MANUAL_RATE and by MANUAL_RATE otherwise; I_acc is output × 256; the ramp keeps the output in [SATLO, SATHI]; and the
guard counts and trips as in AUTO, the manual target then taking SATLO (R149, R145, R157). -/
def Obligations.IinStepInManual : Prop :=
  ∀ s r x k, s.path.state = .closed x → s.live x = some k → s.reg.mode = .manual →
    let v : Nat := min 10000 r.toNat
    let above := k.limit * s.policy.overdrawPct / 100 < v
    let spf : Nat := if s.reg.spf < s.reg.spTarget then
      s.reg.spf + max 1 (s.policy.alpha * (s.reg.spTarget - s.reg.spf) / 65536) else s.reg.spf
    let target : Int := s.reg.manualTarget
    let output : Int := s.reg.output
    let rate : Int := s.policy.manualRate
    ((above → s.reg.overdraw + 1 < 10) →
      ∃ out : Nat,
        (out : Int) = (if (target - output).natAbs ≤ rate then target
          else if output < target then output + rate else output - rate) ∧
        (s.reg.inRange s.policy → s.policy.satLo ≤ out ∧ out ≤ s.policy.satHi) ∧
        leads (.iinCompletion r) s
          ((s.entered { s.meas.table with iin := rowAfter s.meas.table.iin v } (some (.volts (.line .a)))).withReg
            { s.reg with
              spf := spf, output := out, iacc := (out : Int) * 256, lastPV := v
              overdraw := if above then s.reg.overdraw + 1 else 0 })) ∧
    (above → s.reg.overdraw = 9 →
      ∃ t, exec (.iinCompletion r) s = .next t ∧
        t.reg = { s.reg with
          spf := spf, output := s.policy.satLo, iacc := (s.policy.satLo : Int) * 256, lastPV := v, overdraw := 0
          manualTarget := s.policy.satLo })

/-- The tenth sample in a row above the threshold trips the guard: SATLO, and OVERDRAW in the journal (R157). A record
submitted while fewer than 32 are unconsumed is written with the next number, which the word at 0x400 takes, and sets
JOURNAL (R187); while 32 are, it is withheld: the count, which saturates, and its word at 0x402 rise, and JOURNAL_FULL is
set (R189). -/
def Obligations.OverdrawGuardTrips : Prop :=
  ∀ s r x k, s.path.state = .closed x → s.live x = some k → s.reg.mode ≠ .off → s.reg.overdraw = 9 →
    let v : Nat := min 10000 r.toNat
    let thr := k.limit * s.policy.overdrawPct / 100
    thr < v →
    let n := s.exch.written + 1
    let entry := 0x410 + 16 * ((n.toNat + 31) % 32)
    let data := [s.reg.mode.code, 0] ++ le2 v ++ le2 thr
    ∃ t, exec (.iinCompletion r) s = .next t ∧ t.reg.output = s.policy.satLo ∧
      t.reg.iacc = (s.policy.satLo : Int) * 256 ∧ t.reg.overdraw = 0 ∧
      t.reg.manualTarget = (if s.reg.mode = .manual then s.policy.satLo else s.reg.manualTarget) ∧
      t.reg.mode = s.reg.mode ∧ t.reg.lastPV = v ∧
      t.exch = s.exch.submit s.time 0x0F (BitVec.ofNat 8 (connectorNumber x)) data ∧
      (s.exch.unconsumed < 32 →
        t.exch = { s.exch with mem := t.exch.mem, written := n, attn := s.exch.attn ||| causeJournal } ∧
        (∀ j, j < 16 → readByte t.exch.mem (entry + j) =
          (le2 n.toNat ++ [0x0F, connectorCode (some x)] ++ le4 s.time.toNat ++ padTo 8 data).getD j 0) ∧
        readByte t.exch.mem 0x400 = BitVec.ofNat 8 n.toNat ∧ readByte t.exch.mem 0x401 = BitVec.ofNat 8 (n.toNat / 256) ∧
        ∀ a, a < 0x400 ∨ 0x402 ≤ a → (a < entry ∨ entry + 16 ≤ a) → readByte t.exch.mem a = readByte s.exch.mem a) ∧
      (32 ≤ s.exch.unconsumed →
        t.exch = { s.exch with
          mem := t.exch.mem, withheld := counted s.exch.withheld, attn := s.exch.attn ||| causeJournalFull } ∧
        readByte t.exch.mem 0x402 = BitVec.ofNat 8 (counted s.exch.withheld) ∧
        readByte t.exch.mem 0x403 = BitVec.ofNat 8 (counted s.exch.withheld / 256) ∧
        ∀ a, a < 0x402 ∨ 0x404 ≤ a → readByte t.exch.mem a = readByte s.exch.mem a) ∧
      t.ports = s.ports ∧ t.path = s.path

/-- VOLTAGE_COMPLETION enters its result, and a VD result is the latest VD (R7, R125). The droop counter becomes 0 where
the droop check does not apply, which it does not in CLOSING, SHIFTING or while lapsing, or the sample is not below the
threshold, and rises by 1 for a low sample below DROOP_COUNT, on a line port in a state to which the check applies and not
lapsing, or on D with a contract (R127, R128). -/
def Obligations.VoltageSampleCountsDroop : Prop :=
  ∀ s x r,
    let v : Nat := min 25500 r.toNat
    let low := fun k : Contract => v < k.volts * s.policy.droopPct / 100
    let entered := fun t : State =>
      t.meas.table = { s.meas.table with volts := s.meas.table.volts.set x (rowAfter (s.meas.table.volts.get x) v) } ∧
        t.latestVD = (if x = .barrel then v else s.latestVD) ∧ (t.withMeas s.meas).withLatestVD s.latestVD = s
    ((s.path.state = .closing x ∧ s.path.checkDeferred = false ∨
        (s.path.state ≠ .closing x ∧ ∀ k, s.live x = some k → ¬ low k) ∨
        ∃ p, x = .line p ∧ ((s.port p).state = .shifting ∨ (s.port p).lapsing ≠ none)) →
      ∃ t, exec (.voltageCompletion x r) s = .next t ∧ t.meas.droop = s.meas.droop.set x 0 ∧ entered t) ∧
    ∀ k, s.live x = some k → s.path.state ≠ .closing x →
      (match x with
        | .line p => ((s.port p).state = .asking ∨ (s.port p).state = .base ∨ (s.port p).state = .claimed ∨
            (s.port p).state = .bound ∨ (s.port p).state = .faulted) ∧ (s.port p).lapsing = none
        | .barrel => s.barrel.state = .bound ∨ s.barrel.state = .identifying) →
      low k → s.meas.droop.get x + 1 < s.policy.droopCount →
      ∃ t, exec (.voltageCompletion x r) s = .next t ∧
        t.meas.droop = s.meas.droop.set x (s.meas.droop.get x + 1) ∧ entered t

/-- The low sample that completes DROOP_COUNT clears the counter and makes a droop report, journalled as DROOP: a line port
without a lapse faults with DROOP, falls to BASE and gives its feeder back (R129, R75, R76); in FAULTED the report changes
nothing in its record (R76); D becomes UNUSABLE and loses its contract (R12). The GIVEBACK is sent or waits as `puts` says.
A CLOSED path on the connector opens with FAILOVER (R116); from CLOSED no soft start runs, and that none does afterwards is
DEDUCED (log entry 16). -/
def Obligations.DroopFaultsTheConnector : Prop :=
  (∀ s p r k, s.live (.line p) = some k → s.path.state ≠ .closing (.line p) →
    ((s.port p).state = .asking ∨ (s.port p).state = .base ∨ (s.port p).state = .claimed ∨ (s.port p).state = .bound ∨
      (s.port p).state = .faulted) →
    (s.port p).lapsing = none →
    let v : Nat := min 25500 r.toNat
    let threshold := k.volts * s.policy.droopPct / 100
    let n := connectorCode (some (.line p))
    let droop : Byte × Byte × List Byte := (0x15, n, le2 v ++ le2 threshold)
    v < threshold → s.policy.droopCount ≤ s.meas.droop.get (.line p) + 1 →
    ((s.port p).state ≠ .faulted →
      ∃ t, exec (.voltageCompletion (.line p) r) s = .next t ∧ t.meas.droop.get (.line p) = 0 ∧
        (t.port p).state = .faulted ∧ (t.port p).cause = some .droop ∧ (t.port p).live = some Contract.base ∧
        (t.port p).staged = none ∧ (t.port p).timer = .stopped ∧ (t.port p).askTag = none ∧ (t.port p).claimTag = none ∧
        s.puts t p .giveback ∧ (t.port p).pin = (s.port p).pin ∧ t.policy = s.policy ∧
        (s.eligible (.line p) = true →
          s.journals t ([droop, (0x09, n, [3])] ++ s.failover (.line p) 2) ∧
          (s.path.state = .closed (.line p) → s.pathOpened t (.line p)))) ∧
    ((s.port p).state = .faulted → s.prospectOk →
      ∃ t, exec (.voltageCompletion (.line p) r) s = .next t ∧ t.meas.droop = s.meas.droop.set (.line p) 0 ∧
        s.journals t [droop] ∧ (s.exch.unconsumed < 32 → t.exch.written = s.exch.written + 1) ∧
        (t.port p).state = .faulted ∧ (t.port p).cause = (s.port p).cause ∧ (t.port p).live = (s.port p).live ∧
        (t.port p).image = (s.port p).image ∧ t.path = s.path ∧ t.barrel = s.barrel)) ∧
  ∀ s r k, s.barrel.live = some k → s.path.state ≠ .closing .barrel →
    (s.barrel.state = .bound ∨ s.barrel.state = .identifying) →
    let v : Nat := min 25500 r.toNat
    let threshold := k.volts * s.policy.droopPct / 100
    v < threshold → s.policy.droopCount ≤ s.meas.droop.get .barrel + 1 →
    ∃ t, exec (.voltageCompletion .barrel r) s = .next t ∧ t.meas.droop.get .barrel = 0 ∧
      t.barrel.state = .unusable ∧ t.barrel.cause = some .droop ∧ t.barrel.live = none ∧
      t.barrel.stored = s.barrel.stored ∧ t.policy = s.policy ∧
      (s.eligible .barrel = true →
        s.journals t ([(0x15, 3, le2 v ++ le2 threshold)] ++ s.failover .barrel 3) ∧
        (s.path.state = .closed .barrel → s.pathOpened t .barrel))

/-- VBAT_COMPLETION: the flag as R131 compares it; a change is journalled as DEAD, and with the flag unchanged nothing else
happens (R125, R131). -/
def Obligations.VbatDecidesDeadFlag : Prop :=
  ∀ s r,
    let v : Nat := min 25500 r.toNat
    let dead := decide (s.policy.deadMv ≠ 0 ∧
      if s.meas.dead = true then v < s.policy.deadMv + 500 else v < s.policy.deadMv)
    let table := { s.meas.table with vbat := rowAfter s.meas.table.vbat v }
    (∃ t, exec (.vbatCompletion r) s = .next t ∧ t.meas.dead = dead ∧ t.meas.table = table ∧
      t.barrel = s.barrel ∧ t.presence = s.presence ∧ t.trackers = s.trackers ∧ t.policy = s.policy ∧
      (dead ≠ s.meas.dead → s.journals t [(0x14, 0xFF, [if dead then 1 else 0, 0] ++ le2 v)])) ∧
      (dead = s.meas.dead → leads (.vbatCompletion r) s (s.entered table (some .vsys)))

/-- IDD_COMPLETION outside identification and without single pending only enters its result; in IDENTIFYING it is one of
the eight samples (R7, R125, R126). With single pending the sequence it ends is published as well, single pending clears,
and every waiting SINGLE completes with OK and the reload period (R133, R134, R136). DEDUCED (log entry 22): the published
page shows the state after the identification that the same result completes. -/
def Obligations.IddSampleIsCounted : Prop :=
  (∀ s r, s.meas.singlePending = false →
    let v : Nat := min 3300 r.toNat
    let u := s.entered { s.meas.table with idd := rowAfter s.meas.table.idd v } none
    (s.barrel.state ≠ .identifying → leads (.iddCompletion r) s u) ∧
      (s.barrel.state = .identifying → s.barrel.count < 7 → s.prospectOk →
        leads (.iddCompletion r) s (u.withBarrel { s.barrel with count := s.barrel.count + 1, sum := s.barrel.sum + v }))) ∧
  ∀ s r, s.meas.singlePending = true →
    ∃ u t, exec (.iddCompletion r) (s.withMeas { s.meas with singlePending := false }) = .next u ∧
      exec (.iddCompletion r) s = .next t ∧ u.published t ∧ t.meas.singlePending = false ∧ t.meas.singles = [] ∧
      (∀ k, k ∈ s.meas.singles → t.answered k .ok ∧
        ∀ i, i < 16 → readByte t.exch.mem (slotAddress k + 16 + i) = (padTo 16 (le2 s.meas.reload)).getD i 0) ∧
      (∀ k, k ∉ s.meas.singles → t.exch.slot k = u.exch.slot k) ∧
      t.meas.droop = u.meas.droop ∧ t.meas.periodTimer = u.meas.periodTimer ∧ t.ports = u.ports ∧ t.barrel = u.barrel ∧
      t.path = u.path ∧ t.exch.written = u.exch.written

/-- The eighth sample ends the identification: the average is searched in the ID table, the contract volts are the latest
VD rounded down to 100 mV, D is BOUND on a BARREL contract or UNUSABLE, and BARREL_ID is journalled (R8, R9, R10). A REFRESH
in flight on D completes with OK or NO_USABLE_LEVEL (R11). -/
def Obligations.EighthSampleIdentifies : Prop :=
  ∀ s r, s.barrel.state = .identifying → s.barrel.count = 7 →
    let average := (s.barrel.sum + min 3300 r.toNat) / 8
    let found := s.policy.ids.findIdx? fun e => decide (e.lo ≤ average ∧ average ≤ e.hi)
    let amps := match found with
      | some i => (s.policy.ids.getD i ⟨0, 0, 0⟩).amps
      | none => s.policy.fallback
    let entry := match found with
      | some i => i + 1
      | none => 255
    let volts := s.latestVD - s.latestVD % 100
    let bound := s.policy.vinMin ≤ volts ∧ volts ≤ s.policy.vinMax ∧ amps ≠ 0
    let outcome : Byte := if bound then 0 else if volts < s.policy.vinMin ∨ s.policy.vinMax < volts then 1 else 2
    ∃ t, exec (.iddCompletion r) s = .next t ∧ t.barrel.stored = some ⟨average, entry, volts⟩ ∧
      t.barrel.refreshPending = false ∧ t.barrel.inFlight = none ∧ t.barrel.released = s.barrel.released ∧
      t.policy = s.policy ∧
      s.journals t [(0x12, 3, [BitVec.ofNat 8 entry, outcome] ++ le2 average ++ le2 volts ++ le2 (if bound then amps else 0))] ∧
      (∀ k, s.barrel.inFlight = some k → (s.withBarrel { s.barrel with inFlight := none }).unheld k →
        t.answered k (if bound then .ok else .noUsableLevel)) ∧
      if bound then
        t.barrel.state = .bound ∧ t.barrel.cause = none ∧
          t.barrel.live = some ⟨.barrel, none, volts, amps, amps, false, false⟩ ∧ t.barrel.pathFault = false
      else t.barrel.state = .unusable ∧ t.barrel.live = none ∧
        t.barrel.cause = some (if volts < s.policy.vinMin ∨ s.policy.vinMax < volts then .volts else .noCurrent)

/-- PERIOD_TIMER_EXPIRY publishes: the sequence word rises by 2 over the page, TELEMETRY is set, every spread empties, the
saturation count clears, the timer starts again with the reload period (R135, R136, R158, R190, R192). -/
def Obligations.PeriodExpiryPublishes : Prop :=
  ∀ s n, s.meas.periodTimer = some n →
    ∃ t, exec .periodTimerExpiry s = .next t ∧
      (∀ i, i < 128 → readByte t.exch.mem (0x380 + i) =
        (le2 (s.exch.telemetrySeq + 2).toNat ++ s.telemetryPage).getD i 0) ∧
      (∀ a, a < 0x380 ∨ 0x400 ≤ a → readByte t.exch.mem a = readByte s.exch.mem a) ∧
      t.exch.attn = s.exch.attn ||| causeTelemetry ∧ t.exch.telemetrySeq = s.exch.telemetrySeq + 2 ∧
      t.meas.periodTimer = some s.meas.reload ∧ t.reg = { s.reg with saturation := 0 } ∧
      (∀ c, t.meas.table.get c = ⟨(s.meas.table.get c).last, none, none⟩) ∧
      t.meas.singlePending = s.meas.singlePending ∧ t.meas.droop = s.meas.droop ∧ t.ports = s.ports ∧
      t.barrel = s.barrel ∧ t.path = s.path

/-! ### The terms line (R17-R31, R43-R52) -/

/-- HAIL_PULSE by the line condition. On an IDLE line a pulse that is not 100 µs after the one before starts the count anew,
a second spaced pulse is counted, and the third sets hail present and leaves IDLE (R18): a port with neither an engine nor an
entry has the lower FREE engine heed, or queues behind the last HAIL entry; a queued SEND entry becomes HAIL and moves there;
a HAIL entry, or a port with an engine, changes neither engines nor queue (R39-R41). In HAILED a pulse is noted, in SENDING
not seen (R18); in HEEDED it is a missed hail (R45), in RECEIVING and STRAY it breaks the frame (R25, R31), the freed engine
given out as `leaseEnds` says, and an engine in WAIT_LINE looking at its port again (R46). A wire that is not attached is
ignored (R17). MODEL'S CHOICE (log entry 10): exact spacing. DEDUCED (log entry 11): the pulse that breaks a frame is not the
first of a new tone. -/
def Obligations.ThirdSpacedPulseIsAHail : Prop :=
  (∀ s p time, s.attached (.line p) = false → leads (.hailPulse p time) s s) ∧
  ∀ s p time, s.attached (.line p) = true →
    let noted : Line := { (s.line p).idled with lastPulse := some time }
    let spaced := (s.line p).lastPulse = some (time - 100) ∧ 100 ≤ time
    ((s.line p).cond = .idle →
      (¬ spaced ∨ (s.line p).pulses = 0 →
        leads (.hailPulse p time) s (s.withLines (s.lines.set p { s.line p with lastPulse := some time, pulses := 1 }))) ∧
      (spaced → (s.line p).pulses = 1 →
        leads (.hailPulse p time) s (s.withLines (s.lines.set p { s.line p with lastPulse := some time, pulses := 2 }))) ∧
      (spaced → (s.line p).pulses = 2 →
        ∃ t, exec (.hailPulse p time) s = .next t ∧ (t.line p).hail = true ∧ (t.line p).lastPulse = some time ∧
          t.ports = s.ports ∧ t.exch = s.exch ∧
          let hails := s.queue.filter fun e => decide (e.cls = .hail)
          let sends := s.queue.filter fun e => decide (e.cls = .send)
          (s.queued p = false → s.engineOf p = none →
            (s.engines.e0.state = .free →
              t.engines.e0.state = .heeding ∧ t.engines.e0.lease = some ⟨p, .hail⟩ ∧ (t.line p).cond = .sending ∧
                t.engines.e1 = s.engines.e1 ∧ t.queue = s.queue) ∧
            (s.engines.e0.state ≠ .free → s.engines.e1.state = .free →
              t.engines.e1.state = .heeding ∧ t.engines.e1.lease = some ⟨p, .hail⟩ ∧ (t.line p).cond = .sending ∧
                t.engines.e0 = s.engines.e0 ∧ t.queue = s.queue) ∧
            (s.engines.e0.state ≠ .free → s.engines.e1.state ≠ .free →
              (t.line p).cond = .hailed ∧ t.queue = hails ++ ⟨p, .hail⟩ :: sends ∧ t.engines = s.engines)) ∧
          ((⟨p, .send⟩ : QueueEntry) ∈ s.queue → (s.queue.map QueueEntry.port).Nodup →
            (t.line p).cond = .hailed ∧ t.engines = s.engines ∧
              t.queue = hails ++ ⟨p, .hail⟩ :: sends.filter fun e => decide (e.port ≠ p)) ∧
          ((⟨p, .hail⟩ : QueueEntry) ∈ s.queue ∧ (s.queue.map QueueEntry.port).Nodup ∨
              s.queued p = false ∧ s.engineOf p ≠ none →
            (t.line p).cond = .hailed ∧ t.engines = s.engines ∧ t.queue = s.queue))) ∧
    ((s.line p).cond = .hailed →
      leads (.hailPulse p time) s (s.withLines (s.lines.set p { s.line p with lastPulse := some time }))) ∧
    ((s.line p).cond = .sending → leads (.hailPulse p time) s s) ∧
    (∀ e, (s.line p).cond = .heeded →
      leaseEnds (.hailPulse p time) s
        ((s.withLines (s.lines.set p noted)).withPorts
          (s.ports.set p { s.port p with missedHail := counted (s.port p).missedHail })) p e) ∧
    (∀ e, (s.line p).cond = .receiving →
      leaseEnds (.hailPulse p time) s
        ((s.withLines (s.lines.set p noted)).withPorts
          (s.ports.set p { s.port p with badFrame := counted (s.port p).badFrame })) p e) ∧
    ((s.line p).cond = .stray →
      let ended := (s.withLines (s.lines.set p noted)).withPorts
        (s.ports.set p { s.port p with
          badFrame := if (s.line p).strayCounted = true then (s.port p).badFrame else counted (s.port p).badFrame })
      (s.engineOf p = none → leads (.hailPulse p time) s ended) ∧
      ∀ e, s.engineOf p = some e → (s.engine e).state = .waitLine →
        serves (.hailPulse p time) s ended e p ∧ ((s.port p).slot = none → leaseEnds (.hailPulse p time) s ended p e))

/-- HAIL_WITHDRAWN: 300 µs without a pulse in HAILED take the hail back, a queue entry stays (R18, R41). HEED_END: the
monitor is HEEDED with hail present clear, the engine AWAITING with its heed wait running (R19, R44). HEED_WAIT_EXPIRY in
AWAITING: a missed hail is counted, the line is IDLE and the lease ends (R45, R52), the engine given out as `leaseEnds` says
(R37, R39, R42, R43, R46). -/
def Obligations.HailIsWithdrawnHeededOrMissed : Prop :=
  ∀ s p,
    (s.attached (.line p) = true → (s.line p).cond = .hailed →
      leads (.hailWithdrawn p) s
        (s.withLines (s.lines.set p ⟨.idle, false, (s.line p).lastPulse, 0, 0, false⟩))) ∧
    (∀ e, s.engineOf p = some e → (s.engine e).state = .heeding →
      leads (.heedEnd p) s
        ((s.withEngines (s.engines.set e { s.engine e with state := .awaiting, heedTimer := true })).withLines
          (s.lines.set p ⟨.heeded, false, (s.line p).lastPulse, 0, 0, false⟩))) ∧
    ∀ e, (s.engine e).state = .awaiting → (s.engine e).heedTimer = true →
      leaseEnds (.heedWaitExpiry p) s
        ((s.withLines (s.lines.set p (s.line p).idled)).withPorts
          (s.ports.set p { s.port p with missedHail := counted (s.port p).missedHail })) p e

/-- START_DELIMITER: in HEEDED the engine begins to gather with an empty buffer; in IDLE and HAILED a stray frame begins
(R25, R31). -/
def Obligations.StartDelimiterOpensReception : Prop :=
  ∀ s p, s.attached (.line p) = true →
    (∀ e, (s.line p).cond = .heeded → s.engineOf p = some e →
      leads (.startDelimiter p) s
        ((s.withEngines (s.engines.set e { s.engine e with state := .receiving, heedTimer := false, rx := [] })).withLines
          (s.lines.set p ⟨.receiving, (s.line p).hail, (s.line p).lastPulse, 0, 0, false⟩))) ∧
    ((s.line p).cond = .idle ∨ (s.line p).cond = .hailed →
      leads (.startDelimiter p) s (s.withLines (s.lines.set p ⟨.stray, false, (s.line p).lastPulse, 0, 0, false⟩)))

/-- DATA_SYMBOL: in RECEIVING up to 31 bytes are gathered, and the thirty-second is an overflow that is counted, leaves the
line in STRAY and ends the lease (R25, R48), the engine given out as `leaseEnds` says. -/
def Obligations.DataSymbolIsGathered : Prop :=
  ∀ s p e v, s.attached (.line p) = true → (s.line p).cond = .receiving → s.engineOf p = some e →
    ((s.engine e).rx.length < 31 →
      leads (.dataSymbol p v) s (s.withEngines (s.engines.set e { s.engine e with rx := (s.engine e).rx ++ [v] }))) ∧
    (31 ≤ (s.engine e).rx.length →
      leaseEnds (.dataSymbol p v) s
        ((s.withLines (s.lines.set p ⟨.stray, (s.line p).hail, (s.line p).lastPulse, 0, 0, true⟩)).withPorts
          (s.ports.set p { s.port p with badFrame := counted (s.port p).badFrame })) p e)

/-- STRAY_SILENCE ends a STRAY: the line is IDLE, and the frame is counted unless its overflow was (R25, R31, R50); so do, in
a STRAY that no overflow began, its END_DELIMITER and its thirty-second byte, where an earlier byte is only counted; after an
overflow both are ignored. An engine in WAIT_LINE looks at its port again at the end of the STRAY: a hail is heeded, else the
slot's frame is sent, else the lease ends, and no missed hail of the port is counted (R46). -/
def Obligations.StraySilenceEndsStray : Prop :=
  ∀ s p, s.attached (.line p) = true → (s.line p).cond = .stray →
    let ended := (s.withLines (s.lines.set p (s.line p).idled)).withPorts
      (s.ports.set p { s.port p with
        badFrame := if (s.line p).strayCounted = true then (s.port p).badFrame else counted (s.port p).badFrame })
    let ends := fun c : Instr =>
      (s.engineOf p = none → leads c s ended) ∧
      ∀ e, s.engineOf p = some e → (s.engine e).state = .waitLine →
        serves c s ended e p ∧ ((s.port p).slot = none → leaseEnds c s ended p e)
    ends (.straySilence p) ∧
    ((s.line p).strayCounted = true → leads (.endDelimiter p) s s ∧ ∀ v, leads (.dataSymbol p v) s s) ∧
    ((s.line p).strayCounted = false → ends (.endDelimiter p) ∧ ∀ v,
      (31 ≤ (s.line p).strayBytes → ends (.dataSymbol p v)) ∧
      ((s.line p).strayBytes < 31 → leads (.dataSymbol p v) s
        (s.withLines (s.lines.set p { s.line p with strayBytes := (s.line p).strayBytes + 1 }))))

/-- LINE_ERROR, LINE_SILENCE, a second START_DELIMITER, and an END_DELIMITER after a wrong CRC byte break the frame being
received, and LINE_ERROR, DATA_SYMBOL and END_DELIMITER the one awaited in HEEDED: it is counted once as bad, the line is
IDLE and the lease ends (R16, R25, R26, R45, R48, R50), the engine given to the head of the queue, taken back by a port whose
own slot is filled, or FREE (R37, R39, R42, R43, R46). -/
def Obligations.BadFrameIsCountedOnce : Prop :=
  ∀ s p e c, s.attached (.line p) = true →
    ((s.line p).cond = .receiving ∧ (c = .lineError p ∨ c = .lineSilence p ∨ c = .startDelimiter p ∨
        c = .endDelimiter p ∧ ∃ body crcByte, (s.engine e).rx = body ++ [crcByte] ∧ crc body ≠ crcByte) ∨
      (s.line p).cond = .heeded ∧ (c = .lineError p ∨ c = .endDelimiter p ∨ ∃ v, c = .dataSymbol p v)) →
    leaseEnds c s
      ((s.withLines (s.lines.set p (s.line p).idled)).withPorts
        (s.ports.set p { s.port p with badFrame := counted (s.port p).badFrame })) p e

/-- END_DELIMITER with an answer to a claim. Under the claim tag a GRANT in CLAIMED gives SHIFTING with SETTLE_WAIT running,
the claim tag and the contracts kept (R65); a SETTLED in SHIFTING makes the claimed terms live, clears the path_fault flag,
is journalled as BOUND and completes a REFRESH without refresh pending (R69, R82); a DECLINE in CLAIMED discards the claim,
bars the port, is journalled and completes a REFRESH or PIN with DECLINED (R66). Another GRANT or SETTLED is counted as
stale and does nothing else, the lease ending as `leaseEnds` says (R24, R51, R68, R48). -/
def Obligations.GrantThenSettledMakeTheClaimLive : Prop :=
  (∀ s p e tag k, s.attached (.line p) = true → (s.line p).cond = .receiving → s.engineOf p = some e →
    tag < 7 → (s.port p).claimTag = some tag → (s.port p).staged = some k →
    let n := connectorCode (some (.line p))
    ((s.port p).state = .claimed →
      (s.engine e).rx = [BitVec.ofNat 8 (0x91 + 2 * tag), 0, crc [BitVec.ofNat 8 (0x91 + 2 * tag), 0]] →
      ∃ t, exec (.endDelimiter p) s = .next t ∧ (t.port p).state = .shifting ∧ (t.port p).timer = .settleWait ∧
        (t.port p).claimTag = some tag ∧ (t.port p).staged = some k ∧ (t.port p).live = (s.port p).live ∧
        (t.port p).image = (s.port p).image ∧ (t.port p).staleFrame = (s.port p).staleFrame ∧
        (t.port p).badFrame = (s.port p).badFrame) ∧
    ((s.port p).state = .shifting →
      (s.engine e).rx = [BitVec.ofNat 8 (0xB1 + 2 * tag), 0, crc [BitVec.ofNat 8 (0xB1 + 2 * tag), 0]] →
      ∃ t, exec (.endDelimiter p) s = .next t ∧
        (t.port p).live.map (fun l => (l.origin, l.level, l.volts, l.limit, l.operating, l.narrowed)) =
          some (k.origin, k.level, k.volts, k.limit, k.operating, k.narrowed) ∧
        (t.port p).state ≠ .shifting ∧ (t.port p).timer = .stopped ∧ (t.port p).claimTag = none ∧
        (t.port p).pathFault = false ∧ (t.port p).deferred = false ∧ (t.port p).refreshPending = false ∧
        ((∀ l, (s.port p).live = some l → l.volts ≠ k.volts) → t.meas.droop.get (.line p) = 0) ∧
        s.journals t [(0x04, n, [BitVec.ofNat 8 (k.level.getD 0), 0] ++ le2 k.volts ++ le2 k.limit ++ le2 k.operating)] ∧
        ∀ q, s.soleRequest p q → q.kind = .refresh → (s.port p).refreshPending = false →
          (t.port p).inFlight = none ∧ t.answered q.slot .ok) ∧
    ∀ reason, (s.port p).state = .claimed →
      (s.engine e).rx = [BitVec.ofNat 8 (0xA1 + 2 * tag), 1, reason, crc [BitVec.ofNat 8 (0xA1 + 2 * tag), 1, reason]] →
      ∃ t, exec (.endDelimiter p) s = .next t ∧ (t.port p).state = restingOn (s.port p).live ∧
        (t.port p).staged = none ∧ (t.port p).timer = .stopped ∧ (t.port p).claimTag = none ∧
        (t.port p).claimAttempts = 0 ∧ (t.port p).decline = some reason ∧ (t.port p).barred = true ∧
        (t.port p).live = (s.port p).live ∧ (t.port p).image = (s.port p).image ∧ (t.port p).pin = (s.port p).pin ∧
        s.journals t [(0x05, n, [reason, BitVec.ofNat 8 (k.level.getD 0)] ++ le2 k.volts ++ le2 k.limit)] ∧
        ∀ q, s.soleRequest p q → q.kind ≠ .release → (t.port p).inFlight = none ∧ t.answered q.slot .declined) ∧
  ∀ s p e tag, s.attached (.line p) = true → (s.line p).cond = .receiving → s.engineOf p = some e → s.prospectOk → tag < 8 →
    ∀ h, (h = 0x91 ∧ ((s.port p).claimTag = some tag → (s.port p).state ≠ .claimed) ∨
        h = 0xB1 ∧ ((s.port p).claimTag = some tag → (s.port p).state ≠ .shifting)) →
      (s.engine e).rx = [BitVec.ofNat 8 (h + 2 * tag), 0, crc [BitVec.ofNat 8 (h + 2 * tag), 0]] →
      leaseEnds (.endDelimiter p) s
        ((s.withLines (s.lines.set p (s.line p).idled)).withPorts
          (s.ports.set p { s.port p with staleFrame := counted (s.port p).staleFrame })) p e

/-- END_DELIMITER with an accepted TENDER of one to six levels that is unsolicited or answers the ASK: whatever the port's
state from ASKING to FAULTED, the image is the new one with its usable marks, the silent and barred flags clear and TENDER
is journalled (R24, R26, R27, R28, R60). A checked contract, the live one in ASKING, CLAIMED and BOUND and the staged one in
SHIFTING, if NEGOTIATED, begins to lapse where no usable level contains it and is narrowed where the containing levels no
longer carry it; a lapse of it is cancelled otherwise (R71, R72). A pin the image does not bear is void and journalled, and
another has its limit lowered (R100). A FAULTED or SHIFTING port stays so, the latter with its selection deferred; one that
is held rests (R61, R63). A free one in ASKING, BASE, CLAIMED or BOUND takes the winner's terms or those of its pin, or rests
with NO_LEVEL where there is neither (R63, R64, R89-R91, R99). A TENDER under another tag is stale. -/
def Obligations.TenderIsCaptured : Prop :=
  (∀ s p e tag cls entries, s.attached (.line p) = true → (s.line p).cond = .receiving → s.engineOf p = some e →
    (s.engine e).rx = tenderBytes tag cls entries → 0 < entries.length → entries.length ≤ 6 → tag < 8 →
    (tag = 7 ∨ (s.port p).askTag = some tag) → (s.port p).state ≠ .empty → (s.port p).state ≠ .settling →
    let levels := entries.map levelOf
    let n := connectorCode (some (.line p))
    let count : Byte := BitVec.ofNat 8 entries.length
    let tender : Byte × Byte × List Byte := (0x03, n,
      [if cls = 1 then 1 else if cls = 2 then 2 else 0, count, BitVec.ofNat 8 (levels.countP fun l => l.usable),
        BitVec.ofNat 8 tag, if tag = 7 then 0 else 1])
    let active := (s.port p).state ≠ .shifting ∧ (s.port p).state ≠ .faulted
    let figures := fun l : Contract => (l.volts, l.limit, l.operating, l.narrowed)
    let narrowed := fun (k : Contract) (a : Nat) =>
      (k.volts, min k.limit a, if a < k.limit then min k.operating a else k.operating, k.narrowed || decide (a < k.limit))
    ∃ t i, exec (.endDelimiter p) s = .next t ∧ (t.port p).image = some i ∧
      i.cls = (if cls = 1 then .adapter else if cls = 2 then .dock else .other) ∧ i.tag = tag ∧ i.time = s.time ∧
      (i.levels.map fun l => { l with score := 0 }) = levels ∧ s.journals t [tender] ∧
      (t.port p).silent = false ∧ (t.port p).barred = false ∧ (t.port p).held = (s.port p).held ∧
      (t.port p).badFrame = (s.port p).badFrame ∧ (t.port p).staleFrame = (s.port p).staleFrame ∧
      (∀ k, (s.port p).live = some k → k.origin = .negotiated → active → (s.port p).state ≠ .base →
        (ampsAt levels k.volts = [] → (t.port p).lapsing = some .live ∧ (t.port p).lapseTimer = true ∧
          s.journals t [tender, (0x07, n, [0, 1] ++ le2 k.limit)]) ∧
        ∀ a, a ∈ ampsAt levels k.volts → (∀ b, b ∈ ampsAt levels k.volts → b ≤ a) →
          (t.port p).live.map figures = some (narrowed k a) ∧
          ((s.port p).lapsing = some .live → (t.port p).lapsing = none) ∧
          (a < k.limit → s.journals t [tender, (0x07, n, [0, 0] ++ le2 a)])) ∧
      (∀ k, (s.port p).staged = some k → k.origin = .negotiated → (s.port p).state = .shifting →
        (ampsAt levels k.volts = [] → (t.port p).lapsing = some .staged ∧ (t.port p).lapseTimer = true ∧
          (t.port p).staged = some k ∧ s.journals t [tender, (0x07, n, [1, 1] ++ le2 k.limit)]) ∧
        ∀ a, a ∈ ampsAt levels k.volts → (∀ b, b ∈ ampsAt levels k.volts → b ≤ a) →
          (t.port p).staged.map figures = some (narrowed k a) ∧ (t.port p).live = (s.port p).live ∧
          (t.port p).lapsing = (if (s.port p).lapsing = some .staged then none else (s.port p).lapsing) ∧
          (a < k.limit → s.journals t [tender, (0x07, n, [1, 0] ++ le2 a)])) ∧
      (∀ m : Pin, (s.port p).pin = some m →
        let bearing := levels.filter fun l => decide (m.level ≠ 0 ∧ levels[m.level - 1]? = some l) && l.usable &&
          decide (l.lo ≤ m.volts ∧ m.volts ≤ l.hi)
        (bearing = [] → (t.port p).pin = none ∧
          ((s.port p).state = .base ∨ (s.port p).state = .faulted →
            let why : Byte := match (if m.level = 0 then none else levels[m.level - 1]?) with
              | none => 1
              | some l => if l.usable = true then 3 else 2
            s.journals t [tender, (0x10, n, [BitVec.ofNat 8 m.level, why] ++ le2 m.volts ++ le2 m.limit)])) ∧
        ∀ l, l ∈ bearing →
          let amps := min l.amps (s.policy.pathMax.get (.line p))
          let limit := if amps < m.limit then amps / 50 * 50 else m.limit
          (t.port p).pin = some { m with limit := limit } ∧
            (active → (s.port p).held = false → (s.port p).released = false →
              t.chose p m.level m.volts limit l.shared)) ∧
      ((s.port p).state = .faulted → (t.port p).state = .faulted) ∧
      ((s.port p).state = .shifting → (t.port p).state = .shifting ∧ (t.port p).deferred = true) ∧
      (active → (s.port p).held = true → (t.port p).state = restingOn (t.port p).live) ∧
      (active → (s.port p).held = false → (s.port p).released = false → (s.port p).pin = none →
        (winner s.policy (.line p) levels = none →
          (t.port p).state = restingOn (t.port p).live ∧
            ((s.port p).state = .base → s.journals t [tender, (0x11, n, [count])])) ∧
        ∀ c, winner s.policy (.line p) levels = some c →
          let limit := min (min c.level.amps (s.policy.pathMax.get (.line p))) (s.policy.ceiling * 1000 / c.volts) / 50 * 50
          t.chose p c.index c.volts limit c.level.shared)) ∧
  ∀ s p e tag cls entries, s.attached (.line p) = true → (s.line p).cond = .receiving → s.engineOf p = some e →
    s.prospectOk →
    (s.engine e).rx = tenderBytes tag cls entries → 0 < entries.length → entries.length ≤ 6 → tag < 7 →
    (s.port p).askTag ≠ some tag →
    leaseEnds (.endDelimiter p) s
      ((s.withLines (s.lines.set p (s.line p).idled)).withPorts
        (s.ports.set p { s.port p with staleFrame := counted (s.port p).staleFrame })) p e

/-- FRAME_TRANSMITTED: the ask tag and TENDER_WAIT, or the claim tag and CLAIM_WAIT, start, the line is IDLE and the lease
ends (R47, R59), the engine given to the head of the queue, taken back by a port whose own slot is filled, or FREE (R37, R39,
R42, R43, R46). A GIVEBACK starts nothing; it completes a RELEASE in flight with OK and the figures of the port, that with
nobody waiting for the engine. A CLAIM reported while the slot holds another changes nothing of that claim, which goes out in
a lease that follows (R59). -/
def Obligations.TransmissionStartsTheWait : Prop :=
  (∀ s p e x, s.engineOf p = some e → (s.engine e).state = .sending → (s.engine e).tx = some x → s.prospectOk →
    (x.frame = .ask → (s.port p).state = .asking →
      leaseEnds (.frameTransmitted p) s
        ((s.withLines (s.lines.set p (s.line p).idled)).withPorts
          (s.ports.set p { s.port p with askTag := some x.tag, timer := .tenderWait })) p e) ∧
    (∀ l v a o, x.frame = .claim l v a o → (s.port p).state = .claimed →
      (∀ l' v' a' o', (s.port p).slot ≠ some (.claim l' v' a' o')) →
      leaseEnds (.frameTransmitted p) s
        ((s.withLines (s.lines.set p (s.line p).idled)).withPorts
          (s.ports.set p { s.port p with claimTag := some x.tag, timer := .claimWait })) p e) ∧
    (x.frame = .giveback → (∀ r, (s.port p).inFlight = some r → r.kind ≠ .release) →
      leaseEnds (.frameTransmitted p) s (s.withLines (s.lines.set p (s.line p).idled)) p e) ∧
    (x.frame = .giveback → s.lastLease p e → ∀ r, s.soleRequest p r → r.kind = .release →
      ∃ t, exec (.frameTransmitted p) s = .next t ∧ t.port p = { s.port p with inFlight := none } ∧ t.answered r.slot .ok ∧
        (∀ i, i < 16 → readByte t.exch.mem (slotAddress r.slot + 16 + i) =
          (padTo 16 (figuresData (s.port p).state.code (s.port p).live)).getD i 0) ∧
        t.lines = s.lines.set p (s.line p).idled ∧ t.engines = s.engines.set e Engine.freed ∧ t.path = s.path)) ∧
  ∀ s p e x l v a o l' v' a' o', s.engineOf p = some e → (s.engine e).state = .sending → (s.engine e).tx = some x →
    x.frame = .claim l v a o → (s.port p).state = .claimed → (s.port p).slot = some (.claim l' v' a' o') → s.prospectOk →
    leaseEnds (.frameTransmitted p) s (s.withLines (s.lines.set p (s.line p).idled)) p e

/-! ### Timers of a line port and of the path (R62, R67, R70, R73, R75, R111-R117) -/

/-- TENDER_WAIT_EXPIRY: up to the third attempt the ASK is put out again: a FREE engine begins to send it under the next
tag, or it waits in the slot, the port queued where no engine is FREE (`puts`: R38, R39, R43, R46, R20 to R23); at the third
the port goes silent, which is journalled, a REFRESH or PIN in flight ends with TIMED_OUT, and the one call for selection
leaves a port that is blocked or has no image in its resting state (R62, R63). -/
def Obligations.TenderWaitExpiryResendsAsk : Prop :=
  ∀ s p, (s.port p).state = .asking → (s.port p).timer = .tenderWait →
    ((s.port p).askAttempts < 3 →
      ∃ t, exec (.tenderWaitExpiry p) s = .next t ∧ (t.port p).askAttempts = (s.port p).askAttempts + 1 ∧
        s.puts t p .ask ∧ (t.port p).state = .asking ∧ (t.port p).askTag = none ∧ (t.port p).timer = .stopped ∧
        (t.port p).live = (s.port p).live ∧ (t.port p).image = (s.port p).image ∧
        (t.port p).inFlight = (s.port p).inFlight) ∧
    (3 ≤ (s.port p).askAttempts →
      ∃ t, exec (.tenderWaitExpiry p) s = .next t ∧ (t.port p).silent = true ∧ (t.port p).state ≠ .asking ∧
        (t.port p).askTag = none ∧ s.journals t [(0x0A, connectorCode (some (.line p)), [])] ∧
        ((s.port p).inFlight.map PortRequest.kind ≠ some .release → (t.port p).inFlight = none) ∧
        (∀ q, s.soleRequest p q → q.kind ≠ .release → t.answered q.slot .timedOut) ∧
        ((s.port p).image = none ∨ (s.port p).held = true ∨ (s.port p).released = true ∨ (s.port p).barred = true →
          (t.port p).state = restingOn (s.port p).live ∧ (t.port p).live = (s.port p).live))

/-- CLAIM_WAIT_EXPIRY: at the first expiry the CLAIM with the staged figures is put out again, on a FREE engine under the
next tag, in the slot or in the queue (`puts`: R38, R39, R43, R46, R20 to R23); on a held port the claim is withdrawn
instead, and a REFRESH or PIN ends with TIMED_OUT; at the second expiry the port faults with NO_ANSWER (R67, R75).
SETTLE_WAIT_EXPIRY: the port faults with NO_SETTLE (R70, R75). A fault falls to BASE, puts out a GIVEBACK, is journalled as
LINE_FAULT, and ends a REFRESH or PIN with TIMED_OUT. -/
def Obligations.ClaimAndSettleWaitExpiries : Prop :=
  ∀ s p,
    let ends := fun t : State => ∀ q, s.soleRequest p q → q.kind ≠ .release →
      (t.port p).inFlight = none ∧ t.answered q.slot .timedOut
    let faults := fun (t : State) (cause : FaultCause) (code : Byte) =>
      (t.port p).state = .faulted ∧ (t.port p).cause = some cause ∧ (t.port p).live = some Contract.base ∧
        (t.port p).staged = none ∧ (t.port p).claimTag = none ∧ (t.port p).askTag = none ∧
        (t.port p).claimAttempts = 0 ∧ (t.port p).timer = .stopped ∧ (t.port p).lapsing = none ∧
        (t.port p).lapseTimer = false ∧ (t.port p).deferred = false ∧ (t.port p).refreshPending = false ∧
        (t.port p).pin = (s.port p).pin ∧ (t.port p).held = (s.port p).held ∧ s.puts t p .giveback ∧
        s.journals t [(0x09, connectorCode (some (.line p)), [code])] ∧ ends t
    ((s.port p).state = .claimed → (s.port p).timer = .claimWait → (s.port p).claimAttempts < 2 →
      ((s.port p).held = false → s.prospectOk → ∀ k l, (s.port p).staged = some k → k.level = some l →
        ∃ t, exec (.claimWaitExpiry p) s = .next t ∧ s.puts t p (.claim l k.volts k.limit k.operating) ∧
          (t.port p).claimAttempts = 2 ∧ (t.port p).state = .claimed ∧ (t.port p).claimTag = none ∧
          (t.port p).timer = .stopped ∧ (t.port p).staged = some k ∧ (t.port p).live = (s.port p).live ∧
          t.path = s.path ∧ t.exch.attn = s.exch.attn) ∧
      ((s.port p).held = true →
        ∃ t, exec (.claimWaitExpiry p) s = .next t ∧ (t.port p).staged = none ∧ (t.port p).claimAttempts = 0 ∧
          (t.port p).claimTag = none ∧ (t.port p).timer = .stopped ∧ (t.port p).held = true ∧
          (t.port p).state = restingOn (s.port p).live ∧ (t.port p).live = (s.port p).live ∧ ends t)) ∧
    ((s.port p).state = .claimed → (s.port p).timer = .claimWait → 2 ≤ (s.port p).claimAttempts →
      ∃ t, exec (.claimWaitExpiry p) s = .next t ∧ faults t .noAnswer 1) ∧
    ((s.port p).state = .shifting → (s.port p).timer = .settleWait →
      ∃ t, exec (.settleWaitExpiry p) s = .next t ∧ faults t .noSettle 2)

/-- LAPSE_EXPIRY: the live contract falls to BASE, the lapsing and path_fault flags clear, the droop counter starts afresh,
a port in BOUND leaves it, and LAPSED is journalled with the volts that lapsed (R73, R82, R130). DEDUCED (log entry 13): for
a lapse of target STAGED too, LAPSED carries the volts the live contract had. An unsolicited CUT lowers the live contract of
its volts, or in SHIFTING the staged one, and is journalled; one that matches neither is stale (R74). -/
def Obligations.LapseExpiryFallsToBase : Prop :=
  (∀ s p k, (s.port p).lapseTimer = true → (s.port p).live = some k → k ≠ Contract.base →
    ∃ t, exec (.lapseExpiry p) s = .next t ∧ (t.port p).live = some Contract.base ∧ (t.port p).lapsing = none ∧
      (t.port p).lapseTimer = false ∧ (t.port p).pathFault = false ∧ t.meas.droop.get (.line p) = 0 ∧
      s.journals t [(0x08, connectorCode (some (.line p)), le2 k.volts)] ∧
      ((s.port p).state = .bound → (t.port p).state = .base ∨ (t.port p).state = .claimed) ∧
      ((s.port p).state = .shifting → (t.port p).state = .shifting ∧ (t.port p).staged = (s.port p).staged)) ∧
  ∀ s p e (v a : Byte), s.attached (.line p) = true → (s.line p).cond = .receiving → s.engineOf p = some e →
    (s.engine e).rx = [0xCF, 2, v, a, crc [0xCF, 2, v, a]] → (s.port p).state ≠ .empty → (s.port p).state ≠ .settling →
    let volts := v.toNat * 100
    let amps := a.toNat * 50
    let n := connectorCode (some (.line p))
    let record := fun (t : State) (target : Byte) (limit : Nat) =>
      s.journals t [(0x06, n, [target, 0] ++ le2 volts ++ le2 amps ++ le2 limit)]
    (∀ k, (s.port p).state = .shifting → (s.port p).staged = some k → k.volts = volts →
      ∃ t, exec (.endDelimiter p) s = .next t ∧ (t.port p).staged =
          some { k with limit := min k.limit amps, operating := min k.operating amps, narrowed := true } ∧
        (t.port p).state = .shifting ∧ (t.port p).live = (s.port p).live ∧ record t 1 (min k.limit amps)) ∧
    (∀ k, (s.port p).live = some k → k.volts = volts →
      ((s.port p).state = .shifting → ∀ j, (s.port p).staged = some j → j.volts ≠ volts) →
      ∃ t, exec (.endDelimiter p) s = .next t ∧
        (t.port p).live.map (fun l => (l.origin, l.level, l.volts, l.limit, l.operating, l.narrowed)) =
          some (k.origin, k.level, k.volts, min k.limit amps, min k.operating amps, true) ∧
        (t.port p).pathFault = false ∧ (amps < k.limit → t.meas.droop.get (.line p) = 0) ∧ record t 0 (min k.limit amps)) ∧
    ((∀ k, (s.port p).live = some k → k.volts ≠ volts) → (∀ k, (s.port p).staged = some k → k.volts ≠ volts) →
      s.prospectOk →
      leaseEnds (.endDelimiter p) s
        ((s.withLines (s.lines.set p (s.line p).idled)).withPorts
          (s.ports.set p { s.port p with staleFrame := counted (s.port p).staleFrame })) p e)

/-- SOFT_START_EXPIRY: the check is deferred while the connector may be moving its rail, and otherwise made. A deferred check
is made by the first VOLTAGE_COMPLETION of the connector once its rail is at rest. A sample within the window closes the path
on the connector: PRIMARY is journalled, a PRIMARY in flight for it completes with OK, and the path stays CLOSED on it where
it is eligible and no other connector is. A sample outside opens the switch and sets path_fault, PATH_FAULT is journalled and
a PRIMARY in flight for it completes with PATH_FAULT; the flag stays set unless the selection of the changed role gives the
live contract another shared flag (R112, R113, R82, R91). DEDUCED (log entry 16): no soft start runs once the path opened. -/
def Obligations.SoftStartExpiryChecksTheVoltage : Prop :=
  ∀ s y k, s.path.state = .closing y → s.live y = some k →
    let near := fun sample : Nat =>
      let window := k.volts * s.policy.closeWindow / 100
      sample ≤ k.volts + window ∧ k.volts ≤ sample + window
    let moving := match y with
      | .line p => (s.port p).state = .shifting ∨ (s.port p).lapsing ≠ none
      | .barrel => False
    let sameShare := ∀ p i c, y = .line p → (s.port p).held = false → (s.port p).image = some i →
      composeClaim s.policy p false i (s.port p).pin = some c → c.shared = k.shared
    let checks := fun (c : Instr) (sample : Nat) =>
      (near sample →
        ∃ t, exec c s = .next t ∧ t.path.lastPrimary = some y ∧ t.path.softStart = none ∧ t.path.checkDeferred = false ∧
          s.journals t [(0x0B, connectorCode (some y), [connectorCode s.path.lastPrimary, connectorCode (some y)])] ∧
          (∀ q, s.solePrimary q → q.target = y → t.path.inFlight = none ∧ t.answered q.slot .ok) ∧
          (s.prospectOk → s.eligible y = true → (∀ x, x ≠ y → s.eligible x = false) →
            t.path.state = .closed y ∧ t.path.switches = s.path.switches ∧ t.reg.spTarget = t.budget)) ∧
      (¬ near sample →
        ∃ t, exec c s = .next t ∧ s.pathOpened t y ∧ t.path.lastPrimary = s.path.lastPrimary ∧
          s.journals t [(0x0D, connectorCode (some y), le2 sample ++ le2 k.volts)] ∧
          (∀ q, s.solePrimary q → q.target = y → t.path.inFlight = none ∧ t.answered q.slot .pathFault) ∧
          (y = .barrel → t.barrel.pathFault = true) ∧
          (sameShare → (∀ p, y = .line p → (t.port p).pathFault = true) ∧ t.eligible y = false))
    (∀ n, s.path.softStart = some n →
      (moving → s.prospectOk →
        leads .softStartExpiry s (s.withPath { s.path with softStart := none, checkDeferred := true })) ∧
      (¬ moving → checks .softStartExpiry (s.meas.table.volts.get y).last)) ∧
    ∀ r, s.path.checkDeferred = true → ¬ moving → checks (.voltageCompletion y r) (min 25500 r.toNat)

/-- BREAK_EXPIRY: the path closes on the eligible connector of highest live score (the pinned one if eligible), or enters
IDLE with NO_SOURCE, cause and record (R108, R111, R117). -/
def Obligations.BreakExpiryChoosesAfresh : Prop :=
  ∀ s x n, s.prospectOk → s.path.state = .opening x → s.path.breakTimer = some n →
    ((∀ y, s.eligible y = false) →
      ∃ t, exec .breakExpiry s = .next t ∧ t.path.state = .idle ∧ t.path.breakTimer = none ∧
        t.path.switches = s.path.switches ∧ t.exch.attn &&& causeNoSource = causeNoSource ∧
        s.journals t [(0x0E, 0xFF, [connectorCode s.path.lastPrimary])]) ∧
    ((∃ y, s.eligible y = true) →
      ∃ t y, exec .breakExpiry s = .next t ∧ s.eligible y = true ∧ t.path.state = .closing y ∧
        t.path.switches = s.path.switches.set y true ∧ t.path.softStart = some s.policy.softStart ∧
        t.path.breakTimer = none ∧ t.path.checkDeferred = false ∧
        if ∃ z, s.path.pin = some z ∧ s.eligible z = true then s.path.pin = some y
        else ∀ z, s.eligible z = true → s.liveScore z ≤ s.liveScore y ∧
          (s.liveScore z = s.liveScore y → connectorNumber y ≤ connectorNumber z))

/-! ### SPI (R176-R178, R180, R188, R193) -/

/-- MEM_READ returns the bytes at the address and after it, wrapping, whatever words they are fetched in; that all of them
are as of one moment is the MODEL'S CHOICE (log entry 19). MEM_WRITE stores its bytes, wrapping, and no others; it marks the
slots whose state byte it stored, and no others (R176, R180); here for a write that misses the release word. Both commands,
and the register writes, are the transactions that their bytes make: the operation, the big-endian address or the register
number, the data (10.1). -/
def Obligations.MemoryReadsAndWrites : Prop :=
  (∀ s addr n, ∃ t, exec (.memRead addr n) s = .next t ∧
    t.exch.spiOut = [0, 0, 0, 0] ++ ((List.range n).map fun i => readByte s.exch.mem ((addr.toNat + i) % 2048)) ∧
    t = s.withExch { s.exch with spiOut := t.exch.spiOut }) ∧
  (∀ s (addr : Half) (data : List Byte), data.length ≤ 2048 →
    (∀ i, i < data.length → (addr.toNat + i) % 2048 ≠ 0x404 ∧ (addr.toNat + i) % 2048 ≠ 0x405) →
    ∃ t, exec (.memWrite addr data) s = .next t ∧
      (∀ i, i < data.length → readByte t.exch.mem ((addr.toNat + i) % 2048) = data.getD i 0) ∧
      (∀ a, (∀ i, i < data.length → (addr.toNat + i) % 2048 ≠ a) → readByte t.exch.mem a = readByte s.exch.mem a) ∧
      (∀ k, (t.exch.slot k).mark = true ↔ (s.exch.slot k).mark = true ∨
        ∃ i, i < data.length ∧ (addr.toNat + i) % 2048 = 0x80 + 32 * k.val) ∧
      (∀ k, (t.exch.slot k).copy = (s.exch.slot k).copy ∧ (t.exch.slot k).req = (s.exch.slot k).req) ∧
      t = s.withExch { s.exch with mem := t.exch.mem, slots := t.exch.slots }) ∧
  ∀ s (high low : Byte) (host data : List Byte) (v : Word),
    exec (.memRead (high ++ low) host.length) s = .next (s.transact ([0xA1, high, low, 0] ++ host)) ∧
    exec (.memWrite (high ++ low) data) s = .next (s.transact ([0xA2, high, low] ++ data)) ∧
    exec (.attnWrite v) s = .next (s.transact ([0xB2, 2] ++ le4 v.toNat)) ∧
    exec (.attnMaskWrite v) s = .next (s.transact ([0xB2, 3] ++ le4 v.toNat)) ∧
    exec .restart s = .next (s.transact [0xB2, 4, 1, 0, 0, 0])

/-- MEM_WRITE of up to 2048 bytes that stores either byte of the release word (R176, R188, R189): V is what then stands. A
value that names P or an unconsumed record becomes P, another is ignored, and a release that leaves room while records are
withheld writes a GAP with their count over what the host wrote. Otherwise memory is what the host wrote. -/
def Obligations.ReleaseWordFreesRecords : Prop :=
  ∀ s (addr : Half) (data : List Byte), data.length ≤ 2048 →
    (∃ i, i < data.length ∧ ((addr.toNat + i) % 2048 = 0x404 ∨ (addr.toNat + i) % 2048 = 0x405)) →
    ∀ host : Nat → Byte,
    (∀ i, i < data.length → host ((addr.toNat + i) % 2048) = data.getD i 0) →
    (∀ a, (∀ i, i < data.length → (addr.toNat + i) % 2048 ≠ a) → host a = readByte s.exch.mem a) →
    let v : Half := host 0x405 ++ host 0x404
    let n := s.exch.written + 1
    let entry := 0x410 + 16 * ((n.toNat + 31) % 32)
    ∃ t, exec (.memWrite addr data) s = .next t ∧
      (∀ k, (t.exch.slot k).mark = true ↔ (s.exch.slot k).mark = true ∨
        ∃ i, i < data.length ∧ (addr.toNat + i) % 2048 = 0x80 + 32 * k.val) ∧
      (∀ k, (t.exch.slot k).copy = (s.exch.slot k).copy ∧ (t.exch.slot k).req = (s.exch.slot k).req) ∧
      t = s.withExch { s.exch with
        mem := t.exch.mem, slots := t.exch.slots, released := t.exch.released, written := t.exch.written
        withheld := t.exch.withheld, attn := t.exch.attn } ∧
      t.exch.released = (if (v - s.exch.released).toNat ≤ s.exch.unconsumed then v else s.exch.released) ∧
      if (v - s.exch.released).toNat ≤ s.exch.unconsumed ∧ 0 < s.exch.withheld ∧ (s.exch.written - v).toNat < 32 then
        t.exch.written = n ∧ t.exch.withheld = 0 ∧ t.exch.attn = s.exch.attn ||| causeJournal ∧
          (∀ i, i < 16 → readByte t.exch.mem (entry + i) =
            (le2 n.toNat ++ [0xFF, 0xFF] ++ le4 s.time.toNat ++ le2 s.exch.withheld ++ [0, 0, 0, 0, 0, 0]).getD i 0) ∧
          (∀ i, i < 4 → readByte t.exch.mem (0x400 + i) = (le2 n.toNat ++ [0, 0]).getD i 0) ∧
          ∀ a, a < 0x400 ∨ 0x404 ≤ a → (a < entry ∨ entry + 16 ≤ a) → readByte t.exch.mem a = host a
      else t.exch.written = s.exch.written ∧ t.exch.withheld = s.exch.withheld ∧ t.exch.attn = s.exch.attn ∧
        ∀ a, readByte t.exch.mem a = host a

/-- The registers. ATTN clears each bit written as 1 and leaves the others, ATTN_MASK keeps bits 0 to 6, and the ignored
writes change nothing (R177, R178). A REG_READ shifts out 0x00 under the operation, the number and the turnaround byte, then
the register's four bytes, then 0x00. The whole bytes of a transaction count; another operation, one that ends before its
address or number, and a REG_WRITE of fewer than four data bytes are ignored, with 0x00 shifted out; and 0x00 is shifted out
before the first data byte of a MEM_WRITE and a REG_WRITE (R176), whose data bytes' echo is free (log entry 36). -/
def Obligations.RegisterWrites : Prop :=
  (∀ s v, ∃ t, exec (.attnWrite v) s = .next t ∧ t = s.withExch { s.exch with attn := t.exch.attn } ∧
    ∀ i, i < 7 → t.exch.attn.getLsbD i = (s.exch.attn.getLsbD i && !v.getLsbD i)) ∧
  (∀ s v, ∃ t, exec (.attnMaskWrite v) s = .next t ∧ t = s.withExch { s.exch with mask := t.exch.mask } ∧
    (∀ i, i < 7 → t.exch.mask.getLsbD i = v.getLsbD i) ∧
    (t.attnL = false ↔ ∃ i, i < 7 ∧ s.exch.attn.getLsbD i = true ∧ v.getLsbD i = true)) ∧
  (∀ s reg v, (Instr.registerWriteIgnored reg v).wellFormed = true → exec (.registerWriteIgnored reg v) s = .next s) ∧
  (∀ (s : State) (reg turn : Byte) (host : List Byte),
    let value := fun bytes : List Byte =>
      s.shiftedOut ([0xB1, reg, turn] ++ host) = (([0, 0, 0] ++ bytes ++ List.replicate host.length 0).take (3 + host.length))
    (reg = 0 → value [0x54, 0x48, 0x01, 0x00]) ∧
    (reg = 1 → value [BitVec.ofNat 8 ((if s.origin = .adopted then 1 else 0) + (if s.meas.dead = true then 2 else 0) +
      (if s.meas.periodTimer ≠ none then 8 else if s.meas.singlePending = true then 4 else 0)), s.path.state.code,
      connectorCode s.path.state.connector, connectorCode s.path.state.primary]) ∧
    (reg = 2 → value [BitVec.ofNat 8 s.exch.attn.toNat, 0, 0, 0]) ∧
    (reg = 3 → value [BitVec.ofNat 8 s.exch.mask.toNat, 0, 0, 0]) ∧
    (4 ≤ reg.toNat → value [0, 0, 0, 0]) ∧
    s.transact ([0xB1, reg, turn] ++ host) =
      s.withExch { s.exch with spiOut := s.shiftedOut ([0xB1, reg, turn] ++ host) }) ∧
  (∀ (s : State) (bytes : List Byte),
    (∀ op, bytes.head? = some op → op ≠ 0xA1 ∧ op ≠ 0xA2 ∧ op ≠ 0xB1 ∧ op ≠ 0xB2 ∨ bytes.length < 2 ∨
        bytes.length < 3 ∧ op ≠ 0xB1 ∨ bytes.length < 6 ∧ op = 0xB2) →
    s.transact bytes = s ∧ s.shiftedOut bytes = List.replicate bytes.length 0) ∧
  (∀ (s : State) (high low reg : Byte) (data : List Byte),
    (s.shiftedOut ([0xA2, high, low] ++ data)).take 3 = [0, 0, 0] ∧ (s.shiftedOut ([0xB2, reg] ++ data)).take 2 = [0, 0]) ∧
  ∀ (s : State) (bytes : List Byte) (cut : List Bool), cut.length < 8 →
    s.transfer ((bytes.flatMap fun b => (List.range 8).map fun i => b.getLsbD (7 - i)) ++ cut) = s.transact bytes

/-- RESTART: the slots are FREE and unmarked, no request is in flight, the held, pinned and released flags and the pins are
clear, the policy is kept and stands in the draft area, the mode is AUTO and telemetry OFF; the time base, the trackers and
the result table run on (R193, R15, R84, R123, R138, R163, R175). -/
def Obligations.RestartClearsTheHostSide : Prop :=
  ∀ s, ∃ t, exec .restart s = .next t ∧
    (∀ k, (t.exch.slot k).copy = .free ∧ (t.exch.slot k).mark = false ∧ readByte t.exch.mem (0x80 + 32 * k.val) = 0 ∧
      t.unheld k) ∧
    (t.exch.released = 0 ∧ t.exch.mask = 0 ∧ t.attnL = true ∧ t.exch.attn &&& causeRestarted = causeRestarted ∧
      t.exch.attn &&& (causeSlotDone ||| causeTelemetry ||| causeSlotMisuse) = 0) ∧
    (∀ p, (t.port p).held = false ∧ (t.port p).released = false ∧ (t.port p).pin = none) ∧ t.barrel.released = false ∧
    t.path.pin = none ∧ t.path.lastPrimary = s.path.lastPrimary ∧ t.policy = s.policy ∧ t.origin = s.origin ∧
    (∀ i, i < 100 → readByte t.exch.mem i = (draftBytes s.policy).getD i 0) ∧ t.reg.mode = .auto ∧
    t.meas.mode = .off ∧ t.meas.table = s.meas.table ∧ t.meas.dead = s.meas.dead ∧ t.reg.saturation = s.reg.saturation ∧
    t.time = s.time ∧ t.trackers = s.trackers ∧ t.exch.telemetrySeq = s.exch.telemetrySeq + 2

/-! ### The slot reader and the requests (R181-R186) -/

/-- SLOT_EXAMINATION of the lowest marked slot, by the table of R182: equal state and copy change nothing, FREE gives a DONE
slot back, a wrong byte is restored with SLOT_MISUSE, and POSTED on a FREE slot is taken (R183). -/
def Obligations.ExaminationComparesByteAndCopy : Prop :=
  ∀ s k, (s.exch.slot k).mark = true → (∀ j, j < k → (s.exch.slot j).mark = false) →
    let found := readByte s.exch.mem (slotAddress k)
    let v : Slot := { s.exch.slot k with mark := false }
    let u := s.withExch { s.exch with slots := s.exch.slots.set k.val v }
    (found = v.copy.code → exec .slotExamination s = .next u) ∧
    (v.copy = .done → found = 0 →
      exec .slotExamination s =
        .next (s.withExch { s.exch with slots := s.exch.slots.set k.val { v with copy := .free } })) ∧
    (found ≠ v.copy.code → ¬ (v.copy = .free ∧ found = 1) → ¬ (v.copy = .done ∧ found = 0) →
      exec .slotExamination s = .next (u.withExch { u.exch with
        mem := writeBlock s.exch.mem (slotAddress k) [v.copy.code], attn := s.exch.attn ||| causeSlotMisuse })) ∧
    (v.copy = .free → found = 1 →
      ∃ t, exec .slotExamination s = .next t ∧ t = u.takeRequest k ∧ (t.exch.slot k).mark = false)

/-- Requests refused at once, where nothing but the slot changes (R183, R184). A kind outside 0x01 to 0x0B is BAD_KIND and a
port byte outside the kind's range BAD_PORT; a second port-bound request on a port, or a second PRIMARY, is PORT_BUSY; a
request for a line port or D with nothing attached is NOT_ATTACHED (R77, R80, R102, R11, R13). A PIN is NOT_ELIGIBLE on a
FAULTED or released port, BAD_ARG with a level index that the image does not have or for an unusable level, and NOT_ELIGIBLE
where the level's range does not meet the window (R80, R97). DEDUCED (log entry 20): the result data of a refusal, zeros for
BAD_KIND, BAD_PORT and PORT_BUSY and the figures of the kind for the others. -/
def Obligations.RequestsRefusedAtOnce : Prop :=
  (∀ s k, (s.exch.slot k).mark = true → (∀ j, j < k → (s.exch.slot j).mark = false) → (s.exch.slot k).copy = .free →
    readByte s.exch.mem (slotAddress k) = 1 →
    let kind := readByte s.exch.mem (slotAddress k + 1)
    let q : Posting := ⟨k, readByte s.exch.mem (slotAddress k + 2),
      readByte s.exch.mem (slotAddress k + 5) ++ readByte s.exch.mem (slotAddress k + 4)⟩
    kind = 0 ∨ 0x0B < kind.toNat → ∃ t, exec .slotExamination s = .next t ∧ s.refused t q kind .badKind []) ∧
  (∀ c q kind s, requestOf c = some (q, kind) → s.slotReady q.slot →
    ((kind = 0x02 ∨ kind = 0x07) ∧ 3 < q.port.toNat ∨ 0x03 ≤ kind.toNat ∧ kind.toNat ≤ 0x06 ∧ 2 < q.port.toNat ∨
      kind = 0x08 ∧ 3 < q.port.toNat ∧ q.port ≠ 0xFF →
      ∃ t, exec c s = .next t ∧ s.refused t q kind .badPort []) ∧
    ((kind = 0x02 ∨ kind = 0x03 ∨ kind = 0x07) ∧ (∃ p, linePortOf q.port = some p ∧ (s.port p).inFlight ≠ none) ∨
      (kind = 0x02 ∨ kind = 0x07) ∧ q.port = 3 ∧ s.barrel.inFlight ≠ none ∨
      kind = 0x08 ∧ (q.port.toNat ≤ 3 ∨ q.port = 0xFF) ∧ s.path.inFlight ≠ none →
      ∃ t, exec c s = .next t ∧ s.refused t q kind .portBusy []) ∧
    (∀ p, linePortOf q.port = some p → ((s.port p).state = .empty ∨ (s.port p).state = .settling) →
      (s.port p).inFlight = none → 0x02 ≤ kind.toNat → kind.toNat ≤ 0x07 →
      ∃ t, exec c s = .next t ∧ s.refused t q kind .notAttached
        (if kind = 0x03 then (s.port p).pinData else if kind = 0x02 ∨ kind = 0x07 then (s.port p).data else [])) ∧
    (q.port = 3 → (s.barrel.state = .empty ∨ s.barrel.state = .settling) → s.barrel.inFlight = none →
      (kind = 0x02 ∨ kind = 0x07) → ∃ t, exec c s = .next t ∧ s.refused t q kind .notAttached s.barrel.data)) ∧
  ∀ s q (level : Byte) (volts limit : Half) p, s.slotReady q.slot → linePortOf q.port = some p →
    (s.port p).negotiating = true → (s.port p).inFlight = none →
    let out := (s.port p).state = .faulted ∨ (s.port p).released = true
    let answers := fun code : ResultCode =>
      ∃ t, exec (.pin q level volts limit) s = .next t ∧ s.refused t q 0x03 code (s.port p).pinData
    (out → answers .notEligible) ∧
    (¬ out → (s.port p).image = none → answers .badArg) ∧
    ∀ i, ¬ out → (s.port p).image = some i →
      (level.toNat = 0 ∨ i.levels.length < level.toNat → answers .badArg) ∧
      ∀ l, level.toNat ≠ 0 → i.levels[level.toNat - 1]? = some l →
        (l.usable = false → answers .badArg) ∧
        (l.usable = true →
          min l.hi (s.policy.vinMax / 100 * 100) < max l.lo ((s.policy.vinMin + 99) / 100 * 100) → answers .notEligible)

/-- ADOPT of a contradictory draft: nothing but the slot changes, and its data give the count of the clamped fields, the
first of them, and the field and the reason of the first check of R168 that fails on the clamped values (R165-R169).
`draftTable`, `draftReplaced` and `draftContradiction` (Safety.lean) are the tables of 9.1, 10.3.1 and R168. -/
def Obligations.AdoptRefusesContradictions : Prop :=
  ∀ s q, s.slotReady q.slot →
    let m := s.exch.mem
    ∀ field why, draftContradiction m = some (field, why) →
      ∃ t, exec (.adopt q) s = .next t ∧
        t.slotDone q 0x01 .refusedPolicy [BitVec.ofNat 8 (draftReplaced m).length,
          BitVec.ofNat 8 ((draftReplaced m).headD 0), BitVec.ofNat 8 field, why] ∧
        s.slotAlone t q.slot ∧ t.withExch s.exch = s

/-- ADOPT of a draft without contradiction: each field brought into the range that 9.1 gives it, and ID entries 1 to
ID_COUNT, are the live policy and stand in the draft area, POLICY is journalled first, the origin is ADOPTED and the request
is DONE (R166, R169, R170). Its effects on the blocks (R171, R173): the trackers and owners take the changed PORT_ENABLE bits
(R4); the droop counters are 0, and a DEAD_MV of 0 clears the dead flag (R137, R132); D is reclassified (R14); every image is
rescored, every pin checked against the new window, and each port called for selection with barred cleared (R101, R103); the
path has been evaluated (R121); SP_target is current and the output in the new range (R160); and the journal records of steps
1 to 4 up to the first selection. MODEL'S CHOICE: the order of the ports (log entry 7), a reclassification that only changes
D's entry number clears path_fault (log entry 33). DEDUCED: one that only changes the UNUSABLE cause changes nothing (log
entry 17). -/
def Obligations.AdoptInstallsTheClampedDraft : Prop :=
  ∀ s q, s.slotReady q.slot →
    let m := s.exch.mem
    let count : Byte := BitVec.ofNat 8 (draftReplaced m).length
    let first : Byte := BitVec.ofNat 8 ((draftReplaced m).headD 0)
    let policy : Byte × Byte × List Byte := (0x13, 0xFF, [count, first, readByte m 0x33])
    draftContradiction m = none →
      ∃ t, exec (.adopt q) s = .next t ∧ t.policy.numbers = draftTable.map (fun f => f.clamped m) ∧
        t.policy.ids = (draftEntries m).map entryClamped ∧ t.policy.inForce ∧ t.origin = .adopted ∧
        (∀ i, i < 100 → readByte t.exch.mem i = (draftBytes t.policy).getD i 0) ∧
        s.journals t [policy] ∧ s.adoptionRecords t policy ∧
        t.slotDone q 0x01 (if draftReplaced m = [] then .ok else .clamped) [count, first, 0, 0] ∧
        (∀ x, s.adoptedTracker t x) ∧ t.meas.droop = ⟨0, 0, 0, 0⟩ ∧
        t.meas.dead = (s.meas.dead && decide (t.policy.deadMv ≠ 0)) ∧
        (s.policy.enabled .barrel = t.policy.enabled .barrel → s.adoptedBarrel t) ∧
        (∀ p, s.policy.enabled (.line p) = t.policy.enabled (.line p) → s.adoptedPort t p) ∧
        (∀ p, (t.port p).barred = false) ∧ s.adoptedPath t ∧ t.budgetOk ∧ s.adoptedRegulator t ∧
        t.presence = s.presence ∧ t.time = s.time ∧ t.meas.table = s.meas.table ∧ t.meas.reload = s.meas.reload ∧
        t.meas.periodTimer = s.meas.periodTimer ∧ t.meas.singlePending = s.meas.singlePending ∧
        t.meas.converting = s.meas.converting ∧ t.exch.mask = s.exch.mask ∧ t.latestVD = s.latestVD

/-- REFRESH on an attached line port outside SHIFTING starts a fresh ask, the ASK sent or waiting as `puts` says (R38, R39,
R43, R46), and is in flight; in SHIFTING it sets refresh pending and the shift runs on (R79). On an attached D it starts a
fresh identification (R11). -/
def Obligations.RefreshStartsAgain : Prop :=
  (∀ s q p, s.slotReady q.slot → linePortOf q.port = some p → (s.port p).negotiating = true →
    (s.port p).inFlight = none →
    let taken := fun t : State => t.slotTaken q.slot ∧ (t.port p).inFlight = some ⟨.refresh, q.slot⟩ ∧
      (t.port p).released = false ∧ (t.port p).silent = false ∧ (t.port p).barred = false ∧
      (t.port p).live = (s.port p).live ∧ (t.port p).pin = (s.port p).pin ∧ (t.port p).held = (s.port p).held ∧
      (t.port p).lapsing = (s.port p).lapsing ∧ (t.port p).image.isSome = (s.port p).image.isSome
    ((s.port p).state ≠ .shifting →
      ∃ t, exec (.refresh q) s = .next t ∧ taken t ∧ s.puts t p .ask ∧ (t.port p).state = .asking ∧
        (t.port p).askAttempts = 1 ∧ (t.port p).claimAttempts = 0 ∧ (t.port p).askTag = none ∧
        (t.port p).timer = .stopped ∧ (t.port p).cause = none ∧ ((s.port p).state = .claimed → (t.port p).staged = none)) ∧
    ((s.port p).state = .shifting →
      ∃ t, exec (.refresh q) s = .next t ∧ taken t ∧ (t.port p).state = .shifting ∧ (t.port p).refreshPending = true ∧
        (t.port p).staged = (s.port p).staged ∧ (t.port p).timer = (s.port p).timer ∧
        (t.port p).claimTag = (s.port p).claimTag)) ∧
  ∀ s q, s.slotReady q.slot → q.port = 3 → s.barrel.present = true → s.barrel.inFlight = none →
    ∃ t, exec (.refresh q) s = .next t ∧ t.slotTaken q.slot ∧
      t.barrel = { s.barrel with
        state := .identifying, count := 0, sum := 0, released := false, refreshPending := true, cause := none
        inFlight := some q.slot }

/-- PIN accepted on a port that is neither FAULTED nor released: the clamped pin stands, with its request in flight or, where
a selection finds no claim needed, DONE with OK (R80, R97, R98); in ASKING it waits for the tender, in SHIFTING for the
deferred selection (R63). -/
def Obligations.PinIsClampedAndStored : Prop :=
  ∀ s q (level : Byte) (volts limit : Half) p i l, s.slotReady q.slot → linePortOf q.port = some p →
    (s.port p).negotiating = true → (s.port p).state ≠ .faulted → (s.port p).released = false →
    (s.port p).inFlight = none → (s.port p).image = some i → level.toNat ≠ 0 → i.levels[level.toNat - 1]? = some l →
    l.usable = true →
    let lo := max l.lo ((s.policy.vinMin + 99) / 100 * 100)
    let hi := min l.hi (s.policy.vinMax / 100 * 100)
    let amps := min l.amps (s.policy.pathMax.get (.line p))
    lo ≤ hi →
    ∃ t, exec (.pin q level volts limit) s = .next t ∧
      (t.port p).pin = some ⟨level.toNat, min hi (max lo (volts.toNat / 100 * 100)), min amps (max 50 limit.toNat) / 50 * 50⟩ ∧
      ((t.port p).inFlight = some ⟨.pin, q.slot⟩ ∧ t.slotTaken q.slot ∨
        (t.port p).inFlight = none ∧ (t.exch.slot q.slot).copy = .done ∧
          readByte t.exch.mem (slotAddress q.slot + 3) = 0) ∧
      ((s.port p).state = .asking → (t.port p).state = .asking ∧ t.slotTaken q.slot) ∧
      ((s.port p).state = .shifting → (t.port p).state = .shifting ∧ (t.port p).deferred = true ∧ t.slotTaken q.slot) ∧
      (t.port p).held = (s.port p).held ∧ (t.port p).barred = (s.port p).barred

/-- UNPIN removes the pin and completes with OK, and so it does, changing nothing, without a pin; a PIN in flight completes
with LOST (R102). HOLD sets the held flag, RESUME clears it, and both complete with OK (R77). UNPIN and a RESUME on a held
port call for selection: on a free port in BASE or BOUND it takes the winner's terms or, at RESUME, those of the pin, or it
journals NO_LEVEL; in CLAIMED it keeps the claim or takes new terms; in SHIFTING it is deferred; in ASKING, in FAULTED, on a
held, released or barred port, and without an image it changes nothing of the port's terms (R63, R64). -/
def Obligations.UnpinHoldAndResume : Prop :=
  ∀ s q p, s.slotReady q.slot → linePortOf q.port = some p → (s.port p).negotiating = true →
    let r := s.port p
    let selects := fun (t : State) (pin : Option Pin) =>
      (∀ i, r.image = some i → r.released = false → r.barred = false →
        let settledOn := fun (level volts limit : Nat) (shared : Bool) =>
          (r.state = .base ∨ r.state = .bound → t.chose p level volts limit shared) ∧
          (r.state = .claimed → (t.port p).state = .claimed ∧
              (t.port p).staged.map (fun k => (k.level, k.volts, k.limit)) = some (some level, volts, limit) ∨
            t.chose p level volts limit shared)
        (pin = none → winner s.policy (.line p) i.levels = none → r.state = .base ∨ r.state = .bound ∨ r.state = .claimed →
          (t.port p).state = restingOn (t.port p).live ∧ (t.port p).staged = (if r.state = .claimed then none else r.staged) ∧
          s.journals t [(0x11, connectorCode (some (.line p)), [BitVec.ofNat 8 i.levels.length])]) ∧
        (∀ c, pin = none → winner s.policy (.line p) i.levels = some c →
          let limit := min (min c.level.amps (s.policy.pathMax.get (.line p))) (s.policy.ceiling * 1000 / c.volts) / 50 * 50
          settledOn c.index c.volts limit c.level.shared) ∧
        ∀ n l, pin = some n → 0 < n.level → i.levels[n.level - 1]? = some l → settledOn n.level n.volts n.limit l.shared) ∧
      (r.state = .shifting → r.image ≠ none → (t.port p).state = .shifting ∧ (t.port p).deferred = true) ∧
      (r.state = .asking ∨ r.state = .faulted ∨ r.released = true ∨ r.barred = true ∨ r.image = none →
        (t.port p).state = r.state ∧ (t.port p).staged = r.staged ∧ (t.port p).live = r.live)
    (r.pin ≠ none →
      ∃ t, exec (.unpin q) s = .next t ∧ (t.port p).pin = none ∧ t.slotDone q 0x04 .ok [] ∧
        (r.inFlight.map PortRequest.kind = some .pin → (t.port p).inFlight = none) ∧
        (∀ f, s.soleRequest p f → f.kind = .pin → t.answered f.slot .lost) ∧
        (t.port p).held = r.held ∧ t.policy = s.policy ∧ (r.held = false → selects t none) ∧
        (r.held = true → (t.port p).state = r.state ∧ (t.port p).staged = r.staged ∧ (t.port p).live = r.live)) ∧
    (r.pin = none → ∃ t, exec (.unpin q) s = .next t ∧ s.refused t q 0x04 .ok []) ∧
    (∃ t, exec (.hold q) s = .next t ∧ (t.port p).held = true ∧ t.slotDone q 0x05 .ok [] ∧
      (t.port p).state = r.state ∧ (t.port p).staged = r.staged ∧ (t.port p).pin = r.pin) ∧
    ∃ t, exec (.resume q) s = .next t ∧ (t.port p).held = false ∧ t.slotDone q 0x06 .ok [] ∧ (t.port p).pin = r.pin ∧
      (r.held = false → s.slotAlone t q.slot ∧ t.withExch s.exch = s) ∧ (r.held = true → selects t r.pin)

/-- RELEASE on a line port that is not FAULTED: the released flag, BASE, no staged contract, and, where there is a feeder to
give back, the GIVEBACK sent or waiting as `puts` says (R38, R39, R43, R46) and the request in flight until it is sent,
otherwise DONE; on a FAULTED port the released flag alone (R78); on D the released flag alone (R13). The connector is not
eligible, and a path on it opens, from CLOSED with FAILOVER (R116). DEDUCED (log entry 16): a soft start ends with the
CLOSING it belongs to. MODEL'S CHOICE (log entry 34): the result data of a RELEASE that is DONE at once show the record
after step 4 of R78, BASE. -/
def Obligations.ReleaseTakesOutOfService : Prop :=
  (∀ s q p, s.slotReady q.slot → linePortOf q.port = some p → (s.port p).negotiating = true →
    (s.port p).inFlight = none →
    ((s.port p).state ≠ .faulted →
      ∃ t, exec (.release q) s = .next t ∧ (t.port p).released = true ∧ (t.port p).state = .base ∧
        (t.port p).live = some Contract.base ∧ (t.port p).staged = none ∧ (t.port p).timer = .stopped ∧
        (t.port p).lapsing = none ∧ (t.port p).askTag = none ∧ (t.port p).claimTag = none ∧
        t.eligible (.line p) = false ∧
        (if (s.port p).live.map Contract.origin = some .negotiated ∨ (s.port p).staged ≠ none then
          s.puts t p .giveback ∧ (t.port p).inFlight = some ⟨.release, q.slot⟩ ∧ t.slotTaken q.slot
        else t.slotDone q 0x07 .ok (figuresData 3 (some Contract.base))) ∧
        (s.eligible (.line p) = true → s.journals t (s.failover (.line p) 4) ∧
          (s.path.state = .closing (.line p) ∨ s.path.state = .closed (.line p) → s.pathOpened t (.line p)))) ∧
    ((s.port p).state = .faulted →
      ∃ t, exec (.release q) s = .next t ∧ (t.port p).released = true ∧ (t.port p).state = .faulted ∧
        (t.port p).cause = (s.port p).cause ∧ (t.port p).live = (s.port p).live ∧ (t.port p).inFlight = none ∧
        t.eligible (.line p) = false ∧ t.slotDone q 0x07 .ok (figuresData 7 (s.port p).live))) ∧
  ∀ s q, s.slotReady q.slot → q.port = 3 → s.barrel.present = true → s.barrel.inFlight = none →
    ∃ t, exec (.release q) s = .next t ∧ t.barrel = { s.barrel with released := true } ∧ t.eligible .barrel = false ∧
      t.slotDone q 0x07 .ok s.barrel.data ∧
      (s.eligible .barrel = true → s.journals t (s.failover .barrel 4) ∧
        (s.path.state = .closing .barrel ∨ s.path.state = .closed .barrel → s.pathOpened t .barrel))

/-- PRIMARY: 0xFF clears the primary pin, an ineligible connector is refused with the pin unchanged, and an eligible one
becomes the pin, DONE at once where the path is CLOSED on it and in flight otherwise (R118). Its evaluation switches for
improvement: a path CLOSED on an eligible connector opens for another one that is at rest and is the pin
or, with the pin clear and the battery not flat, leads by live score beyond the margin; and it stays where no live score is
beyond the margin, here with the pin clear before and the derived figures in agreement (R109, R115). DEDUCED: the result data
of the refusal (log entry 20), and that no soft start runs once the path opened (log entry 16). -/
def Obligations.PrimarySetsThePin : Prop :=
  ∀ s q, s.slotReady q.slot → s.path.inFlight = none →
    let resting := fun x : Connector => match x with
      | .line p => (s.port p).state = .base ∨ (s.port p).state = .bound
      | .barrel => s.barrel.state = .bound
    let margin := s.policy.switchMargin
    (q.port = 0xFF →
      ∃ t, exec (.primary q) s = .next t ∧ t.path.pin = none ∧
        t.slotDone q 0x08 .ok [s.path.state.code, connectorCode s.path.state.connector, 0xFF] ∧
        ∀ z, s.path.state = .closed z → s.eligible z = true →
          (∀ y, s.meas.dead = false → y ≠ z → s.eligible y = true → resting y → s.liveScore z + margin < s.liveScore y →
            (∀ w, s.eligible w = true → s.liveScore w ≤ s.liveScore y ∧
              (s.liveScore w = s.liveScore y → connectorNumber y ≤ connectorNumber w)) →
            s.pathOpened t z) ∧
          (s.path.pin = none → s.prospectOk →
            (s.meas.dead = true ∨ ∀ y, s.eligible y = true → s.liveScore y ≤ s.liveScore z + margin) → t.path = s.path)) ∧
    ∀ x, connectorOf q.port.toNat = some x →
      (s.eligible x = false →
        ∃ t, exec (.primary q) s = .next t ∧ t.path.pin = s.path.pin ∧ t.path.inFlight = none ∧
          t.slotDone q 0x08 .notEligible s.path.data) ∧
      (s.eligible x = true → s.path.state = .closed x →
        ∃ t, exec (.primary q) s = .next t ∧ t.path.pin = some x ∧ t.path.inFlight = none ∧
          t.slotDone q 0x08 .ok [2, connectorCode (some x), connectorCode (some x)]) ∧
      (s.eligible x = true → s.path.state ≠ .closed x →
        ∃ t, exec (.primary q) s = .next t ∧ t.path.pin = some x ∧ t.path.inFlight = some ⟨x, q.slot⟩ ∧
          t.slotTaken q.slot ∧
          ∀ z, s.path.state = .closed z → s.eligible z = true → resting x → s.pathOpened t z)

/-- REGULATE (R150-R154): the mode, the output and I_acc of the change, the clamped manual target, and the result data with
the output before the change. -/
def Obligations.RegulateChangesMode : Prop :=
  ∀ s q (mode : Byte) (target : Half), s.slotReady q.slot →
    let n := max s.policy.satLo (min s.policy.satHi target.toNat)
    let lo := s.policy.satLo
    let r : Regulator :=
      if mode = 0 then
        match s.reg.mode with
        | .auto => s.reg
        | .manual => { s.reg with mode := .auto, transfer := s.pathClosed }
        | .off => { s.reg with mode := .auto, output := lo, iacc := lo * 256, transfer := false }
      else if mode = 1 then
        match s.reg.mode with
        | .auto => { s.reg with mode := .manual, iacc := s.reg.output * 256, transfer := false, manualTarget := n }
        | .manual => { s.reg with manualTarget := n }
        | .off => { s.reg with mode := .manual, output := lo, iacc := lo * 256, transfer := false, manualTarget := n }
      else if mode = 2 then
        match s.reg.mode with
        | .off => s.reg
        | _ => { s.reg with mode := .off, output := 0, iacc := 0, overdraw := 0, transfer := false }
      else s.reg
    let code : ResultCode := if 2 < mode.toNat then .badArg else if mode = 1 ∧ n ≠ target.toNat then .clamped else .ok
    ∃ t, exec (.regulate q mode target) s = .next t ∧ t.withExch s.exch = s.withReg r ∧ s.slotAlone t q.slot ∧
      t.slotDone q 0x09 code (le2 s.reg.output ++ [r.mode.code, 0] ++ le2 r.manualTarget)

/-- TELEMETRY (R133): OFF stops the period timer, SINGLE waits for the next sequence, REPEAT clamps the period and starts a
stopped timer, and another mode is BAD_ARG. DEDUCED (log entry 20): a refusal returns the reload period too. -/
def Obligations.TelemetrySetsPublishing : Prop :=
  ∀ s q (mode : Byte) (period : Half), s.slotReady q.slot →
    let n := max 10 (min 10000 period.toNat)
    (mode = 1 → ∃ t, exec (.telemetry q mode period) s = .next t ∧
      t.withExch s.exch = s.withMeas { s.meas with singlePending := true, singles := s.meas.singles ++ [q.slot] } ∧
      s.slotAlone t q.slot ∧ t.slotTaken q.slot) ∧
    (mode ≠ 1 →
      let m : Measurement :=
        if mode = 0 then { s.meas with periodTimer := none }
        else if mode = 2 then { s.meas with reload := n, periodTimer := some (s.meas.periodTimer.getD n) }
        else s.meas
      let code : ResultCode := if 2 < mode.toNat then .badArg else if mode = 2 ∧ n ≠ period.toNat then .clamped else .ok
      ∃ t, exec (.telemetry q mode period) s = .next t ∧ t.withExch s.exch = s.withMeas m ∧ s.slotAlone t q.slot ∧
        t.slotDone q 0x0A code (le2 m.reload))

/-- ABORT (R186): a target above 7 is BAD_ARG, a target not in flight or the ABORT's own slot is NOT_FOUND, and a request in
flight ends with ABORTED, its owner forgetting it and all else going on: the port records, D with its identification, the
path with its pin, a pending publish, the regulator, the journal and the settings. DEDUCED (log entry 20): BAD_ARG and
NOT_FOUND give zeros as result data. -/
def Obligations.AbortEndsARequest : Prop :=
  ∀ s q (target : Byte), s.slotReady q.slot →
    (7 < target.toNat → ∃ t, exec (.abort q target) s = .next t ∧ t.slotDone q 0x0B .badArg [] ∧
      s.slotAlone t q.slot ∧ t.withExch s.exch = s) ∧
    ∀ j : Fin 8, target.toNat = j.val →
      (j = q.slot ∨ (s.exch.slot j).copy ≠ .taken →
        ∃ t, exec (.abort q target) s = .next t ∧ t.slotDone q 0x0B .notFound [] ∧ s.slotAlone t q.slot ∧
          t.withExch s.exch = s) ∧
      (j ≠ q.slot → (s.exch.slot j).copy = .taken →
        ∃ t, exec (.abort q target) s = .next t ∧ t.slotDone q 0x0B .ok [(s.exch.slot j).req.kind] ∧
          (t.exch.slot j).copy = .done ∧ readByte t.exch.mem (slotAddress j) = 3 ∧
          readByte t.exch.mem (slotAddress j + 3) = 11 ∧
          (∀ i, i < 16 → readByte t.exch.mem (slotAddress j + 16 + i) = 0) ∧ t.unheld j ∧
          (∀ p, { t.port p with inFlight := none } = { s.port p with inFlight := none }) ∧
          { t.barrel with inFlight := none } = { s.barrel with inFlight := none } ∧
          { t.path with inFlight := none } = { s.path with inFlight := none } ∧
          { t.meas with singles := [] } = { s.meas with singles := [] } ∧ t.reg = s.reg ∧
          (∀ k, k ≠ j → k ≠ q.slot → t.exch.slot k = s.exch.slot k) ∧ t.exch.written = s.exch.written ∧
          t.trackers = s.trackers ∧ t.lines = s.lines ∧ t.engines = s.engines ∧ t.queue = s.queue ∧
          t.prospect = s.prospect ∧ t.policy = s.policy ∧ t.origin = s.origin ∧ t.time = s.time ∧
          t.presence = s.presence ∧ t.latestVD = s.latestVD ∧
          ∀ a, a < 0x80 ∨ 0x380 ≤ a → readByte t.exch.mem a = readByte s.exch.mem a)

/-! ### The rules behind the choices (R86-R88, R107, R108, R141) -/

/-- The chosen volts of a level lie on the 100 mV grid inside the window (R86), and its score is the capped power with the
shared weight (R87). The winner is a candidate of highest score, of those the one of lowest chosen volts, of those the first
(R88). The claim is composed from the winner, or from the pin, with the operating amps of the role (R89, R90, R99). The
prospective scores of the line ports and of D are those of R93, and of the connectors that have one R94 takes the one the
primary pin names; else with the dead-battery flag the incumbent; else the leader, a challenger only where it beats the
incumbent by the margin. -/
def Obligations.WinnerIsTheBestCandidate : Prop :=
  (∀ (q : Policy) x l,
    let lo := (q.vinMin + 99) / 100 * 100
    let hi := q.vinMax / 100 * 100
    let top := min l.hi hi
    (l.usable = false → chosenVolts q l = none) ∧
    (l.usable = true → l.form = .fixed → chosenVolts q l = if lo ≤ l.lo ∧ l.lo ≤ hi then some l.lo else none) ∧
    (l.usable = true → l.form = .span → chosenVolts q l = if l.lo ≤ top ∧ lo ≤ top then some top else none) ∧
    (l.lo % 100 = 0 → l.hi % 100 = 0 → ∀ v, chosenVolts q l = some v → v % 100 = 0) ∧
    (chosenVolts q l = none → levelScore q x l = 0) ∧
    ∀ v, chosenVolts q l = some v →
      levelScore q x l =
        min (v * min l.amps (q.pathMax.get x) / 1000) q.ceiling * (if l.shared then q.sharedWeight else 256) / 256) ∧
  (∀ q x levels,
    (winner q x levels = none ↔ ∀ l ∈ levels, chosenVolts q l = none) ∧
    ∀ c, winner q x levels = some c →
      (0 < c.index ∧ levels[c.index - 1]? = some c.level ∧ chosenVolts q c.level = some c.volts ∧
        c.score = levelScore q x c.level) ∧
      ∀ j l v, levels[j]? = some l → chosenVolts q l = some v →
        levelScore q x l ≤ c.score ∧ (levelScore q x l = c.score → c.volts ≤ v ∧ (v = c.volts → c.index ≤ j + 1))) ∧
  (∀ (q : Policy) p i (n : Pin) (primary : Bool),
    let operating := fun limit => if primary then limit else min q.standby limit / 50 * 50
    (winner q (.line p) i.levels = none → composeClaim q p primary i none = none) ∧
    (∀ c, winner q (.line p) i.levels = some c →
      let limit := min (min c.level.amps (q.pathMax.get (.line p))) (q.ceiling * 1000 / c.volts) / 50 * 50
      composeClaim q p primary i none = some ⟨c.index, c.volts, limit, operating limit, c.level.shared⟩) ∧
    ∀ l, 0 < n.level → i.levels[n.level - 1]? = some l →
      composeClaim q p primary i (some n) = some ⟨n.level, n.volts, n.limit, operating n.limit, l.shared⟩) ∧
  ∀ s : State,
    let score := fun (x : Connector) (c : Contract) =>
      let power := min (min c.limit (s.policy.pathMax.get x) * c.volts / 1000) s.policy.ceiling
      if c.shared then power * s.policy.sharedWeight / 256 else power
    (∀ p,
      (s.role p = true ↔
        s.prospect = some (.line p) ∨ s.path.state = .closing (.line p) ∨ s.path.state = .closed (.line p)) ∧
      let r := s.port p
      let scores := fun n => s.prospective (.line p) = some n
      let out := r.state = .empty ∨ r.state = .settling ∨ r.state = .faulted ∨ r.released = true ∨ r.pathFault = true
      let blocked := r.held = true ∨ r.barred = true
      let standing := fun k : Contract => r.staged = some k ∨ r.staged = none ∧ r.live = some k
      (out → s.prospective (.line p) = none) ∧
      (¬ out → blocked → ∀ k, standing k → scores (score (.line p) k)) ∧
      (¬ out → ¬ blocked → ∀ n i l, r.pin = some n → r.image = some i → 0 < n.level → i.levels[n.level - 1]? = some l →
        scores (score (.line p) ⟨.negotiated, some n.level, n.volts, n.limit, 0, l.shared, false⟩)) ∧
      (¬ out → ¬ blocked → r.pin = none →
        (∀ k, r.state = .shifting → r.staged = some k → scores (score (.line p) k)) ∧
        (∀ k, r.state ≠ .shifting → r.image = none → r.live = some k → scores (score (.line p) k)) ∧
        ∀ i, r.state ≠ .shifting → r.image = some i →
          (∀ c, winner s.policy (.line p) i.levels = some c → scores c.score) ∧
          ∀ k, winner s.policy (.line p) i.levels = none → standing k → scores (score (.line p) k))) ∧
    (let b := s.barrel
      let able := (b.state = .bound ∨ b.state = .identifying) ∧ b.released = false ∧ b.pathFault = false
      (∀ k, able → b.live = some k → s.prospective .barrel = some (score .barrel k)) ∧
        (¬ able ∨ b.live = none → s.prospective .barrel = none)) ∧
    let scored := fun x => s.prospective x ≠ none
    let incumbent := fun z => (s.path.state = .closing z ∨ s.path.state = .closed z) ∧ scored z
    let unpinned := ∀ x, s.path.pin = some x → ¬ scored x
    (∀ x, s.path.pin = some x → scored x → s.findProspect = some x) ∧
    (unpinned → s.meas.dead = true → ∀ z, incumbent z → s.findProspect = some z) ∧
    ((∀ x, ¬ scored x) → s.findProspect = none) ∧
    ∀ y n, unpinned → s.prospective y = some n →
      (∀ x m, s.prospective x = some m → m ≤ n ∧ (m = n → connectorNumber y ≤ connectorNumber x)) →
      ((∀ z, ¬ incumbent z) → s.findProspect = some y) ∧
      (s.meas.dead = false → ∀ z i, incumbent z → s.prospective z = some i →
        s.findProspect = some (if z = y ∨ i + s.policy.switchMargin < n then y else z))

/-- SP_target (R141) where it is current, as `budgetOk` says and every step keeps: the formula while the path is CLOSED, 0
otherwise, and its bounds. -/
def Obligations.BudgetIsDerated : Prop :=
  ∀ s : State, s.budgetOk →
    (s.pathClosed = false → s.reg.spTarget = 0) ∧
    ∀ x k, s.path.state = .closed x → s.live x = some k →
      let ceiling := s.policy.ceiling * 1000 / k.volts
      let raw := [k.limit, s.policy.pathMax.get x, ceiling].foldl min k.limit
      let shifting := ∃ p, x = .line p ∧ (s.port p).state = .shifting
      (¬ shifting → s.reg.spTarget = raw * s.policy.derate / 256) ∧
        (shifting → s.reg.spTarget = min (raw * s.policy.derate / 256) s.policy.shift) ∧
        (s.policy.derate ≤ 256 →
          s.reg.spTarget ≤ k.limit ∧ s.reg.spTarget ≤ s.policy.pathMax.get x ∧ s.reg.spTarget ≤ ceiling) ∧
        (k.limit = 0 → s.reg.spTarget = 0) ∧ (s.policy.derate = 256 → ¬ shifting → s.reg.spTarget = raw)
end

