-- ==== Sys2Proof/Laws/Memory.lean ====
section
/-! SUPPORT. Exchange memory: what a byte reads as after a write, and that every write keeps the canonical form. -/

namespace Sys2Proof.Machine

/-! ### Reading -/

theorem readByte_append_left {l m : List Host.Cell} {x : Nat} (h : ∀ c ∈ m, c.1 ≠ x) :
    readByte (l ++ m) x = readByte l x := by
  induction l with
  | nil =>
    induction m with
    | nil => rfl
    | cons c m ih =>
      have hc : c.1 ≠ x := h c List.mem_cons_self
      simpa [readByte, hc] using ih fun d hd => h d (List.mem_cons_of_mem _ hd)
  | cons c l ih => simp [readByte, ih]

theorem readByte_append_right {l m : List Host.Cell} {x : Nat} (h : ∀ c ∈ l, c.1 ≠ x) :
    readByte (l ++ m) x = readByte m x := by
  induction l with
  | nil => rfl
  | cons c l ih =>
    have hc : c.1 ≠ x := h c List.mem_cons_self
    simpa [readByte, hc] using ih fun d hd => h d (List.mem_cons_of_mem _ hd)

theorem readByte_filter (m : List Host.Cell) (P : Nat → Bool) {x : Nat} (h : P x = true) :
    readByte (m.filter fun c => P c.1) x = readByte m x := by
  induction m with
  | nil => rfl
  | cons c m ih =>
    by_cases hc : c.1 = x
    · subst hc; simp [h, readByte]
    · by_cases hp : P c.1 = true <;> simp [hp, readByte, hc, ih]

theorem blockCells_bounds {a : Nat} {bs : List Byte} {c : Host.Cell} (h : c ∈ blockCells a bs) :
    a ≤ c.1 ∧ c.1 < a + bs.length := by
  induction bs generalizing a with
  | nil => simp [blockCells] at h
  | cons b bs ih =>
    simp only [blockCells] at h
    split at h
    · have := ih h; simp only [List.length_cons]; omega
    · rcases List.mem_cons.mp h with rfl | h
      · simp
      · have := ih h; simp only [List.length_cons]; omega

theorem blockCells_nonzero {a : Nat} {bs : List Byte} {c : Host.Cell} (h : c ∈ blockCells a bs) :
    c.2 ≠ Config.unlistedByte := by
  induction bs generalizing a with
  | nil => simp [blockCells] at h
  | cons b bs ih =>
    simp only [blockCells] at h
    split at h
    · exact ih h
    · rcases List.mem_cons.mp h with rfl | h
      · assumption
      · exact ih h

theorem blockCells_sorted (a : Nat) (bs : List Byte) : (blockCells a bs).Pairwise fun c d => c.1 < d.1 := by
  induction bs generalizing a with
  | nil => exact List.Pairwise.nil
  | cons b bs ih =>
    simp only [blockCells]
    split
    · exact ih (a + 1)
    · exact List.Pairwise.cons (fun d hd => (blockCells_bounds hd).1) (ih (a + 1))

theorem readByte_absent {m : List Host.Cell} {x : Nat} (h : ∀ c ∈ m, c.1 ≠ x) : readByte m x = Config.unlistedByte := by
  simpa [readByte] using readByte_append_right (m := []) h

theorem readByte_blockCells (a : Nat) (bs : List Byte) (i : Nat) :
    readByte (blockCells a bs) (a + i) = bs.getD i Config.unlistedByte := by
  induction bs generalizing a i with
  | nil => rfl
  | cons b bs ih =>
    cases i with
    | zero =>
      simp only [blockCells, Nat.add_zero, List.getD_cons_zero]
      split
      · rename_i hb
        rw [readByte_absent fun c hc => by have := (blockCells_bounds hc).1; omega, hb]
      · simp only [readByte]
        rw [if_pos trivial]
    | succ j =>
      rw [show a + (j + 1) = a + 1 + j by omega]
      simp only [blockCells, List.getD_cons_succ]
      split
      · exact ih (a + 1) j
      · simp only [readByte]
        rw [if_neg (by omega)]
        exact ih (a + 1) j

/-- A byte after a block write: the block's byte inside, the byte as before outside. -/
theorem readByte_writeBlock (m : List Host.Cell) (a : Nat) (bs : List Byte) (x : Nat) :
    readByte (writeBlock m a bs) x =
      if a ≤ x ∧ x < a + bs.length then bs.getD (x - a) Config.unlistedByte else readByte m x := by
  have low : x < a → readByte (writeBlock m a bs) x = readByte m x := fun h => by
    rw [writeBlock, readByte_append_left, readByte_filter m (fun k => decide (k < a)) (by simpa using h)]
    intro c hc
    rcases List.mem_append.mp hc with hc | hc
    · have := (blockCells_bounds hc).1; omega
    · have := (List.mem_filter.mp hc).2; simp only [decide_eq_true_eq] at this; omega
  have notlow : ¬ x < a → ∀ c ∈ m.filter (fun c => decide (c.1 < a)), c.1 ≠ x := fun h c hc => by
    have := (List.mem_filter.mp hc).2; simp only [decide_eq_true_eq] at this; omega
  split
  · rename_i h
    rw [writeBlock, readByte_append_right (notlow (by omega)), readByte_append_left]
    · obtain ⟨i, rfl⟩ : ∃ i, x = a + i := ⟨x - a, by omega⟩
      rw [readByte_blockCells, Nat.add_sub_cancel_left]
    · intro c hc
      have := (List.mem_filter.mp hc).2; simp only [decide_eq_true_eq] at this; omega
  · rename_i h
    by_cases hl : x < a
    · exact low hl
    · rw [writeBlock, readByte_append_right (notlow hl), readByte_append_right,
        readByte_filter m (fun k => decide (a + bs.length ≤ k)) (by simp; omega)]
      intro c hc
      have := blockCells_bounds hc; omega

theorem readByte_writeBlock_outside (m : List Host.Cell) (a : Nat) (bs : List Byte) (x : Nat)
    (h : x < a ∨ a + bs.length ≤ x) : readByte (writeBlock m a bs) x = readByte m x := by
  rw [readByte_writeBlock, if_neg (by omega)]

theorem readByte_writeBlock_inside (m : List Host.Cell) (a : Nat) (bs : List Byte) (i : Nat) (h : i < bs.length) :
    readByte (writeBlock m a bs) (a + i) = bs.getD i Config.unlistedByte := by
  rw [readByte_writeBlock, if_pos (by omega), Nat.add_sub_cancel_left]

/-! ### The canonical form -/

theorem Memory.wf_iff (m : List Host.Cell) :
    Memory.wf m = true ↔
      (m.Pairwise fun c d => c.1 < d.1) ∧ ∀ c ∈ m, c.1 < Config.memBytes ∧ c.2 ≠ Config.unlistedByte := by
  simp [Memory.wf, List.all_eq_true]

/-- A block write within the 2048 bytes keeps the canonical form. -/
theorem Memory.wf_writeBlock {m : List Host.Cell} {a : Nat} {bs : List Byte} (h : Memory.wf m = true)
    (hb : a + bs.length ≤ Config.memBytes) : Memory.wf (writeBlock m a bs) = true := by
  rw [Memory.wf_iff] at h ⊢
  obtain ⟨hs, hc⟩ := h
  have lowmem : ∀ c ∈ m.filter (fun c => decide (c.1 < a)), c ∈ m ∧ c.1 < a := fun c h => by
    simpa using h
  have highmem : ∀ c ∈ m.filter (fun c => decide (a + bs.length ≤ c.1)), c ∈ m ∧ a + bs.length ≤ c.1 := fun c h => by
    simpa using h
  constructor
  · refine List.pairwise_append.mpr ⟨hs.filter _, List.pairwise_append.mpr ⟨blockCells_sorted a bs, hs.filter _, ?_⟩, ?_⟩
    · intro c h1 d h2
      have := (blockCells_bounds h1).2; have := (highmem d h2).2; omega
    · intro c h1 d h2
      have h3 := (lowmem c h1).2
      rcases List.mem_append.mp h2 with h2 | h2
      · have := (blockCells_bounds h2).1; omega
      · have := (highmem d h2).2; omega
  · intro c h
    rcases List.mem_append.mp h with h | h
    · exact hc c (lowmem c h).1
    · rcases List.mem_append.mp h with h | h
      · exact ⟨by have := (blockCells_bounds h).2; omega, blockCells_nonzero h⟩
      · exact hc c (highmem c h).1

theorem spiAddress_lt (addr : Half) (i : Nat) : spiAddress addr i < Config.memBytes :=
  Nat.mod_lt _ (by decide)

/-- The bytes of a MEM_WRITE keep the canonical form. -/
theorem Memory.wf_storeBytes {m : List Host.Cell} (addr : Half) (i : Nat) (bs : List Byte) (h : Memory.wf m = true) :
    Memory.wf (storeBytes m addr i bs) = true := by
  induction bs generalizing m i with
  | nil => exact h
  | cons b bs ih => exact ih (i + 1) (Memory.wf_writeBlock h (spiAddress_lt addr i))

/-- A page write within memory keeps the canonical form. -/
theorem Memory.wf_writePage {m : List Host.Cell} {a : Nat} {w : Half} {bs : List Byte} (h : Memory.wf m = true)
    (hb : a + (bs.length + 2) ≤ Config.memBytes) : Memory.wf (writePage m a w bs) = true :=
  Memory.wf_writeBlock h (by simp only [le2, List.length_append, List.length_cons, List.length_nil]; omega)

/-- The bytes filled up to a length have that length. -/
@[simp] theorem length_padTo (n : Nat) (bs : List Byte) : (padTo n bs).length = n := by
  simp [padTo]; omega

@[simp] theorem length_le2 (n : Nat) : (le2 n).length = 2 := rfl
@[simp] theorem length_le4 (n : Nat) : (le4 n).length = 4 := rfl

@[simp] theorem length_recordBytes (n : Half) (k b : Byte) (t : Word) (d : List Byte) : (recordBytes n k b t d).length = 16 := by
  simp [recordBytes]

@[simp] theorem length_portPage (r : PortRecord) : (portPage r).length = 126 := length_padTo _ _

@[simp] theorem length_barrelPage (b : Barrel) : (barrelPage b).length = 126 := length_padTo _ _

@[simp] theorem length_pageOf (s : State) (x : Connector) : (s.pageOf x).length = 126 := by
  cases x <;> simp [State.pageOf]

@[simp] theorem length_telemetryPage (s : State) : s.telemetryPage.length = 126 := length_padTo _ _

@[simp] theorem length_draftBytes (q : Policy) : (draftBytes q).length = 100 := length_padTo _ _

theorem connectorNumber_le (x : Connector) : connectorNumber x ≤ 3 := by
  rcases x with p | _
  · cases p <;> decide
  · decide

theorem recordAddress_bounds (n : Half) : 0x410 ≤ recordAddress n ∧ recordAddress n + 16 ≤ 0x610 := by
  have : (n.toNat + 31) % Config.journalSize < 32 := Nat.mod_lt _ (by decide)
  simp only [recordAddress, Config.journalBase]; omega

theorem slotAddress_bounds (k : Fin 8) : 0x80 ≤ slotAddress k ∧ slotAddress k + 32 ≤ 0x180 := by
  simp only [slotAddress, Config.slotBase]; omega

theorem pageAddress_bounds (x : Connector) : 0x180 ≤ pageAddress x ∧ pageAddress x + 128 ≤ 0x380 := by
  have := connectorNumber_le x
  simp only [pageAddress, Config.pageBase]; omega

/-- The journal's and the slots' writes keep the canonical form. -/
theorem Memory.wf_putRecord {x : Exchange} {t : Word} {k b : Byte} {d : List Byte} (h : Memory.wf x.mem = true) :
    Memory.wf (x.putRecord t k b d).mem = true := by
  refine Memory.wf_writeBlock (Memory.wf_writeBlock h ?_) (by simp [Config.writeNumberAt, Config.memBytes])
  have := recordAddress_bounds (x.written + 1)
  rw [length_recordBytes]; simp only [Config.memBytes]; omega

theorem Memory.wf_withhold {x : Exchange} (h : Memory.wf x.mem = true) : Memory.wf x.withhold.mem = true :=
  Memory.wf_writeBlock h (by simp [Config.withheldAt, Config.memBytes])

theorem Memory.wf_submit {x : Exchange} {t : Word} {k b : Byte} {d : List Byte} (h : Memory.wf x.mem = true) :
    Memory.wf (x.submit t k b d).mem = true := by
  unfold Exchange.submit
  split
  · exact Memory.wf_putRecord h
  · exact Memory.wf_withhold h

theorem Memory.wf_complete {x : Exchange} {k : Fin 8} {c : ResultCode} {d : List Byte} (h : Memory.wf x.mem = true) :
    Memory.wf (x.complete k c d).mem = true := by
  have := slotAddress_bounds k
  refine Memory.wf_writeBlock (Memory.wf_writeBlock (Memory.wf_writeBlock h ?_) ?_) ?_ <;>
    simp [Config.memBytes] <;> omega

theorem Memory.wf_gap {x : Exchange} {t : Word} (h : Memory.wf x.mem = true) : Memory.wf (x.gap t).mem = true := by
  unfold Exchange.gap
  split
  · exact Memory.wf_writeBlock (Memory.wf_putRecord h) (by simp [Config.withheldAt, Config.memBytes])
  · exact h

theorem Memory.wf_release {x : Exchange} {t : Word} (h : Memory.wf x.mem = true) :
    Memory.wf (x.release t).mem = true := by
  unfold Exchange.release
  dsimp only
  split
  · exact Memory.wf_gap h
  · exact h

/-- The memory right after power-on is in canonical form (R179). -/
theorem Memory.wf_reset : Memory.wf State.reset.exch.mem = true := by decide

end Sys2Proof.Machine
end

