-- ==== Sys2Proof/Laws/State.lean ====
section
/-! SUPPORT. One lemma for each field and each update of State, true by rfl; access and update of what is held per port,
connector or engine. -/

namespace Sys2Proof.Machine

/-! ### Access and update -/

@[simp] theorem PerPort.get_set_self {α : Type} (v : PerPort α) (p : LinePort) (x : α) : (v.set p x).get p = x := by
  cases p <;> rfl

theorem PerPort.get_set_of_ne {α : Type} (v : PerPort α) {p q : LinePort} (x : α) (h : q ≠ p) :
    (v.set p x).get q = v.get q := by
  cases p <;> cases q <;> first | rfl | exact absurd rfl h

theorem PerPort.get_set {α : Type} (v : PerPort α) (p q : LinePort) (x : α) :
    (v.set p x).get q = if q = p then x else v.get q := by
  cases p <;> cases q <;> rfl

@[simp] theorem PerConn.get_set_self {α : Type} (v : PerConn α) (k : Connector) (x : α) : (v.set k x).get k = x := by
  rcases k with p | _
  · cases p <;> rfl
  · rfl

theorem PerConn.get_set_of_ne {α : Type} (v : PerConn α) {k l : Connector} (x : α) (h : l ≠ k) :
    (v.set k x).get l = v.get l := by
  rcases k with p | _ <;> rcases l with q | _
  · cases p <;> cases q <;> first | rfl | exact absurd rfl h
  · cases p <;> rfl
  · cases q <;> rfl
  · exact absurd rfl h

theorem PerConn.get_set {α : Type} (v : PerConn α) (k l : Connector) (x : α) :
    (v.set k x).get l = if l = k then x else v.get l := by
  by_cases h : l = k
  · subst h; simp
  · rw [PerConn.get_set_of_ne v x h, if_neg h]

@[simp] theorem Engines.get_set_self (v : Engines) (e : EngineId) (g : Engine) : (v.set e g).get e = g := by
  cases e <;> rfl

theorem Engines.get_set_of_ne (v : Engines) {e f : EngineId} (g : Engine) (h : f ≠ e) : (v.set e g).get f = v.get f := by
  cases e <;> cases f <;> first | rfl | exact absurd rfl h

@[simp] theorem State.port_setPort_self (s : State) (p : LinePort) (r : PortRecord) : (s.setPort p r).port p = r :=
  PerPort.get_set_self s.ports p r

theorem State.port_setPort_of_ne (s : State) {p q : LinePort} (r : PortRecord) (h : q ≠ p) :
    (s.setPort p r).port q = s.port q :=
  PerPort.get_set_of_ne s.ports r h

@[simp] theorem State.line_setLine_self (s : State) (p : LinePort) (l : Line) : (s.setLine p l).line p = l :=
  PerPort.get_set_self s.lines p l

theorem State.line_setLine_of_ne (s : State) {p q : LinePort} (l : Line) (h : q ≠ p) :
    (s.setLine p l).line q = s.line q :=
  PerPort.get_set_of_ne s.lines l h

@[simp] theorem State.engine_setEngine_self (s : State) (e : EngineId) (g : Engine) : (s.setEngine e g).engine e = g :=
  Engines.get_set_self s.engines e g

theorem State.engine_setEngine_of_ne (s : State) {e f : EngineId} (g : Engine) (h : f ≠ e) :
    (s.setEngine e g).engine f = s.engine f :=
  Engines.get_set_of_ne s.engines g h

@[simp] theorem State.tracker_setTracker_self (s : State) (x : Connector) (t : Tracker) :
    (s.setTracker x t).tracker x = t :=
  PerConn.get_set_self s.trackers x t

theorem State.tracker_setTracker_of_ne (s : State) {x y : Connector} (t : Tracker) (h : y ≠ x) :
    (s.setTracker x t).tracker y = s.tracker y :=
  PerConn.get_set_of_ne s.trackers t h

/-! ### Setters -/

@[simp] theorem State.withPresence_presence (s : State) (v : PerConn Bool) : (s.withPresence v).presence = v := rfl
@[simp] theorem State.withPresence_trackers (s : State) (v : PerConn Bool) : (s.withPresence v).trackers = s.trackers := rfl
@[simp] theorem State.withPresence_barrel (s : State) (v : PerConn Bool) : (s.withPresence v).barrel = s.barrel := rfl
@[simp] theorem State.withPresence_latestVD (s : State) (v : PerConn Bool) : (s.withPresence v).latestVD = s.latestVD := rfl
@[simp] theorem State.withPresence_lines (s : State) (v : PerConn Bool) : (s.withPresence v).lines = s.lines := rfl
@[simp] theorem State.withPresence_engines (s : State) (v : PerConn Bool) : (s.withPresence v).engines = s.engines := rfl
@[simp] theorem State.withPresence_queue (s : State) (v : PerConn Bool) : (s.withPresence v).queue = s.queue := rfl
@[simp] theorem State.withPresence_ports (s : State) (v : PerConn Bool) : (s.withPresence v).ports = s.ports := rfl
@[simp] theorem State.withPresence_prospect (s : State) (v : PerConn Bool) : (s.withPresence v).prospect = s.prospect := rfl
@[simp] theorem State.withPresence_path (s : State) (v : PerConn Bool) : (s.withPresence v).path = s.path := rfl
@[simp] theorem State.withPresence_meas (s : State) (v : PerConn Bool) : (s.withPresence v).meas = s.meas := rfl
@[simp] theorem State.withPresence_reg (s : State) (v : PerConn Bool) : (s.withPresence v).reg = s.reg := rfl
@[simp] theorem State.withPresence_policy (s : State) (v : PerConn Bool) : (s.withPresence v).policy = s.policy := rfl
@[simp] theorem State.withPresence_origin (s : State) (v : PerConn Bool) : (s.withPresence v).origin = s.origin := rfl
@[simp] theorem State.withPresence_exch (s : State) (v : PerConn Bool) : (s.withPresence v).exch = s.exch := rfl
@[simp] theorem State.withPresence_time (s : State) (v : PerConn Bool) : (s.withPresence v).time = s.time := rfl
@[simp] theorem State.withPresence_pending (s : State) (v : PerConn Bool) : (s.withPresence v).pending = s.pending := rfl

@[simp] theorem State.withTrackers_presence (s : State) (v : PerConn Tracker) : (s.withTrackers v).presence = s.presence := rfl
@[simp] theorem State.withTrackers_trackers (s : State) (v : PerConn Tracker) : (s.withTrackers v).trackers = v := rfl
@[simp] theorem State.withTrackers_barrel (s : State) (v : PerConn Tracker) : (s.withTrackers v).barrel = s.barrel := rfl
@[simp] theorem State.withTrackers_latestVD (s : State) (v : PerConn Tracker) : (s.withTrackers v).latestVD = s.latestVD := rfl
@[simp] theorem State.withTrackers_lines (s : State) (v : PerConn Tracker) : (s.withTrackers v).lines = s.lines := rfl
@[simp] theorem State.withTrackers_engines (s : State) (v : PerConn Tracker) : (s.withTrackers v).engines = s.engines := rfl
@[simp] theorem State.withTrackers_queue (s : State) (v : PerConn Tracker) : (s.withTrackers v).queue = s.queue := rfl
@[simp] theorem State.withTrackers_ports (s : State) (v : PerConn Tracker) : (s.withTrackers v).ports = s.ports := rfl
@[simp] theorem State.withTrackers_prospect (s : State) (v : PerConn Tracker) : (s.withTrackers v).prospect = s.prospect := rfl
@[simp] theorem State.withTrackers_path (s : State) (v : PerConn Tracker) : (s.withTrackers v).path = s.path := rfl
@[simp] theorem State.withTrackers_meas (s : State) (v : PerConn Tracker) : (s.withTrackers v).meas = s.meas := rfl
@[simp] theorem State.withTrackers_reg (s : State) (v : PerConn Tracker) : (s.withTrackers v).reg = s.reg := rfl
@[simp] theorem State.withTrackers_policy (s : State) (v : PerConn Tracker) : (s.withTrackers v).policy = s.policy := rfl
@[simp] theorem State.withTrackers_origin (s : State) (v : PerConn Tracker) : (s.withTrackers v).origin = s.origin := rfl
@[simp] theorem State.withTrackers_exch (s : State) (v : PerConn Tracker) : (s.withTrackers v).exch = s.exch := rfl
@[simp] theorem State.withTrackers_time (s : State) (v : PerConn Tracker) : (s.withTrackers v).time = s.time := rfl
@[simp] theorem State.withTrackers_pending (s : State) (v : PerConn Tracker) : (s.withTrackers v).pending = s.pending := rfl

@[simp] theorem State.withBarrel_presence (s : State) (v : Barrel) : (s.withBarrel v).presence = s.presence := rfl
@[simp] theorem State.withBarrel_trackers (s : State) (v : Barrel) : (s.withBarrel v).trackers = s.trackers := rfl
@[simp] theorem State.withBarrel_barrel (s : State) (v : Barrel) : (s.withBarrel v).barrel = v := rfl
@[simp] theorem State.withBarrel_latestVD (s : State) (v : Barrel) : (s.withBarrel v).latestVD = s.latestVD := rfl
@[simp] theorem State.withBarrel_lines (s : State) (v : Barrel) : (s.withBarrel v).lines = s.lines := rfl
@[simp] theorem State.withBarrel_engines (s : State) (v : Barrel) : (s.withBarrel v).engines = s.engines := rfl
@[simp] theorem State.withBarrel_queue (s : State) (v : Barrel) : (s.withBarrel v).queue = s.queue := rfl
@[simp] theorem State.withBarrel_ports (s : State) (v : Barrel) : (s.withBarrel v).ports = s.ports := rfl
@[simp] theorem State.withBarrel_prospect (s : State) (v : Barrel) : (s.withBarrel v).prospect = s.prospect := rfl
@[simp] theorem State.withBarrel_path (s : State) (v : Barrel) : (s.withBarrel v).path = s.path := rfl
@[simp] theorem State.withBarrel_meas (s : State) (v : Barrel) : (s.withBarrel v).meas = s.meas := rfl
@[simp] theorem State.withBarrel_reg (s : State) (v : Barrel) : (s.withBarrel v).reg = s.reg := rfl
@[simp] theorem State.withBarrel_policy (s : State) (v : Barrel) : (s.withBarrel v).policy = s.policy := rfl
@[simp] theorem State.withBarrel_origin (s : State) (v : Barrel) : (s.withBarrel v).origin = s.origin := rfl
@[simp] theorem State.withBarrel_exch (s : State) (v : Barrel) : (s.withBarrel v).exch = s.exch := rfl
@[simp] theorem State.withBarrel_time (s : State) (v : Barrel) : (s.withBarrel v).time = s.time := rfl
@[simp] theorem State.withBarrel_pending (s : State) (v : Barrel) : (s.withBarrel v).pending = s.pending := rfl

@[simp] theorem State.withLatestVD_presence (s : State) (v : Nat) : (s.withLatestVD v).presence = s.presence := rfl
@[simp] theorem State.withLatestVD_trackers (s : State) (v : Nat) : (s.withLatestVD v).trackers = s.trackers := rfl
@[simp] theorem State.withLatestVD_barrel (s : State) (v : Nat) : (s.withLatestVD v).barrel = s.barrel := rfl
@[simp] theorem State.withLatestVD_latestVD (s : State) (v : Nat) : (s.withLatestVD v).latestVD = v := rfl
@[simp] theorem State.withLatestVD_lines (s : State) (v : Nat) : (s.withLatestVD v).lines = s.lines := rfl
@[simp] theorem State.withLatestVD_engines (s : State) (v : Nat) : (s.withLatestVD v).engines = s.engines := rfl
@[simp] theorem State.withLatestVD_queue (s : State) (v : Nat) : (s.withLatestVD v).queue = s.queue := rfl
@[simp] theorem State.withLatestVD_ports (s : State) (v : Nat) : (s.withLatestVD v).ports = s.ports := rfl
@[simp] theorem State.withLatestVD_prospect (s : State) (v : Nat) : (s.withLatestVD v).prospect = s.prospect := rfl
@[simp] theorem State.withLatestVD_path (s : State) (v : Nat) : (s.withLatestVD v).path = s.path := rfl
@[simp] theorem State.withLatestVD_meas (s : State) (v : Nat) : (s.withLatestVD v).meas = s.meas := rfl
@[simp] theorem State.withLatestVD_reg (s : State) (v : Nat) : (s.withLatestVD v).reg = s.reg := rfl
@[simp] theorem State.withLatestVD_policy (s : State) (v : Nat) : (s.withLatestVD v).policy = s.policy := rfl
@[simp] theorem State.withLatestVD_origin (s : State) (v : Nat) : (s.withLatestVD v).origin = s.origin := rfl
@[simp] theorem State.withLatestVD_exch (s : State) (v : Nat) : (s.withLatestVD v).exch = s.exch := rfl
@[simp] theorem State.withLatestVD_time (s : State) (v : Nat) : (s.withLatestVD v).time = s.time := rfl
@[simp] theorem State.withLatestVD_pending (s : State) (v : Nat) : (s.withLatestVD v).pending = s.pending := rfl

@[simp] theorem State.withLines_presence (s : State) (v : PerPort Line) : (s.withLines v).presence = s.presence := rfl
@[simp] theorem State.withLines_trackers (s : State) (v : PerPort Line) : (s.withLines v).trackers = s.trackers := rfl
@[simp] theorem State.withLines_barrel (s : State) (v : PerPort Line) : (s.withLines v).barrel = s.barrel := rfl
@[simp] theorem State.withLines_latestVD (s : State) (v : PerPort Line) : (s.withLines v).latestVD = s.latestVD := rfl
@[simp] theorem State.withLines_lines (s : State) (v : PerPort Line) : (s.withLines v).lines = v := rfl
@[simp] theorem State.withLines_engines (s : State) (v : PerPort Line) : (s.withLines v).engines = s.engines := rfl
@[simp] theorem State.withLines_queue (s : State) (v : PerPort Line) : (s.withLines v).queue = s.queue := rfl
@[simp] theorem State.withLines_ports (s : State) (v : PerPort Line) : (s.withLines v).ports = s.ports := rfl
@[simp] theorem State.withLines_prospect (s : State) (v : PerPort Line) : (s.withLines v).prospect = s.prospect := rfl
@[simp] theorem State.withLines_path (s : State) (v : PerPort Line) : (s.withLines v).path = s.path := rfl
@[simp] theorem State.withLines_meas (s : State) (v : PerPort Line) : (s.withLines v).meas = s.meas := rfl
@[simp] theorem State.withLines_reg (s : State) (v : PerPort Line) : (s.withLines v).reg = s.reg := rfl
@[simp] theorem State.withLines_policy (s : State) (v : PerPort Line) : (s.withLines v).policy = s.policy := rfl
@[simp] theorem State.withLines_origin (s : State) (v : PerPort Line) : (s.withLines v).origin = s.origin := rfl
@[simp] theorem State.withLines_exch (s : State) (v : PerPort Line) : (s.withLines v).exch = s.exch := rfl
@[simp] theorem State.withLines_time (s : State) (v : PerPort Line) : (s.withLines v).time = s.time := rfl
@[simp] theorem State.withLines_pending (s : State) (v : PerPort Line) : (s.withLines v).pending = s.pending := rfl

@[simp] theorem State.withEngines_presence (s : State) (v : Engines) : (s.withEngines v).presence = s.presence := rfl
@[simp] theorem State.withEngines_trackers (s : State) (v : Engines) : (s.withEngines v).trackers = s.trackers := rfl
@[simp] theorem State.withEngines_barrel (s : State) (v : Engines) : (s.withEngines v).barrel = s.barrel := rfl
@[simp] theorem State.withEngines_latestVD (s : State) (v : Engines) : (s.withEngines v).latestVD = s.latestVD := rfl
@[simp] theorem State.withEngines_lines (s : State) (v : Engines) : (s.withEngines v).lines = s.lines := rfl
@[simp] theorem State.withEngines_engines (s : State) (v : Engines) : (s.withEngines v).engines = v := rfl
@[simp] theorem State.withEngines_queue (s : State) (v : Engines) : (s.withEngines v).queue = s.queue := rfl
@[simp] theorem State.withEngines_ports (s : State) (v : Engines) : (s.withEngines v).ports = s.ports := rfl
@[simp] theorem State.withEngines_prospect (s : State) (v : Engines) : (s.withEngines v).prospect = s.prospect := rfl
@[simp] theorem State.withEngines_path (s : State) (v : Engines) : (s.withEngines v).path = s.path := rfl
@[simp] theorem State.withEngines_meas (s : State) (v : Engines) : (s.withEngines v).meas = s.meas := rfl
@[simp] theorem State.withEngines_reg (s : State) (v : Engines) : (s.withEngines v).reg = s.reg := rfl
@[simp] theorem State.withEngines_policy (s : State) (v : Engines) : (s.withEngines v).policy = s.policy := rfl
@[simp] theorem State.withEngines_origin (s : State) (v : Engines) : (s.withEngines v).origin = s.origin := rfl
@[simp] theorem State.withEngines_exch (s : State) (v : Engines) : (s.withEngines v).exch = s.exch := rfl
@[simp] theorem State.withEngines_time (s : State) (v : Engines) : (s.withEngines v).time = s.time := rfl
@[simp] theorem State.withEngines_pending (s : State) (v : Engines) : (s.withEngines v).pending = s.pending := rfl

@[simp] theorem State.withQueue_presence (s : State) (v : List QueueEntry) : (s.withQueue v).presence = s.presence := rfl
@[simp] theorem State.withQueue_trackers (s : State) (v : List QueueEntry) : (s.withQueue v).trackers = s.trackers := rfl
@[simp] theorem State.withQueue_barrel (s : State) (v : List QueueEntry) : (s.withQueue v).barrel = s.barrel := rfl
@[simp] theorem State.withQueue_latestVD (s : State) (v : List QueueEntry) : (s.withQueue v).latestVD = s.latestVD := rfl
@[simp] theorem State.withQueue_lines (s : State) (v : List QueueEntry) : (s.withQueue v).lines = s.lines := rfl
@[simp] theorem State.withQueue_engines (s : State) (v : List QueueEntry) : (s.withQueue v).engines = s.engines := rfl
@[simp] theorem State.withQueue_queue (s : State) (v : List QueueEntry) : (s.withQueue v).queue = v := rfl
@[simp] theorem State.withQueue_ports (s : State) (v : List QueueEntry) : (s.withQueue v).ports = s.ports := rfl
@[simp] theorem State.withQueue_prospect (s : State) (v : List QueueEntry) : (s.withQueue v).prospect = s.prospect := rfl
@[simp] theorem State.withQueue_path (s : State) (v : List QueueEntry) : (s.withQueue v).path = s.path := rfl
@[simp] theorem State.withQueue_meas (s : State) (v : List QueueEntry) : (s.withQueue v).meas = s.meas := rfl
@[simp] theorem State.withQueue_reg (s : State) (v : List QueueEntry) : (s.withQueue v).reg = s.reg := rfl
@[simp] theorem State.withQueue_policy (s : State) (v : List QueueEntry) : (s.withQueue v).policy = s.policy := rfl
@[simp] theorem State.withQueue_origin (s : State) (v : List QueueEntry) : (s.withQueue v).origin = s.origin := rfl
@[simp] theorem State.withQueue_exch (s : State) (v : List QueueEntry) : (s.withQueue v).exch = s.exch := rfl
@[simp] theorem State.withQueue_time (s : State) (v : List QueueEntry) : (s.withQueue v).time = s.time := rfl
@[simp] theorem State.withQueue_pending (s : State) (v : List QueueEntry) : (s.withQueue v).pending = s.pending := rfl

@[simp] theorem State.withPorts_presence (s : State) (v : PerPort PortRecord) : (s.withPorts v).presence = s.presence := rfl
@[simp] theorem State.withPorts_trackers (s : State) (v : PerPort PortRecord) : (s.withPorts v).trackers = s.trackers := rfl
@[simp] theorem State.withPorts_barrel (s : State) (v : PerPort PortRecord) : (s.withPorts v).barrel = s.barrel := rfl
@[simp] theorem State.withPorts_latestVD (s : State) (v : PerPort PortRecord) : (s.withPorts v).latestVD = s.latestVD := rfl
@[simp] theorem State.withPorts_lines (s : State) (v : PerPort PortRecord) : (s.withPorts v).lines = s.lines := rfl
@[simp] theorem State.withPorts_engines (s : State) (v : PerPort PortRecord) : (s.withPorts v).engines = s.engines := rfl
@[simp] theorem State.withPorts_queue (s : State) (v : PerPort PortRecord) : (s.withPorts v).queue = s.queue := rfl
@[simp] theorem State.withPorts_ports (s : State) (v : PerPort PortRecord) : (s.withPorts v).ports = v := rfl
@[simp] theorem State.withPorts_prospect (s : State) (v : PerPort PortRecord) : (s.withPorts v).prospect = s.prospect := rfl
@[simp] theorem State.withPorts_path (s : State) (v : PerPort PortRecord) : (s.withPorts v).path = s.path := rfl
@[simp] theorem State.withPorts_meas (s : State) (v : PerPort PortRecord) : (s.withPorts v).meas = s.meas := rfl
@[simp] theorem State.withPorts_reg (s : State) (v : PerPort PortRecord) : (s.withPorts v).reg = s.reg := rfl
@[simp] theorem State.withPorts_policy (s : State) (v : PerPort PortRecord) : (s.withPorts v).policy = s.policy := rfl
@[simp] theorem State.withPorts_origin (s : State) (v : PerPort PortRecord) : (s.withPorts v).origin = s.origin := rfl
@[simp] theorem State.withPorts_exch (s : State) (v : PerPort PortRecord) : (s.withPorts v).exch = s.exch := rfl
@[simp] theorem State.withPorts_time (s : State) (v : PerPort PortRecord) : (s.withPorts v).time = s.time := rfl
@[simp] theorem State.withPorts_pending (s : State) (v : PerPort PortRecord) : (s.withPorts v).pending = s.pending := rfl

@[simp] theorem State.withProspect_presence (s : State) (v : Option Connector) : (s.withProspect v).presence = s.presence := rfl
@[simp] theorem State.withProspect_trackers (s : State) (v : Option Connector) : (s.withProspect v).trackers = s.trackers := rfl
@[simp] theorem State.withProspect_barrel (s : State) (v : Option Connector) : (s.withProspect v).barrel = s.barrel := rfl
@[simp] theorem State.withProspect_latestVD (s : State) (v : Option Connector) : (s.withProspect v).latestVD = s.latestVD := rfl
@[simp] theorem State.withProspect_lines (s : State) (v : Option Connector) : (s.withProspect v).lines = s.lines := rfl
@[simp] theorem State.withProspect_engines (s : State) (v : Option Connector) : (s.withProspect v).engines = s.engines := rfl
@[simp] theorem State.withProspect_queue (s : State) (v : Option Connector) : (s.withProspect v).queue = s.queue := rfl
@[simp] theorem State.withProspect_ports (s : State) (v : Option Connector) : (s.withProspect v).ports = s.ports := rfl
@[simp] theorem State.withProspect_prospect (s : State) (v : Option Connector) : (s.withProspect v).prospect = v := rfl
@[simp] theorem State.withProspect_path (s : State) (v : Option Connector) : (s.withProspect v).path = s.path := rfl
@[simp] theorem State.withProspect_meas (s : State) (v : Option Connector) : (s.withProspect v).meas = s.meas := rfl
@[simp] theorem State.withProspect_reg (s : State) (v : Option Connector) : (s.withProspect v).reg = s.reg := rfl
@[simp] theorem State.withProspect_policy (s : State) (v : Option Connector) : (s.withProspect v).policy = s.policy := rfl
@[simp] theorem State.withProspect_origin (s : State) (v : Option Connector) : (s.withProspect v).origin = s.origin := rfl
@[simp] theorem State.withProspect_exch (s : State) (v : Option Connector) : (s.withProspect v).exch = s.exch := rfl
@[simp] theorem State.withProspect_time (s : State) (v : Option Connector) : (s.withProspect v).time = s.time := rfl
@[simp] theorem State.withProspect_pending (s : State) (v : Option Connector) : (s.withProspect v).pending = s.pending := rfl

@[simp] theorem State.withPath_presence (s : State) (v : Path) : (s.withPath v).presence = s.presence := rfl
@[simp] theorem State.withPath_trackers (s : State) (v : Path) : (s.withPath v).trackers = s.trackers := rfl
@[simp] theorem State.withPath_barrel (s : State) (v : Path) : (s.withPath v).barrel = s.barrel := rfl
@[simp] theorem State.withPath_latestVD (s : State) (v : Path) : (s.withPath v).latestVD = s.latestVD := rfl
@[simp] theorem State.withPath_lines (s : State) (v : Path) : (s.withPath v).lines = s.lines := rfl
@[simp] theorem State.withPath_engines (s : State) (v : Path) : (s.withPath v).engines = s.engines := rfl
@[simp] theorem State.withPath_queue (s : State) (v : Path) : (s.withPath v).queue = s.queue := rfl
@[simp] theorem State.withPath_ports (s : State) (v : Path) : (s.withPath v).ports = s.ports := rfl
@[simp] theorem State.withPath_prospect (s : State) (v : Path) : (s.withPath v).prospect = s.prospect := rfl
@[simp] theorem State.withPath_path (s : State) (v : Path) : (s.withPath v).path = v := rfl
@[simp] theorem State.withPath_meas (s : State) (v : Path) : (s.withPath v).meas = s.meas := rfl
@[simp] theorem State.withPath_reg (s : State) (v : Path) : (s.withPath v).reg = s.reg := rfl
@[simp] theorem State.withPath_policy (s : State) (v : Path) : (s.withPath v).policy = s.policy := rfl
@[simp] theorem State.withPath_origin (s : State) (v : Path) : (s.withPath v).origin = s.origin := rfl
@[simp] theorem State.withPath_exch (s : State) (v : Path) : (s.withPath v).exch = s.exch := rfl
@[simp] theorem State.withPath_time (s : State) (v : Path) : (s.withPath v).time = s.time := rfl
@[simp] theorem State.withPath_pending (s : State) (v : Path) : (s.withPath v).pending = s.pending := rfl

@[simp] theorem State.withMeas_presence (s : State) (v : Measurement) : (s.withMeas v).presence = s.presence := rfl
@[simp] theorem State.withMeas_trackers (s : State) (v : Measurement) : (s.withMeas v).trackers = s.trackers := rfl
@[simp] theorem State.withMeas_barrel (s : State) (v : Measurement) : (s.withMeas v).barrel = s.barrel := rfl
@[simp] theorem State.withMeas_latestVD (s : State) (v : Measurement) : (s.withMeas v).latestVD = s.latestVD := rfl
@[simp] theorem State.withMeas_lines (s : State) (v : Measurement) : (s.withMeas v).lines = s.lines := rfl
@[simp] theorem State.withMeas_engines (s : State) (v : Measurement) : (s.withMeas v).engines = s.engines := rfl
@[simp] theorem State.withMeas_queue (s : State) (v : Measurement) : (s.withMeas v).queue = s.queue := rfl
@[simp] theorem State.withMeas_ports (s : State) (v : Measurement) : (s.withMeas v).ports = s.ports := rfl
@[simp] theorem State.withMeas_prospect (s : State) (v : Measurement) : (s.withMeas v).prospect = s.prospect := rfl
@[simp] theorem State.withMeas_path (s : State) (v : Measurement) : (s.withMeas v).path = s.path := rfl
@[simp] theorem State.withMeas_meas (s : State) (v : Measurement) : (s.withMeas v).meas = v := rfl
@[simp] theorem State.withMeas_reg (s : State) (v : Measurement) : (s.withMeas v).reg = s.reg := rfl
@[simp] theorem State.withMeas_policy (s : State) (v : Measurement) : (s.withMeas v).policy = s.policy := rfl
@[simp] theorem State.withMeas_origin (s : State) (v : Measurement) : (s.withMeas v).origin = s.origin := rfl
@[simp] theorem State.withMeas_exch (s : State) (v : Measurement) : (s.withMeas v).exch = s.exch := rfl
@[simp] theorem State.withMeas_time (s : State) (v : Measurement) : (s.withMeas v).time = s.time := rfl
@[simp] theorem State.withMeas_pending (s : State) (v : Measurement) : (s.withMeas v).pending = s.pending := rfl

@[simp] theorem State.withReg_presence (s : State) (v : Regulator) : (s.withReg v).presence = s.presence := rfl
@[simp] theorem State.withReg_trackers (s : State) (v : Regulator) : (s.withReg v).trackers = s.trackers := rfl
@[simp] theorem State.withReg_barrel (s : State) (v : Regulator) : (s.withReg v).barrel = s.barrel := rfl
@[simp] theorem State.withReg_latestVD (s : State) (v : Regulator) : (s.withReg v).latestVD = s.latestVD := rfl
@[simp] theorem State.withReg_lines (s : State) (v : Regulator) : (s.withReg v).lines = s.lines := rfl
@[simp] theorem State.withReg_engines (s : State) (v : Regulator) : (s.withReg v).engines = s.engines := rfl
@[simp] theorem State.withReg_queue (s : State) (v : Regulator) : (s.withReg v).queue = s.queue := rfl
@[simp] theorem State.withReg_ports (s : State) (v : Regulator) : (s.withReg v).ports = s.ports := rfl
@[simp] theorem State.withReg_prospect (s : State) (v : Regulator) : (s.withReg v).prospect = s.prospect := rfl
@[simp] theorem State.withReg_path (s : State) (v : Regulator) : (s.withReg v).path = s.path := rfl
@[simp] theorem State.withReg_meas (s : State) (v : Regulator) : (s.withReg v).meas = s.meas := rfl
@[simp] theorem State.withReg_reg (s : State) (v : Regulator) : (s.withReg v).reg = v := rfl
@[simp] theorem State.withReg_policy (s : State) (v : Regulator) : (s.withReg v).policy = s.policy := rfl
@[simp] theorem State.withReg_origin (s : State) (v : Regulator) : (s.withReg v).origin = s.origin := rfl
@[simp] theorem State.withReg_exch (s : State) (v : Regulator) : (s.withReg v).exch = s.exch := rfl
@[simp] theorem State.withReg_time (s : State) (v : Regulator) : (s.withReg v).time = s.time := rfl
@[simp] theorem State.withReg_pending (s : State) (v : Regulator) : (s.withReg v).pending = s.pending := rfl

@[simp] theorem State.withPolicy_presence (s : State) (v : Policy) : (s.withPolicy v).presence = s.presence := rfl
@[simp] theorem State.withPolicy_trackers (s : State) (v : Policy) : (s.withPolicy v).trackers = s.trackers := rfl
@[simp] theorem State.withPolicy_barrel (s : State) (v : Policy) : (s.withPolicy v).barrel = s.barrel := rfl
@[simp] theorem State.withPolicy_latestVD (s : State) (v : Policy) : (s.withPolicy v).latestVD = s.latestVD := rfl
@[simp] theorem State.withPolicy_lines (s : State) (v : Policy) : (s.withPolicy v).lines = s.lines := rfl
@[simp] theorem State.withPolicy_engines (s : State) (v : Policy) : (s.withPolicy v).engines = s.engines := rfl
@[simp] theorem State.withPolicy_queue (s : State) (v : Policy) : (s.withPolicy v).queue = s.queue := rfl
@[simp] theorem State.withPolicy_ports (s : State) (v : Policy) : (s.withPolicy v).ports = s.ports := rfl
@[simp] theorem State.withPolicy_prospect (s : State) (v : Policy) : (s.withPolicy v).prospect = s.prospect := rfl
@[simp] theorem State.withPolicy_path (s : State) (v : Policy) : (s.withPolicy v).path = s.path := rfl
@[simp] theorem State.withPolicy_meas (s : State) (v : Policy) : (s.withPolicy v).meas = s.meas := rfl
@[simp] theorem State.withPolicy_reg (s : State) (v : Policy) : (s.withPolicy v).reg = s.reg := rfl
@[simp] theorem State.withPolicy_policy (s : State) (v : Policy) : (s.withPolicy v).policy = v := rfl
@[simp] theorem State.withPolicy_origin (s : State) (v : Policy) : (s.withPolicy v).origin = s.origin := rfl
@[simp] theorem State.withPolicy_exch (s : State) (v : Policy) : (s.withPolicy v).exch = s.exch := rfl
@[simp] theorem State.withPolicy_time (s : State) (v : Policy) : (s.withPolicy v).time = s.time := rfl
@[simp] theorem State.withPolicy_pending (s : State) (v : Policy) : (s.withPolicy v).pending = s.pending := rfl

@[simp] theorem State.withOrigin_presence (s : State) (v : PolicyOrigin) : (s.withOrigin v).presence = s.presence := rfl
@[simp] theorem State.withOrigin_trackers (s : State) (v : PolicyOrigin) : (s.withOrigin v).trackers = s.trackers := rfl
@[simp] theorem State.withOrigin_barrel (s : State) (v : PolicyOrigin) : (s.withOrigin v).barrel = s.barrel := rfl
@[simp] theorem State.withOrigin_latestVD (s : State) (v : PolicyOrigin) : (s.withOrigin v).latestVD = s.latestVD := rfl
@[simp] theorem State.withOrigin_lines (s : State) (v : PolicyOrigin) : (s.withOrigin v).lines = s.lines := rfl
@[simp] theorem State.withOrigin_engines (s : State) (v : PolicyOrigin) : (s.withOrigin v).engines = s.engines := rfl
@[simp] theorem State.withOrigin_queue (s : State) (v : PolicyOrigin) : (s.withOrigin v).queue = s.queue := rfl
@[simp] theorem State.withOrigin_ports (s : State) (v : PolicyOrigin) : (s.withOrigin v).ports = s.ports := rfl
@[simp] theorem State.withOrigin_prospect (s : State) (v : PolicyOrigin) : (s.withOrigin v).prospect = s.prospect := rfl
@[simp] theorem State.withOrigin_path (s : State) (v : PolicyOrigin) : (s.withOrigin v).path = s.path := rfl
@[simp] theorem State.withOrigin_meas (s : State) (v : PolicyOrigin) : (s.withOrigin v).meas = s.meas := rfl
@[simp] theorem State.withOrigin_reg (s : State) (v : PolicyOrigin) : (s.withOrigin v).reg = s.reg := rfl
@[simp] theorem State.withOrigin_policy (s : State) (v : PolicyOrigin) : (s.withOrigin v).policy = s.policy := rfl
@[simp] theorem State.withOrigin_origin (s : State) (v : PolicyOrigin) : (s.withOrigin v).origin = v := rfl
@[simp] theorem State.withOrigin_exch (s : State) (v : PolicyOrigin) : (s.withOrigin v).exch = s.exch := rfl
@[simp] theorem State.withOrigin_time (s : State) (v : PolicyOrigin) : (s.withOrigin v).time = s.time := rfl
@[simp] theorem State.withOrigin_pending (s : State) (v : PolicyOrigin) : (s.withOrigin v).pending = s.pending := rfl

@[simp] theorem State.withExch_presence (s : State) (v : Exchange) : (s.withExch v).presence = s.presence := rfl
@[simp] theorem State.withExch_trackers (s : State) (v : Exchange) : (s.withExch v).trackers = s.trackers := rfl
@[simp] theorem State.withExch_barrel (s : State) (v : Exchange) : (s.withExch v).barrel = s.barrel := rfl
@[simp] theorem State.withExch_latestVD (s : State) (v : Exchange) : (s.withExch v).latestVD = s.latestVD := rfl
@[simp] theorem State.withExch_lines (s : State) (v : Exchange) : (s.withExch v).lines = s.lines := rfl
@[simp] theorem State.withExch_engines (s : State) (v : Exchange) : (s.withExch v).engines = s.engines := rfl
@[simp] theorem State.withExch_queue (s : State) (v : Exchange) : (s.withExch v).queue = s.queue := rfl
@[simp] theorem State.withExch_ports (s : State) (v : Exchange) : (s.withExch v).ports = s.ports := rfl
@[simp] theorem State.withExch_prospect (s : State) (v : Exchange) : (s.withExch v).prospect = s.prospect := rfl
@[simp] theorem State.withExch_path (s : State) (v : Exchange) : (s.withExch v).path = s.path := rfl
@[simp] theorem State.withExch_meas (s : State) (v : Exchange) : (s.withExch v).meas = s.meas := rfl
@[simp] theorem State.withExch_reg (s : State) (v : Exchange) : (s.withExch v).reg = s.reg := rfl
@[simp] theorem State.withExch_policy (s : State) (v : Exchange) : (s.withExch v).policy = s.policy := rfl
@[simp] theorem State.withExch_origin (s : State) (v : Exchange) : (s.withExch v).origin = s.origin := rfl
@[simp] theorem State.withExch_exch (s : State) (v : Exchange) : (s.withExch v).exch = v := rfl
@[simp] theorem State.withExch_time (s : State) (v : Exchange) : (s.withExch v).time = s.time := rfl
@[simp] theorem State.withExch_pending (s : State) (v : Exchange) : (s.withExch v).pending = s.pending := rfl

@[simp] theorem State.withTime_presence (s : State) (v : Word) : (s.withTime v).presence = s.presence := rfl
@[simp] theorem State.withTime_trackers (s : State) (v : Word) : (s.withTime v).trackers = s.trackers := rfl
@[simp] theorem State.withTime_barrel (s : State) (v : Word) : (s.withTime v).barrel = s.barrel := rfl
@[simp] theorem State.withTime_latestVD (s : State) (v : Word) : (s.withTime v).latestVD = s.latestVD := rfl
@[simp] theorem State.withTime_lines (s : State) (v : Word) : (s.withTime v).lines = s.lines := rfl
@[simp] theorem State.withTime_engines (s : State) (v : Word) : (s.withTime v).engines = s.engines := rfl
@[simp] theorem State.withTime_queue (s : State) (v : Word) : (s.withTime v).queue = s.queue := rfl
@[simp] theorem State.withTime_ports (s : State) (v : Word) : (s.withTime v).ports = s.ports := rfl
@[simp] theorem State.withTime_prospect (s : State) (v : Word) : (s.withTime v).prospect = s.prospect := rfl
@[simp] theorem State.withTime_path (s : State) (v : Word) : (s.withTime v).path = s.path := rfl
@[simp] theorem State.withTime_meas (s : State) (v : Word) : (s.withTime v).meas = s.meas := rfl
@[simp] theorem State.withTime_reg (s : State) (v : Word) : (s.withTime v).reg = s.reg := rfl
@[simp] theorem State.withTime_policy (s : State) (v : Word) : (s.withTime v).policy = s.policy := rfl
@[simp] theorem State.withTime_origin (s : State) (v : Word) : (s.withTime v).origin = s.origin := rfl
@[simp] theorem State.withTime_exch (s : State) (v : Word) : (s.withTime v).exch = s.exch := rfl
@[simp] theorem State.withTime_time (s : State) (v : Word) : (s.withTime v).time = v := rfl
@[simp] theorem State.withTime_pending (s : State) (v : Word) : (s.withTime v).pending = s.pending := rfl

@[simp] theorem State.withPending_presence (s : State) (v : List Instr) : (s.withPending v).presence = s.presence := rfl
@[simp] theorem State.withPending_trackers (s : State) (v : List Instr) : (s.withPending v).trackers = s.trackers := rfl
@[simp] theorem State.withPending_barrel (s : State) (v : List Instr) : (s.withPending v).barrel = s.barrel := rfl
@[simp] theorem State.withPending_latestVD (s : State) (v : List Instr) : (s.withPending v).latestVD = s.latestVD := rfl
@[simp] theorem State.withPending_lines (s : State) (v : List Instr) : (s.withPending v).lines = s.lines := rfl
@[simp] theorem State.withPending_engines (s : State) (v : List Instr) : (s.withPending v).engines = s.engines := rfl
@[simp] theorem State.withPending_queue (s : State) (v : List Instr) : (s.withPending v).queue = s.queue := rfl
@[simp] theorem State.withPending_ports (s : State) (v : List Instr) : (s.withPending v).ports = s.ports := rfl
@[simp] theorem State.withPending_prospect (s : State) (v : List Instr) : (s.withPending v).prospect = s.prospect := rfl
@[simp] theorem State.withPending_path (s : State) (v : List Instr) : (s.withPending v).path = s.path := rfl
@[simp] theorem State.withPending_meas (s : State) (v : List Instr) : (s.withPending v).meas = s.meas := rfl
@[simp] theorem State.withPending_reg (s : State) (v : List Instr) : (s.withPending v).reg = s.reg := rfl
@[simp] theorem State.withPending_policy (s : State) (v : List Instr) : (s.withPending v).policy = s.policy := rfl
@[simp] theorem State.withPending_origin (s : State) (v : List Instr) : (s.withPending v).origin = s.origin := rfl
@[simp] theorem State.withPending_exch (s : State) (v : List Instr) : (s.withPending v).exch = s.exch := rfl
@[simp] theorem State.withPending_time (s : State) (v : List Instr) : (s.withPending v).time = s.time := rfl
@[simp] theorem State.withPending_pending (s : State) (v : List Instr) : (s.withPending v).pending = v := rfl

/-! ### Updates of one port, line, engine or tracker -/

@[simp] theorem State.setPort_presence (s : State) (p : LinePort) (r : PortRecord) : (s.setPort p r).presence = s.presence := rfl
@[simp] theorem State.setPort_trackers (s : State) (p : LinePort) (r : PortRecord) : (s.setPort p r).trackers = s.trackers := rfl
@[simp] theorem State.setPort_barrel (s : State) (p : LinePort) (r : PortRecord) : (s.setPort p r).barrel = s.barrel := rfl
@[simp] theorem State.setPort_latestVD (s : State) (p : LinePort) (r : PortRecord) : (s.setPort p r).latestVD = s.latestVD := rfl
@[simp] theorem State.setPort_lines (s : State) (p : LinePort) (r : PortRecord) : (s.setPort p r).lines = s.lines := rfl
@[simp] theorem State.setPort_engines (s : State) (p : LinePort) (r : PortRecord) : (s.setPort p r).engines = s.engines := rfl
@[simp] theorem State.setPort_queue (s : State) (p : LinePort) (r : PortRecord) : (s.setPort p r).queue = s.queue := rfl
@[simp] theorem State.setPort_prospect (s : State) (p : LinePort) (r : PortRecord) : (s.setPort p r).prospect = s.prospect := rfl
@[simp] theorem State.setPort_path (s : State) (p : LinePort) (r : PortRecord) : (s.setPort p r).path = s.path := rfl
@[simp] theorem State.setPort_meas (s : State) (p : LinePort) (r : PortRecord) : (s.setPort p r).meas = s.meas := rfl
@[simp] theorem State.setPort_reg (s : State) (p : LinePort) (r : PortRecord) : (s.setPort p r).reg = s.reg := rfl
@[simp] theorem State.setPort_policy (s : State) (p : LinePort) (r : PortRecord) : (s.setPort p r).policy = s.policy := rfl
@[simp] theorem State.setPort_origin (s : State) (p : LinePort) (r : PortRecord) : (s.setPort p r).origin = s.origin := rfl
@[simp] theorem State.setPort_exch (s : State) (p : LinePort) (r : PortRecord) : (s.setPort p r).exch = s.exch := rfl
@[simp] theorem State.setPort_time (s : State) (p : LinePort) (r : PortRecord) : (s.setPort p r).time = s.time := rfl
@[simp] theorem State.setPort_pending (s : State) (p : LinePort) (r : PortRecord) : (s.setPort p r).pending = s.pending := rfl

@[simp] theorem State.setLine_presence (s : State) (p : LinePort) (r : Line) : (s.setLine p r).presence = s.presence := rfl
@[simp] theorem State.setLine_trackers (s : State) (p : LinePort) (r : Line) : (s.setLine p r).trackers = s.trackers := rfl
@[simp] theorem State.setLine_barrel (s : State) (p : LinePort) (r : Line) : (s.setLine p r).barrel = s.barrel := rfl
@[simp] theorem State.setLine_latestVD (s : State) (p : LinePort) (r : Line) : (s.setLine p r).latestVD = s.latestVD := rfl
@[simp] theorem State.setLine_engines (s : State) (p : LinePort) (r : Line) : (s.setLine p r).engines = s.engines := rfl
@[simp] theorem State.setLine_queue (s : State) (p : LinePort) (r : Line) : (s.setLine p r).queue = s.queue := rfl
@[simp] theorem State.setLine_ports (s : State) (p : LinePort) (r : Line) : (s.setLine p r).ports = s.ports := rfl
@[simp] theorem State.setLine_prospect (s : State) (p : LinePort) (r : Line) : (s.setLine p r).prospect = s.prospect := rfl
@[simp] theorem State.setLine_path (s : State) (p : LinePort) (r : Line) : (s.setLine p r).path = s.path := rfl
@[simp] theorem State.setLine_meas (s : State) (p : LinePort) (r : Line) : (s.setLine p r).meas = s.meas := rfl
@[simp] theorem State.setLine_reg (s : State) (p : LinePort) (r : Line) : (s.setLine p r).reg = s.reg := rfl
@[simp] theorem State.setLine_policy (s : State) (p : LinePort) (r : Line) : (s.setLine p r).policy = s.policy := rfl
@[simp] theorem State.setLine_origin (s : State) (p : LinePort) (r : Line) : (s.setLine p r).origin = s.origin := rfl
@[simp] theorem State.setLine_exch (s : State) (p : LinePort) (r : Line) : (s.setLine p r).exch = s.exch := rfl
@[simp] theorem State.setLine_time (s : State) (p : LinePort) (r : Line) : (s.setLine p r).time = s.time := rfl
@[simp] theorem State.setLine_pending (s : State) (p : LinePort) (r : Line) : (s.setLine p r).pending = s.pending := rfl

@[simp] theorem State.setEngine_presence (s : State) (p : EngineId) (r : Engine) : (s.setEngine p r).presence = s.presence := rfl
@[simp] theorem State.setEngine_trackers (s : State) (p : EngineId) (r : Engine) : (s.setEngine p r).trackers = s.trackers := rfl
@[simp] theorem State.setEngine_barrel (s : State) (p : EngineId) (r : Engine) : (s.setEngine p r).barrel = s.barrel := rfl
@[simp] theorem State.setEngine_latestVD (s : State) (p : EngineId) (r : Engine) : (s.setEngine p r).latestVD = s.latestVD := rfl
@[simp] theorem State.setEngine_lines (s : State) (p : EngineId) (r : Engine) : (s.setEngine p r).lines = s.lines := rfl
@[simp] theorem State.setEngine_queue (s : State) (p : EngineId) (r : Engine) : (s.setEngine p r).queue = s.queue := rfl
@[simp] theorem State.setEngine_ports (s : State) (p : EngineId) (r : Engine) : (s.setEngine p r).ports = s.ports := rfl
@[simp] theorem State.setEngine_prospect (s : State) (p : EngineId) (r : Engine) : (s.setEngine p r).prospect = s.prospect := rfl
@[simp] theorem State.setEngine_path (s : State) (p : EngineId) (r : Engine) : (s.setEngine p r).path = s.path := rfl
@[simp] theorem State.setEngine_meas (s : State) (p : EngineId) (r : Engine) : (s.setEngine p r).meas = s.meas := rfl
@[simp] theorem State.setEngine_reg (s : State) (p : EngineId) (r : Engine) : (s.setEngine p r).reg = s.reg := rfl
@[simp] theorem State.setEngine_policy (s : State) (p : EngineId) (r : Engine) : (s.setEngine p r).policy = s.policy := rfl
@[simp] theorem State.setEngine_origin (s : State) (p : EngineId) (r : Engine) : (s.setEngine p r).origin = s.origin := rfl
@[simp] theorem State.setEngine_exch (s : State) (p : EngineId) (r : Engine) : (s.setEngine p r).exch = s.exch := rfl
@[simp] theorem State.setEngine_time (s : State) (p : EngineId) (r : Engine) : (s.setEngine p r).time = s.time := rfl
@[simp] theorem State.setEngine_pending (s : State) (p : EngineId) (r : Engine) : (s.setEngine p r).pending = s.pending := rfl

@[simp] theorem State.setTracker_presence (s : State) (p : Connector) (r : Tracker) : (s.setTracker p r).presence = s.presence := rfl
@[simp] theorem State.setTracker_barrel (s : State) (p : Connector) (r : Tracker) : (s.setTracker p r).barrel = s.barrel := rfl
@[simp] theorem State.setTracker_latestVD (s : State) (p : Connector) (r : Tracker) : (s.setTracker p r).latestVD = s.latestVD := rfl
@[simp] theorem State.setTracker_lines (s : State) (p : Connector) (r : Tracker) : (s.setTracker p r).lines = s.lines := rfl
@[simp] theorem State.setTracker_engines (s : State) (p : Connector) (r : Tracker) : (s.setTracker p r).engines = s.engines := rfl
@[simp] theorem State.setTracker_queue (s : State) (p : Connector) (r : Tracker) : (s.setTracker p r).queue = s.queue := rfl
@[simp] theorem State.setTracker_ports (s : State) (p : Connector) (r : Tracker) : (s.setTracker p r).ports = s.ports := rfl
@[simp] theorem State.setTracker_prospect (s : State) (p : Connector) (r : Tracker) : (s.setTracker p r).prospect = s.prospect := rfl
@[simp] theorem State.setTracker_path (s : State) (p : Connector) (r : Tracker) : (s.setTracker p r).path = s.path := rfl
@[simp] theorem State.setTracker_meas (s : State) (p : Connector) (r : Tracker) : (s.setTracker p r).meas = s.meas := rfl
@[simp] theorem State.setTracker_reg (s : State) (p : Connector) (r : Tracker) : (s.setTracker p r).reg = s.reg := rfl
@[simp] theorem State.setTracker_policy (s : State) (p : Connector) (r : Tracker) : (s.setTracker p r).policy = s.policy := rfl
@[simp] theorem State.setTracker_origin (s : State) (p : Connector) (r : Tracker) : (s.setTracker p r).origin = s.origin := rfl
@[simp] theorem State.setTracker_exch (s : State) (p : Connector) (r : Tracker) : (s.setTracker p r).exch = s.exch := rfl
@[simp] theorem State.setTracker_time (s : State) (p : Connector) (r : Tracker) : (s.setTracker p r).time = s.time := rfl
@[simp] theorem State.setTracker_pending (s : State) (p : Connector) (r : Tracker) : (s.setTracker p r).pending = s.pending := rfl

/-! ### The journal, attention, completions and pages touch the Exchange Unit alone -/

@[simp] theorem State.journal_presence (s : State) (k b : Byte) (d : List Byte) : (s.journal k b d).presence = s.presence := rfl
@[simp] theorem State.journal_trackers (s : State) (k b : Byte) (d : List Byte) : (s.journal k b d).trackers = s.trackers := rfl
@[simp] theorem State.journal_barrel (s : State) (k b : Byte) (d : List Byte) : (s.journal k b d).barrel = s.barrel := rfl
@[simp] theorem State.journal_latestVD (s : State) (k b : Byte) (d : List Byte) : (s.journal k b d).latestVD = s.latestVD := rfl
@[simp] theorem State.journal_lines (s : State) (k b : Byte) (d : List Byte) : (s.journal k b d).lines = s.lines := rfl
@[simp] theorem State.journal_engines (s : State) (k b : Byte) (d : List Byte) : (s.journal k b d).engines = s.engines := rfl
@[simp] theorem State.journal_queue (s : State) (k b : Byte) (d : List Byte) : (s.journal k b d).queue = s.queue := rfl
@[simp] theorem State.journal_ports (s : State) (k b : Byte) (d : List Byte) : (s.journal k b d).ports = s.ports := rfl
@[simp] theorem State.journal_prospect (s : State) (k b : Byte) (d : List Byte) : (s.journal k b d).prospect = s.prospect := rfl
@[simp] theorem State.journal_path (s : State) (k b : Byte) (d : List Byte) : (s.journal k b d).path = s.path := rfl
@[simp] theorem State.journal_meas (s : State) (k b : Byte) (d : List Byte) : (s.journal k b d).meas = s.meas := rfl
@[simp] theorem State.journal_reg (s : State) (k b : Byte) (d : List Byte) : (s.journal k b d).reg = s.reg := rfl
@[simp] theorem State.journal_policy (s : State) (k b : Byte) (d : List Byte) : (s.journal k b d).policy = s.policy := rfl
@[simp] theorem State.journal_origin (s : State) (k b : Byte) (d : List Byte) : (s.journal k b d).origin = s.origin := rfl
@[simp] theorem State.journal_time (s : State) (k b : Byte) (d : List Byte) : (s.journal k b d).time = s.time := rfl
@[simp] theorem State.journal_pending (s : State) (k b : Byte) (d : List Byte) : (s.journal k b d).pending = s.pending := rfl

@[simp] theorem State.raise_presence (s : State) (c : BitVec 7) : (s.raise c).presence = s.presence := rfl
@[simp] theorem State.raise_trackers (s : State) (c : BitVec 7) : (s.raise c).trackers = s.trackers := rfl
@[simp] theorem State.raise_barrel (s : State) (c : BitVec 7) : (s.raise c).barrel = s.barrel := rfl
@[simp] theorem State.raise_latestVD (s : State) (c : BitVec 7) : (s.raise c).latestVD = s.latestVD := rfl
@[simp] theorem State.raise_lines (s : State) (c : BitVec 7) : (s.raise c).lines = s.lines := rfl
@[simp] theorem State.raise_engines (s : State) (c : BitVec 7) : (s.raise c).engines = s.engines := rfl
@[simp] theorem State.raise_queue (s : State) (c : BitVec 7) : (s.raise c).queue = s.queue := rfl
@[simp] theorem State.raise_ports (s : State) (c : BitVec 7) : (s.raise c).ports = s.ports := rfl
@[simp] theorem State.raise_prospect (s : State) (c : BitVec 7) : (s.raise c).prospect = s.prospect := rfl
@[simp] theorem State.raise_path (s : State) (c : BitVec 7) : (s.raise c).path = s.path := rfl
@[simp] theorem State.raise_meas (s : State) (c : BitVec 7) : (s.raise c).meas = s.meas := rfl
@[simp] theorem State.raise_reg (s : State) (c : BitVec 7) : (s.raise c).reg = s.reg := rfl
@[simp] theorem State.raise_policy (s : State) (c : BitVec 7) : (s.raise c).policy = s.policy := rfl
@[simp] theorem State.raise_origin (s : State) (c : BitVec 7) : (s.raise c).origin = s.origin := rfl
@[simp] theorem State.raise_time (s : State) (c : BitVec 7) : (s.raise c).time = s.time := rfl
@[simp] theorem State.raise_pending (s : State) (c : BitVec 7) : (s.raise c).pending = s.pending := rfl

@[simp] theorem State.complete_presence (s : State) (k : Fin 8) (c : ResultCode) (d : List Byte) : (s.complete k c d).presence = s.presence := rfl
@[simp] theorem State.complete_trackers (s : State) (k : Fin 8) (c : ResultCode) (d : List Byte) : (s.complete k c d).trackers = s.trackers := rfl
@[simp] theorem State.complete_barrel (s : State) (k : Fin 8) (c : ResultCode) (d : List Byte) : (s.complete k c d).barrel = s.barrel := rfl
@[simp] theorem State.complete_latestVD (s : State) (k : Fin 8) (c : ResultCode) (d : List Byte) : (s.complete k c d).latestVD = s.latestVD := rfl
@[simp] theorem State.complete_lines (s : State) (k : Fin 8) (c : ResultCode) (d : List Byte) : (s.complete k c d).lines = s.lines := rfl
@[simp] theorem State.complete_engines (s : State) (k : Fin 8) (c : ResultCode) (d : List Byte) : (s.complete k c d).engines = s.engines := rfl
@[simp] theorem State.complete_queue (s : State) (k : Fin 8) (c : ResultCode) (d : List Byte) : (s.complete k c d).queue = s.queue := rfl
@[simp] theorem State.complete_ports (s : State) (k : Fin 8) (c : ResultCode) (d : List Byte) : (s.complete k c d).ports = s.ports := rfl
@[simp] theorem State.complete_prospect (s : State) (k : Fin 8) (c : ResultCode) (d : List Byte) : (s.complete k c d).prospect = s.prospect := rfl
@[simp] theorem State.complete_path (s : State) (k : Fin 8) (c : ResultCode) (d : List Byte) : (s.complete k c d).path = s.path := rfl
@[simp] theorem State.complete_meas (s : State) (k : Fin 8) (c : ResultCode) (d : List Byte) : (s.complete k c d).meas = s.meas := rfl
@[simp] theorem State.complete_reg (s : State) (k : Fin 8) (c : ResultCode) (d : List Byte) : (s.complete k c d).reg = s.reg := rfl
@[simp] theorem State.complete_policy (s : State) (k : Fin 8) (c : ResultCode) (d : List Byte) : (s.complete k c d).policy = s.policy := rfl
@[simp] theorem State.complete_origin (s : State) (k : Fin 8) (c : ResultCode) (d : List Byte) : (s.complete k c d).origin = s.origin := rfl
@[simp] theorem State.complete_time (s : State) (k : Fin 8) (c : ResultCode) (d : List Byte) : (s.complete k c d).time = s.time := rfl
@[simp] theorem State.complete_pending (s : State) (k : Fin 8) (c : ResultCode) (d : List Byte) : (s.complete k c d).pending = s.pending := rfl

@[simp] theorem State.rewritePage_presence (s : State) (x : Connector) : (s.rewritePage x).presence = s.presence := rfl
@[simp] theorem State.rewritePage_trackers (s : State) (x : Connector) : (s.rewritePage x).trackers = s.trackers := rfl
@[simp] theorem State.rewritePage_barrel (s : State) (x : Connector) : (s.rewritePage x).barrel = s.barrel := rfl
@[simp] theorem State.rewritePage_latestVD (s : State) (x : Connector) : (s.rewritePage x).latestVD = s.latestVD := rfl
@[simp] theorem State.rewritePage_lines (s : State) (x : Connector) : (s.rewritePage x).lines = s.lines := rfl
@[simp] theorem State.rewritePage_engines (s : State) (x : Connector) : (s.rewritePage x).engines = s.engines := rfl
@[simp] theorem State.rewritePage_queue (s : State) (x : Connector) : (s.rewritePage x).queue = s.queue := rfl
@[simp] theorem State.rewritePage_ports (s : State) (x : Connector) : (s.rewritePage x).ports = s.ports := rfl
@[simp] theorem State.rewritePage_prospect (s : State) (x : Connector) : (s.rewritePage x).prospect = s.prospect := rfl
@[simp] theorem State.rewritePage_path (s : State) (x : Connector) : (s.rewritePage x).path = s.path := rfl
@[simp] theorem State.rewritePage_meas (s : State) (x : Connector) : (s.rewritePage x).meas = s.meas := rfl
@[simp] theorem State.rewritePage_reg (s : State) (x : Connector) : (s.rewritePage x).reg = s.reg := rfl
@[simp] theorem State.rewritePage_policy (s : State) (x : Connector) : (s.rewritePage x).policy = s.policy := rfl
@[simp] theorem State.rewritePage_origin (s : State) (x : Connector) : (s.rewritePage x).origin = s.origin := rfl
@[simp] theorem State.rewritePage_time (s : State) (x : Connector) : (s.rewritePage x).time = s.time := rfl
@[simp] theorem State.rewritePage_pending (s : State) (x : Connector) : (s.rewritePage x).pending = s.pending := rfl

@[simp] theorem State.writeTelemetry_presence (s : State) : (s.writeTelemetry).presence = s.presence := rfl
@[simp] theorem State.writeTelemetry_trackers (s : State) : (s.writeTelemetry).trackers = s.trackers := rfl
@[simp] theorem State.writeTelemetry_barrel (s : State) : (s.writeTelemetry).barrel = s.barrel := rfl
@[simp] theorem State.writeTelemetry_latestVD (s : State) : (s.writeTelemetry).latestVD = s.latestVD := rfl
@[simp] theorem State.writeTelemetry_lines (s : State) : (s.writeTelemetry).lines = s.lines := rfl
@[simp] theorem State.writeTelemetry_engines (s : State) : (s.writeTelemetry).engines = s.engines := rfl
@[simp] theorem State.writeTelemetry_queue (s : State) : (s.writeTelemetry).queue = s.queue := rfl
@[simp] theorem State.writeTelemetry_ports (s : State) : (s.writeTelemetry).ports = s.ports := rfl
@[simp] theorem State.writeTelemetry_prospect (s : State) : (s.writeTelemetry).prospect = s.prospect := rfl
@[simp] theorem State.writeTelemetry_path (s : State) : (s.writeTelemetry).path = s.path := rfl
@[simp] theorem State.writeTelemetry_meas (s : State) : (s.writeTelemetry).meas = s.meas := rfl
@[simp] theorem State.writeTelemetry_reg (s : State) : (s.writeTelemetry).reg = s.reg := rfl
@[simp] theorem State.writeTelemetry_policy (s : State) : (s.writeTelemetry).policy = s.policy := rfl
@[simp] theorem State.writeTelemetry_origin (s : State) : (s.writeTelemetry).origin = s.origin := rfl
@[simp] theorem State.writeTelemetry_time (s : State) : (s.writeTelemetry).time = s.time := rfl
@[simp] theorem State.writeTelemetry_pending (s : State) : (s.writeTelemetry).pending = s.pending := rfl

@[simp] theorem State.writeDraft_presence (s : State) : (s.writeDraft).presence = s.presence := rfl
@[simp] theorem State.writeDraft_trackers (s : State) : (s.writeDraft).trackers = s.trackers := rfl
@[simp] theorem State.writeDraft_barrel (s : State) : (s.writeDraft).barrel = s.barrel := rfl
@[simp] theorem State.writeDraft_latestVD (s : State) : (s.writeDraft).latestVD = s.latestVD := rfl
@[simp] theorem State.writeDraft_lines (s : State) : (s.writeDraft).lines = s.lines := rfl
@[simp] theorem State.writeDraft_engines (s : State) : (s.writeDraft).engines = s.engines := rfl
@[simp] theorem State.writeDraft_queue (s : State) : (s.writeDraft).queue = s.queue := rfl
@[simp] theorem State.writeDraft_ports (s : State) : (s.writeDraft).ports = s.ports := rfl
@[simp] theorem State.writeDraft_prospect (s : State) : (s.writeDraft).prospect = s.prospect := rfl
@[simp] theorem State.writeDraft_path (s : State) : (s.writeDraft).path = s.path := rfl
@[simp] theorem State.writeDraft_meas (s : State) : (s.writeDraft).meas = s.meas := rfl
@[simp] theorem State.writeDraft_reg (s : State) : (s.writeDraft).reg = s.reg := rfl
@[simp] theorem State.writeDraft_policy (s : State) : (s.writeDraft).policy = s.policy := rfl
@[simp] theorem State.writeDraft_origin (s : State) : (s.writeDraft).origin = s.origin := rfl
@[simp] theorem State.writeDraft_time (s : State) : (s.writeDraft).time = s.time := rfl
@[simp] theorem State.writeDraft_pending (s : State) : (s.writeDraft).pending = s.pending := rfl

/-! ### A change of the live contract (R82) -/

@[simp] theorem PortRecord.setLive_live (r : PortRecord) (c : Option Contract) : (r.setLive c).live = c := rfl

@[simp] theorem PortRecord.setLive_pathFault (r : PortRecord) (c : Option Contract) :
    (r.setLive c).pathFault = (r.pathFault && decide (r.live = c)) := rfl

theorem PortRecord.setLive_self (r : PortRecord) : r.setLive r.live = r := by simp [PortRecord.setLive]

theorem PortRecord.setLive_pathFault_of_ne (r : PortRecord) {c : Option Contract} (h : r.live ≠ c) :
    (r.setLive c).pathFault = false := by simp [h]

@[simp] theorem PortRecord.setLive_state (r : PortRecord) (c : Option Contract) : (r.setLive c).state = r.state := rfl

@[simp] theorem PortRecord.setLive_cause (r : PortRecord) (c : Option Contract) : (r.setLive c).cause = r.cause := rfl

@[simp] theorem PortRecord.setLive_held (r : PortRecord) (c : Option Contract) : (r.setLive c).held = r.held := rfl

@[simp] theorem PortRecord.setLive_released (r : PortRecord) (c : Option Contract) :
    (r.setLive c).released = r.released := rfl

@[simp] theorem PortRecord.setLive_silent (r : PortRecord) (c : Option Contract) :
    (r.setLive c).silent = r.silent := rfl

@[simp] theorem PortRecord.setLive_barred (r : PortRecord) (c : Option Contract) :
    (r.setLive c).barred = r.barred := rfl

@[simp] theorem PortRecord.setLive_lapsing (r : PortRecord) (c : Option Contract) :
    (r.setLive c).lapsing = r.lapsing := rfl

@[simp] theorem PortRecord.setLive_deferred (r : PortRecord) (c : Option Contract) :
    (r.setLive c).deferred = r.deferred := rfl

@[simp] theorem PortRecord.setLive_refreshPending (r : PortRecord) (c : Option Contract) :
    (r.setLive c).refreshPending = r.refreshPending := rfl

@[simp] theorem PortRecord.setLive_image (r : PortRecord) (c : Option Contract) : (r.setLive c).image = r.image := rfl

@[simp] theorem PortRecord.setLive_staged (r : PortRecord) (c : Option Contract) :
    (r.setLive c).staged = r.staged := rfl

@[simp] theorem PortRecord.setLive_pin (r : PortRecord) (c : Option Contract) : (r.setLive c).pin = r.pin := rfl

@[simp] theorem PortRecord.setLive_slot (r : PortRecord) (c : Option Contract) : (r.setLive c).slot = r.slot := rfl

@[simp] theorem PortRecord.setLive_timer (r : PortRecord) (c : Option Contract) : (r.setLive c).timer = r.timer := rfl

@[simp] theorem PortRecord.setLive_lapseTimer (r : PortRecord) (c : Option Contract) :
    (r.setLive c).lapseTimer = r.lapseTimer := rfl

@[simp] theorem PortRecord.setLive_askTag (r : PortRecord) (c : Option Contract) :
    (r.setLive c).askTag = r.askTag := rfl

@[simp] theorem PortRecord.setLive_claimTag (r : PortRecord) (c : Option Contract) :
    (r.setLive c).claimTag = r.claimTag := rfl

@[simp] theorem PortRecord.setLive_askAttempts (r : PortRecord) (c : Option Contract) :
    (r.setLive c).askAttempts = r.askAttempts := rfl

@[simp] theorem PortRecord.setLive_claimAttempts (r : PortRecord) (c : Option Contract) :
    (r.setLive c).claimAttempts = r.claimAttempts := rfl

@[simp] theorem PortRecord.setLive_tagCounter (r : PortRecord) (c : Option Contract) :
    (r.setLive c).tagCounter = r.tagCounter := rfl

@[simp] theorem PortRecord.setLive_badFrame (r : PortRecord) (c : Option Contract) :
    (r.setLive c).badFrame = r.badFrame := rfl

@[simp] theorem PortRecord.setLive_staleFrame (r : PortRecord) (c : Option Contract) :
    (r.setLive c).staleFrame = r.staleFrame := rfl

@[simp] theorem PortRecord.setLive_missedHail (r : PortRecord) (c : Option Contract) :
    (r.setLive c).missedHail = r.missedHail := rfl

@[simp] theorem PortRecord.setLive_decline (r : PortRecord) (c : Option Contract) :
    (r.setLive c).decline = r.decline := rfl

@[simp] theorem PortRecord.setLive_inFlight (r : PortRecord) (c : Option Contract) :
    (r.setLive c).inFlight = r.inFlight := rfl

end Sys2Proof.Machine
end

