-- ==== Sys2Proof/Laws/Events.lean ====
section
/-! SUPPORT. What the shared ends of an event can do: the page rewrites of finish, the reports of settle, and that every
command answers a next state. -/

namespace Sys2Proof.Machine

/-! ### The page rewrites at the end of an event (R190) -/

/-- A property that every page rewrite keeps is kept by finish. -/
theorem State.finish_induction (P : State → Prop) (s t : State) (h : P t)
    (step : ∀ u x, P u → P (s.refreshPage u x)) : P (s.finish t) := by
  unfold State.finish
  generalize connectors = l
  induction l generalizing t with
  | nil => exact h
  | cons x l ih => exact ih _ (step t x h)

theorem State.refreshPage_cases (s t : State) (x : Connector) :
    (recordChanged s t x = true ∧ s.refreshPage t x = t.rewritePage x) ∨
      (recordChanged s t x = false ∧ s.refreshPage t x = t) := by
  unfold State.refreshPage
  cases recordChanged s t x <;> simp

@[simp] theorem State.refreshPage_presence (s t : State) (x : Connector) : (s.refreshPage t x).presence = t.presence := by
  unfold State.refreshPage; split <;> rfl

@[simp] theorem State.finish_presence (s t : State) : (s.finish t).presence = t.presence :=
  State.finish_induction (fun u => u.presence = t.presence) s t rfl fun u x h => by simp [h]

@[simp] theorem State.refreshPage_trackers (s t : State) (x : Connector) : (s.refreshPage t x).trackers = t.trackers := by
  unfold State.refreshPage; split <;> rfl

@[simp] theorem State.finish_trackers (s t : State) : (s.finish t).trackers = t.trackers :=
  State.finish_induction (fun u => u.trackers = t.trackers) s t rfl fun u x h => by simp [h]

@[simp] theorem State.refreshPage_barrel (s t : State) (x : Connector) : (s.refreshPage t x).barrel = t.barrel := by
  unfold State.refreshPage; split <;> rfl

@[simp] theorem State.finish_barrel (s t : State) : (s.finish t).barrel = t.barrel :=
  State.finish_induction (fun u => u.barrel = t.barrel) s t rfl fun u x h => by simp [h]

@[simp] theorem State.refreshPage_latestVD (s t : State) (x : Connector) : (s.refreshPage t x).latestVD = t.latestVD := by
  unfold State.refreshPage; split <;> rfl

@[simp] theorem State.finish_latestVD (s t : State) : (s.finish t).latestVD = t.latestVD :=
  State.finish_induction (fun u => u.latestVD = t.latestVD) s t rfl fun u x h => by simp [h]

@[simp] theorem State.refreshPage_lines (s t : State) (x : Connector) : (s.refreshPage t x).lines = t.lines := by
  unfold State.refreshPage; split <;> rfl

@[simp] theorem State.finish_lines (s t : State) : (s.finish t).lines = t.lines :=
  State.finish_induction (fun u => u.lines = t.lines) s t rfl fun u x h => by simp [h]

@[simp] theorem State.refreshPage_engines (s t : State) (x : Connector) : (s.refreshPage t x).engines = t.engines := by
  unfold State.refreshPage; split <;> rfl

@[simp] theorem State.finish_engines (s t : State) : (s.finish t).engines = t.engines :=
  State.finish_induction (fun u => u.engines = t.engines) s t rfl fun u x h => by simp [h]

@[simp] theorem State.refreshPage_queue (s t : State) (x : Connector) : (s.refreshPage t x).queue = t.queue := by
  unfold State.refreshPage; split <;> rfl

@[simp] theorem State.finish_queue (s t : State) : (s.finish t).queue = t.queue :=
  State.finish_induction (fun u => u.queue = t.queue) s t rfl fun u x h => by simp [h]

@[simp] theorem State.refreshPage_ports (s t : State) (x : Connector) : (s.refreshPage t x).ports = t.ports := by
  unfold State.refreshPage; split <;> rfl

@[simp] theorem State.finish_ports (s t : State) : (s.finish t).ports = t.ports :=
  State.finish_induction (fun u => u.ports = t.ports) s t rfl fun u x h => by simp [h]

@[simp] theorem State.refreshPage_prospect (s t : State) (x : Connector) : (s.refreshPage t x).prospect = t.prospect := by
  unfold State.refreshPage; split <;> rfl

@[simp] theorem State.finish_prospect (s t : State) : (s.finish t).prospect = t.prospect :=
  State.finish_induction (fun u => u.prospect = t.prospect) s t rfl fun u x h => by simp [h]

@[simp] theorem State.refreshPage_path (s t : State) (x : Connector) : (s.refreshPage t x).path = t.path := by
  unfold State.refreshPage; split <;> rfl

@[simp] theorem State.finish_path (s t : State) : (s.finish t).path = t.path :=
  State.finish_induction (fun u => u.path = t.path) s t rfl fun u x h => by simp [h]

@[simp] theorem State.refreshPage_meas (s t : State) (x : Connector) : (s.refreshPage t x).meas = t.meas := by
  unfold State.refreshPage; split <;> rfl

@[simp] theorem State.finish_meas (s t : State) : (s.finish t).meas = t.meas :=
  State.finish_induction (fun u => u.meas = t.meas) s t rfl fun u x h => by simp [h]

@[simp] theorem State.refreshPage_reg (s t : State) (x : Connector) : (s.refreshPage t x).reg = t.reg := by
  unfold State.refreshPage; split <;> rfl

@[simp] theorem State.finish_reg (s t : State) : (s.finish t).reg = t.reg :=
  State.finish_induction (fun u => u.reg = t.reg) s t rfl fun u x h => by simp [h]

@[simp] theorem State.refreshPage_policy (s t : State) (x : Connector) : (s.refreshPage t x).policy = t.policy := by
  unfold State.refreshPage; split <;> rfl

@[simp] theorem State.finish_policy (s t : State) : (s.finish t).policy = t.policy :=
  State.finish_induction (fun u => u.policy = t.policy) s t rfl fun u x h => by simp [h]

@[simp] theorem State.refreshPage_origin (s t : State) (x : Connector) : (s.refreshPage t x).origin = t.origin := by
  unfold State.refreshPage; split <;> rfl

@[simp] theorem State.finish_origin (s t : State) : (s.finish t).origin = t.origin :=
  State.finish_induction (fun u => u.origin = t.origin) s t rfl fun u x h => by simp [h]

@[simp] theorem State.refreshPage_time (s t : State) (x : Connector) : (s.refreshPage t x).time = t.time := by
  unfold State.refreshPage; split <;> rfl

@[simp] theorem State.finish_time (s t : State) : (s.finish t).time = t.time :=
  State.finish_induction (fun u => u.time = t.time) s t rfl fun u x h => by simp [h]

@[simp] theorem State.refreshPage_pending (s t : State) (x : Connector) : (s.refreshPage t x).pending = t.pending := by
  unfold State.refreshPage; split <;> rfl

@[simp] theorem State.finish_pending (s t : State) : (s.finish t).pending = t.pending :=
  State.finish_induction (fun u => u.pending = t.pending) s t rfl fun u x h => by simp [h]

@[simp] theorem State.port_finish (s t : State) (p : LinePort) : (s.finish t).port p = t.port p := by simp [State.port]

@[simp] theorem State.line_finish (s t : State) (p : LinePort) : (s.finish t).line p = t.line p := by simp [State.line]

@[simp] theorem State.engine_finish (s t : State) (e : EngineId) : (s.finish t).engine e = t.engine e := by
  simp [State.engine]

@[simp] theorem State.tracker_finish (s t : State) (x : Connector) : (s.finish t).tracker x = t.tracker x := by
  simp [State.tracker]

@[simp] theorem State.pageOf_finish (s t : State) (x : Connector) : (s.finish t).pageOf x = t.pageOf x := by
  cases x <;> simp [State.pageOf]

/-- A page rewrite leaves the Exchange Unit as it was but for the memory and the revision words. -/
@[simp] theorem State.finish_exch_rest (s t : State) :
    { (s.finish t).exch with mem := t.exch.mem, pageRev := t.exch.pageRev } = t.exch :=
  State.finish_induction (fun u => { u.exch with mem := t.exch.mem, pageRev := t.exch.pageRev } = t.exch) s t rfl
    fun u x h => by
      rcases State.refreshPage_cases s u x with ⟨-, e⟩ | ⟨-, e⟩ <;> rw [e]
      · exact h
      · exact h

theorem State.wf_rewritePage {s : State} (x : Connector) (h : Memory.wf s.exch.mem = true) :
    Memory.wf (s.rewritePage x).exch.mem = true :=
  Memory.wf_writePage h (by
    have := pageAddress_bounds x
    rw [length_pageOf]; simp only [Config.memBytes]; omega)

/-- The page rewrites keep the canonical form. -/
theorem State.wf_finish {s t : State} (h : Memory.wf t.exch.mem = true) : Memory.wf (s.finish t).exch.mem = true :=
  State.finish_induction (fun u => Memory.wf u.exch.mem = true) s t h fun u x h => by
    rcases State.refreshPage_cases s u x with ⟨-, e⟩ | ⟨-, e⟩ <;> rw [e]
    · exact State.wf_rewritePage x h
    · exact h

/-- A page rewrite touches the page's 128 bytes alone. -/
theorem State.readByte_rewritePage_outside (s : State) (x : Connector) (a : Nat)
    (h : a < pageAddress x ∨ pageAddress x + 128 ≤ a) :
    readByte (s.rewritePage x).exch.mem a = readByte s.exch.mem a := by
  refine readByte_writeBlock_outside _ _ _ _ ?_
  have : (s.pageOf x).length = 126 := length_pageOf s x
  simp only [List.length_append, length_le2, this]
  omega

/-- A rewritten page holds its revision word and its contents. -/
theorem State.readByte_rewritePage_inside (s : State) (x : Connector) (i : Nat) (h : i < 128) :
    readByte (s.rewritePage x).exch.mem (pageAddress x + i) =
      (le2 ((s.exch.pageRev.get x + 2).toNat) ++ s.pageOf x).getD i 0 := by
  refine readByte_writeBlock_inside _ _ _ _ ?_
  have : (s.pageOf x).length = 126 := length_pageOf s x
  simp only [List.length_append, length_le2, this]
  omega

/-- Outside the four port pages, finish leaves every byte of memory as it was. -/
theorem State.readByte_finish_outside (s t : State) (a : Nat) (h : a < 0x180 ∨ 0x380 ≤ a) :
    readByte (s.finish t).exch.mem a = readByte t.exch.mem a :=
  State.finish_induction (fun u => readByte u.exch.mem a = readByte t.exch.mem a) s t rfl fun u x hu => by
    rcases State.refreshPage_cases s u x with ⟨-, e⟩ | ⟨-, e⟩ <;> rw [e]
    · rw [State.readByte_rewritePage_outside u x a (by have := pageAddress_bounds x; omega)]; exact hu
    · exact hu

/-! ### The reports of an event -/

/-- An event's end makes its reports, and with `pages` the page rewrites. -/
theorem State.concludes_cases (pages : Bool) (s t : State) :
    (pages = true ∧ s.concludes pages t = s.finish (s.report t)) ∨ (pages = false ∧ s.concludes pages t = s.report t) := by
  cases pages <;> simp [State.concludes]

/-- A property that the end of an event keeps, and that a call for selection with its end keeps, is kept by all that
follows an event. -/
theorem settle_induction (P : State → Prop) (pages : Bool) (conclude : ∀ s t : State, P t → P (s.concludes pages t))
    (call : ∀ (u : State) (p : LinePort), P u → P ((u.callSelection p).apply p)) (n : Nat) (s t : State) (h : P t) :
    P (settle pages n s t) := by
  induction n generalizing s t with
  | zero => exact conclude s t h
  | succ n ih =>
    simp only [settle]
    generalize roleChanges s (s.concludes pages t) = l
    have hr : P (s.concludes pages t) := conclude s t h
    generalize s.concludes pages t = v at hr
    induction l generalizing v with
    | nil => exact hr
    | cons p l ihl => exact ihl _ (ih _ _ (call v p hr))

/-- A property that the end of an event establishes holds after all that follows it. -/
theorem settle_established (P : State → Prop) (pages : Bool) (conclude : ∀ s t : State, P (s.concludes pages t)) (n : Nat)
    (s t : State) : P (settle pages n s t) := by
  induction n generalizing s t with
  | zero => exact conclude s t
  | succ n ih =>
    simp only [settle]
    generalize roleChanges s (s.concludes pages t) = l
    have hr : P (s.concludes pages t) := conclude s t
    generalize s.concludes pages t = v at hr
    induction l generalizing v with
    | nil => exact hr
    | cons p l ihl => exact ihl _ (ih _ _)

/-- An event that changes no claim role is followed by no other. -/
theorem settle_of_no_roleChanges {s t : State} (pages : Bool) (n : Nat)
    (h : roleChanges s (s.concludes pages t) = []) : settle pages n s t = s.concludes pages t := by
  cases n <;> simp [settle, h]

/-- The prospect after an event is the one R94 gives: a recomputation reads nothing it writes. -/
theorem State.prospectOk_recompute (s : State) : s.recomputeProspect.prospect = s.recomputeProspect.findProspect := rfl

/-- Page rewrites leave the prospect that R94 gives. -/
theorem State.findProspect_finish (s t : State) : (s.finish t).findProspect = t.findProspect := by
  simp only [State.findProspect, State.pinProspect, State.incumbent, State.prospects, State.prospective, State.liveScore,
    State.live, State.port_finish, State.finish_barrel, State.finish_path, State.finish_meas, State.finish_policy]
  rfl

theorem State.prospectOk_concludes (pages : Bool) (s t : State) :
    (s.concludes pages t).prospect = (s.concludes pages t).findProspect := by
  rcases State.concludes_cases pages s t with ⟨-, e⟩ | ⟨-, e⟩ <;> rw [e]
  · rw [State.finish_prospect, State.findProspect_finish]
    exact State.prospectOk_recompute _
  · exact State.prospectOk_recompute _

theorem State.prospectOk_settles (s t : State) : (s.settles t).prospect = (s.settles t).findProspect :=
  settle_established (fun u => u.prospect = u.findProspect) true (State.prospectOk_concludes true) _ s t

/-! ### Every command completes -/

/-- No command faults and none is refused. -/
theorem exec_next (c : Instr) (s : State) : ∃ t, exec c s = .next t := by
  cases c <;> exact ⟨_, rfl⟩

end Sys2Proof.Machine
end

