-- ==== Sys2Proof/Laws/Frames.lean ====
section
/-! SUPPORT. What each shared operation leaves alone: one lemma per operation and field. -/

namespace Sys2Proof.Machine

/-! ### recomputeProspect -/
@[simp] theorem State.recomputeProspect_presence (s : State) : s.recomputeProspect.presence = s.presence := rfl
@[simp] theorem State.recomputeProspect_trackers (s : State) : s.recomputeProspect.trackers = s.trackers := rfl
@[simp] theorem State.recomputeProspect_barrel (s : State) : s.recomputeProspect.barrel = s.barrel := rfl
@[simp] theorem State.recomputeProspect_latestVD (s : State) : s.recomputeProspect.latestVD = s.latestVD := rfl
@[simp] theorem State.recomputeProspect_lines (s : State) : s.recomputeProspect.lines = s.lines := rfl
@[simp] theorem State.recomputeProspect_engines (s : State) : s.recomputeProspect.engines = s.engines := rfl
@[simp] theorem State.recomputeProspect_queue (s : State) : s.recomputeProspect.queue = s.queue := rfl
@[simp] theorem State.recomputeProspect_ports (s : State) : s.recomputeProspect.ports = s.ports := rfl
@[simp] theorem State.recomputeProspect_path (s : State) : s.recomputeProspect.path = s.path := rfl
@[simp] theorem State.recomputeProspect_meas (s : State) : s.recomputeProspect.meas = s.meas := rfl
@[simp] theorem State.recomputeProspect_reg (s : State) : s.recomputeProspect.reg = s.reg := rfl
@[simp] theorem State.recomputeProspect_policy (s : State) : s.recomputeProspect.policy = s.policy := rfl
@[simp] theorem State.recomputeProspect_origin (s : State) : s.recomputeProspect.origin = s.origin := rfl
@[simp] theorem State.recomputeProspect_exch (s : State) : s.recomputeProspect.exch = s.exch := rfl
@[simp] theorem State.recomputeProspect_time (s : State) : s.recomputeProspect.time = s.time := rfl

@[simp] theorem State.recomputeProspect_pending (s : State) : s.recomputeProspect.pending = s.pending := rfl

/-! ### select -/

@[simp] theorem State.select_presence (s : State) (p : LinePort) : (s.select p).1.presence = s.presence := by
  unfold State.select
  dsimp only
  split <;> simp

@[simp] theorem State.select_trackers (s : State) (p : LinePort) : (s.select p).1.trackers = s.trackers := by
  unfold State.select
  dsimp only
  split <;> simp

@[simp] theorem State.select_barrel (s : State) (p : LinePort) : (s.select p).1.barrel = s.barrel := by
  unfold State.select
  dsimp only
  split <;> simp

@[simp] theorem State.select_latestVD (s : State) (p : LinePort) : (s.select p).1.latestVD = s.latestVD := by
  unfold State.select
  dsimp only
  split <;> simp

@[simp] theorem State.select_lines (s : State) (p : LinePort) : (s.select p).1.lines = s.lines := by
  unfold State.select
  dsimp only
  split <;> simp

@[simp] theorem State.select_engines (s : State) (p : LinePort) : (s.select p).1.engines = s.engines := by
  unfold State.select
  dsimp only
  split <;> simp

@[simp] theorem State.select_queue (s : State) (p : LinePort) : (s.select p).1.queue = s.queue := by
  unfold State.select
  dsimp only
  split <;> simp

@[simp] theorem State.select_path (s : State) (p : LinePort) : (s.select p).1.path = s.path := by
  unfold State.select
  dsimp only
  split <;> simp

@[simp] theorem State.select_meas (s : State) (p : LinePort) : (s.select p).1.meas = s.meas := by
  unfold State.select
  dsimp only
  split <;> simp

@[simp] theorem State.select_reg (s : State) (p : LinePort) : (s.select p).1.reg = s.reg := by
  unfold State.select
  dsimp only
  split <;> simp

@[simp] theorem State.select_policy (s : State) (p : LinePort) : (s.select p).1.policy = s.policy := by
  unfold State.select
  dsimp only
  split <;> simp

@[simp] theorem State.select_origin (s : State) (p : LinePort) : (s.select p).1.origin = s.origin := by
  unfold State.select
  dsimp only
  split <;> simp

@[simp] theorem State.select_exch (s : State) (p : LinePort) : (s.select p).1.exch = s.exch := by
  unfold State.select
  dsimp only
  split <;> simp

@[simp] theorem State.select_time (s : State) (p : LinePort) : (s.select p).1.time = s.time := by
  unfold State.select
  dsimp only
  split <;> simp

@[simp] theorem State.select_pending (s : State) (p : LinePort) : (s.select p).1.pending = s.pending := by
  unfold State.select
  dsimp only
  split <;> simp

/-! ### countBadFrame -/
@[simp] theorem State.countBadFrame_presence (s : State) (p : LinePort) : (s.countBadFrame p).presence = s.presence := rfl
@[simp] theorem State.countBadFrame_trackers (s : State) (p : LinePort) : (s.countBadFrame p).trackers = s.trackers := rfl
@[simp] theorem State.countBadFrame_barrel (s : State) (p : LinePort) : (s.countBadFrame p).barrel = s.barrel := rfl
@[simp] theorem State.countBadFrame_latestVD (s : State) (p : LinePort) : (s.countBadFrame p).latestVD = s.latestVD := rfl
@[simp] theorem State.countBadFrame_lines (s : State) (p : LinePort) : (s.countBadFrame p).lines = s.lines := rfl
@[simp] theorem State.countBadFrame_engines (s : State) (p : LinePort) : (s.countBadFrame p).engines = s.engines := rfl
@[simp] theorem State.countBadFrame_queue (s : State) (p : LinePort) : (s.countBadFrame p).queue = s.queue := rfl
@[simp] theorem State.countBadFrame_prospect (s : State) (p : LinePort) : (s.countBadFrame p).prospect = s.prospect := rfl
@[simp] theorem State.countBadFrame_path (s : State) (p : LinePort) : (s.countBadFrame p).path = s.path := rfl
@[simp] theorem State.countBadFrame_meas (s : State) (p : LinePort) : (s.countBadFrame p).meas = s.meas := rfl
@[simp] theorem State.countBadFrame_reg (s : State) (p : LinePort) : (s.countBadFrame p).reg = s.reg := rfl
@[simp] theorem State.countBadFrame_policy (s : State) (p : LinePort) : (s.countBadFrame p).policy = s.policy := rfl
@[simp] theorem State.countBadFrame_origin (s : State) (p : LinePort) : (s.countBadFrame p).origin = s.origin := rfl
@[simp] theorem State.countBadFrame_exch (s : State) (p : LinePort) : (s.countBadFrame p).exch = s.exch := rfl
@[simp] theorem State.countBadFrame_time (s : State) (p : LinePort) : (s.countBadFrame p).time = s.time := rfl

@[simp] theorem State.countBadFrame_pending (s : State) (p : LinePort) : (s.countBadFrame p).pending = s.pending := rfl

/-! ### countStaleFrame -/
@[simp] theorem State.countStaleFrame_presence (s : State) (p : LinePort) : (s.countStaleFrame p).presence = s.presence := rfl
@[simp] theorem State.countStaleFrame_trackers (s : State) (p : LinePort) : (s.countStaleFrame p).trackers = s.trackers := rfl
@[simp] theorem State.countStaleFrame_barrel (s : State) (p : LinePort) : (s.countStaleFrame p).barrel = s.barrel := rfl
@[simp] theorem State.countStaleFrame_latestVD (s : State) (p : LinePort) : (s.countStaleFrame p).latestVD = s.latestVD := rfl
@[simp] theorem State.countStaleFrame_lines (s : State) (p : LinePort) : (s.countStaleFrame p).lines = s.lines := rfl
@[simp] theorem State.countStaleFrame_engines (s : State) (p : LinePort) : (s.countStaleFrame p).engines = s.engines := rfl
@[simp] theorem State.countStaleFrame_queue (s : State) (p : LinePort) : (s.countStaleFrame p).queue = s.queue := rfl
@[simp] theorem State.countStaleFrame_prospect (s : State) (p : LinePort) : (s.countStaleFrame p).prospect = s.prospect := rfl
@[simp] theorem State.countStaleFrame_path (s : State) (p : LinePort) : (s.countStaleFrame p).path = s.path := rfl
@[simp] theorem State.countStaleFrame_meas (s : State) (p : LinePort) : (s.countStaleFrame p).meas = s.meas := rfl
@[simp] theorem State.countStaleFrame_reg (s : State) (p : LinePort) : (s.countStaleFrame p).reg = s.reg := rfl
@[simp] theorem State.countStaleFrame_policy (s : State) (p : LinePort) : (s.countStaleFrame p).policy = s.policy := rfl
@[simp] theorem State.countStaleFrame_origin (s : State) (p : LinePort) : (s.countStaleFrame p).origin = s.origin := rfl
@[simp] theorem State.countStaleFrame_exch (s : State) (p : LinePort) : (s.countStaleFrame p).exch = s.exch := rfl
@[simp] theorem State.countStaleFrame_time (s : State) (p : LinePort) : (s.countStaleFrame p).time = s.time := rfl

@[simp] theorem State.countStaleFrame_pending (s : State) (p : LinePort) : (s.countStaleFrame p).pending = s.pending := rfl

/-! ### countMissedHail -/
@[simp] theorem State.countMissedHail_presence (s : State) (p : LinePort) : (s.countMissedHail p).presence = s.presence := rfl
@[simp] theorem State.countMissedHail_trackers (s : State) (p : LinePort) : (s.countMissedHail p).trackers = s.trackers := rfl
@[simp] theorem State.countMissedHail_barrel (s : State) (p : LinePort) : (s.countMissedHail p).barrel = s.barrel := rfl
@[simp] theorem State.countMissedHail_latestVD (s : State) (p : LinePort) : (s.countMissedHail p).latestVD = s.latestVD := rfl
@[simp] theorem State.countMissedHail_lines (s : State) (p : LinePort) : (s.countMissedHail p).lines = s.lines := rfl
@[simp] theorem State.countMissedHail_engines (s : State) (p : LinePort) : (s.countMissedHail p).engines = s.engines := rfl
@[simp] theorem State.countMissedHail_queue (s : State) (p : LinePort) : (s.countMissedHail p).queue = s.queue := rfl
@[simp] theorem State.countMissedHail_prospect (s : State) (p : LinePort) : (s.countMissedHail p).prospect = s.prospect := rfl
@[simp] theorem State.countMissedHail_path (s : State) (p : LinePort) : (s.countMissedHail p).path = s.path := rfl
@[simp] theorem State.countMissedHail_meas (s : State) (p : LinePort) : (s.countMissedHail p).meas = s.meas := rfl
@[simp] theorem State.countMissedHail_reg (s : State) (p : LinePort) : (s.countMissedHail p).reg = s.reg := rfl
@[simp] theorem State.countMissedHail_policy (s : State) (p : LinePort) : (s.countMissedHail p).policy = s.policy := rfl
@[simp] theorem State.countMissedHail_origin (s : State) (p : LinePort) : (s.countMissedHail p).origin = s.origin := rfl
@[simp] theorem State.countMissedHail_exch (s : State) (p : LinePort) : (s.countMissedHail p).exch = s.exch := rfl
@[simp] theorem State.countMissedHail_time (s : State) (p : LinePort) : (s.countMissedHail p).time = s.time := rfl

@[simp] theorem State.countMissedHail_pending (s : State) (p : LinePort) : (s.countMissedHail p).pending = s.pending := rfl

/-! ### beginHeed -/
@[simp] theorem State.beginHeed_presence (s : State) (e : EngineId) (p : LinePort) : (s.beginHeed e p).presence = s.presence := rfl
@[simp] theorem State.beginHeed_trackers (s : State) (e : EngineId) (p : LinePort) : (s.beginHeed e p).trackers = s.trackers := rfl
@[simp] theorem State.beginHeed_barrel (s : State) (e : EngineId) (p : LinePort) : (s.beginHeed e p).barrel = s.barrel := rfl
@[simp] theorem State.beginHeed_latestVD (s : State) (e : EngineId) (p : LinePort) : (s.beginHeed e p).latestVD = s.latestVD := rfl
@[simp] theorem State.beginHeed_queue (s : State) (e : EngineId) (p : LinePort) : (s.beginHeed e p).queue = s.queue := rfl
@[simp] theorem State.beginHeed_ports (s : State) (e : EngineId) (p : LinePort) : (s.beginHeed e p).ports = s.ports := rfl
@[simp] theorem State.beginHeed_prospect (s : State) (e : EngineId) (p : LinePort) : (s.beginHeed e p).prospect = s.prospect := rfl
@[simp] theorem State.beginHeed_path (s : State) (e : EngineId) (p : LinePort) : (s.beginHeed e p).path = s.path := rfl
@[simp] theorem State.beginHeed_meas (s : State) (e : EngineId) (p : LinePort) : (s.beginHeed e p).meas = s.meas := rfl
@[simp] theorem State.beginHeed_reg (s : State) (e : EngineId) (p : LinePort) : (s.beginHeed e p).reg = s.reg := rfl
@[simp] theorem State.beginHeed_policy (s : State) (e : EngineId) (p : LinePort) : (s.beginHeed e p).policy = s.policy := rfl
@[simp] theorem State.beginHeed_origin (s : State) (e : EngineId) (p : LinePort) : (s.beginHeed e p).origin = s.origin := rfl
@[simp] theorem State.beginHeed_exch (s : State) (e : EngineId) (p : LinePort) : (s.beginHeed e p).exch = s.exch := rfl
@[simp] theorem State.beginHeed_time (s : State) (e : EngineId) (p : LinePort) : (s.beginHeed e p).time = s.time := rfl

@[simp] theorem State.beginHeed_pending (s : State) (e : EngineId) (p : LinePort) : (s.beginHeed e p).pending = s.pending := rfl

/-! ### takeFrame -/
@[simp] theorem State.takeFrame_presence (s : State) (e : EngineId) (p : LinePort) (f : OutFrame) : (s.takeFrame e p f).presence = s.presence := rfl
@[simp] theorem State.takeFrame_trackers (s : State) (e : EngineId) (p : LinePort) (f : OutFrame) : (s.takeFrame e p f).trackers = s.trackers := rfl
@[simp] theorem State.takeFrame_barrel (s : State) (e : EngineId) (p : LinePort) (f : OutFrame) : (s.takeFrame e p f).barrel = s.barrel := rfl
@[simp] theorem State.takeFrame_latestVD (s : State) (e : EngineId) (p : LinePort) (f : OutFrame) : (s.takeFrame e p f).latestVD = s.latestVD := rfl
@[simp] theorem State.takeFrame_queue (s : State) (e : EngineId) (p : LinePort) (f : OutFrame) : (s.takeFrame e p f).queue = s.queue := rfl
@[simp] theorem State.takeFrame_prospect (s : State) (e : EngineId) (p : LinePort) (f : OutFrame) : (s.takeFrame e p f).prospect = s.prospect := rfl
@[simp] theorem State.takeFrame_path (s : State) (e : EngineId) (p : LinePort) (f : OutFrame) : (s.takeFrame e p f).path = s.path := rfl
@[simp] theorem State.takeFrame_meas (s : State) (e : EngineId) (p : LinePort) (f : OutFrame) : (s.takeFrame e p f).meas = s.meas := rfl
@[simp] theorem State.takeFrame_reg (s : State) (e : EngineId) (p : LinePort) (f : OutFrame) : (s.takeFrame e p f).reg = s.reg := rfl
@[simp] theorem State.takeFrame_policy (s : State) (e : EngineId) (p : LinePort) (f : OutFrame) : (s.takeFrame e p f).policy = s.policy := rfl
@[simp] theorem State.takeFrame_origin (s : State) (e : EngineId) (p : LinePort) (f : OutFrame) : (s.takeFrame e p f).origin = s.origin := rfl
@[simp] theorem State.takeFrame_exch (s : State) (e : EngineId) (p : LinePort) (f : OutFrame) : (s.takeFrame e p f).exch = s.exch := rfl
@[simp] theorem State.takeFrame_time (s : State) (e : EngineId) (p : LinePort) (f : OutFrame) : (s.takeFrame e p f).time = s.time := rfl

@[simp] theorem State.takeFrame_pending (s : State) (e : EngineId) (p : LinePort) (f : OutFrame) : (s.takeFrame e p f).pending = s.pending := rfl

/-! ### serve -/

@[simp] theorem State.serve_presence (s : State) (e : EngineId) (p : LinePort) : (s.serve e p).presence = s.presence := by
  unfold State.serve
  (repeat' split) <;> simp

@[simp] theorem State.serve_trackers (s : State) (e : EngineId) (p : LinePort) : (s.serve e p).trackers = s.trackers := by
  unfold State.serve
  (repeat' split) <;> simp

@[simp] theorem State.serve_barrel (s : State) (e : EngineId) (p : LinePort) : (s.serve e p).barrel = s.barrel := by
  unfold State.serve
  (repeat' split) <;> simp

@[simp] theorem State.serve_latestVD (s : State) (e : EngineId) (p : LinePort) : (s.serve e p).latestVD = s.latestVD := by
  unfold State.serve
  (repeat' split) <;> simp

@[simp] theorem State.serve_queue (s : State) (e : EngineId) (p : LinePort) : (s.serve e p).queue = s.queue := by
  unfold State.serve
  (repeat' split) <;> simp

@[simp] theorem State.serve_prospect (s : State) (e : EngineId) (p : LinePort) : (s.serve e p).prospect = s.prospect := by
  unfold State.serve
  (repeat' split) <;> simp

@[simp] theorem State.serve_path (s : State) (e : EngineId) (p : LinePort) : (s.serve e p).path = s.path := by
  unfold State.serve
  (repeat' split) <;> simp

@[simp] theorem State.serve_meas (s : State) (e : EngineId) (p : LinePort) : (s.serve e p).meas = s.meas := by
  unfold State.serve
  (repeat' split) <;> simp

@[simp] theorem State.serve_reg (s : State) (e : EngineId) (p : LinePort) : (s.serve e p).reg = s.reg := by
  unfold State.serve
  (repeat' split) <;> simp

@[simp] theorem State.serve_policy (s : State) (e : EngineId) (p : LinePort) : (s.serve e p).policy = s.policy := by
  unfold State.serve
  (repeat' split) <;> simp

@[simp] theorem State.serve_origin (s : State) (e : EngineId) (p : LinePort) : (s.serve e p).origin = s.origin := by
  unfold State.serve
  (repeat' split) <;> simp

@[simp] theorem State.serve_exch (s : State) (e : EngineId) (p : LinePort) : (s.serve e p).exch = s.exch := by
  unfold State.serve
  (repeat' split) <;> simp

@[simp] theorem State.serve_time (s : State) (e : EngineId) (p : LinePort) : (s.serve e p).time = s.time := by
  unfold State.serve
  (repeat' split) <;> simp

@[simp] theorem State.serve_pending (s : State) (e : EngineId) (p : LinePort) : (s.serve e p).pending = s.pending := by
  unfold State.serve
  (repeat' split) <;> simp

/-! ### beginLease -/

@[simp] theorem State.beginLease_presence (s : State) (e : EngineId) (p : LinePort) (k : LeaseKind) : (s.beginLease e p k).presence = s.presence := by
  unfold State.beginLease
  simp
  split <;> simp

@[simp] theorem State.beginLease_trackers (s : State) (e : EngineId) (p : LinePort) (k : LeaseKind) : (s.beginLease e p k).trackers = s.trackers := by
  unfold State.beginLease
  simp
  split <;> simp

@[simp] theorem State.beginLease_barrel (s : State) (e : EngineId) (p : LinePort) (k : LeaseKind) : (s.beginLease e p k).barrel = s.barrel := by
  unfold State.beginLease
  simp
  split <;> simp

@[simp] theorem State.beginLease_latestVD (s : State) (e : EngineId) (p : LinePort) (k : LeaseKind) : (s.beginLease e p k).latestVD = s.latestVD := by
  unfold State.beginLease
  simp
  split <;> simp

@[simp] theorem State.beginLease_queue (s : State) (e : EngineId) (p : LinePort) (k : LeaseKind) : (s.beginLease e p k).queue = s.queue := by
  unfold State.beginLease
  simp
  split <;> simp

@[simp] theorem State.beginLease_prospect (s : State) (e : EngineId) (p : LinePort) (k : LeaseKind) : (s.beginLease e p k).prospect = s.prospect := by
  unfold State.beginLease
  simp
  split <;> simp

@[simp] theorem State.beginLease_path (s : State) (e : EngineId) (p : LinePort) (k : LeaseKind) : (s.beginLease e p k).path = s.path := by
  unfold State.beginLease
  simp
  split <;> simp

@[simp] theorem State.beginLease_meas (s : State) (e : EngineId) (p : LinePort) (k : LeaseKind) : (s.beginLease e p k).meas = s.meas := by
  unfold State.beginLease
  simp
  split <;> simp

@[simp] theorem State.beginLease_reg (s : State) (e : EngineId) (p : LinePort) (k : LeaseKind) : (s.beginLease e p k).reg = s.reg := by
  unfold State.beginLease
  simp
  split <;> simp

@[simp] theorem State.beginLease_policy (s : State) (e : EngineId) (p : LinePort) (k : LeaseKind) : (s.beginLease e p k).policy = s.policy := by
  unfold State.beginLease
  simp
  split <;> simp

@[simp] theorem State.beginLease_origin (s : State) (e : EngineId) (p : LinePort) (k : LeaseKind) : (s.beginLease e p k).origin = s.origin := by
  unfold State.beginLease
  simp
  split <;> simp

@[simp] theorem State.beginLease_exch (s : State) (e : EngineId) (p : LinePort) (k : LeaseKind) : (s.beginLease e p k).exch = s.exch := by
  unfold State.beginLease
  simp
  split <;> simp

@[simp] theorem State.beginLease_time (s : State) (e : EngineId) (p : LinePort) (k : LeaseKind) : (s.beginLease e p k).time = s.time := by
  unfold State.beginLease
  simp
  split <;> simp

@[simp] theorem State.beginLease_pending (s : State) (e : EngineId) (p : LinePort) (k : LeaseKind) : (s.beginLease e p k).pending = s.pending := by
  unfold State.beginLease
  simp
  split <;> simp

/-! ### giveEngine -/

@[simp] theorem State.giveEngine_presence (s : State) (e : EngineId) : (s.giveEngine e).presence = s.presence := by
  unfold State.giveEngine
  generalize s.queue = q
  induction q generalizing s with
  | nil => rfl
  | cons q rest ih =>
    unfold giveOut
    split
    · rw [ih]
      simp
    · rfl

@[simp] theorem State.giveEngine_trackers (s : State) (e : EngineId) : (s.giveEngine e).trackers = s.trackers := by
  unfold State.giveEngine
  generalize s.queue = q
  induction q generalizing s with
  | nil => rfl
  | cons q rest ih =>
    unfold giveOut
    split
    · rw [ih]
      simp
    · rfl

@[simp] theorem State.giveEngine_barrel (s : State) (e : EngineId) : (s.giveEngine e).barrel = s.barrel := by
  unfold State.giveEngine
  generalize s.queue = q
  induction q generalizing s with
  | nil => rfl
  | cons q rest ih =>
    unfold giveOut
    split
    · rw [ih]
      simp
    · rfl

@[simp] theorem State.giveEngine_latestVD (s : State) (e : EngineId) : (s.giveEngine e).latestVD = s.latestVD := by
  unfold State.giveEngine
  generalize s.queue = q
  induction q generalizing s with
  | nil => rfl
  | cons q rest ih =>
    unfold giveOut
    split
    · rw [ih]
      simp
    · rfl

@[simp] theorem State.giveEngine_prospect (s : State) (e : EngineId) : (s.giveEngine e).prospect = s.prospect := by
  unfold State.giveEngine
  generalize s.queue = q
  induction q generalizing s with
  | nil => rfl
  | cons q rest ih =>
    unfold giveOut
    split
    · rw [ih]
      simp
    · rfl

@[simp] theorem State.giveEngine_path (s : State) (e : EngineId) : (s.giveEngine e).path = s.path := by
  unfold State.giveEngine
  generalize s.queue = q
  induction q generalizing s with
  | nil => rfl
  | cons q rest ih =>
    unfold giveOut
    split
    · rw [ih]
      simp
    · rfl

@[simp] theorem State.giveEngine_meas (s : State) (e : EngineId) : (s.giveEngine e).meas = s.meas := by
  unfold State.giveEngine
  generalize s.queue = q
  induction q generalizing s with
  | nil => rfl
  | cons q rest ih =>
    unfold giveOut
    split
    · rw [ih]
      simp
    · rfl

@[simp] theorem State.giveEngine_reg (s : State) (e : EngineId) : (s.giveEngine e).reg = s.reg := by
  unfold State.giveEngine
  generalize s.queue = q
  induction q generalizing s with
  | nil => rfl
  | cons q rest ih =>
    unfold giveOut
    split
    · rw [ih]
      simp
    · rfl

@[simp] theorem State.giveEngine_policy (s : State) (e : EngineId) : (s.giveEngine e).policy = s.policy := by
  unfold State.giveEngine
  generalize s.queue = q
  induction q generalizing s with
  | nil => rfl
  | cons q rest ih =>
    unfold giveOut
    split
    · rw [ih]
      simp
    · rfl

@[simp] theorem State.giveEngine_origin (s : State) (e : EngineId) : (s.giveEngine e).origin = s.origin := by
  unfold State.giveEngine
  generalize s.queue = q
  induction q generalizing s with
  | nil => rfl
  | cons q rest ih =>
    unfold giveOut
    split
    · rw [ih]
      simp
    · rfl

@[simp] theorem State.giveEngine_exch (s : State) (e : EngineId) : (s.giveEngine e).exch = s.exch := by
  unfold State.giveEngine
  generalize s.queue = q
  induction q generalizing s with
  | nil => rfl
  | cons q rest ih =>
    unfold giveOut
    split
    · rw [ih]
      simp
    · rfl

@[simp] theorem State.giveEngine_time (s : State) (e : EngineId) : (s.giveEngine e).time = s.time := by
  unfold State.giveEngine
  generalize s.queue = q
  induction q generalizing s with
  | nil => rfl
  | cons q rest ih =>
    unfold giveOut
    split
    · rw [ih]
      simp
    · rfl

@[simp] theorem State.giveEngine_pending (s : State) (e : EngineId) : (s.giveEngine e).pending = s.pending := by
  unfold State.giveEngine
  generalize s.queue = q
  induction q generalizing s with
  | nil => rfl
  | cons q rest ih =>
    unfold giveOut
    split
    · rw [ih]
      simp
    · rfl

/-! ### apply -/

@[simp] theorem State.apply_presence (s : State) (p : LinePort) : (s.apply p).presence = s.presence := by
  unfold State.apply
  (repeat' split) <;> simp

@[simp] theorem State.apply_trackers (s : State) (p : LinePort) : (s.apply p).trackers = s.trackers := by
  unfold State.apply
  (repeat' split) <;> simp

@[simp] theorem State.apply_barrel (s : State) (p : LinePort) : (s.apply p).barrel = s.barrel := by
  unfold State.apply
  (repeat' split) <;> simp

@[simp] theorem State.apply_latestVD (s : State) (p : LinePort) : (s.apply p).latestVD = s.latestVD := by
  unfold State.apply
  (repeat' split) <;> simp

@[simp] theorem State.apply_prospect (s : State) (p : LinePort) : (s.apply p).prospect = s.prospect := by
  unfold State.apply
  (repeat' split) <;> simp

@[simp] theorem State.apply_path (s : State) (p : LinePort) : (s.apply p).path = s.path := by
  unfold State.apply
  (repeat' split) <;> simp

@[simp] theorem State.apply_meas (s : State) (p : LinePort) : (s.apply p).meas = s.meas := by
  unfold State.apply
  (repeat' split) <;> simp

@[simp] theorem State.apply_reg (s : State) (p : LinePort) : (s.apply p).reg = s.reg := by
  unfold State.apply
  (repeat' split) <;> simp

@[simp] theorem State.apply_policy (s : State) (p : LinePort) : (s.apply p).policy = s.policy := by
  unfold State.apply
  (repeat' split) <;> simp

@[simp] theorem State.apply_origin (s : State) (p : LinePort) : (s.apply p).origin = s.origin := by
  unfold State.apply
  (repeat' split) <;> simp

@[simp] theorem State.apply_exch (s : State) (p : LinePort) : (s.apply p).exch = s.exch := by
  unfold State.apply
  (repeat' split) <;> simp

@[simp] theorem State.apply_time (s : State) (p : LinePort) : (s.apply p).time = s.time := by
  unfold State.apply
  (repeat' split) <;> simp

@[simp] theorem State.apply_pending (s : State) (p : LinePort) : (s.apply p).pending = s.pending := by
  unfold State.apply
  (repeat' split) <;> simp

/-! ### endLease -/

@[simp] theorem State.endLease_presence (s : State) (e : EngineId) (p : LinePort) : (s.endLease e p).presence = s.presence := by
  simp [State.endLease]

@[simp] theorem State.endLease_trackers (s : State) (e : EngineId) (p : LinePort) : (s.endLease e p).trackers = s.trackers := by
  simp [State.endLease]

@[simp] theorem State.endLease_barrel (s : State) (e : EngineId) (p : LinePort) : (s.endLease e p).barrel = s.barrel := by
  simp [State.endLease]

@[simp] theorem State.endLease_latestVD (s : State) (e : EngineId) (p : LinePort) : (s.endLease e p).latestVD = s.latestVD := by
  simp [State.endLease]

@[simp] theorem State.endLease_prospect (s : State) (e : EngineId) (p : LinePort) : (s.endLease e p).prospect = s.prospect := by
  simp [State.endLease]

@[simp] theorem State.endLease_path (s : State) (e : EngineId) (p : LinePort) : (s.endLease e p).path = s.path := by
  simp [State.endLease]

@[simp] theorem State.endLease_meas (s : State) (e : EngineId) (p : LinePort) : (s.endLease e p).meas = s.meas := by
  simp [State.endLease]

@[simp] theorem State.endLease_reg (s : State) (e : EngineId) (p : LinePort) : (s.endLease e p).reg = s.reg := by
  simp [State.endLease]

@[simp] theorem State.endLease_policy (s : State) (e : EngineId) (p : LinePort) : (s.endLease e p).policy = s.policy := by
  simp [State.endLease]

@[simp] theorem State.endLease_origin (s : State) (e : EngineId) (p : LinePort) : (s.endLease e p).origin = s.origin := by
  simp [State.endLease]

@[simp] theorem State.endLease_exch (s : State) (e : EngineId) (p : LinePort) : (s.endLease e p).exch = s.exch := by
  simp [State.endLease]

@[simp] theorem State.endLease_time (s : State) (e : EngineId) (p : LinePort) : (s.endLease e p).time = s.time := by
  simp [State.endLease]

@[simp] theorem State.endLease_pending (s : State) (e : EngineId) (p : LinePort) : (s.endLease e p).pending = s.pending := by
  simp [State.endLease]

/-! ### endLeaseOf -/

@[simp] theorem State.endLeaseOf_presence (s : State) (p : LinePort) : (s.endLeaseOf p).presence = s.presence := by
  unfold State.endLeaseOf
  split <;> simp

@[simp] theorem State.endLeaseOf_trackers (s : State) (p : LinePort) : (s.endLeaseOf p).trackers = s.trackers := by
  unfold State.endLeaseOf
  split <;> simp

@[simp] theorem State.endLeaseOf_barrel (s : State) (p : LinePort) : (s.endLeaseOf p).barrel = s.barrel := by
  unfold State.endLeaseOf
  split <;> simp

@[simp] theorem State.endLeaseOf_latestVD (s : State) (p : LinePort) : (s.endLeaseOf p).latestVD = s.latestVD := by
  unfold State.endLeaseOf
  split <;> simp

@[simp] theorem State.endLeaseOf_prospect (s : State) (p : LinePort) : (s.endLeaseOf p).prospect = s.prospect := by
  unfold State.endLeaseOf
  split <;> simp

@[simp] theorem State.endLeaseOf_path (s : State) (p : LinePort) : (s.endLeaseOf p).path = s.path := by
  unfold State.endLeaseOf
  split <;> simp

@[simp] theorem State.endLeaseOf_meas (s : State) (p : LinePort) : (s.endLeaseOf p).meas = s.meas := by
  unfold State.endLeaseOf
  split <;> simp

@[simp] theorem State.endLeaseOf_reg (s : State) (p : LinePort) : (s.endLeaseOf p).reg = s.reg := by
  unfold State.endLeaseOf
  split <;> simp

@[simp] theorem State.endLeaseOf_policy (s : State) (p : LinePort) : (s.endLeaseOf p).policy = s.policy := by
  unfold State.endLeaseOf
  split <;> simp

@[simp] theorem State.endLeaseOf_origin (s : State) (p : LinePort) : (s.endLeaseOf p).origin = s.origin := by
  unfold State.endLeaseOf
  split <;> simp

@[simp] theorem State.endLeaseOf_exch (s : State) (p : LinePort) : (s.endLeaseOf p).exch = s.exch := by
  unfold State.endLeaseOf
  split <;> simp

@[simp] theorem State.endLeaseOf_time (s : State) (p : LinePort) : (s.endLeaseOf p).time = s.time := by
  unfold State.endLeaseOf
  split <;> simp

@[simp] theorem State.endLeaseOf_pending (s : State) (p : LinePort) : (s.endLeaseOf p).pending = s.pending := by
  unfold State.endLeaseOf
  split <;> simp

/-! ### lineFreed -/

@[simp] theorem State.lineFreed_presence (s : State) (p : LinePort) : (s.lineFreed p).presence = s.presence := by
  unfold State.lineFreed
  dsimp only
  (repeat' split) <;> simp

@[simp] theorem State.lineFreed_trackers (s : State) (p : LinePort) : (s.lineFreed p).trackers = s.trackers := by
  unfold State.lineFreed
  dsimp only
  (repeat' split) <;> simp

@[simp] theorem State.lineFreed_barrel (s : State) (p : LinePort) : (s.lineFreed p).barrel = s.barrel := by
  unfold State.lineFreed
  dsimp only
  (repeat' split) <;> simp

@[simp] theorem State.lineFreed_latestVD (s : State) (p : LinePort) : (s.lineFreed p).latestVD = s.latestVD := by
  unfold State.lineFreed
  dsimp only
  (repeat' split) <;> simp

@[simp] theorem State.lineFreed_prospect (s : State) (p : LinePort) : (s.lineFreed p).prospect = s.prospect := by
  unfold State.lineFreed
  dsimp only
  (repeat' split) <;> simp

@[simp] theorem State.lineFreed_path (s : State) (p : LinePort) : (s.lineFreed p).path = s.path := by
  unfold State.lineFreed
  dsimp only
  (repeat' split) <;> simp

@[simp] theorem State.lineFreed_meas (s : State) (p : LinePort) : (s.lineFreed p).meas = s.meas := by
  unfold State.lineFreed
  dsimp only
  (repeat' split) <;> simp

@[simp] theorem State.lineFreed_reg (s : State) (p : LinePort) : (s.lineFreed p).reg = s.reg := by
  unfold State.lineFreed
  dsimp only
  (repeat' split) <;> simp

@[simp] theorem State.lineFreed_policy (s : State) (p : LinePort) : (s.lineFreed p).policy = s.policy := by
  unfold State.lineFreed
  dsimp only
  (repeat' split) <;> simp

@[simp] theorem State.lineFreed_origin (s : State) (p : LinePort) : (s.lineFreed p).origin = s.origin := by
  unfold State.lineFreed
  dsimp only
  (repeat' split) <;> simp

@[simp] theorem State.lineFreed_exch (s : State) (p : LinePort) : (s.lineFreed p).exch = s.exch := by
  unfold State.lineFreed
  dsimp only
  (repeat' split) <;> simp

@[simp] theorem State.lineFreed_time (s : State) (p : LinePort) : (s.lineFreed p).time = s.time := by
  unfold State.lineFreed
  dsimp only
  (repeat' split) <;> simp

@[simp] theorem State.lineFreed_pending (s : State) (p : LinePort) : (s.lineFreed p).pending = s.pending := by
  unfold State.lineFreed
  dsimp only
  (repeat' split) <;> simp

/-! ### dropLine -/

@[simp] theorem State.dropLine_presence (s : State) (p : LinePort) : (s.dropLine p).presence = s.presence := by
  unfold State.dropLine
  simp
  split <;> simp

@[simp] theorem State.dropLine_trackers (s : State) (p : LinePort) : (s.dropLine p).trackers = s.trackers := by
  unfold State.dropLine
  simp
  split <;> simp

@[simp] theorem State.dropLine_barrel (s : State) (p : LinePort) : (s.dropLine p).barrel = s.barrel := by
  unfold State.dropLine
  simp
  split <;> simp

@[simp] theorem State.dropLine_latestVD (s : State) (p : LinePort) : (s.dropLine p).latestVD = s.latestVD := by
  unfold State.dropLine
  simp
  split <;> simp

@[simp] theorem State.dropLine_prospect (s : State) (p : LinePort) : (s.dropLine p).prospect = s.prospect := by
  unfold State.dropLine
  simp
  split <;> simp

@[simp] theorem State.dropLine_path (s : State) (p : LinePort) : (s.dropLine p).path = s.path := by
  unfold State.dropLine
  simp
  split <;> simp

@[simp] theorem State.dropLine_meas (s : State) (p : LinePort) : (s.dropLine p).meas = s.meas := by
  unfold State.dropLine
  simp
  split <;> simp

@[simp] theorem State.dropLine_reg (s : State) (p : LinePort) : (s.dropLine p).reg = s.reg := by
  unfold State.dropLine
  simp
  split <;> simp

@[simp] theorem State.dropLine_policy (s : State) (p : LinePort) : (s.dropLine p).policy = s.policy := by
  unfold State.dropLine
  simp
  split <;> simp

@[simp] theorem State.dropLine_origin (s : State) (p : LinePort) : (s.dropLine p).origin = s.origin := by
  unfold State.dropLine
  simp
  split <;> simp

@[simp] theorem State.dropLine_exch (s : State) (p : LinePort) : (s.dropLine p).exch = s.exch := by
  unfold State.dropLine
  simp
  split <;> simp

@[simp] theorem State.dropLine_time (s : State) (p : LinePort) : (s.dropLine p).time = s.time := by
  unfold State.dropLine
  simp
  split <;> simp

@[simp] theorem State.dropLine_pending (s : State) (p : LinePort) : (s.dropLine p).pending = s.pending := by
  unfold State.dropLine
  simp
  split <;> simp

/-! ### toRest -/
@[simp] theorem State.toRest_presence (s : State) (p : LinePort) : (s.toRest p).presence = s.presence := rfl
@[simp] theorem State.toRest_trackers (s : State) (p : LinePort) : (s.toRest p).trackers = s.trackers := rfl
@[simp] theorem State.toRest_barrel (s : State) (p : LinePort) : (s.toRest p).barrel = s.barrel := rfl
@[simp] theorem State.toRest_latestVD (s : State) (p : LinePort) : (s.toRest p).latestVD = s.latestVD := rfl
@[simp] theorem State.toRest_lines (s : State) (p : LinePort) : (s.toRest p).lines = s.lines := rfl
@[simp] theorem State.toRest_engines (s : State) (p : LinePort) : (s.toRest p).engines = s.engines := rfl
@[simp] theorem State.toRest_queue (s : State) (p : LinePort) : (s.toRest p).queue = s.queue := rfl
@[simp] theorem State.toRest_prospect (s : State) (p : LinePort) : (s.toRest p).prospect = s.prospect := rfl
@[simp] theorem State.toRest_path (s : State) (p : LinePort) : (s.toRest p).path = s.path := rfl
@[simp] theorem State.toRest_meas (s : State) (p : LinePort) : (s.toRest p).meas = s.meas := rfl
@[simp] theorem State.toRest_reg (s : State) (p : LinePort) : (s.toRest p).reg = s.reg := rfl
@[simp] theorem State.toRest_policy (s : State) (p : LinePort) : (s.toRest p).policy = s.policy := rfl
@[simp] theorem State.toRest_origin (s : State) (p : LinePort) : (s.toRest p).origin = s.origin := rfl
@[simp] theorem State.toRest_exch (s : State) (p : LinePort) : (s.toRest p).exch = s.exch := rfl
@[simp] theorem State.toRest_time (s : State) (p : LinePort) : (s.toRest p).time = s.time := rfl

@[simp] theorem State.toRest_pending (s : State) (p : LinePort) : (s.toRest p).pending = s.pending := rfl

/-! ### completePort -/

@[simp] theorem State.completePort_presence (s : State) (p : LinePort) (ks : List PortRequestKind) (c : ResultCode) : (s.completePort p ks c).presence = s.presence := by
  unfold State.completePort
  (repeat' split) <;> simp

@[simp] theorem State.completePort_trackers (s : State) (p : LinePort) (ks : List PortRequestKind) (c : ResultCode) : (s.completePort p ks c).trackers = s.trackers := by
  unfold State.completePort
  (repeat' split) <;> simp

@[simp] theorem State.completePort_barrel (s : State) (p : LinePort) (ks : List PortRequestKind) (c : ResultCode) : (s.completePort p ks c).barrel = s.barrel := by
  unfold State.completePort
  (repeat' split) <;> simp

@[simp] theorem State.completePort_latestVD (s : State) (p : LinePort) (ks : List PortRequestKind) (c : ResultCode) : (s.completePort p ks c).latestVD = s.latestVD := by
  unfold State.completePort
  (repeat' split) <;> simp

@[simp] theorem State.completePort_lines (s : State) (p : LinePort) (ks : List PortRequestKind) (c : ResultCode) : (s.completePort p ks c).lines = s.lines := by
  unfold State.completePort
  (repeat' split) <;> simp

@[simp] theorem State.completePort_engines (s : State) (p : LinePort) (ks : List PortRequestKind) (c : ResultCode) : (s.completePort p ks c).engines = s.engines := by
  unfold State.completePort
  (repeat' split) <;> simp

@[simp] theorem State.completePort_queue (s : State) (p : LinePort) (ks : List PortRequestKind) (c : ResultCode) : (s.completePort p ks c).queue = s.queue := by
  unfold State.completePort
  (repeat' split) <;> simp

@[simp] theorem State.completePort_prospect (s : State) (p : LinePort) (ks : List PortRequestKind) (c : ResultCode) : (s.completePort p ks c).prospect = s.prospect := by
  unfold State.completePort
  (repeat' split) <;> simp

@[simp] theorem State.completePort_path (s : State) (p : LinePort) (ks : List PortRequestKind) (c : ResultCode) : (s.completePort p ks c).path = s.path := by
  unfold State.completePort
  (repeat' split) <;> simp

@[simp] theorem State.completePort_meas (s : State) (p : LinePort) (ks : List PortRequestKind) (c : ResultCode) : (s.completePort p ks c).meas = s.meas := by
  unfold State.completePort
  (repeat' split) <;> simp

@[simp] theorem State.completePort_reg (s : State) (p : LinePort) (ks : List PortRequestKind) (c : ResultCode) : (s.completePort p ks c).reg = s.reg := by
  unfold State.completePort
  (repeat' split) <;> simp

@[simp] theorem State.completePort_policy (s : State) (p : LinePort) (ks : List PortRequestKind) (c : ResultCode) : (s.completePort p ks c).policy = s.policy := by
  unfold State.completePort
  (repeat' split) <;> simp

@[simp] theorem State.completePort_origin (s : State) (p : LinePort) (ks : List PortRequestKind) (c : ResultCode) : (s.completePort p ks c).origin = s.origin := by
  unfold State.completePort
  (repeat' split) <;> simp

@[simp] theorem State.completePort_time (s : State) (p : LinePort) (ks : List PortRequestKind) (c : ResultCode) : (s.completePort p ks c).time = s.time := by
  unfold State.completePort
  (repeat' split) <;> simp

@[simp] theorem State.completePort_pending (s : State) (p : LinePort) (ks : List PortRequestKind) (c : ResultCode) : (s.completePort p ks c).pending = s.pending := by
  unfold State.completePort
  (repeat' split) <;> simp

/-! ### applyOutcome -/

@[simp] theorem State.applyOutcome_presence (s : State) (p : LinePort) (o : Outcome) : (s.applyOutcome p o).presence = s.presence := by
  unfold State.applyOutcome
  dsimp only
  (repeat' split) <;> simp

@[simp] theorem State.applyOutcome_trackers (s : State) (p : LinePort) (o : Outcome) : (s.applyOutcome p o).trackers = s.trackers := by
  unfold State.applyOutcome
  dsimp only
  (repeat' split) <;> simp

@[simp] theorem State.applyOutcome_barrel (s : State) (p : LinePort) (o : Outcome) : (s.applyOutcome p o).barrel = s.barrel := by
  unfold State.applyOutcome
  dsimp only
  (repeat' split) <;> simp

@[simp] theorem State.applyOutcome_latestVD (s : State) (p : LinePort) (o : Outcome) : (s.applyOutcome p o).latestVD = s.latestVD := by
  unfold State.applyOutcome
  dsimp only
  (repeat' split) <;> simp

@[simp] theorem State.applyOutcome_lines (s : State) (p : LinePort) (o : Outcome) : (s.applyOutcome p o).lines = s.lines := by
  unfold State.applyOutcome
  dsimp only
  (repeat' split) <;> simp

@[simp] theorem State.applyOutcome_engines (s : State) (p : LinePort) (o : Outcome) : (s.applyOutcome p o).engines = s.engines := by
  unfold State.applyOutcome
  dsimp only
  (repeat' split) <;> simp

@[simp] theorem State.applyOutcome_queue (s : State) (p : LinePort) (o : Outcome) : (s.applyOutcome p o).queue = s.queue := by
  unfold State.applyOutcome
  dsimp only
  (repeat' split) <;> simp

@[simp] theorem State.applyOutcome_prospect (s : State) (p : LinePort) (o : Outcome) : (s.applyOutcome p o).prospect = s.prospect := by
  unfold State.applyOutcome
  dsimp only
  (repeat' split) <;> simp

@[simp] theorem State.applyOutcome_path (s : State) (p : LinePort) (o : Outcome) : (s.applyOutcome p o).path = s.path := by
  unfold State.applyOutcome
  dsimp only
  (repeat' split) <;> simp

@[simp] theorem State.applyOutcome_meas (s : State) (p : LinePort) (o : Outcome) : (s.applyOutcome p o).meas = s.meas := by
  unfold State.applyOutcome
  dsimp only
  (repeat' split) <;> simp

@[simp] theorem State.applyOutcome_reg (s : State) (p : LinePort) (o : Outcome) : (s.applyOutcome p o).reg = s.reg := by
  unfold State.applyOutcome
  dsimp only
  (repeat' split) <;> simp

@[simp] theorem State.applyOutcome_policy (s : State) (p : LinePort) (o : Outcome) : (s.applyOutcome p o).policy = s.policy := by
  unfold State.applyOutcome
  dsimp only
  (repeat' split) <;> simp

@[simp] theorem State.applyOutcome_origin (s : State) (p : LinePort) (o : Outcome) : (s.applyOutcome p o).origin = s.origin := by
  unfold State.applyOutcome
  dsimp only
  (repeat' split) <;> simp

@[simp] theorem State.applyOutcome_time (s : State) (p : LinePort) (o : Outcome) : (s.applyOutcome p o).time = s.time := by
  unfold State.applyOutcome
  dsimp only
  (repeat' split) <;> simp

@[simp] theorem State.applyOutcome_pending (s : State) (p : LinePort) (o : Outcome) : (s.applyOutcome p o).pending = s.pending := by
  unfold State.applyOutcome
  dsimp only
  (repeat' split) <;> simp

/-! ### callSelection -/

@[simp] theorem State.callSelection_presence (s : State) (p : LinePort) : (s.callSelection p).presence = s.presence := by
  unfold State.callSelection
  (repeat' split) <;> simp <;> (repeat' split) <;> simp

@[simp] theorem State.callSelection_trackers (s : State) (p : LinePort) : (s.callSelection p).trackers = s.trackers := by
  unfold State.callSelection
  (repeat' split) <;> simp <;> (repeat' split) <;> simp

@[simp] theorem State.callSelection_barrel (s : State) (p : LinePort) : (s.callSelection p).barrel = s.barrel := by
  unfold State.callSelection
  (repeat' split) <;> simp <;> (repeat' split) <;> simp

@[simp] theorem State.callSelection_latestVD (s : State) (p : LinePort) : (s.callSelection p).latestVD = s.latestVD := by
  unfold State.callSelection
  (repeat' split) <;> simp <;> (repeat' split) <;> simp

@[simp] theorem State.callSelection_lines (s : State) (p : LinePort) : (s.callSelection p).lines = s.lines := by
  unfold State.callSelection
  (repeat' split) <;> simp <;> (repeat' split) <;> simp

@[simp] theorem State.callSelection_engines (s : State) (p : LinePort) : (s.callSelection p).engines = s.engines := by
  unfold State.callSelection
  (repeat' split) <;> simp <;> (repeat' split) <;> simp

@[simp] theorem State.callSelection_queue (s : State) (p : LinePort) : (s.callSelection p).queue = s.queue := by
  unfold State.callSelection
  (repeat' split) <;> simp <;> (repeat' split) <;> simp

@[simp] theorem State.callSelection_path (s : State) (p : LinePort) : (s.callSelection p).path = s.path := by
  unfold State.callSelection
  (repeat' split) <;> simp <;> (repeat' split) <;> simp

@[simp] theorem State.callSelection_meas (s : State) (p : LinePort) : (s.callSelection p).meas = s.meas := by
  unfold State.callSelection
  (repeat' split) <;> simp <;> (repeat' split) <;> simp

@[simp] theorem State.callSelection_reg (s : State) (p : LinePort) : (s.callSelection p).reg = s.reg := by
  unfold State.callSelection
  (repeat' split) <;> simp <;> (repeat' split) <;> simp

@[simp] theorem State.callSelection_policy (s : State) (p : LinePort) : (s.callSelection p).policy = s.policy := by
  unfold State.callSelection
  (repeat' split) <;> simp <;> (repeat' split) <;> simp

@[simp] theorem State.callSelection_origin (s : State) (p : LinePort) : (s.callSelection p).origin = s.origin := by
  unfold State.callSelection
  (repeat' split) <;> simp <;> (repeat' split) <;> simp

@[simp] theorem State.callSelection_time (s : State) (p : LinePort) : (s.callSelection p).time = s.time := by
  unfold State.callSelection
  (repeat' split) <;> simp <;> (repeat' split) <;> simp

@[simp] theorem State.callSelection_pending (s : State) (p : LinePort) : (s.callSelection p).pending = s.pending := by
  unfold State.callSelection
  (repeat' split) <;> simp <;> (repeat' split) <;> simp

/-! ### captureSelection -/

@[simp] theorem State.captureSelection_presence (s : State) (p : LinePort) : (s.captureSelection p).presence = s.presence := by
  unfold State.captureSelection
  dsimp only
  (repeat' split) <;> simp

@[simp] theorem State.captureSelection_trackers (s : State) (p : LinePort) : (s.captureSelection p).trackers = s.trackers := by
  unfold State.captureSelection
  dsimp only
  (repeat' split) <;> simp

@[simp] theorem State.captureSelection_barrel (s : State) (p : LinePort) : (s.captureSelection p).barrel = s.barrel := by
  unfold State.captureSelection
  dsimp only
  (repeat' split) <;> simp

@[simp] theorem State.captureSelection_latestVD (s : State) (p : LinePort) : (s.captureSelection p).latestVD = s.latestVD := by
  unfold State.captureSelection
  dsimp only
  (repeat' split) <;> simp

@[simp] theorem State.captureSelection_lines (s : State) (p : LinePort) : (s.captureSelection p).lines = s.lines := by
  unfold State.captureSelection
  dsimp only
  (repeat' split) <;> simp

@[simp] theorem State.captureSelection_engines (s : State) (p : LinePort) : (s.captureSelection p).engines = s.engines := by
  unfold State.captureSelection
  dsimp only
  (repeat' split) <;> simp

@[simp] theorem State.captureSelection_queue (s : State) (p : LinePort) : (s.captureSelection p).queue = s.queue := by
  unfold State.captureSelection
  dsimp only
  (repeat' split) <;> simp

@[simp] theorem State.captureSelection_path (s : State) (p : LinePort) : (s.captureSelection p).path = s.path := by
  unfold State.captureSelection
  dsimp only
  (repeat' split) <;> simp

@[simp] theorem State.captureSelection_meas (s : State) (p : LinePort) : (s.captureSelection p).meas = s.meas := by
  unfold State.captureSelection
  dsimp only
  (repeat' split) <;> simp

@[simp] theorem State.captureSelection_reg (s : State) (p : LinePort) : (s.captureSelection p).reg = s.reg := by
  unfold State.captureSelection
  dsimp only
  (repeat' split) <;> simp

@[simp] theorem State.captureSelection_policy (s : State) (p : LinePort) : (s.captureSelection p).policy = s.policy := by
  unfold State.captureSelection
  dsimp only
  (repeat' split) <;> simp

@[simp] theorem State.captureSelection_origin (s : State) (p : LinePort) : (s.captureSelection p).origin = s.origin := by
  unfold State.captureSelection
  dsimp only
  (repeat' split) <;> simp

@[simp] theorem State.captureSelection_time (s : State) (p : LinePort) : (s.captureSelection p).time = s.time := by
  unfold State.captureSelection
  dsimp only
  (repeat' split) <;> simp

@[simp] theorem State.captureSelection_pending (s : State) (p : LinePort) : (s.captureSelection p).pending = s.pending := by
  unfold State.captureSelection
  dsimp only
  (repeat' split) <;> simp

/-! ### portAttach -/
@[simp] theorem State.portAttach_presence (s : State) (p : LinePort) : (s.portAttach p).presence = s.presence := rfl
@[simp] theorem State.portAttach_trackers (s : State) (p : LinePort) : (s.portAttach p).trackers = s.trackers := rfl
@[simp] theorem State.portAttach_barrel (s : State) (p : LinePort) : (s.portAttach p).barrel = s.barrel := rfl
@[simp] theorem State.portAttach_latestVD (s : State) (p : LinePort) : (s.portAttach p).latestVD = s.latestVD := rfl
@[simp] theorem State.portAttach_lines (s : State) (p : LinePort) : (s.portAttach p).lines = s.lines := rfl
@[simp] theorem State.portAttach_engines (s : State) (p : LinePort) : (s.portAttach p).engines = s.engines := rfl
@[simp] theorem State.portAttach_queue (s : State) (p : LinePort) : (s.portAttach p).queue = s.queue := rfl
@[simp] theorem State.portAttach_prospect (s : State) (p : LinePort) : (s.portAttach p).prospect = s.prospect := rfl
@[simp] theorem State.portAttach_path (s : State) (p : LinePort) : (s.portAttach p).path = s.path := rfl
@[simp] theorem State.portAttach_meas (s : State) (p : LinePort) : (s.portAttach p).meas = s.meas := rfl
@[simp] theorem State.portAttach_reg (s : State) (p : LinePort) : (s.portAttach p).reg = s.reg := rfl
@[simp] theorem State.portAttach_policy (s : State) (p : LinePort) : (s.portAttach p).policy = s.policy := rfl
@[simp] theorem State.portAttach_origin (s : State) (p : LinePort) : (s.portAttach p).origin = s.origin := rfl
@[simp] theorem State.portAttach_time (s : State) (p : LinePort) : (s.portAttach p).time = s.time := rfl

@[simp] theorem State.portAttach_pending (s : State) (p : LinePort) : (s.portAttach p).pending = s.pending := rfl

/-! ### portDetach -/

@[simp] theorem State.portDetach_presence (s : State) (p : LinePort) : (s.portDetach p).presence = s.presence := by
  unfold State.portDetach
  simp
  split <;> simp

@[simp] theorem State.portDetach_trackers (s : State) (p : LinePort) : (s.portDetach p).trackers = s.trackers := by
  unfold State.portDetach
  simp
  split <;> simp

@[simp] theorem State.portDetach_barrel (s : State) (p : LinePort) : (s.portDetach p).barrel = s.barrel := by
  unfold State.portDetach
  simp
  split <;> simp

@[simp] theorem State.portDetach_latestVD (s : State) (p : LinePort) : (s.portDetach p).latestVD = s.latestVD := by
  unfold State.portDetach
  simp
  split <;> simp

@[simp] theorem State.portDetach_prospect (s : State) (p : LinePort) : (s.portDetach p).prospect = s.prospect := by
  unfold State.portDetach
  simp
  split <;> simp

@[simp] theorem State.portDetach_path (s : State) (p : LinePort) : (s.portDetach p).path = s.path := by
  unfold State.portDetach
  simp
  split <;> simp

@[simp] theorem State.portDetach_meas (s : State) (p : LinePort) : (s.portDetach p).meas = s.meas := by
  unfold State.portDetach
  simp
  split <;> simp

@[simp] theorem State.portDetach_reg (s : State) (p : LinePort) : (s.portDetach p).reg = s.reg := by
  unfold State.portDetach
  simp
  split <;> simp

@[simp] theorem State.portDetach_policy (s : State) (p : LinePort) : (s.portDetach p).policy = s.policy := by
  unfold State.portDetach
  simp
  split <;> simp

@[simp] theorem State.portDetach_origin (s : State) (p : LinePort) : (s.portDetach p).origin = s.origin := by
  unfold State.portDetach
  simp
  split <;> simp

@[simp] theorem State.portDetach_time (s : State) (p : LinePort) : (s.portDetach p).time = s.time := by
  unfold State.portDetach
  simp
  split <;> simp

@[simp] theorem State.portDetach_pending (s : State) (p : LinePort) : (s.portDetach p).pending = s.pending := by
  unfold State.portDetach
  simp
  split <;> simp

/-! ### txReport -/

@[simp] theorem State.txReport_presence (s : State) (p : LinePort) (f : OutFrame) (n : Nat) : (s.txReport p f n).presence = s.presence := by
  unfold State.txReport
  split <;> simp <;> split <;> simp

@[simp] theorem State.txReport_trackers (s : State) (p : LinePort) (f : OutFrame) (n : Nat) : (s.txReport p f n).trackers = s.trackers := by
  unfold State.txReport
  split <;> simp <;> split <;> simp

@[simp] theorem State.txReport_barrel (s : State) (p : LinePort) (f : OutFrame) (n : Nat) : (s.txReport p f n).barrel = s.barrel := by
  unfold State.txReport
  split <;> simp <;> split <;> simp

@[simp] theorem State.txReport_latestVD (s : State) (p : LinePort) (f : OutFrame) (n : Nat) : (s.txReport p f n).latestVD = s.latestVD := by
  unfold State.txReport
  split <;> simp <;> split <;> simp

@[simp] theorem State.txReport_lines (s : State) (p : LinePort) (f : OutFrame) (n : Nat) : (s.txReport p f n).lines = s.lines := by
  unfold State.txReport
  split <;> simp <;> split <;> simp

@[simp] theorem State.txReport_engines (s : State) (p : LinePort) (f : OutFrame) (n : Nat) : (s.txReport p f n).engines = s.engines := by
  unfold State.txReport
  split <;> simp <;> split <;> simp

@[simp] theorem State.txReport_queue (s : State) (p : LinePort) (f : OutFrame) (n : Nat) : (s.txReport p f n).queue = s.queue := by
  unfold State.txReport
  split <;> simp <;> split <;> simp

@[simp] theorem State.txReport_prospect (s : State) (p : LinePort) (f : OutFrame) (n : Nat) : (s.txReport p f n).prospect = s.prospect := by
  unfold State.txReport
  split <;> simp <;> split <;> simp

@[simp] theorem State.txReport_path (s : State) (p : LinePort) (f : OutFrame) (n : Nat) : (s.txReport p f n).path = s.path := by
  unfold State.txReport
  split <;> simp <;> split <;> simp

@[simp] theorem State.txReport_meas (s : State) (p : LinePort) (f : OutFrame) (n : Nat) : (s.txReport p f n).meas = s.meas := by
  unfold State.txReport
  split <;> simp <;> split <;> simp

@[simp] theorem State.txReport_reg (s : State) (p : LinePort) (f : OutFrame) (n : Nat) : (s.txReport p f n).reg = s.reg := by
  unfold State.txReport
  split <;> simp <;> split <;> simp

@[simp] theorem State.txReport_policy (s : State) (p : LinePort) (f : OutFrame) (n : Nat) : (s.txReport p f n).policy = s.policy := by
  unfold State.txReport
  split <;> simp <;> split <;> simp

@[simp] theorem State.txReport_origin (s : State) (p : LinePort) (f : OutFrame) (n : Nat) : (s.txReport p f n).origin = s.origin := by
  unfold State.txReport
  split <;> simp <;> split <;> simp

@[simp] theorem State.txReport_time (s : State) (p : LinePort) (f : OutFrame) (n : Nat) : (s.txReport p f n).time = s.time := by
  unfold State.txReport
  split <;> simp <;> split <;> simp

@[simp] theorem State.txReport_pending (s : State) (p : LinePort) (f : OutFrame) (n : Nat) : (s.txReport p f n).pending = s.pending := by
  unfold State.txReport
  split <;> simp <;> split <;> simp

/-! ### coverContract -/

@[simp] theorem State.coverContract_presence (s : State) (p : LinePort) (i : Image) (t : LapseTarget) (c : Contract) : (s.coverContract p i t c).presence = s.presence := by
  unfold State.coverContract
  dsimp only
  (repeat' split) <;> simp

@[simp] theorem State.coverContract_trackers (s : State) (p : LinePort) (i : Image) (t : LapseTarget) (c : Contract) : (s.coverContract p i t c).trackers = s.trackers := by
  unfold State.coverContract
  dsimp only
  (repeat' split) <;> simp

@[simp] theorem State.coverContract_barrel (s : State) (p : LinePort) (i : Image) (t : LapseTarget) (c : Contract) : (s.coverContract p i t c).barrel = s.barrel := by
  unfold State.coverContract
  dsimp only
  (repeat' split) <;> simp

@[simp] theorem State.coverContract_latestVD (s : State) (p : LinePort) (i : Image) (t : LapseTarget) (c : Contract) : (s.coverContract p i t c).latestVD = s.latestVD := by
  unfold State.coverContract
  dsimp only
  (repeat' split) <;> simp

@[simp] theorem State.coverContract_lines (s : State) (p : LinePort) (i : Image) (t : LapseTarget) (c : Contract) : (s.coverContract p i t c).lines = s.lines := by
  unfold State.coverContract
  dsimp only
  (repeat' split) <;> simp

@[simp] theorem State.coverContract_engines (s : State) (p : LinePort) (i : Image) (t : LapseTarget) (c : Contract) : (s.coverContract p i t c).engines = s.engines := by
  unfold State.coverContract
  dsimp only
  (repeat' split) <;> simp

@[simp] theorem State.coverContract_queue (s : State) (p : LinePort) (i : Image) (t : LapseTarget) (c : Contract) : (s.coverContract p i t c).queue = s.queue := by
  unfold State.coverContract
  dsimp only
  (repeat' split) <;> simp

@[simp] theorem State.coverContract_prospect (s : State) (p : LinePort) (i : Image) (t : LapseTarget) (c : Contract) : (s.coverContract p i t c).prospect = s.prospect := by
  unfold State.coverContract
  dsimp only
  (repeat' split) <;> simp

@[simp] theorem State.coverContract_path (s : State) (p : LinePort) (i : Image) (t : LapseTarget) (c : Contract) : (s.coverContract p i t c).path = s.path := by
  unfold State.coverContract
  dsimp only
  (repeat' split) <;> simp

@[simp] theorem State.coverContract_meas (s : State) (p : LinePort) (i : Image) (t : LapseTarget) (c : Contract) : (s.coverContract p i t c).meas = s.meas := by
  unfold State.coverContract
  dsimp only
  (repeat' split) <;> simp

@[simp] theorem State.coverContract_reg (s : State) (p : LinePort) (i : Image) (t : LapseTarget) (c : Contract) : (s.coverContract p i t c).reg = s.reg := by
  unfold State.coverContract
  dsimp only
  (repeat' split) <;> simp

@[simp] theorem State.coverContract_policy (s : State) (p : LinePort) (i : Image) (t : LapseTarget) (c : Contract) : (s.coverContract p i t c).policy = s.policy := by
  unfold State.coverContract
  dsimp only
  (repeat' split) <;> simp

@[simp] theorem State.coverContract_origin (s : State) (p : LinePort) (i : Image) (t : LapseTarget) (c : Contract) : (s.coverContract p i t c).origin = s.origin := by
  unfold State.coverContract
  dsimp only
  (repeat' split) <;> simp

@[simp] theorem State.coverContract_time (s : State) (p : LinePort) (i : Image) (t : LapseTarget) (c : Contract) : (s.coverContract p i t c).time = s.time := by
  unfold State.coverContract
  dsimp only
  (repeat' split) <;> simp

@[simp] theorem State.coverContract_pending (s : State) (p : LinePort) (i : Image) (t : LapseTarget) (c : Contract) : (s.coverContract p i t c).pending = s.pending := by
  unfold State.coverContract
  dsimp only
  (repeat' split) <;> simp

/-! ### coverage -/

@[simp] theorem State.coverage_presence (s : State) (p : LinePort) (i : Image) : (s.coverage p i).presence = s.presence := by
  unfold State.coverage
  (repeat' split) <;> simp <;> (repeat' split) <;> simp

@[simp] theorem State.coverage_trackers (s : State) (p : LinePort) (i : Image) : (s.coverage p i).trackers = s.trackers := by
  unfold State.coverage
  (repeat' split) <;> simp <;> (repeat' split) <;> simp

@[simp] theorem State.coverage_barrel (s : State) (p : LinePort) (i : Image) : (s.coverage p i).barrel = s.barrel := by
  unfold State.coverage
  (repeat' split) <;> simp <;> (repeat' split) <;> simp

@[simp] theorem State.coverage_latestVD (s : State) (p : LinePort) (i : Image) : (s.coverage p i).latestVD = s.latestVD := by
  unfold State.coverage
  (repeat' split) <;> simp <;> (repeat' split) <;> simp

@[simp] theorem State.coverage_lines (s : State) (p : LinePort) (i : Image) : (s.coverage p i).lines = s.lines := by
  unfold State.coverage
  (repeat' split) <;> simp <;> (repeat' split) <;> simp

@[simp] theorem State.coverage_engines (s : State) (p : LinePort) (i : Image) : (s.coverage p i).engines = s.engines := by
  unfold State.coverage
  (repeat' split) <;> simp <;> (repeat' split) <;> simp

@[simp] theorem State.coverage_queue (s : State) (p : LinePort) (i : Image) : (s.coverage p i).queue = s.queue := by
  unfold State.coverage
  (repeat' split) <;> simp <;> (repeat' split) <;> simp

@[simp] theorem State.coverage_prospect (s : State) (p : LinePort) (i : Image) : (s.coverage p i).prospect = s.prospect := by
  unfold State.coverage
  (repeat' split) <;> simp <;> (repeat' split) <;> simp

@[simp] theorem State.coverage_path (s : State) (p : LinePort) (i : Image) : (s.coverage p i).path = s.path := by
  unfold State.coverage
  (repeat' split) <;> simp <;> (repeat' split) <;> simp

@[simp] theorem State.coverage_meas (s : State) (p : LinePort) (i : Image) : (s.coverage p i).meas = s.meas := by
  unfold State.coverage
  (repeat' split) <;> simp <;> (repeat' split) <;> simp

@[simp] theorem State.coverage_reg (s : State) (p : LinePort) (i : Image) : (s.coverage p i).reg = s.reg := by
  unfold State.coverage
  (repeat' split) <;> simp <;> (repeat' split) <;> simp

@[simp] theorem State.coverage_policy (s : State) (p : LinePort) (i : Image) : (s.coverage p i).policy = s.policy := by
  unfold State.coverage
  (repeat' split) <;> simp <;> (repeat' split) <;> simp

@[simp] theorem State.coverage_origin (s : State) (p : LinePort) (i : Image) : (s.coverage p i).origin = s.origin := by
  unfold State.coverage
  (repeat' split) <;> simp <;> (repeat' split) <;> simp

@[simp] theorem State.coverage_time (s : State) (p : LinePort) (i : Image) : (s.coverage p i).time = s.time := by
  unfold State.coverage
  (repeat' split) <;> simp <;> (repeat' split) <;> simp

@[simp] theorem State.coverage_pending (s : State) (p : LinePort) (i : Image) : (s.coverage p i).pending = s.pending := by
  unfold State.coverage
  (repeat' split) <;> simp <;> (repeat' split) <;> simp

/-! ### voidPin -/

@[simp] theorem State.voidPin_presence (s : State) (p : LinePort) (n : Pin) (w : VoidReason) : (s.voidPin p n w).presence = s.presence := by
  simp [State.voidPin]

@[simp] theorem State.voidPin_trackers (s : State) (p : LinePort) (n : Pin) (w : VoidReason) : (s.voidPin p n w).trackers = s.trackers := by
  simp [State.voidPin]

@[simp] theorem State.voidPin_barrel (s : State) (p : LinePort) (n : Pin) (w : VoidReason) : (s.voidPin p n w).barrel = s.barrel := by
  simp [State.voidPin]

@[simp] theorem State.voidPin_latestVD (s : State) (p : LinePort) (n : Pin) (w : VoidReason) : (s.voidPin p n w).latestVD = s.latestVD := by
  simp [State.voidPin]

@[simp] theorem State.voidPin_lines (s : State) (p : LinePort) (n : Pin) (w : VoidReason) : (s.voidPin p n w).lines = s.lines := by
  simp [State.voidPin]

@[simp] theorem State.voidPin_engines (s : State) (p : LinePort) (n : Pin) (w : VoidReason) : (s.voidPin p n w).engines = s.engines := by
  simp [State.voidPin]

@[simp] theorem State.voidPin_queue (s : State) (p : LinePort) (n : Pin) (w : VoidReason) : (s.voidPin p n w).queue = s.queue := by
  simp [State.voidPin]

@[simp] theorem State.voidPin_prospect (s : State) (p : LinePort) (n : Pin) (w : VoidReason) : (s.voidPin p n w).prospect = s.prospect := by
  simp [State.voidPin]

@[simp] theorem State.voidPin_path (s : State) (p : LinePort) (n : Pin) (w : VoidReason) : (s.voidPin p n w).path = s.path := by
  simp [State.voidPin]

@[simp] theorem State.voidPin_meas (s : State) (p : LinePort) (n : Pin) (w : VoidReason) : (s.voidPin p n w).meas = s.meas := by
  simp [State.voidPin]

@[simp] theorem State.voidPin_reg (s : State) (p : LinePort) (n : Pin) (w : VoidReason) : (s.voidPin p n w).reg = s.reg := by
  simp [State.voidPin]

@[simp] theorem State.voidPin_policy (s : State) (p : LinePort) (n : Pin) (w : VoidReason) : (s.voidPin p n w).policy = s.policy := by
  simp [State.voidPin]

@[simp] theorem State.voidPin_origin (s : State) (p : LinePort) (n : Pin) (w : VoidReason) : (s.voidPin p n w).origin = s.origin := by
  simp [State.voidPin]

@[simp] theorem State.voidPin_time (s : State) (p : LinePort) (n : Pin) (w : VoidReason) : (s.voidPin p n w).time = s.time := by
  simp [State.voidPin]

@[simp] theorem State.voidPin_pending (s : State) (p : LinePort) (n : Pin) (w : VoidReason) : (s.voidPin p n w).pending = s.pending := by
  simp [State.voidPin]

/-! ### recheckPin -/

@[simp] theorem State.recheckPin_presence (s : State) (p : LinePort) (i : Image) : (s.recheckPin p i).presence = s.presence := by
  unfold State.recheckPin
  (repeat' split) <;> simp

@[simp] theorem State.recheckPin_trackers (s : State) (p : LinePort) (i : Image) : (s.recheckPin p i).trackers = s.trackers := by
  unfold State.recheckPin
  (repeat' split) <;> simp

@[simp] theorem State.recheckPin_barrel (s : State) (p : LinePort) (i : Image) : (s.recheckPin p i).barrel = s.barrel := by
  unfold State.recheckPin
  (repeat' split) <;> simp

@[simp] theorem State.recheckPin_latestVD (s : State) (p : LinePort) (i : Image) : (s.recheckPin p i).latestVD = s.latestVD := by
  unfold State.recheckPin
  (repeat' split) <;> simp

@[simp] theorem State.recheckPin_lines (s : State) (p : LinePort) (i : Image) : (s.recheckPin p i).lines = s.lines := by
  unfold State.recheckPin
  (repeat' split) <;> simp

@[simp] theorem State.recheckPin_engines (s : State) (p : LinePort) (i : Image) : (s.recheckPin p i).engines = s.engines := by
  unfold State.recheckPin
  (repeat' split) <;> simp

@[simp] theorem State.recheckPin_queue (s : State) (p : LinePort) (i : Image) : (s.recheckPin p i).queue = s.queue := by
  unfold State.recheckPin
  (repeat' split) <;> simp

@[simp] theorem State.recheckPin_prospect (s : State) (p : LinePort) (i : Image) : (s.recheckPin p i).prospect = s.prospect := by
  unfold State.recheckPin
  (repeat' split) <;> simp

@[simp] theorem State.recheckPin_path (s : State) (p : LinePort) (i : Image) : (s.recheckPin p i).path = s.path := by
  unfold State.recheckPin
  (repeat' split) <;> simp

@[simp] theorem State.recheckPin_meas (s : State) (p : LinePort) (i : Image) : (s.recheckPin p i).meas = s.meas := by
  unfold State.recheckPin
  (repeat' split) <;> simp

@[simp] theorem State.recheckPin_reg (s : State) (p : LinePort) (i : Image) : (s.recheckPin p i).reg = s.reg := by
  unfold State.recheckPin
  (repeat' split) <;> simp

@[simp] theorem State.recheckPin_policy (s : State) (p : LinePort) (i : Image) : (s.recheckPin p i).policy = s.policy := by
  unfold State.recheckPin
  (repeat' split) <;> simp

@[simp] theorem State.recheckPin_origin (s : State) (p : LinePort) (i : Image) : (s.recheckPin p i).origin = s.origin := by
  unfold State.recheckPin
  (repeat' split) <;> simp

@[simp] theorem State.recheckPin_time (s : State) (p : LinePort) (i : Image) : (s.recheckPin p i).time = s.time := by
  unfold State.recheckPin
  (repeat' split) <;> simp

@[simp] theorem State.recheckPin_pending (s : State) (p : LinePort) (i : Image) : (s.recheckPin p i).pending = s.pending := by
  unfold State.recheckPin
  (repeat' split) <;> simp

/-! ### adoptPin -/

@[simp] theorem State.adoptPin_presence (s : State) (p : LinePort) : (s.adoptPin p).presence = s.presence := by
  unfold State.adoptPin
  (repeat' split) <;> simp

@[simp] theorem State.adoptPin_trackers (s : State) (p : LinePort) : (s.adoptPin p).trackers = s.trackers := by
  unfold State.adoptPin
  (repeat' split) <;> simp

@[simp] theorem State.adoptPin_barrel (s : State) (p : LinePort) : (s.adoptPin p).barrel = s.barrel := by
  unfold State.adoptPin
  (repeat' split) <;> simp

@[simp] theorem State.adoptPin_latestVD (s : State) (p : LinePort) : (s.adoptPin p).latestVD = s.latestVD := by
  unfold State.adoptPin
  (repeat' split) <;> simp

@[simp] theorem State.adoptPin_lines (s : State) (p : LinePort) : (s.adoptPin p).lines = s.lines := by
  unfold State.adoptPin
  (repeat' split) <;> simp

@[simp] theorem State.adoptPin_engines (s : State) (p : LinePort) : (s.adoptPin p).engines = s.engines := by
  unfold State.adoptPin
  (repeat' split) <;> simp

@[simp] theorem State.adoptPin_queue (s : State) (p : LinePort) : (s.adoptPin p).queue = s.queue := by
  unfold State.adoptPin
  (repeat' split) <;> simp

@[simp] theorem State.adoptPin_prospect (s : State) (p : LinePort) : (s.adoptPin p).prospect = s.prospect := by
  unfold State.adoptPin
  (repeat' split) <;> simp

@[simp] theorem State.adoptPin_path (s : State) (p : LinePort) : (s.adoptPin p).path = s.path := by
  unfold State.adoptPin
  (repeat' split) <;> simp

@[simp] theorem State.adoptPin_meas (s : State) (p : LinePort) : (s.adoptPin p).meas = s.meas := by
  unfold State.adoptPin
  (repeat' split) <;> simp

@[simp] theorem State.adoptPin_reg (s : State) (p : LinePort) : (s.adoptPin p).reg = s.reg := by
  unfold State.adoptPin
  (repeat' split) <;> simp

@[simp] theorem State.adoptPin_policy (s : State) (p : LinePort) : (s.adoptPin p).policy = s.policy := by
  unfold State.adoptPin
  (repeat' split) <;> simp

@[simp] theorem State.adoptPin_origin (s : State) (p : LinePort) : (s.adoptPin p).origin = s.origin := by
  unfold State.adoptPin
  (repeat' split) <;> simp

@[simp] theorem State.adoptPin_time (s : State) (p : LinePort) : (s.adoptPin p).time = s.time := by
  unfold State.adoptPin
  (repeat' split) <;> simp

@[simp] theorem State.adoptPin_pending (s : State) (p : LinePort) : (s.adoptPin p).pending = s.pending := by
  unfold State.adoptPin
  (repeat' split) <;> simp

/-! ### storeImage -/
@[simp] theorem State.storeImage_presence (s : State) (p : LinePort) (i : Image) (b : Bool) : (s.storeImage p i b).presence = s.presence := rfl
@[simp] theorem State.storeImage_trackers (s : State) (p : LinePort) (i : Image) (b : Bool) : (s.storeImage p i b).trackers = s.trackers := rfl
@[simp] theorem State.storeImage_barrel (s : State) (p : LinePort) (i : Image) (b : Bool) : (s.storeImage p i b).barrel = s.barrel := rfl
@[simp] theorem State.storeImage_latestVD (s : State) (p : LinePort) (i : Image) (b : Bool) : (s.storeImage p i b).latestVD = s.latestVD := rfl
@[simp] theorem State.storeImage_lines (s : State) (p : LinePort) (i : Image) (b : Bool) : (s.storeImage p i b).lines = s.lines := rfl
@[simp] theorem State.storeImage_engines (s : State) (p : LinePort) (i : Image) (b : Bool) : (s.storeImage p i b).engines = s.engines := rfl
@[simp] theorem State.storeImage_queue (s : State) (p : LinePort) (i : Image) (b : Bool) : (s.storeImage p i b).queue = s.queue := rfl
@[simp] theorem State.storeImage_prospect (s : State) (p : LinePort) (i : Image) (b : Bool) : (s.storeImage p i b).prospect = s.prospect := rfl
@[simp] theorem State.storeImage_path (s : State) (p : LinePort) (i : Image) (b : Bool) : (s.storeImage p i b).path = s.path := rfl
@[simp] theorem State.storeImage_meas (s : State) (p : LinePort) (i : Image) (b : Bool) : (s.storeImage p i b).meas = s.meas := rfl
@[simp] theorem State.storeImage_reg (s : State) (p : LinePort) (i : Image) (b : Bool) : (s.storeImage p i b).reg = s.reg := rfl
@[simp] theorem State.storeImage_policy (s : State) (p : LinePort) (i : Image) (b : Bool) : (s.storeImage p i b).policy = s.policy := rfl
@[simp] theorem State.storeImage_origin (s : State) (p : LinePort) (i : Image) (b : Bool) : (s.storeImage p i b).origin = s.origin := rfl
@[simp] theorem State.storeImage_time (s : State) (p : LinePort) (i : Image) (b : Bool) : (s.storeImage p i b).time = s.time := rfl

@[simp] theorem State.storeImage_pending (s : State) (p : LinePort) (i : Image) (b : Bool) : (s.storeImage p i b).pending = s.pending := rfl

/-! ### capture -/

@[simp] theorem State.capture_presence (s : State) (p : LinePort) (i : Image) (b : Bool) : (s.capture p i b).presence = s.presence := by
  unfold State.capture
  simp
  split <;> simp

@[simp] theorem State.capture_trackers (s : State) (p : LinePort) (i : Image) (b : Bool) : (s.capture p i b).trackers = s.trackers := by
  unfold State.capture
  simp
  split <;> simp

@[simp] theorem State.capture_barrel (s : State) (p : LinePort) (i : Image) (b : Bool) : (s.capture p i b).barrel = s.barrel := by
  unfold State.capture
  simp
  split <;> simp

@[simp] theorem State.capture_latestVD (s : State) (p : LinePort) (i : Image) (b : Bool) : (s.capture p i b).latestVD = s.latestVD := by
  unfold State.capture
  simp
  split <;> simp

@[simp] theorem State.capture_lines (s : State) (p : LinePort) (i : Image) (b : Bool) : (s.capture p i b).lines = s.lines := by
  unfold State.capture
  simp
  split <;> simp

@[simp] theorem State.capture_engines (s : State) (p : LinePort) (i : Image) (b : Bool) : (s.capture p i b).engines = s.engines := by
  unfold State.capture
  simp
  split <;> simp

@[simp] theorem State.capture_queue (s : State) (p : LinePort) (i : Image) (b : Bool) : (s.capture p i b).queue = s.queue := by
  unfold State.capture
  simp
  split <;> simp

@[simp] theorem State.capture_path (s : State) (p : LinePort) (i : Image) (b : Bool) : (s.capture p i b).path = s.path := by
  unfold State.capture
  simp
  split <;> simp

@[simp] theorem State.capture_meas (s : State) (p : LinePort) (i : Image) (b : Bool) : (s.capture p i b).meas = s.meas := by
  unfold State.capture
  simp
  split <;> simp

@[simp] theorem State.capture_reg (s : State) (p : LinePort) (i : Image) (b : Bool) : (s.capture p i b).reg = s.reg := by
  unfold State.capture
  simp
  split <;> simp

@[simp] theorem State.capture_policy (s : State) (p : LinePort) (i : Image) (b : Bool) : (s.capture p i b).policy = s.policy := by
  unfold State.capture
  simp
  split <;> simp

@[simp] theorem State.capture_origin (s : State) (p : LinePort) (i : Image) (b : Bool) : (s.capture p i b).origin = s.origin := by
  unfold State.capture
  simp
  split <;> simp

@[simp] theorem State.capture_time (s : State) (p : LinePort) (i : Image) (b : Bool) : (s.capture p i b).time = s.time := by
  unfold State.capture
  simp
  split <;> simp

@[simp] theorem State.capture_pending (s : State) (p : LinePort) (i : Image) (b : Bool) : (s.capture p i b).pending = s.pending := by
  unfold State.capture
  simp
  split <;> simp

/-! ### granted -/
@[simp] theorem State.granted_presence (s : State) (p : LinePort) : (s.granted p).presence = s.presence := rfl
@[simp] theorem State.granted_trackers (s : State) (p : LinePort) : (s.granted p).trackers = s.trackers := rfl
@[simp] theorem State.granted_barrel (s : State) (p : LinePort) : (s.granted p).barrel = s.barrel := rfl
@[simp] theorem State.granted_latestVD (s : State) (p : LinePort) : (s.granted p).latestVD = s.latestVD := rfl
@[simp] theorem State.granted_lines (s : State) (p : LinePort) : (s.granted p).lines = s.lines := rfl
@[simp] theorem State.granted_engines (s : State) (p : LinePort) : (s.granted p).engines = s.engines := rfl
@[simp] theorem State.granted_queue (s : State) (p : LinePort) : (s.granted p).queue = s.queue := rfl
@[simp] theorem State.granted_prospect (s : State) (p : LinePort) : (s.granted p).prospect = s.prospect := rfl
@[simp] theorem State.granted_path (s : State) (p : LinePort) : (s.granted p).path = s.path := rfl
@[simp] theorem State.granted_meas (s : State) (p : LinePort) : (s.granted p).meas = s.meas := rfl
@[simp] theorem State.granted_reg (s : State) (p : LinePort) : (s.granted p).reg = s.reg := rfl
@[simp] theorem State.granted_policy (s : State) (p : LinePort) : (s.granted p).policy = s.policy := rfl
@[simp] theorem State.granted_origin (s : State) (p : LinePort) : (s.granted p).origin = s.origin := rfl
@[simp] theorem State.granted_exch (s : State) (p : LinePort) : (s.granted p).exch = s.exch := rfl
@[simp] theorem State.granted_time (s : State) (p : LinePort) : (s.granted p).time = s.time := rfl

@[simp] theorem State.granted_pending (s : State) (p : LinePort) : (s.granted p).pending = s.pending := rfl

/-! ### declined -/

@[simp] theorem State.declined_presence (s : State) (p : LinePort) (b : Byte) : (s.declined p b).presence = s.presence := by
  simp [State.declined]

@[simp] theorem State.declined_trackers (s : State) (p : LinePort) (b : Byte) : (s.declined p b).trackers = s.trackers := by
  simp [State.declined]

@[simp] theorem State.declined_barrel (s : State) (p : LinePort) (b : Byte) : (s.declined p b).barrel = s.barrel := by
  simp [State.declined]

@[simp] theorem State.declined_latestVD (s : State) (p : LinePort) (b : Byte) : (s.declined p b).latestVD = s.latestVD := by
  simp [State.declined]

@[simp] theorem State.declined_lines (s : State) (p : LinePort) (b : Byte) : (s.declined p b).lines = s.lines := by
  simp [State.declined]

@[simp] theorem State.declined_engines (s : State) (p : LinePort) (b : Byte) : (s.declined p b).engines = s.engines := by
  simp [State.declined]

@[simp] theorem State.declined_queue (s : State) (p : LinePort) (b : Byte) : (s.declined p b).queue = s.queue := by
  simp [State.declined]

@[simp] theorem State.declined_prospect (s : State) (p : LinePort) (b : Byte) : (s.declined p b).prospect = s.prospect := by
  simp [State.declined]

@[simp] theorem State.declined_path (s : State) (p : LinePort) (b : Byte) : (s.declined p b).path = s.path := by
  simp [State.declined]

@[simp] theorem State.declined_meas (s : State) (p : LinePort) (b : Byte) : (s.declined p b).meas = s.meas := by
  simp [State.declined]

@[simp] theorem State.declined_reg (s : State) (p : LinePort) (b : Byte) : (s.declined p b).reg = s.reg := by
  simp [State.declined]

@[simp] theorem State.declined_policy (s : State) (p : LinePort) (b : Byte) : (s.declined p b).policy = s.policy := by
  simp [State.declined]

@[simp] theorem State.declined_origin (s : State) (p : LinePort) (b : Byte) : (s.declined p b).origin = s.origin := by
  simp [State.declined]

@[simp] theorem State.declined_time (s : State) (p : LinePort) (b : Byte) : (s.declined p b).time = s.time := by
  simp [State.declined]

@[simp] theorem State.declined_pending (s : State) (p : LinePort) (b : Byte) : (s.declined p b).pending = s.pending := by
  simp [State.declined]

/-! ### settled -/

@[simp] theorem State.settled_presence (s : State) (p : LinePort) : (s.settled p).presence = s.presence := by
  unfold State.settled
  dsimp only
  (repeat' split) <;> simp

@[simp] theorem State.settled_trackers (s : State) (p : LinePort) : (s.settled p).trackers = s.trackers := by
  unfold State.settled
  dsimp only
  (repeat' split) <;> simp

@[simp] theorem State.settled_barrel (s : State) (p : LinePort) : (s.settled p).barrel = s.barrel := by
  unfold State.settled
  dsimp only
  (repeat' split) <;> simp

@[simp] theorem State.settled_latestVD (s : State) (p : LinePort) : (s.settled p).latestVD = s.latestVD := by
  unfold State.settled
  dsimp only
  (repeat' split) <;> simp

@[simp] theorem State.settled_lines (s : State) (p : LinePort) : (s.settled p).lines = s.lines := by
  unfold State.settled
  dsimp only
  (repeat' split) <;> simp

@[simp] theorem State.settled_engines (s : State) (p : LinePort) : (s.settled p).engines = s.engines := by
  unfold State.settled
  dsimp only
  (repeat' split) <;> simp

@[simp] theorem State.settled_queue (s : State) (p : LinePort) : (s.settled p).queue = s.queue := by
  unfold State.settled
  dsimp only
  (repeat' split) <;> simp

@[simp] theorem State.settled_path (s : State) (p : LinePort) : (s.settled p).path = s.path := by
  unfold State.settled
  dsimp only
  (repeat' split) <;> simp

@[simp] theorem State.settled_meas (s : State) (p : LinePort) : (s.settled p).meas = s.meas := by
  unfold State.settled
  dsimp only
  (repeat' split) <;> simp

@[simp] theorem State.settled_reg (s : State) (p : LinePort) : (s.settled p).reg = s.reg := by
  unfold State.settled
  dsimp only
  (repeat' split) <;> simp

@[simp] theorem State.settled_policy (s : State) (p : LinePort) : (s.settled p).policy = s.policy := by
  unfold State.settled
  dsimp only
  (repeat' split) <;> simp

@[simp] theorem State.settled_origin (s : State) (p : LinePort) : (s.settled p).origin = s.origin := by
  unfold State.settled
  dsimp only
  (repeat' split) <;> simp

@[simp] theorem State.settled_time (s : State) (p : LinePort) : (s.settled p).time = s.time := by
  unfold State.settled
  dsimp only
  (repeat' split) <;> simp

@[simp] theorem State.settled_pending (s : State) (p : LinePort) : (s.settled p).pending = s.pending := by
  unfold State.settled
  dsimp only
  (repeat' split) <;> simp

/-! ### takeCut -/

@[simp] theorem State.takeCut_presence (s : State) (p : LinePort) (v n : Nat) : (s.takeCut p v n).presence = s.presence := by
  unfold State.takeCut
  simp
  split <;> simp

@[simp] theorem State.takeCut_trackers (s : State) (p : LinePort) (v n : Nat) : (s.takeCut p v n).trackers = s.trackers := by
  unfold State.takeCut
  simp
  split <;> simp

@[simp] theorem State.takeCut_barrel (s : State) (p : LinePort) (v n : Nat) : (s.takeCut p v n).barrel = s.barrel := by
  unfold State.takeCut
  simp
  split <;> simp

@[simp] theorem State.takeCut_latestVD (s : State) (p : LinePort) (v n : Nat) : (s.takeCut p v n).latestVD = s.latestVD := by
  unfold State.takeCut
  simp
  split <;> simp

@[simp] theorem State.takeCut_lines (s : State) (p : LinePort) (v n : Nat) : (s.takeCut p v n).lines = s.lines := by
  unfold State.takeCut
  simp
  split <;> simp

@[simp] theorem State.takeCut_engines (s : State) (p : LinePort) (v n : Nat) : (s.takeCut p v n).engines = s.engines := by
  unfold State.takeCut
  simp
  split <;> simp

@[simp] theorem State.takeCut_queue (s : State) (p : LinePort) (v n : Nat) : (s.takeCut p v n).queue = s.queue := by
  unfold State.takeCut
  simp
  split <;> simp

@[simp] theorem State.takeCut_prospect (s : State) (p : LinePort) (v n : Nat) : (s.takeCut p v n).prospect = s.prospect := by
  unfold State.takeCut
  simp
  split <;> simp

@[simp] theorem State.takeCut_path (s : State) (p : LinePort) (v n : Nat) : (s.takeCut p v n).path = s.path := by
  unfold State.takeCut
  simp
  split <;> simp

@[simp] theorem State.takeCut_meas (s : State) (p : LinePort) (v n : Nat) : (s.takeCut p v n).meas = s.meas := by
  unfold State.takeCut
  simp
  split <;> simp

@[simp] theorem State.takeCut_reg (s : State) (p : LinePort) (v n : Nat) : (s.takeCut p v n).reg = s.reg := by
  unfold State.takeCut
  simp
  split <;> simp

@[simp] theorem State.takeCut_policy (s : State) (p : LinePort) (v n : Nat) : (s.takeCut p v n).policy = s.policy := by
  unfold State.takeCut
  simp
  split <;> simp

@[simp] theorem State.takeCut_origin (s : State) (p : LinePort) (v n : Nat) : (s.takeCut p v n).origin = s.origin := by
  unfold State.takeCut
  simp
  split <;> simp

@[simp] theorem State.takeCut_time (s : State) (p : LinePort) (v n : Nat) : (s.takeCut p v n).time = s.time := by
  unfold State.takeCut
  simp
  split <;> simp

@[simp] theorem State.takeCut_pending (s : State) (p : LinePort) (v n : Nat) : (s.takeCut p v n).pending = s.pending := by
  unfold State.takeCut
  simp
  split <;> simp

/-! ### enterFaulted -/

@[simp] theorem State.enterFaulted_presence (s : State) (p : LinePort) (c : FaultCause) : (s.enterFaulted p c).presence = s.presence := by
  simp [State.enterFaulted]

@[simp] theorem State.enterFaulted_trackers (s : State) (p : LinePort) (c : FaultCause) : (s.enterFaulted p c).trackers = s.trackers := by
  simp [State.enterFaulted]

@[simp] theorem State.enterFaulted_barrel (s : State) (p : LinePort) (c : FaultCause) : (s.enterFaulted p c).barrel = s.barrel := by
  simp [State.enterFaulted]

@[simp] theorem State.enterFaulted_latestVD (s : State) (p : LinePort) (c : FaultCause) : (s.enterFaulted p c).latestVD = s.latestVD := by
  simp [State.enterFaulted]

@[simp] theorem State.enterFaulted_lines (s : State) (p : LinePort) (c : FaultCause) : (s.enterFaulted p c).lines = s.lines := by
  simp [State.enterFaulted]

@[simp] theorem State.enterFaulted_engines (s : State) (p : LinePort) (c : FaultCause) : (s.enterFaulted p c).engines = s.engines := by
  simp [State.enterFaulted]

@[simp] theorem State.enterFaulted_queue (s : State) (p : LinePort) (c : FaultCause) : (s.enterFaulted p c).queue = s.queue := by
  simp [State.enterFaulted]

@[simp] theorem State.enterFaulted_prospect (s : State) (p : LinePort) (c : FaultCause) : (s.enterFaulted p c).prospect = s.prospect := by
  simp [State.enterFaulted]

@[simp] theorem State.enterFaulted_path (s : State) (p : LinePort) (c : FaultCause) : (s.enterFaulted p c).path = s.path := by
  simp [State.enterFaulted]

@[simp] theorem State.enterFaulted_meas (s : State) (p : LinePort) (c : FaultCause) : (s.enterFaulted p c).meas = s.meas := by
  simp [State.enterFaulted]

@[simp] theorem State.enterFaulted_reg (s : State) (p : LinePort) (c : FaultCause) : (s.enterFaulted p c).reg = s.reg := by
  simp [State.enterFaulted]

@[simp] theorem State.enterFaulted_policy (s : State) (p : LinePort) (c : FaultCause) : (s.enterFaulted p c).policy = s.policy := by
  simp [State.enterFaulted]

@[simp] theorem State.enterFaulted_origin (s : State) (p : LinePort) (c : FaultCause) : (s.enterFaulted p c).origin = s.origin := by
  simp [State.enterFaulted]

@[simp] theorem State.enterFaulted_time (s : State) (p : LinePort) (c : FaultCause) : (s.enterFaulted p c).time = s.time := by
  simp [State.enterFaulted]

@[simp] theorem State.enterFaulted_pending (s : State) (p : LinePort) (c : FaultCause) : (s.enterFaulted p c).pending = s.pending := by
  simp [State.enterFaulted]

/-! ### portDroop -/

@[simp] theorem State.portDroop_presence (s : State) (p : LinePort) : (s.portDroop p).presence = s.presence := by
  unfold State.portDroop
  dsimp only
  (repeat' split) <;> simp

@[simp] theorem State.portDroop_trackers (s : State) (p : LinePort) : (s.portDroop p).trackers = s.trackers := by
  unfold State.portDroop
  dsimp only
  (repeat' split) <;> simp

@[simp] theorem State.portDroop_barrel (s : State) (p : LinePort) : (s.portDroop p).barrel = s.barrel := by
  unfold State.portDroop
  dsimp only
  (repeat' split) <;> simp

@[simp] theorem State.portDroop_latestVD (s : State) (p : LinePort) : (s.portDroop p).latestVD = s.latestVD := by
  unfold State.portDroop
  dsimp only
  (repeat' split) <;> simp

@[simp] theorem State.portDroop_lines (s : State) (p : LinePort) : (s.portDroop p).lines = s.lines := by
  unfold State.portDroop
  dsimp only
  (repeat' split) <;> simp

@[simp] theorem State.portDroop_engines (s : State) (p : LinePort) : (s.portDroop p).engines = s.engines := by
  unfold State.portDroop
  dsimp only
  (repeat' split) <;> simp

@[simp] theorem State.portDroop_queue (s : State) (p : LinePort) : (s.portDroop p).queue = s.queue := by
  unfold State.portDroop
  dsimp only
  (repeat' split) <;> simp

@[simp] theorem State.portDroop_prospect (s : State) (p : LinePort) : (s.portDroop p).prospect = s.prospect := by
  unfold State.portDroop
  dsimp only
  (repeat' split) <;> simp

@[simp] theorem State.portDroop_path (s : State) (p : LinePort) : (s.portDroop p).path = s.path := by
  unfold State.portDroop
  dsimp only
  (repeat' split) <;> simp

@[simp] theorem State.portDroop_meas (s : State) (p : LinePort) : (s.portDroop p).meas = s.meas := by
  unfold State.portDroop
  dsimp only
  (repeat' split) <;> simp

@[simp] theorem State.portDroop_reg (s : State) (p : LinePort) : (s.portDroop p).reg = s.reg := by
  unfold State.portDroop
  dsimp only
  (repeat' split) <;> simp

@[simp] theorem State.portDroop_policy (s : State) (p : LinePort) : (s.portDroop p).policy = s.policy := by
  unfold State.portDroop
  dsimp only
  (repeat' split) <;> simp

@[simp] theorem State.portDroop_origin (s : State) (p : LinePort) : (s.portDroop p).origin = s.origin := by
  unfold State.portDroop
  dsimp only
  (repeat' split) <;> simp

@[simp] theorem State.portDroop_time (s : State) (p : LinePort) : (s.portDroop p).time = s.time := by
  unfold State.portDroop
  dsimp only
  (repeat' split) <;> simp

@[simp] theorem State.portDroop_pending (s : State) (p : LinePort) : (s.portDroop p).pending = s.pending := by
  unfold State.portDroop
  dsimp only
  (repeat' split) <;> simp

/-! ### tenderTimeout -/

@[simp] theorem State.tenderTimeout_presence (s : State) (p : LinePort) : (s.tenderTimeout p).presence = s.presence := by
  unfold State.tenderTimeout
  simp
  split <;> simp

@[simp] theorem State.tenderTimeout_trackers (s : State) (p : LinePort) : (s.tenderTimeout p).trackers = s.trackers := by
  unfold State.tenderTimeout
  simp
  split <;> simp

@[simp] theorem State.tenderTimeout_barrel (s : State) (p : LinePort) : (s.tenderTimeout p).barrel = s.barrel := by
  unfold State.tenderTimeout
  simp
  split <;> simp

@[simp] theorem State.tenderTimeout_latestVD (s : State) (p : LinePort) : (s.tenderTimeout p).latestVD = s.latestVD := by
  unfold State.tenderTimeout
  simp
  split <;> simp

@[simp] theorem State.tenderTimeout_lines (s : State) (p : LinePort) : (s.tenderTimeout p).lines = s.lines := by
  unfold State.tenderTimeout
  simp
  split <;> simp

@[simp] theorem State.tenderTimeout_engines (s : State) (p : LinePort) : (s.tenderTimeout p).engines = s.engines := by
  unfold State.tenderTimeout
  simp
  split <;> simp

@[simp] theorem State.tenderTimeout_queue (s : State) (p : LinePort) : (s.tenderTimeout p).queue = s.queue := by
  unfold State.tenderTimeout
  simp
  split <;> simp

@[simp] theorem State.tenderTimeout_path (s : State) (p : LinePort) : (s.tenderTimeout p).path = s.path := by
  unfold State.tenderTimeout
  simp
  split <;> simp

@[simp] theorem State.tenderTimeout_meas (s : State) (p : LinePort) : (s.tenderTimeout p).meas = s.meas := by
  unfold State.tenderTimeout
  simp
  split <;> simp

@[simp] theorem State.tenderTimeout_reg (s : State) (p : LinePort) : (s.tenderTimeout p).reg = s.reg := by
  unfold State.tenderTimeout
  simp
  split <;> simp

@[simp] theorem State.tenderTimeout_policy (s : State) (p : LinePort) : (s.tenderTimeout p).policy = s.policy := by
  unfold State.tenderTimeout
  simp
  split <;> simp

@[simp] theorem State.tenderTimeout_origin (s : State) (p : LinePort) : (s.tenderTimeout p).origin = s.origin := by
  unfold State.tenderTimeout
  simp
  split <;> simp

@[simp] theorem State.tenderTimeout_time (s : State) (p : LinePort) : (s.tenderTimeout p).time = s.time := by
  unfold State.tenderTimeout
  simp
  split <;> simp

@[simp] theorem State.tenderTimeout_pending (s : State) (p : LinePort) : (s.tenderTimeout p).pending = s.pending := by
  unfold State.tenderTimeout
  simp
  split <;> simp

/-! ### claimTimeout -/

@[simp] theorem State.claimTimeout_presence (s : State) (p : LinePort) : (s.claimTimeout p).presence = s.presence := by
  unfold State.claimTimeout
  dsimp only
  (repeat' split) <;> simp

@[simp] theorem State.claimTimeout_trackers (s : State) (p : LinePort) : (s.claimTimeout p).trackers = s.trackers := by
  unfold State.claimTimeout
  dsimp only
  (repeat' split) <;> simp

@[simp] theorem State.claimTimeout_barrel (s : State) (p : LinePort) : (s.claimTimeout p).barrel = s.barrel := by
  unfold State.claimTimeout
  dsimp only
  (repeat' split) <;> simp

@[simp] theorem State.claimTimeout_latestVD (s : State) (p : LinePort) : (s.claimTimeout p).latestVD = s.latestVD := by
  unfold State.claimTimeout
  dsimp only
  (repeat' split) <;> simp

@[simp] theorem State.claimTimeout_lines (s : State) (p : LinePort) : (s.claimTimeout p).lines = s.lines := by
  unfold State.claimTimeout
  dsimp only
  (repeat' split) <;> simp

@[simp] theorem State.claimTimeout_engines (s : State) (p : LinePort) : (s.claimTimeout p).engines = s.engines := by
  unfold State.claimTimeout
  dsimp only
  (repeat' split) <;> simp

@[simp] theorem State.claimTimeout_queue (s : State) (p : LinePort) : (s.claimTimeout p).queue = s.queue := by
  unfold State.claimTimeout
  dsimp only
  (repeat' split) <;> simp

@[simp] theorem State.claimTimeout_prospect (s : State) (p : LinePort) : (s.claimTimeout p).prospect = s.prospect := by
  unfold State.claimTimeout
  dsimp only
  (repeat' split) <;> simp

@[simp] theorem State.claimTimeout_path (s : State) (p : LinePort) : (s.claimTimeout p).path = s.path := by
  unfold State.claimTimeout
  dsimp only
  (repeat' split) <;> simp

@[simp] theorem State.claimTimeout_meas (s : State) (p : LinePort) : (s.claimTimeout p).meas = s.meas := by
  unfold State.claimTimeout
  dsimp only
  (repeat' split) <;> simp

@[simp] theorem State.claimTimeout_reg (s : State) (p : LinePort) : (s.claimTimeout p).reg = s.reg := by
  unfold State.claimTimeout
  dsimp only
  (repeat' split) <;> simp

@[simp] theorem State.claimTimeout_policy (s : State) (p : LinePort) : (s.claimTimeout p).policy = s.policy := by
  unfold State.claimTimeout
  dsimp only
  (repeat' split) <;> simp

@[simp] theorem State.claimTimeout_origin (s : State) (p : LinePort) : (s.claimTimeout p).origin = s.origin := by
  unfold State.claimTimeout
  dsimp only
  (repeat' split) <;> simp

@[simp] theorem State.claimTimeout_time (s : State) (p : LinePort) : (s.claimTimeout p).time = s.time := by
  unfold State.claimTimeout
  dsimp only
  (repeat' split) <;> simp

@[simp] theorem State.claimTimeout_pending (s : State) (p : LinePort) : (s.claimTimeout p).pending = s.pending := by
  unfold State.claimTimeout
  dsimp only
  (repeat' split) <;> simp

/-! ### lapse -/
@[simp] theorem State.lapse_presence (s : State) (p : LinePort) : (s.lapse p).presence = s.presence := rfl
@[simp] theorem State.lapse_trackers (s : State) (p : LinePort) : (s.lapse p).trackers = s.trackers := rfl
@[simp] theorem State.lapse_barrel (s : State) (p : LinePort) : (s.lapse p).barrel = s.barrel := rfl
@[simp] theorem State.lapse_latestVD (s : State) (p : LinePort) : (s.lapse p).latestVD = s.latestVD := rfl
@[simp] theorem State.lapse_lines (s : State) (p : LinePort) : (s.lapse p).lines = s.lines := rfl
@[simp] theorem State.lapse_engines (s : State) (p : LinePort) : (s.lapse p).engines = s.engines := rfl
@[simp] theorem State.lapse_queue (s : State) (p : LinePort) : (s.lapse p).queue = s.queue := rfl
@[simp] theorem State.lapse_prospect (s : State) (p : LinePort) : (s.lapse p).prospect = s.prospect := rfl
@[simp] theorem State.lapse_path (s : State) (p : LinePort) : (s.lapse p).path = s.path := rfl
@[simp] theorem State.lapse_meas (s : State) (p : LinePort) : (s.lapse p).meas = s.meas := rfl
@[simp] theorem State.lapse_reg (s : State) (p : LinePort) : (s.lapse p).reg = s.reg := rfl
@[simp] theorem State.lapse_policy (s : State) (p : LinePort) : (s.lapse p).policy = s.policy := rfl
@[simp] theorem State.lapse_origin (s : State) (p : LinePort) : (s.lapse p).origin = s.origin := rfl
@[simp] theorem State.lapse_time (s : State) (p : LinePort) : (s.lapse p).time = s.time := rfl

@[simp] theorem State.lapse_pending (s : State) (p : LinePort) : (s.lapse p).pending = s.pending := rfl

/-! ### portRelease -/

@[simp] theorem State.portRelease_presence (s : State) (p : LinePort) (k : Fin 8) : (s.portRelease p k).presence = s.presence := by
  unfold State.portRelease
  simp
  split <;> simp

@[simp] theorem State.portRelease_trackers (s : State) (p : LinePort) (k : Fin 8) : (s.portRelease p k).trackers = s.trackers := by
  unfold State.portRelease
  simp
  split <;> simp

@[simp] theorem State.portRelease_barrel (s : State) (p : LinePort) (k : Fin 8) : (s.portRelease p k).barrel = s.barrel := by
  unfold State.portRelease
  simp
  split <;> simp

@[simp] theorem State.portRelease_latestVD (s : State) (p : LinePort) (k : Fin 8) : (s.portRelease p k).latestVD = s.latestVD := by
  unfold State.portRelease
  simp
  split <;> simp

@[simp] theorem State.portRelease_lines (s : State) (p : LinePort) (k : Fin 8) : (s.portRelease p k).lines = s.lines := by
  unfold State.portRelease
  simp
  split <;> simp

@[simp] theorem State.portRelease_engines (s : State) (p : LinePort) (k : Fin 8) : (s.portRelease p k).engines = s.engines := by
  unfold State.portRelease
  simp
  split <;> simp

@[simp] theorem State.portRelease_queue (s : State) (p : LinePort) (k : Fin 8) : (s.portRelease p k).queue = s.queue := by
  unfold State.portRelease
  simp
  split <;> simp

@[simp] theorem State.portRelease_prospect (s : State) (p : LinePort) (k : Fin 8) : (s.portRelease p k).prospect = s.prospect := by
  unfold State.portRelease
  simp
  split <;> simp

@[simp] theorem State.portRelease_path (s : State) (p : LinePort) (k : Fin 8) : (s.portRelease p k).path = s.path := by
  unfold State.portRelease
  simp
  split <;> simp

@[simp] theorem State.portRelease_meas (s : State) (p : LinePort) (k : Fin 8) : (s.portRelease p k).meas = s.meas := by
  unfold State.portRelease
  simp
  split <;> simp

@[simp] theorem State.portRelease_reg (s : State) (p : LinePort) (k : Fin 8) : (s.portRelease p k).reg = s.reg := by
  unfold State.portRelease
  simp
  split <;> simp

@[simp] theorem State.portRelease_policy (s : State) (p : LinePort) (k : Fin 8) : (s.portRelease p k).policy = s.policy := by
  unfold State.portRelease
  simp
  split <;> simp

@[simp] theorem State.portRelease_origin (s : State) (p : LinePort) (k : Fin 8) : (s.portRelease p k).origin = s.origin := by
  unfold State.portRelease
  simp
  split <;> simp

@[simp] theorem State.portRelease_time (s : State) (p : LinePort) (k : Fin 8) : (s.portRelease p k).time = s.time := by
  unfold State.portRelease
  simp
  split <;> simp

@[simp] theorem State.portRelease_pending (s : State) (p : LinePort) (k : Fin 8) : (s.portRelease p k).pending = s.pending := by
  unfold State.portRelease
  simp
  split <;> simp

/-! ### portRefresh -/

@[simp] theorem State.portRefresh_presence (s : State) (p : LinePort) (k : Fin 8) : (s.portRefresh p k).presence = s.presence := by
  unfold State.portRefresh
  simp
  split <;> simp

@[simp] theorem State.portRefresh_trackers (s : State) (p : LinePort) (k : Fin 8) : (s.portRefresh p k).trackers = s.trackers := by
  unfold State.portRefresh
  simp
  split <;> simp

@[simp] theorem State.portRefresh_barrel (s : State) (p : LinePort) (k : Fin 8) : (s.portRefresh p k).barrel = s.barrel := by
  unfold State.portRefresh
  simp
  split <;> simp

@[simp] theorem State.portRefresh_latestVD (s : State) (p : LinePort) (k : Fin 8) : (s.portRefresh p k).latestVD = s.latestVD := by
  unfold State.portRefresh
  simp
  split <;> simp

@[simp] theorem State.portRefresh_lines (s : State) (p : LinePort) (k : Fin 8) : (s.portRefresh p k).lines = s.lines := by
  unfold State.portRefresh
  simp
  split <;> simp

@[simp] theorem State.portRefresh_engines (s : State) (p : LinePort) (k : Fin 8) : (s.portRefresh p k).engines = s.engines := by
  unfold State.portRefresh
  simp
  split <;> simp

@[simp] theorem State.portRefresh_queue (s : State) (p : LinePort) (k : Fin 8) : (s.portRefresh p k).queue = s.queue := by
  unfold State.portRefresh
  simp
  split <;> simp

@[simp] theorem State.portRefresh_prospect (s : State) (p : LinePort) (k : Fin 8) : (s.portRefresh p k).prospect = s.prospect := by
  unfold State.portRefresh
  simp
  split <;> simp

@[simp] theorem State.portRefresh_path (s : State) (p : LinePort) (k : Fin 8) : (s.portRefresh p k).path = s.path := by
  unfold State.portRefresh
  simp
  split <;> simp

@[simp] theorem State.portRefresh_meas (s : State) (p : LinePort) (k : Fin 8) : (s.portRefresh p k).meas = s.meas := by
  unfold State.portRefresh
  simp
  split <;> simp

@[simp] theorem State.portRefresh_reg (s : State) (p : LinePort) (k : Fin 8) : (s.portRefresh p k).reg = s.reg := by
  unfold State.portRefresh
  simp
  split <;> simp

@[simp] theorem State.portRefresh_policy (s : State) (p : LinePort) (k : Fin 8) : (s.portRefresh p k).policy = s.policy := by
  unfold State.portRefresh
  simp
  split <;> simp

@[simp] theorem State.portRefresh_origin (s : State) (p : LinePort) (k : Fin 8) : (s.portRefresh p k).origin = s.origin := by
  unfold State.portRefresh
  simp
  split <;> simp

@[simp] theorem State.portRefresh_exch (s : State) (p : LinePort) (k : Fin 8) : (s.portRefresh p k).exch = s.exch := by
  unfold State.portRefresh
  simp
  split <;> simp

@[simp] theorem State.portRefresh_time (s : State) (p : LinePort) (k : Fin 8) : (s.portRefresh p k).time = s.time := by
  unfold State.portRefresh
  simp
  split <;> simp

@[simp] theorem State.portRefresh_pending (s : State) (p : LinePort) (k : Fin 8) : (s.portRefresh p k).pending = s.pending := by
  unfold State.portRefresh
  simp
  split <;> simp

/-! ### portPin -/

@[simp] theorem State.portPin_presence (s : State) (p : LinePort) (k : Fin 8) (n : Pin) : (s.portPin p k n).presence = s.presence := by
  simp [State.portPin]

@[simp] theorem State.portPin_trackers (s : State) (p : LinePort) (k : Fin 8) (n : Pin) : (s.portPin p k n).trackers = s.trackers := by
  simp [State.portPin]

@[simp] theorem State.portPin_barrel (s : State) (p : LinePort) (k : Fin 8) (n : Pin) : (s.portPin p k n).barrel = s.barrel := by
  simp [State.portPin]

@[simp] theorem State.portPin_latestVD (s : State) (p : LinePort) (k : Fin 8) (n : Pin) : (s.portPin p k n).latestVD = s.latestVD := by
  simp [State.portPin]

@[simp] theorem State.portPin_lines (s : State) (p : LinePort) (k : Fin 8) (n : Pin) : (s.portPin p k n).lines = s.lines := by
  simp [State.portPin]

@[simp] theorem State.portPin_engines (s : State) (p : LinePort) (k : Fin 8) (n : Pin) : (s.portPin p k n).engines = s.engines := by
  simp [State.portPin]

@[simp] theorem State.portPin_queue (s : State) (p : LinePort) (k : Fin 8) (n : Pin) : (s.portPin p k n).queue = s.queue := by
  simp [State.portPin]

@[simp] theorem State.portPin_path (s : State) (p : LinePort) (k : Fin 8) (n : Pin) : (s.portPin p k n).path = s.path := by
  simp [State.portPin]

@[simp] theorem State.portPin_meas (s : State) (p : LinePort) (k : Fin 8) (n : Pin) : (s.portPin p k n).meas = s.meas := by
  simp [State.portPin]

@[simp] theorem State.portPin_reg (s : State) (p : LinePort) (k : Fin 8) (n : Pin) : (s.portPin p k n).reg = s.reg := by
  simp [State.portPin]

@[simp] theorem State.portPin_policy (s : State) (p : LinePort) (k : Fin 8) (n : Pin) : (s.portPin p k n).policy = s.policy := by
  simp [State.portPin]

@[simp] theorem State.portPin_origin (s : State) (p : LinePort) (k : Fin 8) (n : Pin) : (s.portPin p k n).origin = s.origin := by
  simp [State.portPin]

@[simp] theorem State.portPin_time (s : State) (p : LinePort) (k : Fin 8) (n : Pin) : (s.portPin p k n).time = s.time := by
  simp [State.portPin]

@[simp] theorem State.portPin_pending (s : State) (p : LinePort) (k : Fin 8) (n : Pin) : (s.portPin p k n).pending = s.pending := by
  simp [State.portPin]

/-! ### portUnpin -/

@[simp] theorem State.portUnpin_presence (s : State) (p : LinePort) (k : Fin 8) : (s.portUnpin p k).presence = s.presence := by
  simp [State.portUnpin]

@[simp] theorem State.portUnpin_trackers (s : State) (p : LinePort) (k : Fin 8) : (s.portUnpin p k).trackers = s.trackers := by
  simp [State.portUnpin]

@[simp] theorem State.portUnpin_barrel (s : State) (p : LinePort) (k : Fin 8) : (s.portUnpin p k).barrel = s.barrel := by
  simp [State.portUnpin]

@[simp] theorem State.portUnpin_latestVD (s : State) (p : LinePort) (k : Fin 8) : (s.portUnpin p k).latestVD = s.latestVD := by
  simp [State.portUnpin]

@[simp] theorem State.portUnpin_lines (s : State) (p : LinePort) (k : Fin 8) : (s.portUnpin p k).lines = s.lines := by
  simp [State.portUnpin]

@[simp] theorem State.portUnpin_engines (s : State) (p : LinePort) (k : Fin 8) : (s.portUnpin p k).engines = s.engines := by
  simp [State.portUnpin]

@[simp] theorem State.portUnpin_queue (s : State) (p : LinePort) (k : Fin 8) : (s.portUnpin p k).queue = s.queue := by
  simp [State.portUnpin]

@[simp] theorem State.portUnpin_path (s : State) (p : LinePort) (k : Fin 8) : (s.portUnpin p k).path = s.path := by
  simp [State.portUnpin]

@[simp] theorem State.portUnpin_meas (s : State) (p : LinePort) (k : Fin 8) : (s.portUnpin p k).meas = s.meas := by
  simp [State.portUnpin]

@[simp] theorem State.portUnpin_reg (s : State) (p : LinePort) (k : Fin 8) : (s.portUnpin p k).reg = s.reg := by
  simp [State.portUnpin]

@[simp] theorem State.portUnpin_policy (s : State) (p : LinePort) (k : Fin 8) : (s.portUnpin p k).policy = s.policy := by
  simp [State.portUnpin]

@[simp] theorem State.portUnpin_origin (s : State) (p : LinePort) (k : Fin 8) : (s.portUnpin p k).origin = s.origin := by
  simp [State.portUnpin]

@[simp] theorem State.portUnpin_time (s : State) (p : LinePort) (k : Fin 8) : (s.portUnpin p k).time = s.time := by
  simp [State.portUnpin]

@[simp] theorem State.portUnpin_pending (s : State) (p : LinePort) (k : Fin 8) : (s.portUnpin p k).pending = s.pending := by
  simp [State.portUnpin]

/-! ### deliver -/

@[simp] theorem State.deliver_presence (s : State) (p : LinePort) (n : Nat) (f : FeederFrame) : (s.deliver p n f).presence = s.presence := by
  unfold State.deliver
  split <;> simp <;> split <;> simp

@[simp] theorem State.deliver_trackers (s : State) (p : LinePort) (n : Nat) (f : FeederFrame) : (s.deliver p n f).trackers = s.trackers := by
  unfold State.deliver
  split <;> simp <;> split <;> simp

@[simp] theorem State.deliver_barrel (s : State) (p : LinePort) (n : Nat) (f : FeederFrame) : (s.deliver p n f).barrel = s.barrel := by
  unfold State.deliver
  split <;> simp <;> split <;> simp

@[simp] theorem State.deliver_latestVD (s : State) (p : LinePort) (n : Nat) (f : FeederFrame) : (s.deliver p n f).latestVD = s.latestVD := by
  unfold State.deliver
  split <;> simp <;> split <;> simp

@[simp] theorem State.deliver_lines (s : State) (p : LinePort) (n : Nat) (f : FeederFrame) : (s.deliver p n f).lines = s.lines := by
  unfold State.deliver
  split <;> simp <;> split <;> simp

@[simp] theorem State.deliver_engines (s : State) (p : LinePort) (n : Nat) (f : FeederFrame) : (s.deliver p n f).engines = s.engines := by
  unfold State.deliver
  split <;> simp <;> split <;> simp

@[simp] theorem State.deliver_queue (s : State) (p : LinePort) (n : Nat) (f : FeederFrame) : (s.deliver p n f).queue = s.queue := by
  unfold State.deliver
  split <;> simp <;> split <;> simp

@[simp] theorem State.deliver_path (s : State) (p : LinePort) (n : Nat) (f : FeederFrame) : (s.deliver p n f).path = s.path := by
  unfold State.deliver
  split <;> simp <;> split <;> simp

@[simp] theorem State.deliver_meas (s : State) (p : LinePort) (n : Nat) (f : FeederFrame) : (s.deliver p n f).meas = s.meas := by
  unfold State.deliver
  split <;> simp <;> split <;> simp

@[simp] theorem State.deliver_reg (s : State) (p : LinePort) (n : Nat) (f : FeederFrame) : (s.deliver p n f).reg = s.reg := by
  unfold State.deliver
  split <;> simp <;> split <;> simp

@[simp] theorem State.deliver_policy (s : State) (p : LinePort) (n : Nat) (f : FeederFrame) : (s.deliver p n f).policy = s.policy := by
  unfold State.deliver
  split <;> simp <;> split <;> simp

@[simp] theorem State.deliver_origin (s : State) (p : LinePort) (n : Nat) (f : FeederFrame) : (s.deliver p n f).origin = s.origin := by
  unfold State.deliver
  split <;> simp <;> split <;> simp

@[simp] theorem State.deliver_time (s : State) (p : LinePort) (n : Nat) (f : FeederFrame) : (s.deliver p n f).time = s.time := by
  unfold State.deliver
  split <;> simp <;> split <;> simp

@[simp] theorem State.deliver_pending (s : State) (p : LinePort) (n : Nat) (f : FeederFrame) : (s.deliver p n f).pending = s.pending := by
  unfold State.deliver
  split <;> simp <;> split <;> simp

/-! ### completeBarrel -/

@[simp] theorem State.completeBarrel_presence (s : State) (c : ResultCode) : (s.completeBarrel c).presence = s.presence := by
  unfold State.completeBarrel
  split <;> simp

@[simp] theorem State.completeBarrel_trackers (s : State) (c : ResultCode) : (s.completeBarrel c).trackers = s.trackers := by
  unfold State.completeBarrel
  split <;> simp

@[simp] theorem State.completeBarrel_latestVD (s : State) (c : ResultCode) : (s.completeBarrel c).latestVD = s.latestVD := by
  unfold State.completeBarrel
  split <;> simp

@[simp] theorem State.completeBarrel_lines (s : State) (c : ResultCode) : (s.completeBarrel c).lines = s.lines := by
  unfold State.completeBarrel
  split <;> simp

@[simp] theorem State.completeBarrel_engines (s : State) (c : ResultCode) : (s.completeBarrel c).engines = s.engines := by
  unfold State.completeBarrel
  split <;> simp

@[simp] theorem State.completeBarrel_queue (s : State) (c : ResultCode) : (s.completeBarrel c).queue = s.queue := by
  unfold State.completeBarrel
  split <;> simp

@[simp] theorem State.completeBarrel_ports (s : State) (c : ResultCode) : (s.completeBarrel c).ports = s.ports := by
  unfold State.completeBarrel
  split <;> simp

@[simp] theorem State.completeBarrel_prospect (s : State) (c : ResultCode) : (s.completeBarrel c).prospect = s.prospect := by
  unfold State.completeBarrel
  split <;> simp

@[simp] theorem State.completeBarrel_path (s : State) (c : ResultCode) : (s.completeBarrel c).path = s.path := by
  unfold State.completeBarrel
  split <;> simp

@[simp] theorem State.completeBarrel_meas (s : State) (c : ResultCode) : (s.completeBarrel c).meas = s.meas := by
  unfold State.completeBarrel
  split <;> simp

@[simp] theorem State.completeBarrel_reg (s : State) (c : ResultCode) : (s.completeBarrel c).reg = s.reg := by
  unfold State.completeBarrel
  split <;> simp

@[simp] theorem State.completeBarrel_policy (s : State) (c : ResultCode) : (s.completeBarrel c).policy = s.policy := by
  unfold State.completeBarrel
  split <;> simp

@[simp] theorem State.completeBarrel_origin (s : State) (c : ResultCode) : (s.completeBarrel c).origin = s.origin := by
  unfold State.completeBarrel
  split <;> simp

@[simp] theorem State.completeBarrel_time (s : State) (c : ResultCode) : (s.completeBarrel c).time = s.time := by
  unfold State.completeBarrel
  split <;> simp

@[simp] theorem State.completeBarrel_pending (s : State) (c : ResultCode) : (s.completeBarrel c).pending = s.pending := by
  unfold State.completeBarrel
  split <;> simp

/-! ### clearDroop -/
@[simp] theorem State.clearDroop_presence (s : State) (x : Connector) : (s.clearDroop x).presence = s.presence := rfl
@[simp] theorem State.clearDroop_trackers (s : State) (x : Connector) : (s.clearDroop x).trackers = s.trackers := rfl
@[simp] theorem State.clearDroop_barrel (s : State) (x : Connector) : (s.clearDroop x).barrel = s.barrel := rfl
@[simp] theorem State.clearDroop_latestVD (s : State) (x : Connector) : (s.clearDroop x).latestVD = s.latestVD := rfl
@[simp] theorem State.clearDroop_lines (s : State) (x : Connector) : (s.clearDroop x).lines = s.lines := rfl
@[simp] theorem State.clearDroop_engines (s : State) (x : Connector) : (s.clearDroop x).engines = s.engines := rfl
@[simp] theorem State.clearDroop_queue (s : State) (x : Connector) : (s.clearDroop x).queue = s.queue := rfl
@[simp] theorem State.clearDroop_ports (s : State) (x : Connector) : (s.clearDroop x).ports = s.ports := rfl
@[simp] theorem State.clearDroop_prospect (s : State) (x : Connector) : (s.clearDroop x).prospect = s.prospect := rfl
@[simp] theorem State.clearDroop_path (s : State) (x : Connector) : (s.clearDroop x).path = s.path := rfl
@[simp] theorem State.clearDroop_reg (s : State) (x : Connector) : (s.clearDroop x).reg = s.reg := rfl
@[simp] theorem State.clearDroop_policy (s : State) (x : Connector) : (s.clearDroop x).policy = s.policy := rfl
@[simp] theorem State.clearDroop_origin (s : State) (x : Connector) : (s.clearDroop x).origin = s.origin := rfl
@[simp] theorem State.clearDroop_exch (s : State) (x : Connector) : (s.clearDroop x).exch = s.exch := rfl
@[simp] theorem State.clearDroop_time (s : State) (x : Connector) : (s.clearDroop x).time = s.time := rfl

@[simp] theorem State.clearDroop_pending (s : State) (x : Connector) : (s.clearDroop x).pending = s.pending := rfl

/-! ### barrelOutcome -/

@[simp] theorem State.barrelOutcome_presence (s : State) (i : StoredId) (n : Nat) : (s.barrelOutcome i n).presence = s.presence := by
  unfold State.barrelOutcome
  simp
  split <;> simp

@[simp] theorem State.barrelOutcome_trackers (s : State) (i : StoredId) (n : Nat) : (s.barrelOutcome i n).trackers = s.trackers := by
  unfold State.barrelOutcome
  simp
  split <;> simp

@[simp] theorem State.barrelOutcome_latestVD (s : State) (i : StoredId) (n : Nat) : (s.barrelOutcome i n).latestVD = s.latestVD := by
  unfold State.barrelOutcome
  simp
  split <;> simp

@[simp] theorem State.barrelOutcome_lines (s : State) (i : StoredId) (n : Nat) : (s.barrelOutcome i n).lines = s.lines := by
  unfold State.barrelOutcome
  simp
  split <;> simp

@[simp] theorem State.barrelOutcome_engines (s : State) (i : StoredId) (n : Nat) : (s.barrelOutcome i n).engines = s.engines := by
  unfold State.barrelOutcome
  simp
  split <;> simp

@[simp] theorem State.barrelOutcome_queue (s : State) (i : StoredId) (n : Nat) : (s.barrelOutcome i n).queue = s.queue := by
  unfold State.barrelOutcome
  simp
  split <;> simp

@[simp] theorem State.barrelOutcome_ports (s : State) (i : StoredId) (n : Nat) : (s.barrelOutcome i n).ports = s.ports := by
  unfold State.barrelOutcome
  simp
  split <;> simp

@[simp] theorem State.barrelOutcome_prospect (s : State) (i : StoredId) (n : Nat) : (s.barrelOutcome i n).prospect = s.prospect := by
  unfold State.barrelOutcome
  simp
  split <;> simp

@[simp] theorem State.barrelOutcome_path (s : State) (i : StoredId) (n : Nat) : (s.barrelOutcome i n).path = s.path := by
  unfold State.barrelOutcome
  simp
  split <;> simp

@[simp] theorem State.barrelOutcome_reg (s : State) (i : StoredId) (n : Nat) : (s.barrelOutcome i n).reg = s.reg := by
  unfold State.barrelOutcome
  simp
  split <;> simp

@[simp] theorem State.barrelOutcome_policy (s : State) (i : StoredId) (n : Nat) : (s.barrelOutcome i n).policy = s.policy := by
  unfold State.barrelOutcome
  simp
  split <;> simp

@[simp] theorem State.barrelOutcome_origin (s : State) (i : StoredId) (n : Nat) : (s.barrelOutcome i n).origin = s.origin := by
  unfold State.barrelOutcome
  simp
  split <;> simp

@[simp] theorem State.barrelOutcome_time (s : State) (i : StoredId) (n : Nat) : (s.barrelOutcome i n).time = s.time := by
  unfold State.barrelOutcome
  simp
  split <;> simp

@[simp] theorem State.barrelOutcome_pending (s : State) (i : StoredId) (n : Nat) : (s.barrelOutcome i n).pending = s.pending := by
  unfold State.barrelOutcome
  simp
  split <;> simp

/-! ### identify -/

@[simp] theorem State.identify_presence (s : State) : s.identify.presence = s.presence := by
  simp [State.identify]

@[simp] theorem State.identify_trackers (s : State) : s.identify.trackers = s.trackers := by
  simp [State.identify]

@[simp] theorem State.identify_latestVD (s : State) : s.identify.latestVD = s.latestVD := by
  simp [State.identify]

@[simp] theorem State.identify_lines (s : State) : s.identify.lines = s.lines := by
  simp [State.identify]

@[simp] theorem State.identify_engines (s : State) : s.identify.engines = s.engines := by
  simp [State.identify]

@[simp] theorem State.identify_queue (s : State) : s.identify.queue = s.queue := by
  simp [State.identify]

@[simp] theorem State.identify_ports (s : State) : s.identify.ports = s.ports := by
  simp [State.identify]

@[simp] theorem State.identify_prospect (s : State) : s.identify.prospect = s.prospect := by
  simp [State.identify]

@[simp] theorem State.identify_path (s : State) : s.identify.path = s.path := by
  simp [State.identify]

@[simp] theorem State.identify_reg (s : State) : s.identify.reg = s.reg := by
  simp [State.identify]

@[simp] theorem State.identify_policy (s : State) : s.identify.policy = s.policy := by
  simp [State.identify]

@[simp] theorem State.identify_origin (s : State) : s.identify.origin = s.origin := by
  simp [State.identify]

@[simp] theorem State.identify_time (s : State) : s.identify.time = s.time := by
  simp [State.identify]

@[simp] theorem State.identify_pending (s : State) : s.identify.pending = s.pending := by
  simp [State.identify]

/-! ### barrelSample -/

@[simp] theorem State.barrelSample_presence (s : State) (n : Nat) : (s.barrelSample n).presence = s.presence := by
  unfold State.barrelSample
  split
  · dsimp only
    split <;> simp
  · rfl

@[simp] theorem State.barrelSample_trackers (s : State) (n : Nat) : (s.barrelSample n).trackers = s.trackers := by
  unfold State.barrelSample
  split
  · dsimp only
    split <;> simp
  · rfl

@[simp] theorem State.barrelSample_latestVD (s : State) (n : Nat) : (s.barrelSample n).latestVD = s.latestVD := by
  unfold State.barrelSample
  split
  · dsimp only
    split <;> simp
  · rfl

@[simp] theorem State.barrelSample_lines (s : State) (n : Nat) : (s.barrelSample n).lines = s.lines := by
  unfold State.barrelSample
  split
  · dsimp only
    split <;> simp
  · rfl

@[simp] theorem State.barrelSample_engines (s : State) (n : Nat) : (s.barrelSample n).engines = s.engines := by
  unfold State.barrelSample
  split
  · dsimp only
    split <;> simp
  · rfl

@[simp] theorem State.barrelSample_queue (s : State) (n : Nat) : (s.barrelSample n).queue = s.queue := by
  unfold State.barrelSample
  split
  · dsimp only
    split <;> simp
  · rfl

@[simp] theorem State.barrelSample_ports (s : State) (n : Nat) : (s.barrelSample n).ports = s.ports := by
  unfold State.barrelSample
  split
  · dsimp only
    split <;> simp
  · rfl

@[simp] theorem State.barrelSample_prospect (s : State) (n : Nat) : (s.barrelSample n).prospect = s.prospect := by
  unfold State.barrelSample
  split
  · dsimp only
    split <;> simp
  · rfl

@[simp] theorem State.barrelSample_path (s : State) (n : Nat) : (s.barrelSample n).path = s.path := by
  unfold State.barrelSample
  split
  · dsimp only
    split <;> simp
  · rfl

@[simp] theorem State.barrelSample_reg (s : State) (n : Nat) : (s.barrelSample n).reg = s.reg := by
  unfold State.barrelSample
  split
  · dsimp only
    split <;> simp
  · rfl

@[simp] theorem State.barrelSample_policy (s : State) (n : Nat) : (s.barrelSample n).policy = s.policy := by
  unfold State.barrelSample
  split
  · dsimp only
    split <;> simp
  · rfl

@[simp] theorem State.barrelSample_origin (s : State) (n : Nat) : (s.barrelSample n).origin = s.origin := by
  unfold State.barrelSample
  split
  · dsimp only
    split <;> simp
  · rfl

@[simp] theorem State.barrelSample_time (s : State) (n : Nat) : (s.barrelSample n).time = s.time := by
  unfold State.barrelSample
  split
  · dsimp only
    split <;> simp
  · rfl

@[simp] theorem State.barrelSample_pending (s : State) (n : Nat) : (s.barrelSample n).pending = s.pending := by
  unfold State.barrelSample
  split
  · dsimp only
    split <;> simp
  · rfl

/-! ### reclassify -/

@[simp] theorem State.reclassify_presence (s : State) (i : StoredId) : (s.reclassify i).presence = s.presence := by
  unfold State.reclassify
  dsimp only
  split <;> split <;> simp

@[simp] theorem State.reclassify_trackers (s : State) (i : StoredId) : (s.reclassify i).trackers = s.trackers := by
  unfold State.reclassify
  dsimp only
  split <;> split <;> simp

@[simp] theorem State.reclassify_latestVD (s : State) (i : StoredId) : (s.reclassify i).latestVD = s.latestVD := by
  unfold State.reclassify
  dsimp only
  split <;> split <;> simp

@[simp] theorem State.reclassify_lines (s : State) (i : StoredId) : (s.reclassify i).lines = s.lines := by
  unfold State.reclassify
  dsimp only
  split <;> split <;> simp

@[simp] theorem State.reclassify_engines (s : State) (i : StoredId) : (s.reclassify i).engines = s.engines := by
  unfold State.reclassify
  dsimp only
  split <;> split <;> simp

@[simp] theorem State.reclassify_queue (s : State) (i : StoredId) : (s.reclassify i).queue = s.queue := by
  unfold State.reclassify
  dsimp only
  split <;> split <;> simp

@[simp] theorem State.reclassify_ports (s : State) (i : StoredId) : (s.reclassify i).ports = s.ports := by
  unfold State.reclassify
  dsimp only
  split <;> split <;> simp

@[simp] theorem State.reclassify_prospect (s : State) (i : StoredId) : (s.reclassify i).prospect = s.prospect := by
  unfold State.reclassify
  dsimp only
  split <;> split <;> simp

@[simp] theorem State.reclassify_path (s : State) (i : StoredId) : (s.reclassify i).path = s.path := by
  unfold State.reclassify
  dsimp only
  split <;> split <;> simp

@[simp] theorem State.reclassify_reg (s : State) (i : StoredId) : (s.reclassify i).reg = s.reg := by
  unfold State.reclassify
  dsimp only
  split <;> split <;> simp

@[simp] theorem State.reclassify_policy (s : State) (i : StoredId) : (s.reclassify i).policy = s.policy := by
  unfold State.reclassify
  dsimp only
  split <;> split <;> simp

@[simp] theorem State.reclassify_origin (s : State) (i : StoredId) : (s.reclassify i).origin = s.origin := by
  unfold State.reclassify
  dsimp only
  split <;> split <;> simp

@[simp] theorem State.reclassify_time (s : State) (i : StoredId) : (s.reclassify i).time = s.time := by
  unfold State.reclassify
  dsimp only
  split <;> split <;> simp

@[simp] theorem State.reclassify_pending (s : State) (i : StoredId) : (s.reclassify i).pending = s.pending := by
  unfold State.reclassify
  dsimp only
  split <;> split <;> simp

/-! ### barrelAdopt -/

@[simp] theorem State.barrelAdopt_presence (s : State) : s.barrelAdopt.presence = s.presence := by
  unfold State.barrelAdopt
  (repeat' split) <;> simp

@[simp] theorem State.barrelAdopt_trackers (s : State) : s.barrelAdopt.trackers = s.trackers := by
  unfold State.barrelAdopt
  (repeat' split) <;> simp

@[simp] theorem State.barrelAdopt_latestVD (s : State) : s.barrelAdopt.latestVD = s.latestVD := by
  unfold State.barrelAdopt
  (repeat' split) <;> simp

@[simp] theorem State.barrelAdopt_lines (s : State) : s.barrelAdopt.lines = s.lines := by
  unfold State.barrelAdopt
  (repeat' split) <;> simp

@[simp] theorem State.barrelAdopt_engines (s : State) : s.barrelAdopt.engines = s.engines := by
  unfold State.barrelAdopt
  (repeat' split) <;> simp

@[simp] theorem State.barrelAdopt_queue (s : State) : s.barrelAdopt.queue = s.queue := by
  unfold State.barrelAdopt
  (repeat' split) <;> simp

@[simp] theorem State.barrelAdopt_ports (s : State) : s.barrelAdopt.ports = s.ports := by
  unfold State.barrelAdopt
  (repeat' split) <;> simp

@[simp] theorem State.barrelAdopt_prospect (s : State) : s.barrelAdopt.prospect = s.prospect := by
  unfold State.barrelAdopt
  (repeat' split) <;> simp

@[simp] theorem State.barrelAdopt_path (s : State) : s.barrelAdopt.path = s.path := by
  unfold State.barrelAdopt
  (repeat' split) <;> simp

@[simp] theorem State.barrelAdopt_reg (s : State) : s.barrelAdopt.reg = s.reg := by
  unfold State.barrelAdopt
  (repeat' split) <;> simp

@[simp] theorem State.barrelAdopt_policy (s : State) : s.barrelAdopt.policy = s.policy := by
  unfold State.barrelAdopt
  (repeat' split) <;> simp

@[simp] theorem State.barrelAdopt_origin (s : State) : s.barrelAdopt.origin = s.origin := by
  unfold State.barrelAdopt
  (repeat' split) <;> simp

@[simp] theorem State.barrelAdopt_time (s : State) : s.barrelAdopt.time = s.time := by
  unfold State.barrelAdopt
  (repeat' split) <;> simp

@[simp] theorem State.barrelAdopt_pending (s : State) : s.barrelAdopt.pending = s.pending := by
  unfold State.barrelAdopt
  (repeat' split) <;> simp

/-! ### barrelAttach -/
@[simp] theorem State.barrelAttach_presence (s : State) : s.barrelAttach.presence = s.presence := rfl
@[simp] theorem State.barrelAttach_trackers (s : State) : s.barrelAttach.trackers = s.trackers := rfl
@[simp] theorem State.barrelAttach_latestVD (s : State) : s.barrelAttach.latestVD = s.latestVD := rfl
@[simp] theorem State.barrelAttach_lines (s : State) : s.barrelAttach.lines = s.lines := rfl
@[simp] theorem State.barrelAttach_engines (s : State) : s.barrelAttach.engines = s.engines := rfl
@[simp] theorem State.barrelAttach_queue (s : State) : s.barrelAttach.queue = s.queue := rfl
@[simp] theorem State.barrelAttach_ports (s : State) : s.barrelAttach.ports = s.ports := rfl
@[simp] theorem State.barrelAttach_prospect (s : State) : s.barrelAttach.prospect = s.prospect := rfl
@[simp] theorem State.barrelAttach_path (s : State) : s.barrelAttach.path = s.path := rfl
@[simp] theorem State.barrelAttach_meas (s : State) : s.barrelAttach.meas = s.meas := rfl
@[simp] theorem State.barrelAttach_reg (s : State) : s.barrelAttach.reg = s.reg := rfl
@[simp] theorem State.barrelAttach_policy (s : State) : s.barrelAttach.policy = s.policy := rfl
@[simp] theorem State.barrelAttach_origin (s : State) : s.barrelAttach.origin = s.origin := rfl
@[simp] theorem State.barrelAttach_time (s : State) : s.barrelAttach.time = s.time := rfl

@[simp] theorem State.barrelAttach_pending (s : State) : s.barrelAttach.pending = s.pending := rfl

/-! ### barrelDetach -/

@[simp] theorem State.barrelDetach_presence (s : State) : s.barrelDetach.presence = s.presence := by
  simp [State.barrelDetach]

@[simp] theorem State.barrelDetach_trackers (s : State) : s.barrelDetach.trackers = s.trackers := by
  simp [State.barrelDetach]

@[simp] theorem State.barrelDetach_latestVD (s : State) : s.barrelDetach.latestVD = s.latestVD := by
  simp [State.barrelDetach]

@[simp] theorem State.barrelDetach_lines (s : State) : s.barrelDetach.lines = s.lines := by
  simp [State.barrelDetach]

@[simp] theorem State.barrelDetach_engines (s : State) : s.barrelDetach.engines = s.engines := by
  simp [State.barrelDetach]

@[simp] theorem State.barrelDetach_queue (s : State) : s.barrelDetach.queue = s.queue := by
  simp [State.barrelDetach]

@[simp] theorem State.barrelDetach_ports (s : State) : s.barrelDetach.ports = s.ports := by
  simp [State.barrelDetach]

@[simp] theorem State.barrelDetach_prospect (s : State) : s.barrelDetach.prospect = s.prospect := by
  simp [State.barrelDetach]

@[simp] theorem State.barrelDetach_path (s : State) : s.barrelDetach.path = s.path := by
  simp [State.barrelDetach]

@[simp] theorem State.barrelDetach_reg (s : State) : s.barrelDetach.reg = s.reg := by
  simp [State.barrelDetach]

@[simp] theorem State.barrelDetach_policy (s : State) : s.barrelDetach.policy = s.policy := by
  simp [State.barrelDetach]

@[simp] theorem State.barrelDetach_origin (s : State) : s.barrelDetach.origin = s.origin := by
  simp [State.barrelDetach]

@[simp] theorem State.barrelDetach_time (s : State) : s.barrelDetach.time = s.time := by
  simp [State.barrelDetach]

@[simp] theorem State.barrelDetach_pending (s : State) : s.barrelDetach.pending = s.pending := by
  simp [State.barrelDetach]

/-! ### barrelDroop -/

@[simp] theorem State.barrelDroop_presence (s : State) : s.barrelDroop.presence = s.presence := by
  unfold State.barrelDroop
  simp
  split <;> simp

@[simp] theorem State.barrelDroop_trackers (s : State) : s.barrelDroop.trackers = s.trackers := by
  unfold State.barrelDroop
  simp
  split <;> simp

@[simp] theorem State.barrelDroop_latestVD (s : State) : s.barrelDroop.latestVD = s.latestVD := by
  unfold State.barrelDroop
  simp
  split <;> simp

@[simp] theorem State.barrelDroop_lines (s : State) : s.barrelDroop.lines = s.lines := by
  unfold State.barrelDroop
  simp
  split <;> simp

@[simp] theorem State.barrelDroop_engines (s : State) : s.barrelDroop.engines = s.engines := by
  unfold State.barrelDroop
  simp
  split <;> simp

@[simp] theorem State.barrelDroop_queue (s : State) : s.barrelDroop.queue = s.queue := by
  unfold State.barrelDroop
  simp
  split <;> simp

@[simp] theorem State.barrelDroop_ports (s : State) : s.barrelDroop.ports = s.ports := by
  unfold State.barrelDroop
  simp
  split <;> simp

@[simp] theorem State.barrelDroop_prospect (s : State) : s.barrelDroop.prospect = s.prospect := by
  unfold State.barrelDroop
  simp
  split <;> simp

@[simp] theorem State.barrelDroop_path (s : State) : s.barrelDroop.path = s.path := by
  unfold State.barrelDroop
  simp
  split <;> simp

@[simp] theorem State.barrelDroop_meas (s : State) : s.barrelDroop.meas = s.meas := by
  unfold State.barrelDroop
  simp
  split <;> simp

@[simp] theorem State.barrelDroop_reg (s : State) : s.barrelDroop.reg = s.reg := by
  unfold State.barrelDroop
  simp
  split <;> simp

@[simp] theorem State.barrelDroop_policy (s : State) : s.barrelDroop.policy = s.policy := by
  unfold State.barrelDroop
  simp
  split <;> simp

@[simp] theorem State.barrelDroop_origin (s : State) : s.barrelDroop.origin = s.origin := by
  unfold State.barrelDroop
  simp
  split <;> simp

@[simp] theorem State.barrelDroop_time (s : State) : s.barrelDroop.time = s.time := by
  unfold State.barrelDroop
  simp
  split <;> simp

@[simp] theorem State.barrelDroop_pending (s : State) : s.barrelDroop.pending = s.pending := by
  unfold State.barrelDroop
  simp
  split <;> simp

/-! ### barrelRefresh -/
@[simp] theorem State.barrelRefresh_presence (s : State) (k : Fin 8) : (s.barrelRefresh k).presence = s.presence := rfl
@[simp] theorem State.barrelRefresh_trackers (s : State) (k : Fin 8) : (s.barrelRefresh k).trackers = s.trackers := rfl
@[simp] theorem State.barrelRefresh_latestVD (s : State) (k : Fin 8) : (s.barrelRefresh k).latestVD = s.latestVD := rfl
@[simp] theorem State.barrelRefresh_lines (s : State) (k : Fin 8) : (s.barrelRefresh k).lines = s.lines := rfl
@[simp] theorem State.barrelRefresh_engines (s : State) (k : Fin 8) : (s.barrelRefresh k).engines = s.engines := rfl
@[simp] theorem State.barrelRefresh_queue (s : State) (k : Fin 8) : (s.barrelRefresh k).queue = s.queue := rfl
@[simp] theorem State.barrelRefresh_ports (s : State) (k : Fin 8) : (s.barrelRefresh k).ports = s.ports := rfl
@[simp] theorem State.barrelRefresh_prospect (s : State) (k : Fin 8) : (s.barrelRefresh k).prospect = s.prospect := rfl
@[simp] theorem State.barrelRefresh_path (s : State) (k : Fin 8) : (s.barrelRefresh k).path = s.path := rfl
@[simp] theorem State.barrelRefresh_meas (s : State) (k : Fin 8) : (s.barrelRefresh k).meas = s.meas := rfl
@[simp] theorem State.barrelRefresh_reg (s : State) (k : Fin 8) : (s.barrelRefresh k).reg = s.reg := rfl
@[simp] theorem State.barrelRefresh_policy (s : State) (k : Fin 8) : (s.barrelRefresh k).policy = s.policy := rfl
@[simp] theorem State.barrelRefresh_origin (s : State) (k : Fin 8) : (s.barrelRefresh k).origin = s.origin := rfl
@[simp] theorem State.barrelRefresh_exch (s : State) (k : Fin 8) : (s.barrelRefresh k).exch = s.exch := rfl
@[simp] theorem State.barrelRefresh_time (s : State) (k : Fin 8) : (s.barrelRefresh k).time = s.time := rfl

@[simp] theorem State.barrelRefresh_pending (s : State) (k : Fin 8) : (s.barrelRefresh k).pending = s.pending := rfl

/-! ### barrelRelease -/
@[simp] theorem State.barrelRelease_presence (s : State) (k : Fin 8) : (s.barrelRelease k).presence = s.presence := rfl
@[simp] theorem State.barrelRelease_trackers (s : State) (k : Fin 8) : (s.barrelRelease k).trackers = s.trackers := rfl
@[simp] theorem State.barrelRelease_latestVD (s : State) (k : Fin 8) : (s.barrelRelease k).latestVD = s.latestVD := rfl
@[simp] theorem State.barrelRelease_lines (s : State) (k : Fin 8) : (s.barrelRelease k).lines = s.lines := rfl
@[simp] theorem State.barrelRelease_engines (s : State) (k : Fin 8) : (s.barrelRelease k).engines = s.engines := rfl
@[simp] theorem State.barrelRelease_queue (s : State) (k : Fin 8) : (s.barrelRelease k).queue = s.queue := rfl
@[simp] theorem State.barrelRelease_ports (s : State) (k : Fin 8) : (s.barrelRelease k).ports = s.ports := rfl
@[simp] theorem State.barrelRelease_prospect (s : State) (k : Fin 8) : (s.barrelRelease k).prospect = s.prospect := rfl
@[simp] theorem State.barrelRelease_path (s : State) (k : Fin 8) : (s.barrelRelease k).path = s.path := rfl
@[simp] theorem State.barrelRelease_meas (s : State) (k : Fin 8) : (s.barrelRelease k).meas = s.meas := rfl
@[simp] theorem State.barrelRelease_reg (s : State) (k : Fin 8) : (s.barrelRelease k).reg = s.reg := rfl
@[simp] theorem State.barrelRelease_policy (s : State) (k : Fin 8) : (s.barrelRelease k).policy = s.policy := rfl
@[simp] theorem State.barrelRelease_origin (s : State) (k : Fin 8) : (s.barrelRelease k).origin = s.origin := rfl
@[simp] theorem State.barrelRelease_time (s : State) (k : Fin 8) : (s.barrelRelease k).time = s.time := rfl

@[simp] theorem State.barrelRelease_pending (s : State) (k : Fin 8) : (s.barrelRelease k).pending = s.pending := rfl

/-! ### enterClosing -/
@[simp] theorem State.enterClosing_presence (s : State) (y : Connector) : (s.enterClosing y).presence = s.presence := rfl
@[simp] theorem State.enterClosing_trackers (s : State) (y : Connector) : (s.enterClosing y).trackers = s.trackers := rfl
@[simp] theorem State.enterClosing_barrel (s : State) (y : Connector) : (s.enterClosing y).barrel = s.barrel := rfl
@[simp] theorem State.enterClosing_latestVD (s : State) (y : Connector) : (s.enterClosing y).latestVD = s.latestVD := rfl
@[simp] theorem State.enterClosing_lines (s : State) (y : Connector) : (s.enterClosing y).lines = s.lines := rfl
@[simp] theorem State.enterClosing_engines (s : State) (y : Connector) : (s.enterClosing y).engines = s.engines := rfl
@[simp] theorem State.enterClosing_queue (s : State) (y : Connector) : (s.enterClosing y).queue = s.queue := rfl
@[simp] theorem State.enterClosing_ports (s : State) (y : Connector) : (s.enterClosing y).ports = s.ports := rfl
@[simp] theorem State.enterClosing_prospect (s : State) (y : Connector) : (s.enterClosing y).prospect = s.prospect := rfl
@[simp] theorem State.enterClosing_meas (s : State) (y : Connector) : (s.enterClosing y).meas = s.meas := rfl
@[simp] theorem State.enterClosing_reg (s : State) (y : Connector) : (s.enterClosing y).reg = s.reg := rfl
@[simp] theorem State.enterClosing_policy (s : State) (y : Connector) : (s.enterClosing y).policy = s.policy := rfl
@[simp] theorem State.enterClosing_origin (s : State) (y : Connector) : (s.enterClosing y).origin = s.origin := rfl
@[simp] theorem State.enterClosing_exch (s : State) (y : Connector) : (s.enterClosing y).exch = s.exch := rfl
@[simp] theorem State.enterClosing_time (s : State) (y : Connector) : (s.enterClosing y).time = s.time := rfl

@[simp] theorem State.enterClosing_pending (s : State) (y : Connector) : (s.enterClosing y).pending = s.pending := rfl

/-! ### openPath -/
@[simp] theorem State.openPath_presence (s : State) (y : Connector) : (s.openPath y).presence = s.presence := rfl
@[simp] theorem State.openPath_trackers (s : State) (y : Connector) : (s.openPath y).trackers = s.trackers := rfl
@[simp] theorem State.openPath_barrel (s : State) (y : Connector) : (s.openPath y).barrel = s.barrel := rfl
@[simp] theorem State.openPath_latestVD (s : State) (y : Connector) : (s.openPath y).latestVD = s.latestVD := rfl
@[simp] theorem State.openPath_lines (s : State) (y : Connector) : (s.openPath y).lines = s.lines := rfl
@[simp] theorem State.openPath_engines (s : State) (y : Connector) : (s.openPath y).engines = s.engines := rfl
@[simp] theorem State.openPath_queue (s : State) (y : Connector) : (s.openPath y).queue = s.queue := rfl
@[simp] theorem State.openPath_ports (s : State) (y : Connector) : (s.openPath y).ports = s.ports := rfl
@[simp] theorem State.openPath_prospect (s : State) (y : Connector) : (s.openPath y).prospect = s.prospect := rfl
@[simp] theorem State.openPath_meas (s : State) (y : Connector) : (s.openPath y).meas = s.meas := rfl
@[simp] theorem State.openPath_reg (s : State) (y : Connector) : (s.openPath y).reg = s.reg := rfl
@[simp] theorem State.openPath_policy (s : State) (y : Connector) : (s.openPath y).policy = s.policy := rfl
@[simp] theorem State.openPath_origin (s : State) (y : Connector) : (s.openPath y).origin = s.origin := rfl
@[simp] theorem State.openPath_exch (s : State) (y : Connector) : (s.openPath y).exch = s.exch := rfl
@[simp] theorem State.openPath_time (s : State) (y : Connector) : (s.openPath y).time = s.time := rfl

@[simp] theorem State.openPath_pending (s : State) (y : Connector) : (s.openPath y).pending = s.pending := rfl

/-! ### completePrimary -/

@[simp] theorem State.completePrimary_presence (s : State) (y : Connector) (c : ResultCode) : (s.completePrimary y c).presence = s.presence := by
  unfold State.completePrimary
  (repeat' split) <;> simp

@[simp] theorem State.completePrimary_trackers (s : State) (y : Connector) (c : ResultCode) : (s.completePrimary y c).trackers = s.trackers := by
  unfold State.completePrimary
  (repeat' split) <;> simp

@[simp] theorem State.completePrimary_barrel (s : State) (y : Connector) (c : ResultCode) : (s.completePrimary y c).barrel = s.barrel := by
  unfold State.completePrimary
  (repeat' split) <;> simp

@[simp] theorem State.completePrimary_latestVD (s : State) (y : Connector) (c : ResultCode) : (s.completePrimary y c).latestVD = s.latestVD := by
  unfold State.completePrimary
  (repeat' split) <;> simp

@[simp] theorem State.completePrimary_lines (s : State) (y : Connector) (c : ResultCode) : (s.completePrimary y c).lines = s.lines := by
  unfold State.completePrimary
  (repeat' split) <;> simp

@[simp] theorem State.completePrimary_engines (s : State) (y : Connector) (c : ResultCode) : (s.completePrimary y c).engines = s.engines := by
  unfold State.completePrimary
  (repeat' split) <;> simp

@[simp] theorem State.completePrimary_queue (s : State) (y : Connector) (c : ResultCode) : (s.completePrimary y c).queue = s.queue := by
  unfold State.completePrimary
  (repeat' split) <;> simp

@[simp] theorem State.completePrimary_ports (s : State) (y : Connector) (c : ResultCode) : (s.completePrimary y c).ports = s.ports := by
  unfold State.completePrimary
  (repeat' split) <;> simp

@[simp] theorem State.completePrimary_prospect (s : State) (y : Connector) (c : ResultCode) : (s.completePrimary y c).prospect = s.prospect := by
  unfold State.completePrimary
  (repeat' split) <;> simp

@[simp] theorem State.completePrimary_meas (s : State) (y : Connector) (c : ResultCode) : (s.completePrimary y c).meas = s.meas := by
  unfold State.completePrimary
  (repeat' split) <;> simp

@[simp] theorem State.completePrimary_reg (s : State) (y : Connector) (c : ResultCode) : (s.completePrimary y c).reg = s.reg := by
  unfold State.completePrimary
  (repeat' split) <;> simp

@[simp] theorem State.completePrimary_policy (s : State) (y : Connector) (c : ResultCode) : (s.completePrimary y c).policy = s.policy := by
  unfold State.completePrimary
  (repeat' split) <;> simp

@[simp] theorem State.completePrimary_origin (s : State) (y : Connector) (c : ResultCode) : (s.completePrimary y c).origin = s.origin := by
  unfold State.completePrimary
  (repeat' split) <;> simp

@[simp] theorem State.completePrimary_time (s : State) (y : Connector) (c : ResultCode) : (s.completePrimary y c).time = s.time := by
  unfold State.completePrimary
  (repeat' split) <;> simp

@[simp] theorem State.completePrimary_pending (s : State) (y : Connector) (c : ResultCode) : (s.completePrimary y c).pending = s.pending := by
  unfold State.completePrimary
  (repeat' split) <;> simp

/-! ### losePath -/

@[simp] theorem State.losePath_presence (s : State) (y : Connector) : (s.losePath y).presence = s.presence := by
  unfold State.losePath
  split <;> simp

@[simp] theorem State.losePath_trackers (s : State) (y : Connector) : (s.losePath y).trackers = s.trackers := by
  unfold State.losePath
  split <;> simp

@[simp] theorem State.losePath_barrel (s : State) (y : Connector) : (s.losePath y).barrel = s.barrel := by
  unfold State.losePath
  split <;> simp

@[simp] theorem State.losePath_latestVD (s : State) (y : Connector) : (s.losePath y).latestVD = s.latestVD := by
  unfold State.losePath
  split <;> simp

@[simp] theorem State.losePath_lines (s : State) (y : Connector) : (s.losePath y).lines = s.lines := by
  unfold State.losePath
  split <;> simp

@[simp] theorem State.losePath_engines (s : State) (y : Connector) : (s.losePath y).engines = s.engines := by
  unfold State.losePath
  split <;> simp

@[simp] theorem State.losePath_queue (s : State) (y : Connector) : (s.losePath y).queue = s.queue := by
  unfold State.losePath
  split <;> simp

@[simp] theorem State.losePath_ports (s : State) (y : Connector) : (s.losePath y).ports = s.ports := by
  unfold State.losePath
  split <;> simp

@[simp] theorem State.losePath_prospect (s : State) (y : Connector) : (s.losePath y).prospect = s.prospect := by
  unfold State.losePath
  split <;> simp

@[simp] theorem State.losePath_meas (s : State) (y : Connector) : (s.losePath y).meas = s.meas := by
  unfold State.losePath
  split <;> simp

@[simp] theorem State.losePath_reg (s : State) (y : Connector) : (s.losePath y).reg = s.reg := by
  unfold State.losePath
  split <;> simp

@[simp] theorem State.losePath_policy (s : State) (y : Connector) : (s.losePath y).policy = s.policy := by
  unfold State.losePath
  split <;> simp

@[simp] theorem State.losePath_origin (s : State) (y : Connector) : (s.losePath y).origin = s.origin := by
  unfold State.losePath
  split <;> simp

@[simp] theorem State.losePath_time (s : State) (y : Connector) : (s.losePath y).time = s.time := by
  unfold State.losePath
  split <;> simp

@[simp] theorem State.losePath_pending (s : State) (y : Connector) : (s.losePath y).pending = s.pending := by
  unfold State.losePath
  split <;> simp

/-! ### dropLostPrimary -/

@[simp] theorem State.dropLostPrimary_presence (s : State) : s.dropLostPrimary.presence = s.presence := by
  unfold State.dropLostPrimary
  (repeat' split) <;> simp

@[simp] theorem State.dropLostPrimary_trackers (s : State) : s.dropLostPrimary.trackers = s.trackers := by
  unfold State.dropLostPrimary
  (repeat' split) <;> simp

@[simp] theorem State.dropLostPrimary_barrel (s : State) : s.dropLostPrimary.barrel = s.barrel := by
  unfold State.dropLostPrimary
  (repeat' split) <;> simp

@[simp] theorem State.dropLostPrimary_latestVD (s : State) : s.dropLostPrimary.latestVD = s.latestVD := by
  unfold State.dropLostPrimary
  (repeat' split) <;> simp

@[simp] theorem State.dropLostPrimary_lines (s : State) : s.dropLostPrimary.lines = s.lines := by
  unfold State.dropLostPrimary
  (repeat' split) <;> simp

@[simp] theorem State.dropLostPrimary_engines (s : State) : s.dropLostPrimary.engines = s.engines := by
  unfold State.dropLostPrimary
  (repeat' split) <;> simp

@[simp] theorem State.dropLostPrimary_queue (s : State) : s.dropLostPrimary.queue = s.queue := by
  unfold State.dropLostPrimary
  (repeat' split) <;> simp

@[simp] theorem State.dropLostPrimary_ports (s : State) : s.dropLostPrimary.ports = s.ports := by
  unfold State.dropLostPrimary
  (repeat' split) <;> simp

@[simp] theorem State.dropLostPrimary_prospect (s : State) : s.dropLostPrimary.prospect = s.prospect := by
  unfold State.dropLostPrimary
  (repeat' split) <;> simp

@[simp] theorem State.dropLostPrimary_meas (s : State) : s.dropLostPrimary.meas = s.meas := by
  unfold State.dropLostPrimary
  (repeat' split) <;> simp

@[simp] theorem State.dropLostPrimary_reg (s : State) : s.dropLostPrimary.reg = s.reg := by
  unfold State.dropLostPrimary
  (repeat' split) <;> simp

@[simp] theorem State.dropLostPrimary_policy (s : State) : s.dropLostPrimary.policy = s.policy := by
  unfold State.dropLostPrimary
  (repeat' split) <;> simp

@[simp] theorem State.dropLostPrimary_origin (s : State) : s.dropLostPrimary.origin = s.origin := by
  unfold State.dropLostPrimary
  (repeat' split) <;> simp

@[simp] theorem State.dropLostPrimary_time (s : State) : s.dropLostPrimary.time = s.time := by
  unfold State.dropLostPrimary
  (repeat' split) <;> simp

@[simp] theorem State.dropLostPrimary_pending (s : State) : s.dropLostPrimary.pending = s.pending := by
  unfold State.dropLostPrimary
  (repeat' split) <;> simp

/-! ### improve -/

@[simp] theorem State.improve_presence (s : State) (x : Connector) : (s.improve x).presence = s.presence := by
  unfold State.improve
  (repeat' split) <;> simp

@[simp] theorem State.improve_trackers (s : State) (x : Connector) : (s.improve x).trackers = s.trackers := by
  unfold State.improve
  (repeat' split) <;> simp

@[simp] theorem State.improve_barrel (s : State) (x : Connector) : (s.improve x).barrel = s.barrel := by
  unfold State.improve
  (repeat' split) <;> simp

@[simp] theorem State.improve_latestVD (s : State) (x : Connector) : (s.improve x).latestVD = s.latestVD := by
  unfold State.improve
  (repeat' split) <;> simp

@[simp] theorem State.improve_lines (s : State) (x : Connector) : (s.improve x).lines = s.lines := by
  unfold State.improve
  (repeat' split) <;> simp

@[simp] theorem State.improve_engines (s : State) (x : Connector) : (s.improve x).engines = s.engines := by
  unfold State.improve
  (repeat' split) <;> simp

@[simp] theorem State.improve_queue (s : State) (x : Connector) : (s.improve x).queue = s.queue := by
  unfold State.improve
  (repeat' split) <;> simp

@[simp] theorem State.improve_ports (s : State) (x : Connector) : (s.improve x).ports = s.ports := by
  unfold State.improve
  (repeat' split) <;> simp

@[simp] theorem State.improve_prospect (s : State) (x : Connector) : (s.improve x).prospect = s.prospect := by
  unfold State.improve
  (repeat' split) <;> simp

@[simp] theorem State.improve_meas (s : State) (x : Connector) : (s.improve x).meas = s.meas := by
  unfold State.improve
  (repeat' split) <;> simp

@[simp] theorem State.improve_reg (s : State) (x : Connector) : (s.improve x).reg = s.reg := by
  unfold State.improve
  (repeat' split) <;> simp

@[simp] theorem State.improve_policy (s : State) (x : Connector) : (s.improve x).policy = s.policy := by
  unfold State.improve
  (repeat' split) <;> simp

@[simp] theorem State.improve_origin (s : State) (x : Connector) : (s.improve x).origin = s.origin := by
  unfold State.improve
  (repeat' split) <;> simp

@[simp] theorem State.improve_exch (s : State) (x : Connector) : (s.improve x).exch = s.exch := by
  unfold State.improve
  (repeat' split) <;> simp

@[simp] theorem State.improve_time (s : State) (x : Connector) : (s.improve x).time = s.time := by
  unfold State.improve
  (repeat' split) <;> simp

@[simp] theorem State.improve_pending (s : State) (x : Connector) : (s.improve x).pending = s.pending := by
  unfold State.improve
  (repeat' split) <;> simp

/-! ### evaluatePath -/

@[simp] theorem State.evaluatePath_presence (s : State) : s.evaluatePath.presence = s.presence := by
  unfold State.evaluatePath
  (repeat' split) <;> simp

@[simp] theorem State.evaluatePath_trackers (s : State) : s.evaluatePath.trackers = s.trackers := by
  unfold State.evaluatePath
  (repeat' split) <;> simp

@[simp] theorem State.evaluatePath_barrel (s : State) : s.evaluatePath.barrel = s.barrel := by
  unfold State.evaluatePath
  (repeat' split) <;> simp

@[simp] theorem State.evaluatePath_latestVD (s : State) : s.evaluatePath.latestVD = s.latestVD := by
  unfold State.evaluatePath
  (repeat' split) <;> simp

@[simp] theorem State.evaluatePath_lines (s : State) : s.evaluatePath.lines = s.lines := by
  unfold State.evaluatePath
  (repeat' split) <;> simp

@[simp] theorem State.evaluatePath_engines (s : State) : s.evaluatePath.engines = s.engines := by
  unfold State.evaluatePath
  (repeat' split) <;> simp

@[simp] theorem State.evaluatePath_queue (s : State) : s.evaluatePath.queue = s.queue := by
  unfold State.evaluatePath
  (repeat' split) <;> simp

@[simp] theorem State.evaluatePath_ports (s : State) : s.evaluatePath.ports = s.ports := by
  unfold State.evaluatePath
  (repeat' split) <;> simp

@[simp] theorem State.evaluatePath_prospect (s : State) : s.evaluatePath.prospect = s.prospect := by
  unfold State.evaluatePath
  (repeat' split) <;> simp

@[simp] theorem State.evaluatePath_meas (s : State) : s.evaluatePath.meas = s.meas := by
  unfold State.evaluatePath
  (repeat' split) <;> simp

@[simp] theorem State.evaluatePath_reg (s : State) : s.evaluatePath.reg = s.reg := by
  unfold State.evaluatePath
  (repeat' split) <;> simp

@[simp] theorem State.evaluatePath_policy (s : State) : s.evaluatePath.policy = s.policy := by
  unfold State.evaluatePath
  (repeat' split) <;> simp

@[simp] theorem State.evaluatePath_origin (s : State) : s.evaluatePath.origin = s.origin := by
  unfold State.evaluatePath
  (repeat' split) <;> simp

@[simp] theorem State.evaluatePath_time (s : State) : s.evaluatePath.time = s.time := by
  unfold State.evaluatePath
  (repeat' split) <;> simp

@[simp] theorem State.evaluatePath_pending (s : State) : s.evaluatePath.pending = s.pending := by
  unfold State.evaluatePath
  (repeat' split) <;> simp

/-! ### evaluate -/

@[simp] theorem State.evaluate_presence (s : State) : s.evaluate.presence = s.presence := by
  simp [State.evaluate]

@[simp] theorem State.evaluate_trackers (s : State) : s.evaluate.trackers = s.trackers := by
  simp [State.evaluate]

@[simp] theorem State.evaluate_barrel (s : State) : s.evaluate.barrel = s.barrel := by
  simp [State.evaluate]

@[simp] theorem State.evaluate_latestVD (s : State) : s.evaluate.latestVD = s.latestVD := by
  simp [State.evaluate]

@[simp] theorem State.evaluate_lines (s : State) : s.evaluate.lines = s.lines := by
  simp [State.evaluate]

@[simp] theorem State.evaluate_engines (s : State) : s.evaluate.engines = s.engines := by
  simp [State.evaluate]

@[simp] theorem State.evaluate_queue (s : State) : s.evaluate.queue = s.queue := by
  simp [State.evaluate]

@[simp] theorem State.evaluate_ports (s : State) : s.evaluate.ports = s.ports := by
  simp [State.evaluate]

@[simp] theorem State.evaluate_prospect (s : State) : s.evaluate.prospect = s.prospect := by
  simp [State.evaluate]

@[simp] theorem State.evaluate_meas (s : State) : s.evaluate.meas = s.meas := by
  simp [State.evaluate]

@[simp] theorem State.evaluate_reg (s : State) : s.evaluate.reg = s.reg := by
  simp [State.evaluate]

@[simp] theorem State.evaluate_policy (s : State) : s.evaluate.policy = s.policy := by
  simp [State.evaluate]

@[simp] theorem State.evaluate_origin (s : State) : s.evaluate.origin = s.origin := by
  simp [State.evaluate]

@[simp] theorem State.evaluate_time (s : State) : s.evaluate.time = s.time := by
  simp [State.evaluate]

@[simp] theorem State.evaluate_pending (s : State) : s.evaluate.pending = s.pending := by
  simp [State.evaluate]

/-! ### enterClosed -/

@[simp] theorem State.enterClosed_presence (s : State) (y : Connector) : (s.enterClosed y).presence = s.presence := by
  simp [State.enterClosed]

@[simp] theorem State.enterClosed_trackers (s : State) (y : Connector) : (s.enterClosed y).trackers = s.trackers := by
  simp [State.enterClosed]

@[simp] theorem State.enterClosed_barrel (s : State) (y : Connector) : (s.enterClosed y).barrel = s.barrel := by
  simp [State.enterClosed]

@[simp] theorem State.enterClosed_latestVD (s : State) (y : Connector) : (s.enterClosed y).latestVD = s.latestVD := by
  simp [State.enterClosed]

@[simp] theorem State.enterClosed_lines (s : State) (y : Connector) : (s.enterClosed y).lines = s.lines := by
  simp [State.enterClosed]

@[simp] theorem State.enterClosed_engines (s : State) (y : Connector) : (s.enterClosed y).engines = s.engines := by
  simp [State.enterClosed]

@[simp] theorem State.enterClosed_queue (s : State) (y : Connector) : (s.enterClosed y).queue = s.queue := by
  simp [State.enterClosed]

@[simp] theorem State.enterClosed_ports (s : State) (y : Connector) : (s.enterClosed y).ports = s.ports := by
  simp [State.enterClosed]

@[simp] theorem State.enterClosed_prospect (s : State) (y : Connector) : (s.enterClosed y).prospect = s.prospect := by
  simp [State.enterClosed]

@[simp] theorem State.enterClosed_meas (s : State) (y : Connector) : (s.enterClosed y).meas = s.meas := by
  simp [State.enterClosed]

@[simp] theorem State.enterClosed_reg (s : State) (y : Connector) : (s.enterClosed y).reg = s.reg := by
  simp [State.enterClosed]

@[simp] theorem State.enterClosed_policy (s : State) (y : Connector) : (s.enterClosed y).policy = s.policy := by
  simp [State.enterClosed]

@[simp] theorem State.enterClosed_origin (s : State) (y : Connector) : (s.enterClosed y).origin = s.origin := by
  simp [State.enterClosed]

@[simp] theorem State.enterClosed_time (s : State) (y : Connector) : (s.enterClosed y).time = s.time := by
  simp [State.enterClosed]

@[simp] theorem State.enterClosed_pending (s : State) (y : Connector) : (s.enterClosed y).pending = s.pending := by
  simp [State.enterClosed]

/-! ### setPathFault -/

@[simp] theorem State.setPathFault_presence (s : State) (x : Connector) : (s.setPathFault x).presence = s.presence := by
  unfold State.setPathFault
  split <;> simp

@[simp] theorem State.setPathFault_trackers (s : State) (x : Connector) : (s.setPathFault x).trackers = s.trackers := by
  unfold State.setPathFault
  split <;> simp

@[simp] theorem State.setPathFault_latestVD (s : State) (x : Connector) : (s.setPathFault x).latestVD = s.latestVD := by
  unfold State.setPathFault
  split <;> simp

@[simp] theorem State.setPathFault_lines (s : State) (x : Connector) : (s.setPathFault x).lines = s.lines := by
  unfold State.setPathFault
  split <;> simp

@[simp] theorem State.setPathFault_engines (s : State) (x : Connector) : (s.setPathFault x).engines = s.engines := by
  unfold State.setPathFault
  split <;> simp

@[simp] theorem State.setPathFault_queue (s : State) (x : Connector) : (s.setPathFault x).queue = s.queue := by
  unfold State.setPathFault
  split <;> simp

@[simp] theorem State.setPathFault_prospect (s : State) (x : Connector) : (s.setPathFault x).prospect = s.prospect := by
  unfold State.setPathFault
  split <;> simp

@[simp] theorem State.setPathFault_path (s : State) (x : Connector) : (s.setPathFault x).path = s.path := by
  unfold State.setPathFault
  split <;> simp

@[simp] theorem State.setPathFault_meas (s : State) (x : Connector) : (s.setPathFault x).meas = s.meas := by
  unfold State.setPathFault
  split <;> simp

@[simp] theorem State.setPathFault_reg (s : State) (x : Connector) : (s.setPathFault x).reg = s.reg := by
  unfold State.setPathFault
  split <;> simp

@[simp] theorem State.setPathFault_policy (s : State) (x : Connector) : (s.setPathFault x).policy = s.policy := by
  unfold State.setPathFault
  split <;> simp

@[simp] theorem State.setPathFault_origin (s : State) (x : Connector) : (s.setPathFault x).origin = s.origin := by
  unfold State.setPathFault
  split <;> simp

@[simp] theorem State.setPathFault_exch (s : State) (x : Connector) : (s.setPathFault x).exch = s.exch := by
  unfold State.setPathFault
  split <;> simp

@[simp] theorem State.setPathFault_time (s : State) (x : Connector) : (s.setPathFault x).time = s.time := by
  unfold State.setPathFault
  split <;> simp

@[simp] theorem State.setPathFault_pending (s : State) (x : Connector) : (s.setPathFault x).pending = s.pending := by
  unfold State.setPathFault
  split <;> simp

/-! ### failClose -/

@[simp] theorem State.failClose_presence (s : State) (y : Connector) (n : Nat) : (s.failClose y n).presence = s.presence := by
  simp [State.failClose]

@[simp] theorem State.failClose_trackers (s : State) (y : Connector) (n : Nat) : (s.failClose y n).trackers = s.trackers := by
  simp [State.failClose]

@[simp] theorem State.failClose_latestVD (s : State) (y : Connector) (n : Nat) : (s.failClose y n).latestVD = s.latestVD := by
  simp [State.failClose]

@[simp] theorem State.failClose_lines (s : State) (y : Connector) (n : Nat) : (s.failClose y n).lines = s.lines := by
  simp [State.failClose]

@[simp] theorem State.failClose_engines (s : State) (y : Connector) (n : Nat) : (s.failClose y n).engines = s.engines := by
  simp [State.failClose]

@[simp] theorem State.failClose_queue (s : State) (y : Connector) (n : Nat) : (s.failClose y n).queue = s.queue := by
  simp [State.failClose]

@[simp] theorem State.failClose_prospect (s : State) (y : Connector) (n : Nat) : (s.failClose y n).prospect = s.prospect := by
  simp [State.failClose]

@[simp] theorem State.failClose_meas (s : State) (y : Connector) (n : Nat) : (s.failClose y n).meas = s.meas := by
  simp [State.failClose]

@[simp] theorem State.failClose_reg (s : State) (y : Connector) (n : Nat) : (s.failClose y n).reg = s.reg := by
  simp [State.failClose]

@[simp] theorem State.failClose_policy (s : State) (y : Connector) (n : Nat) : (s.failClose y n).policy = s.policy := by
  simp [State.failClose]

@[simp] theorem State.failClose_origin (s : State) (y : Connector) (n : Nat) : (s.failClose y n).origin = s.origin := by
  simp [State.failClose]

@[simp] theorem State.failClose_time (s : State) (y : Connector) (n : Nat) : (s.failClose y n).time = s.time := by
  simp [State.failClose]

@[simp] theorem State.failClose_pending (s : State) (y : Connector) (n : Nat) : (s.failClose y n).pending = s.pending := by
  simp [State.failClose]

/-! ### closeCheck -/

@[simp] theorem State.closeCheck_presence (s : State) (y : Connector) (n : Nat) : (s.closeCheck y n).presence = s.presence := by
  unfold State.closeCheck
  split <;> simp

@[simp] theorem State.closeCheck_trackers (s : State) (y : Connector) (n : Nat) : (s.closeCheck y n).trackers = s.trackers := by
  unfold State.closeCheck
  split <;> simp

@[simp] theorem State.closeCheck_latestVD (s : State) (y : Connector) (n : Nat) : (s.closeCheck y n).latestVD = s.latestVD := by
  unfold State.closeCheck
  split <;> simp

@[simp] theorem State.closeCheck_lines (s : State) (y : Connector) (n : Nat) : (s.closeCheck y n).lines = s.lines := by
  unfold State.closeCheck
  split <;> simp

@[simp] theorem State.closeCheck_engines (s : State) (y : Connector) (n : Nat) : (s.closeCheck y n).engines = s.engines := by
  unfold State.closeCheck
  split <;> simp

@[simp] theorem State.closeCheck_queue (s : State) (y : Connector) (n : Nat) : (s.closeCheck y n).queue = s.queue := by
  unfold State.closeCheck
  split <;> simp

@[simp] theorem State.closeCheck_prospect (s : State) (y : Connector) (n : Nat) : (s.closeCheck y n).prospect = s.prospect := by
  unfold State.closeCheck
  split <;> simp

@[simp] theorem State.closeCheck_meas (s : State) (y : Connector) (n : Nat) : (s.closeCheck y n).meas = s.meas := by
  unfold State.closeCheck
  split <;> simp

@[simp] theorem State.closeCheck_reg (s : State) (y : Connector) (n : Nat) : (s.closeCheck y n).reg = s.reg := by
  unfold State.closeCheck
  split <;> simp

@[simp] theorem State.closeCheck_policy (s : State) (y : Connector) (n : Nat) : (s.closeCheck y n).policy = s.policy := by
  unfold State.closeCheck
  split <;> simp

@[simp] theorem State.closeCheck_origin (s : State) (y : Connector) (n : Nat) : (s.closeCheck y n).origin = s.origin := by
  unfold State.closeCheck
  split <;> simp

@[simp] theorem State.closeCheck_time (s : State) (y : Connector) (n : Nat) : (s.closeCheck y n).time = s.time := by
  unfold State.closeCheck
  split <;> simp

@[simp] theorem State.closeCheck_pending (s : State) (y : Connector) (n : Nat) : (s.closeCheck y n).pending = s.pending := by
  unfold State.closeCheck
  split <;> simp

/-! ### softStartEnds -/

@[simp] theorem State.softStartEnds_presence (s : State) (y : Connector) : (s.softStartEnds y).presence = s.presence := by
  unfold State.softStartEnds
  simp
  split <;> simp

@[simp] theorem State.softStartEnds_trackers (s : State) (y : Connector) : (s.softStartEnds y).trackers = s.trackers := by
  unfold State.softStartEnds
  simp
  split <;> simp

@[simp] theorem State.softStartEnds_latestVD (s : State) (y : Connector) : (s.softStartEnds y).latestVD = s.latestVD := by
  unfold State.softStartEnds
  simp
  split <;> simp

@[simp] theorem State.softStartEnds_lines (s : State) (y : Connector) : (s.softStartEnds y).lines = s.lines := by
  unfold State.softStartEnds
  simp
  split <;> simp

@[simp] theorem State.softStartEnds_engines (s : State) (y : Connector) : (s.softStartEnds y).engines = s.engines := by
  unfold State.softStartEnds
  simp
  split <;> simp

@[simp] theorem State.softStartEnds_queue (s : State) (y : Connector) : (s.softStartEnds y).queue = s.queue := by
  unfold State.softStartEnds
  simp
  split <;> simp

@[simp] theorem State.softStartEnds_prospect (s : State) (y : Connector) : (s.softStartEnds y).prospect = s.prospect := by
  unfold State.softStartEnds
  simp
  split <;> simp

@[simp] theorem State.softStartEnds_meas (s : State) (y : Connector) : (s.softStartEnds y).meas = s.meas := by
  unfold State.softStartEnds
  simp
  split <;> simp

@[simp] theorem State.softStartEnds_reg (s : State) (y : Connector) : (s.softStartEnds y).reg = s.reg := by
  unfold State.softStartEnds
  simp
  split <;> simp

@[simp] theorem State.softStartEnds_policy (s : State) (y : Connector) : (s.softStartEnds y).policy = s.policy := by
  unfold State.softStartEnds
  simp
  split <;> simp

@[simp] theorem State.softStartEnds_origin (s : State) (y : Connector) : (s.softStartEnds y).origin = s.origin := by
  unfold State.softStartEnds
  simp
  split <;> simp

@[simp] theorem State.softStartEnds_time (s : State) (y : Connector) : (s.softStartEnds y).time = s.time := by
  unfold State.softStartEnds
  simp
  split <;> simp

@[simp] theorem State.softStartEnds_pending (s : State) (y : Connector) : (s.softStartEnds y).pending = s.pending := by
  unfold State.softStartEnds
  simp
  split <;> simp

/-! ### breakEnds -/

@[simp] theorem State.breakEnds_presence (s : State) : s.breakEnds.presence = s.presence := by
  unfold State.breakEnds
  simp
  split <;> simp

@[simp] theorem State.breakEnds_trackers (s : State) : s.breakEnds.trackers = s.trackers := by
  unfold State.breakEnds
  simp
  split <;> simp

@[simp] theorem State.breakEnds_barrel (s : State) : s.breakEnds.barrel = s.barrel := by
  unfold State.breakEnds
  simp
  split <;> simp

@[simp] theorem State.breakEnds_latestVD (s : State) : s.breakEnds.latestVD = s.latestVD := by
  unfold State.breakEnds
  simp
  split <;> simp

@[simp] theorem State.breakEnds_lines (s : State) : s.breakEnds.lines = s.lines := by
  unfold State.breakEnds
  simp
  split <;> simp

@[simp] theorem State.breakEnds_engines (s : State) : s.breakEnds.engines = s.engines := by
  unfold State.breakEnds
  simp
  split <;> simp

@[simp] theorem State.breakEnds_queue (s : State) : s.breakEnds.queue = s.queue := by
  unfold State.breakEnds
  simp
  split <;> simp

@[simp] theorem State.breakEnds_ports (s : State) : s.breakEnds.ports = s.ports := by
  unfold State.breakEnds
  simp
  split <;> simp

@[simp] theorem State.breakEnds_prospect (s : State) : s.breakEnds.prospect = s.prospect := by
  unfold State.breakEnds
  simp
  split <;> simp

@[simp] theorem State.breakEnds_meas (s : State) : s.breakEnds.meas = s.meas := by
  unfold State.breakEnds
  simp
  split <;> simp

@[simp] theorem State.breakEnds_reg (s : State) : s.breakEnds.reg = s.reg := by
  unfold State.breakEnds
  simp
  split <;> simp

@[simp] theorem State.breakEnds_policy (s : State) : s.breakEnds.policy = s.policy := by
  unfold State.breakEnds
  simp
  split <;> simp

@[simp] theorem State.breakEnds_origin (s : State) : s.breakEnds.origin = s.origin := by
  unfold State.breakEnds
  simp
  split <;> simp

@[simp] theorem State.breakEnds_time (s : State) : s.breakEnds.time = s.time := by
  unfold State.breakEnds
  simp
  split <;> simp

@[simp] theorem State.breakEnds_pending (s : State) : s.breakEnds.pending = s.pending := by
  unfold State.breakEnds
  simp
  split <;> simp

/-! ### recomputeBudget -/
@[simp] theorem State.recomputeBudget_presence (s : State) : s.recomputeBudget.presence = s.presence := rfl
@[simp] theorem State.recomputeBudget_trackers (s : State) : s.recomputeBudget.trackers = s.trackers := rfl
@[simp] theorem State.recomputeBudget_barrel (s : State) : s.recomputeBudget.barrel = s.barrel := rfl
@[simp] theorem State.recomputeBudget_latestVD (s : State) : s.recomputeBudget.latestVD = s.latestVD := rfl
@[simp] theorem State.recomputeBudget_lines (s : State) : s.recomputeBudget.lines = s.lines := rfl
@[simp] theorem State.recomputeBudget_engines (s : State) : s.recomputeBudget.engines = s.engines := rfl
@[simp] theorem State.recomputeBudget_queue (s : State) : s.recomputeBudget.queue = s.queue := rfl
@[simp] theorem State.recomputeBudget_ports (s : State) : s.recomputeBudget.ports = s.ports := rfl
@[simp] theorem State.recomputeBudget_prospect (s : State) : s.recomputeBudget.prospect = s.prospect := rfl
@[simp] theorem State.recomputeBudget_path (s : State) : s.recomputeBudget.path = s.path := rfl
@[simp] theorem State.recomputeBudget_meas (s : State) : s.recomputeBudget.meas = s.meas := rfl
@[simp] theorem State.recomputeBudget_policy (s : State) : s.recomputeBudget.policy = s.policy := rfl
@[simp] theorem State.recomputeBudget_origin (s : State) : s.recomputeBudget.origin = s.origin := rfl
@[simp] theorem State.recomputeBudget_exch (s : State) : s.recomputeBudget.exch = s.exch := rfl
@[simp] theorem State.recomputeBudget_time (s : State) : s.recomputeBudget.time = s.time := rfl

@[simp] theorem State.recomputeBudget_pending (s : State) : s.recomputeBudget.pending = s.pending := rfl

/-! ### reportOwners -/

@[simp] theorem State.reportOwners_presence (s : State) (t : State) : (s.reportOwners t).presence = t.presence := by
  unfold State.reportOwners
  split <;> simp

@[simp] theorem State.reportOwners_trackers (s : State) (t : State) : (s.reportOwners t).trackers = t.trackers := by
  unfold State.reportOwners
  split <;> simp

@[simp] theorem State.reportOwners_barrel (s : State) (t : State) : (s.reportOwners t).barrel = t.barrel := by
  unfold State.reportOwners
  split <;> simp

@[simp] theorem State.reportOwners_latestVD (s : State) (t : State) : (s.reportOwners t).latestVD = t.latestVD := by
  unfold State.reportOwners
  split <;> simp

@[simp] theorem State.reportOwners_lines (s : State) (t : State) : (s.reportOwners t).lines = t.lines := by
  unfold State.reportOwners
  split <;> simp

@[simp] theorem State.reportOwners_engines (s : State) (t : State) : (s.reportOwners t).engines = t.engines := by
  unfold State.reportOwners
  split <;> simp

@[simp] theorem State.reportOwners_queue (s : State) (t : State) : (s.reportOwners t).queue = t.queue := by
  unfold State.reportOwners
  split <;> simp

@[simp] theorem State.reportOwners_ports (s : State) (t : State) : (s.reportOwners t).ports = t.ports := by
  unfold State.reportOwners
  split <;> simp

@[simp] theorem State.reportOwners_prospect (s : State) (t : State) : (s.reportOwners t).prospect = t.prospect := by
  unfold State.reportOwners
  split <;> simp

@[simp] theorem State.reportOwners_meas (s : State) (t : State) : (s.reportOwners t).meas = t.meas := by
  unfold State.reportOwners
  split <;> simp

@[simp] theorem State.reportOwners_reg (s : State) (t : State) : (s.reportOwners t).reg = t.reg := by
  unfold State.reportOwners
  split <;> simp

@[simp] theorem State.reportOwners_policy (s : State) (t : State) : (s.reportOwners t).policy = t.policy := by
  unfold State.reportOwners
  split <;> simp

@[simp] theorem State.reportOwners_origin (s : State) (t : State) : (s.reportOwners t).origin = t.origin := by
  unfold State.reportOwners
  split <;> simp

@[simp] theorem State.reportOwners_time (s : State) (t : State) : (s.reportOwners t).time = t.time := by
  unfold State.reportOwners
  split <;> simp

@[simp] theorem State.reportOwners_pending (s : State) (t : State) : (s.reportOwners t).pending = t.pending := by
  unfold State.reportOwners
  split <;> simp

/-! ### reportDroop -/

@[simp] theorem State.reportDroop_presence (s : State) (t : State) (x : Connector) : (s.reportDroop t x).presence = t.presence := by
  unfold State.reportDroop
  split <;> simp

@[simp] theorem State.reportDroop_trackers (s : State) (t : State) (x : Connector) : (s.reportDroop t x).trackers = t.trackers := by
  unfold State.reportDroop
  split <;> simp

@[simp] theorem State.reportDroop_barrel (s : State) (t : State) (x : Connector) : (s.reportDroop t x).barrel = t.barrel := by
  unfold State.reportDroop
  split <;> simp

@[simp] theorem State.reportDroop_latestVD (s : State) (t : State) (x : Connector) : (s.reportDroop t x).latestVD = t.latestVD := by
  unfold State.reportDroop
  split <;> simp

@[simp] theorem State.reportDroop_lines (s : State) (t : State) (x : Connector) : (s.reportDroop t x).lines = t.lines := by
  unfold State.reportDroop
  split <;> simp

@[simp] theorem State.reportDroop_engines (s : State) (t : State) (x : Connector) : (s.reportDroop t x).engines = t.engines := by
  unfold State.reportDroop
  split <;> simp

@[simp] theorem State.reportDroop_queue (s : State) (t : State) (x : Connector) : (s.reportDroop t x).queue = t.queue := by
  unfold State.reportDroop
  split <;> simp

@[simp] theorem State.reportDroop_ports (s : State) (t : State) (x : Connector) : (s.reportDroop t x).ports = t.ports := by
  unfold State.reportDroop
  split <;> simp

@[simp] theorem State.reportDroop_prospect (s : State) (t : State) (x : Connector) : (s.reportDroop t x).prospect = t.prospect := by
  unfold State.reportDroop
  split <;> simp

@[simp] theorem State.reportDroop_path (s : State) (t : State) (x : Connector) : (s.reportDroop t x).path = t.path := by
  unfold State.reportDroop
  split <;> simp

@[simp] theorem State.reportDroop_reg (s : State) (t : State) (x : Connector) : (s.reportDroop t x).reg = t.reg := by
  unfold State.reportDroop
  split <;> simp

@[simp] theorem State.reportDroop_policy (s : State) (t : State) (x : Connector) : (s.reportDroop t x).policy = t.policy := by
  unfold State.reportDroop
  split <;> simp

@[simp] theorem State.reportDroop_origin (s : State) (t : State) (x : Connector) : (s.reportDroop t x).origin = t.origin := by
  unfold State.reportDroop
  split <;> simp

@[simp] theorem State.reportDroop_exch (s : State) (t : State) (x : Connector) : (s.reportDroop t x).exch = t.exch := by
  unfold State.reportDroop
  split <;> simp

@[simp] theorem State.reportDroop_time (s : State) (t : State) (x : Connector) : (s.reportDroop t x).time = t.time := by
  unfold State.reportDroop
  split <;> simp

@[simp] theorem State.reportDroop_pending (s : State) (t : State) (x : Connector) : (s.reportDroop t x).pending = t.pending := by
  unfold State.reportDroop
  split <;> simp

/-! ### reportBudget -/

@[simp] theorem State.reportBudget_presence (s : State) (t : State) : (s.reportBudget t).presence = t.presence := by
  unfold State.reportBudget
  (repeat' split) <;> simp

@[simp] theorem State.reportBudget_trackers (s : State) (t : State) : (s.reportBudget t).trackers = t.trackers := by
  unfold State.reportBudget
  (repeat' split) <;> simp

@[simp] theorem State.reportBudget_barrel (s : State) (t : State) : (s.reportBudget t).barrel = t.barrel := by
  unfold State.reportBudget
  (repeat' split) <;> simp

@[simp] theorem State.reportBudget_latestVD (s : State) (t : State) : (s.reportBudget t).latestVD = t.latestVD := by
  unfold State.reportBudget
  (repeat' split) <;> simp

@[simp] theorem State.reportBudget_lines (s : State) (t : State) : (s.reportBudget t).lines = t.lines := by
  unfold State.reportBudget
  (repeat' split) <;> simp

@[simp] theorem State.reportBudget_engines (s : State) (t : State) : (s.reportBudget t).engines = t.engines := by
  unfold State.reportBudget
  (repeat' split) <;> simp

@[simp] theorem State.reportBudget_queue (s : State) (t : State) : (s.reportBudget t).queue = t.queue := by
  unfold State.reportBudget
  (repeat' split) <;> simp

@[simp] theorem State.reportBudget_ports (s : State) (t : State) : (s.reportBudget t).ports = t.ports := by
  unfold State.reportBudget
  (repeat' split) <;> simp

@[simp] theorem State.reportBudget_prospect (s : State) (t : State) : (s.reportBudget t).prospect = t.prospect := by
  unfold State.reportBudget
  (repeat' split) <;> simp

@[simp] theorem State.reportBudget_path (s : State) (t : State) : (s.reportBudget t).path = t.path := by
  unfold State.reportBudget
  (repeat' split) <;> simp

@[simp] theorem State.reportBudget_meas (s : State) (t : State) : (s.reportBudget t).meas = t.meas := by
  unfold State.reportBudget
  (repeat' split) <;> simp

@[simp] theorem State.reportBudget_policy (s : State) (t : State) : (s.reportBudget t).policy = t.policy := by
  unfold State.reportBudget
  (repeat' split) <;> simp

@[simp] theorem State.reportBudget_origin (s : State) (t : State) : (s.reportBudget t).origin = t.origin := by
  unfold State.reportBudget
  (repeat' split) <;> simp

@[simp] theorem State.reportBudget_exch (s : State) (t : State) : (s.reportBudget t).exch = t.exch := by
  unfold State.reportBudget
  (repeat' split) <;> simp

@[simp] theorem State.reportBudget_time (s : State) (t : State) : (s.reportBudget t).time = t.time := by
  unfold State.reportBudget
  (repeat' split) <;> simp

@[simp] theorem State.reportBudget_pending (s : State) (t : State) : (s.reportBudget t).pending = t.pending := by
  unfold State.reportBudget
  (repeat' split) <;> simp

/-! ### report -/

@[simp] theorem State.report_presence (s : State) (t : State) : (s.report t).presence = t.presence := by
  unfold State.report
  simp [connectors]

@[simp] theorem State.report_trackers (s : State) (t : State) : (s.report t).trackers = t.trackers := by
  unfold State.report
  simp [connectors]

@[simp] theorem State.report_barrel (s : State) (t : State) : (s.report t).barrel = t.barrel := by
  unfold State.report
  simp [connectors]

@[simp] theorem State.report_latestVD (s : State) (t : State) : (s.report t).latestVD = t.latestVD := by
  unfold State.report
  simp [connectors]

@[simp] theorem State.report_lines (s : State) (t : State) : (s.report t).lines = t.lines := by
  unfold State.report
  simp [connectors]

@[simp] theorem State.report_engines (s : State) (t : State) : (s.report t).engines = t.engines := by
  unfold State.report
  simp [connectors]

@[simp] theorem State.report_queue (s : State) (t : State) : (s.report t).queue = t.queue := by
  unfold State.report
  simp [connectors]

@[simp] theorem State.report_ports (s : State) (t : State) : (s.report t).ports = t.ports := by
  unfold State.report
  simp [connectors]

@[simp] theorem State.report_policy (s : State) (t : State) : (s.report t).policy = t.policy := by
  unfold State.report
  simp [connectors]

@[simp] theorem State.report_origin (s : State) (t : State) : (s.report t).origin = t.origin := by
  unfold State.report
  simp [connectors]

@[simp] theorem State.report_time (s : State) (t : State) : (s.report t).time = t.time := by
  unfold State.report
  simp [connectors]

@[simp] theorem State.report_pending (s : State) (t : State) : (s.report t).pending = t.pending := by
  unfold State.report
  simp [connectors]

/-! ### concludes -/

@[simp] theorem State.concludes_presence (pages : Bool) (s t : State) : (s.concludes pages t).presence = t.presence := by
  unfold State.concludes
  split <;> simp

@[simp] theorem State.concludes_trackers (pages : Bool) (s t : State) : (s.concludes pages t).trackers = t.trackers := by
  unfold State.concludes
  split <;> simp

@[simp] theorem State.concludes_barrel (pages : Bool) (s t : State) : (s.concludes pages t).barrel = t.barrel := by
  unfold State.concludes
  split <;> simp

@[simp] theorem State.concludes_latestVD (pages : Bool) (s t : State) : (s.concludes pages t).latestVD = t.latestVD := by
  unfold State.concludes
  split <;> simp

@[simp] theorem State.concludes_lines (pages : Bool) (s t : State) : (s.concludes pages t).lines = t.lines := by
  unfold State.concludes
  split <;> simp

@[simp] theorem State.concludes_engines (pages : Bool) (s t : State) : (s.concludes pages t).engines = t.engines := by
  unfold State.concludes
  split <;> simp

@[simp] theorem State.concludes_queue (pages : Bool) (s t : State) : (s.concludes pages t).queue = t.queue := by
  unfold State.concludes
  split <;> simp

@[simp] theorem State.concludes_ports (pages : Bool) (s t : State) : (s.concludes pages t).ports = t.ports := by
  unfold State.concludes
  split <;> simp

@[simp] theorem State.concludes_policy (pages : Bool) (s t : State) : (s.concludes pages t).policy = t.policy := by
  unfold State.concludes
  split <;> simp

@[simp] theorem State.concludes_origin (pages : Bool) (s t : State) : (s.concludes pages t).origin = t.origin := by
  unfold State.concludes
  split <;> simp

@[simp] theorem State.concludes_time (pages : Bool) (s t : State) : (s.concludes pages t).time = t.time := by
  unfold State.concludes
  split <;> simp

@[simp] theorem State.concludes_pending (pages : Bool) (s t : State) : (s.concludes pages t).pending = t.pending := by
  unfold State.concludes
  split <;> simp

/-! ### settles -/

@[simp] theorem settle_presence (pages : Bool) (n : Nat) (s t : State) : (settle pages n s t).presence = t.presence :=
  settle_induction (fun u => u.presence = t.presence) pages (fun a b h => by simpa using h) (fun u p h => by simpa using h) n s t rfl

@[simp] theorem settle_trackers (pages : Bool) (n : Nat) (s t : State) : (settle pages n s t).trackers = t.trackers :=
  settle_induction (fun u => u.trackers = t.trackers) pages (fun a b h => by simpa using h) (fun u p h => by simpa using h) n s t rfl

@[simp] theorem settle_barrel (pages : Bool) (n : Nat) (s t : State) : (settle pages n s t).barrel = t.barrel :=
  settle_induction (fun u => u.barrel = t.barrel) pages (fun a b h => by simpa using h) (fun u p h => by simpa using h) n s t rfl

@[simp] theorem settle_latestVD (pages : Bool) (n : Nat) (s t : State) : (settle pages n s t).latestVD = t.latestVD :=
  settle_induction (fun u => u.latestVD = t.latestVD) pages (fun a b h => by simpa using h) (fun u p h => by simpa using h) n s t rfl

@[simp] theorem settle_policy (pages : Bool) (n : Nat) (s t : State) : (settle pages n s t).policy = t.policy :=
  settle_induction (fun u => u.policy = t.policy) pages (fun a b h => by simpa using h) (fun u p h => by simpa using h) n s t rfl

@[simp] theorem settle_origin (pages : Bool) (n : Nat) (s t : State) : (settle pages n s t).origin = t.origin :=
  settle_induction (fun u => u.origin = t.origin) pages (fun a b h => by simpa using h) (fun u p h => by simpa using h) n s t rfl

@[simp] theorem settle_time (pages : Bool) (n : Nat) (s t : State) : (settle pages n s t).time = t.time :=
  settle_induction (fun u => u.time = t.time) pages (fun a b h => by simpa using h) (fun u p h => by simpa using h) n s t rfl

@[simp] theorem settle_pending (pages : Bool) (n : Nat) (s t : State) : (settle pages n s t).pending = t.pending :=
  settle_induction (fun u => u.pending = t.pending) pages (fun a b h => by simpa using h) (fun u p h => by simpa using h) n s t rfl

@[simp] theorem State.settles_presence (s : State) (t : State) : (s.settles t).presence = t.presence := settle_presence _ _ s t

@[simp] theorem State.settles_trackers (s : State) (t : State) : (s.settles t).trackers = t.trackers := settle_trackers _ _ s t

@[simp] theorem State.settles_barrel (s : State) (t : State) : (s.settles t).barrel = t.barrel := settle_barrel _ _ s t

@[simp] theorem State.settles_latestVD (s : State) (t : State) : (s.settles t).latestVD = t.latestVD := settle_latestVD _ _ s t

@[simp] theorem State.settles_policy (s : State) (t : State) : (s.settles t).policy = t.policy := settle_policy _ _ s t

@[simp] theorem State.settles_origin (s : State) (t : State) : (s.settles t).origin = t.origin := settle_origin _ _ s t

@[simp] theorem State.settles_time (s : State) (t : State) : (s.settles t).time = t.time := settle_time _ _ s t

@[simp] theorem State.settles_pending (s : State) (t : State) : (s.settles t).pending = t.pending := settle_pending _ _ s t

@[simp] theorem State.settlesWithin_presence (s : State) (t : State) : (s.settlesWithin t).presence = t.presence := settle_presence _ _ s t

@[simp] theorem State.settlesWithin_trackers (s : State) (t : State) : (s.settlesWithin t).trackers = t.trackers := settle_trackers _ _ s t

@[simp] theorem State.settlesWithin_barrel (s : State) (t : State) : (s.settlesWithin t).barrel = t.barrel := settle_barrel _ _ s t

@[simp] theorem State.settlesWithin_latestVD (s : State) (t : State) : (s.settlesWithin t).latestVD = t.latestVD := settle_latestVD _ _ s t

@[simp] theorem State.settlesWithin_policy (s : State) (t : State) : (s.settlesWithin t).policy = t.policy := settle_policy _ _ s t

@[simp] theorem State.settlesWithin_origin (s : State) (t : State) : (s.settlesWithin t).origin = t.origin := settle_origin _ _ s t

@[simp] theorem State.settlesWithin_time (s : State) (t : State) : (s.settlesWithin t).time = t.time := settle_time _ _ s t

@[simp] theorem State.settlesWithin_pending (s : State) (t : State) : (s.settlesWithin t).pending = t.pending := settle_pending _ _ s t

/-! ### portEvent -/

@[simp] theorem State.portEvent_presence (s : State) (p : LinePort) (t : State) : (s.portEvent p t).presence = t.presence := by
  simp [State.portEvent]

@[simp] theorem State.portEvent_trackers (s : State) (p : LinePort) (t : State) : (s.portEvent p t).trackers = t.trackers := by
  simp [State.portEvent]

@[simp] theorem State.portEvent_barrel (s : State) (p : LinePort) (t : State) : (s.portEvent p t).barrel = t.barrel := by
  simp [State.portEvent]

@[simp] theorem State.portEvent_latestVD (s : State) (p : LinePort) (t : State) : (s.portEvent p t).latestVD = t.latestVD := by
  simp [State.portEvent]

@[simp] theorem State.portEvent_policy (s : State) (p : LinePort) (t : State) : (s.portEvent p t).policy = t.policy := by
  simp [State.portEvent]

@[simp] theorem State.portEvent_origin (s : State) (p : LinePort) (t : State) : (s.portEvent p t).origin = t.origin := by
  simp [State.portEvent]

@[simp] theorem State.portEvent_time (s : State) (p : LinePort) (t : State) : (s.portEvent p t).time = t.time := by
  simp [State.portEvent]

@[simp] theorem State.portEvent_pending (s : State) (p : LinePort) (t : State) : (s.portEvent p t).pending = t.pending := by
  simp [State.portEvent]

@[simp] theorem State.portEventWithin_presence (s : State) (p : LinePort) (t : State) : (s.portEventWithin p t).presence = t.presence := by
  simp [State.portEventWithin]

@[simp] theorem State.portEventWithin_trackers (s : State) (p : LinePort) (t : State) : (s.portEventWithin p t).trackers = t.trackers := by
  simp [State.portEventWithin]

@[simp] theorem State.portEventWithin_barrel (s : State) (p : LinePort) (t : State) : (s.portEventWithin p t).barrel = t.barrel := by
  simp [State.portEventWithin]

@[simp] theorem State.portEventWithin_latestVD (s : State) (p : LinePort) (t : State) : (s.portEventWithin p t).latestVD = t.latestVD := by
  simp [State.portEventWithin]

@[simp] theorem State.portEventWithin_policy (s : State) (p : LinePort) (t : State) : (s.portEventWithin p t).policy = t.policy := by
  simp [State.portEventWithin]

@[simp] theorem State.portEventWithin_origin (s : State) (p : LinePort) (t : State) : (s.portEventWithin p t).origin = t.origin := by
  simp [State.portEventWithin]

@[simp] theorem State.portEventWithin_time (s : State) (p : LinePort) (t : State) : (s.portEventWithin p t).time = t.time := by
  simp [State.portEventWithin]

@[simp] theorem State.portEventWithin_pending (s : State) (p : LinePort) (t : State) : (s.portEventWithin p t).pending = t.pending := by
  simp [State.portEventWithin]

/-! ### ownerSettling -/

@[simp] theorem State.ownerSettling_presence (s : State) (x : Connector) (b : Bool) : (s.ownerSettling x b).presence = s.presence := by
  unfold State.ownerSettling
  split <;> simp

@[simp] theorem State.ownerSettling_trackers (s : State) (x : Connector) (b : Bool) : (s.ownerSettling x b).trackers = s.trackers := by
  unfold State.ownerSettling
  split <;> simp

@[simp] theorem State.ownerSettling_latestVD (s : State) (x : Connector) (b : Bool) : (s.ownerSettling x b).latestVD = s.latestVD := by
  unfold State.ownerSettling
  split <;> simp

@[simp] theorem State.ownerSettling_lines (s : State) (x : Connector) (b : Bool) : (s.ownerSettling x b).lines = s.lines := by
  unfold State.ownerSettling
  split <;> simp

@[simp] theorem State.ownerSettling_engines (s : State) (x : Connector) (b : Bool) : (s.ownerSettling x b).engines = s.engines := by
  unfold State.ownerSettling
  split <;> simp

@[simp] theorem State.ownerSettling_queue (s : State) (x : Connector) (b : Bool) : (s.ownerSettling x b).queue = s.queue := by
  unfold State.ownerSettling
  split <;> simp

@[simp] theorem State.ownerSettling_prospect (s : State) (x : Connector) (b : Bool) : (s.ownerSettling x b).prospect = s.prospect := by
  unfold State.ownerSettling
  split <;> simp

@[simp] theorem State.ownerSettling_path (s : State) (x : Connector) (b : Bool) : (s.ownerSettling x b).path = s.path := by
  unfold State.ownerSettling
  split <;> simp

@[simp] theorem State.ownerSettling_meas (s : State) (x : Connector) (b : Bool) : (s.ownerSettling x b).meas = s.meas := by
  unfold State.ownerSettling
  split <;> simp

@[simp] theorem State.ownerSettling_reg (s : State) (x : Connector) (b : Bool) : (s.ownerSettling x b).reg = s.reg := by
  unfold State.ownerSettling
  split <;> simp

@[simp] theorem State.ownerSettling_policy (s : State) (x : Connector) (b : Bool) : (s.ownerSettling x b).policy = s.policy := by
  unfold State.ownerSettling
  split <;> simp

@[simp] theorem State.ownerSettling_origin (s : State) (x : Connector) (b : Bool) : (s.ownerSettling x b).origin = s.origin := by
  unfold State.ownerSettling
  split <;> simp

@[simp] theorem State.ownerSettling_exch (s : State) (x : Connector) (b : Bool) : (s.ownerSettling x b).exch = s.exch := by
  unfold State.ownerSettling
  split <;> simp

@[simp] theorem State.ownerSettling_time (s : State) (x : Connector) (b : Bool) : (s.ownerSettling x b).time = s.time := by
  unfold State.ownerSettling
  split <;> simp

@[simp] theorem State.ownerSettling_pending (s : State) (x : Connector) (b : Bool) : (s.ownerSettling x b).pending = s.pending := by
  unfold State.ownerSettling
  split <;> simp

end Sys2Proof.Machine
end

