-- ==== Sys2Proof/Laws/Operations.lean ====
section
/-! SUPPORT. What each shared operation can do, said once: the end of an event, memory transfers, the journal,
completions, evaluations, selections. -/

namespace Sys2Proof.Machine

/-! ### The end of an event -/

theorem recordChanged_congr {s t u : State} (x : Connector) (hp : t.ports = u.ports) (hb : t.barrel = u.barrel) :
    recordChanged s t x = recordChanged s u x := by
  cases x with
  | line p =>
    unfold recordChanged State.port
    dsimp only
    rw [hp]
  | barrel =>
    unfold recordChanged
    dsimp only
    rw [hb]

theorem State.pageOf_congr {t u : State} (x : Connector) (hp : t.ports = u.ports) (hb : t.barrel = u.barrel) :
    t.pageOf x = u.pageOf x := by
  cases x <;> simp [State.pageOf, State.port, hp, hb]

theorem pageAddress_disjoint {x y : Connector} (h : x ≠ y) :
    pageAddress x + 128 ≤ pageAddress y ∨ pageAddress y + 128 ≤ pageAddress x := by
  cases x with
  | line p =>
    cases y with
    | line q => cases p <;> cases q <;> first | exact absurd rfl h | decide
    | barrel => cases p <;> decide
  | barrel =>
    cases y with
    | line q => cases q <;> decide
    | barrel => exact absurd rfl h

theorem State.pageKept.trans {s t u : State} {x : Connector} (h : s.pageKept t x) (k : t.pageKept u x) : s.pageKept u x :=
  ⟨k.1.trans h.1, fun i hi => (k.2 i hi).trans (h.2 i hi)⟩

theorem State.pageKept_refl (s : State) (x : Connector) : s.pageKept s x := ⟨rfl, fun _ _ => rfl⟩

/-- A rewrite of another page keeps this one. -/
theorem State.pageKept_refreshPage (s t : State) {x y : Connector} (h : x ≠ y) : t.pageKept (s.refreshPage t y) x := by
  rcases State.refreshPage_cases s t y with ⟨-, e⟩ | ⟨-, e⟩ <;> rw [e]
  · refine ⟨PerConn.get_set_of_ne _ _ h, fun i hi => State.readByte_rewritePage_outside t y _ ?_⟩
    have := pageAddress_disjoint h
    omega
  · exact State.pageKept_refl t x

/-- The page of a changed record shows it, an unchanged one is kept. -/
theorem State.refreshPage_page (s t : State) (x : Connector) :
    if recordChanged s t x then
      (s.refreshPage t x).exch.pageRev.get x = t.exch.pageRev.get x + 2 ∧ (s.refreshPage t x).pageShown x
    else t.pageKept (s.refreshPage t x) x := by
  rcases State.refreshPage_cases s t x with ⟨c, e⟩ | ⟨c, e⟩ <;> rw [e, c]
  · have hrev : (t.rewritePage x).exch.pageRev.get x = t.exch.pageRev.get x + 2 := PerConn.get_set_self _ _ _
    refine ⟨hrev, fun i hi => ?_⟩
    rw [State.readByte_rewritePage_inside t x i hi, hrev, State.pageOf_congr x (t.rewritePage_ports x) (t.rewritePage_barrel x)]
  · exact State.pageKept_refl t x

theorem State.pageShown.of_kept {t u : State} {x : Connector} (h : t.pageShown x) (k : t.pageKept u x)
    (hp : u.ports = t.ports) (hb : u.barrel = t.barrel) : u.pageShown x := by
  intro i hi
  rw [k.2 i hi, h i hi, k.1, State.pageOf_congr x hp hb]

/-- Page rewrites of other connectors before and after the rewrite of one. -/
theorem State.page_of_chain {s u v w : State} {x : Connector} (before : u.pageKept v x) (after : (s.refreshPage v x).pageKept w x)
    (hv : v.ports = u.ports) (hb : v.barrel = u.barrel) (hw : w.ports = u.ports) (hc : w.barrel = u.barrel) :
    if recordChanged s u x then w.exch.pageRev.get x = u.exch.pageRev.get x + 2 ∧ w.pageShown x else u.pageKept w x := by
  have h := State.refreshPage_page s v x
  rw [recordChanged_congr x hv hb] at h
  cases c : recordChanged s u x with
  | true =>
    rw [c] at h
    refine ⟨by rw [after.1, h.1, before.1], h.2.of_kept after ?_ ?_⟩
    · rw [hw, State.refreshPage_ports, hv]
    · rw [hc, State.refreshPage_barrel, hb]
  | false =>
    rw [c] at h
    exact before.trans (h.trans after)

/-- Finish rewrites the pages of the changed records and nothing else (R190). -/
theorem State.finish_withPagesOf (s u : State) : s.withPagesOf u (s.finish u) := by
  refine ⟨?_, State.finish_exch_rest s u, State.readByte_finish_outside s u, ?_⟩
  · exact State.finish_induction (fun t => t.withExch u.exch = u) s u rfl fun t x h => by
      rcases State.refreshPage_cases s t x with ⟨-, e⟩ | ⟨-, e⟩ <;> rw [e]
      · exact h
      · exact h
  · intro x
    have fin : s.finish u = s.refreshPage (s.refreshPage (s.refreshPage (s.refreshPage u (.line .a)) (.line .b)) (.line .c))
      .barrel := rfl
    rw [fin]
    have kept := fun (t : State) (y : Connector) (h : x ≠ y) => State.pageKept_refreshPage s t h
    cases x with
    | line p =>
      cases p with
      | a =>
        exact State.page_of_chain (State.pageKept_refl u _)
          (((kept _ (.line .b) (by decide)).trans (kept _ (.line .c) (by decide))).trans (kept _ .barrel (by decide)))
          rfl rfl (by simp) (by simp)
      | b =>
        exact State.page_of_chain (kept _ (.line .a) (by decide))
          ((kept _ (.line .c) (by decide)).trans (kept _ .barrel (by decide))) (by simp) (by simp) (by simp) (by simp)
      | c =>
        exact State.page_of_chain ((kept _ (.line .a) (by decide)).trans (kept _ (.line .b) (by decide)))
          (kept _ .barrel (by decide)) (by simp) (by simp) (by simp) (by simp)
    | barrel =>
      exact State.page_of_chain
        (((kept _ (.line .a) (by decide)).trans (kept _ (.line .b) (by decide))).trans (kept _ (.line .c) (by decide)))
        (State.pageKept_refl _ _) (by simp) (by simp) (by simp) (by simp)

/-- A command whose answer is the finish of a state leads to that state. -/
theorem leads_of_finish {c : Instr} {s u : State} (h : exec c s = .next (s.finish u)) : leads c s u :=
  ⟨_, h, State.finish_withPagesOf s u⟩

/-- A finish without a changed record is nothing. -/
theorem State.finish_of_unchanged {s u : State} (h : ∀ x, recordChanged s u x = false) : s.finish u = u := by
  have skip : ∀ x, s.refreshPage u x = u := fun x => by simp [State.refreshPage, h x]
  simp [State.finish, connectors, skip]

/-! ### Memory transfers (R176) -/

/-- MEM_READ's word fetches give the bytes themselves. -/
theorem fetchBytes_eq (m : List Host.Cell) (addr : Half) (i n : Nat) :
    fetchBytes m addr i n none = (List.range n).map (fun j => readByte m (spiAddress addr (i + j))) ∧
      (spiAddress addr i % 2 = 1 → fetchBytes m addr i n (some (readByte m (spiAddress addr i))) =
        (List.range n).map fun j => readByte m (spiAddress addr (i + j))) := by
  induction n generalizing i with
  | zero => exact ⟨rfl, fun _ => rfl⟩
  | succ n ih =>
    have shift : ((List.range (n + 1)).map fun j => readByte m (spiAddress addr (i + j))) =
        readByte m (spiAddress addr i) :: (List.range n).map fun j => readByte m (spiAddress addr (i + 1 + j)) := by
      rw [List.range_succ_eq_map]
      simp only [List.map_cons, List.map_map, Nat.add_zero, Function.comp_def, Nat.succ_eq_add_one]
      refine congrArg _ (List.map_congr_left fun j _ => ?_)
      rw [show i + (j + 1) = i + 1 + j by omega]
    rw [shift]
    refine ⟨?_, fun _ => by rw [fetchBytes, (ih (i + 1)).1]⟩
    rw [fetchBytes]
    split
    · rename_i even
      have odd : spiAddress addr i + 1 = spiAddress addr (i + 1) := by
        simp only [spiAddress, Config.memBytes] at even ⊢
        omega
      rw [odd, (ih (i + 1)).2 (by omega)]
    · rw [(ih (i + 1)).1]

/-- Bytes a MEM_WRITE does not store keep their values. -/
theorem readByte_storeBytes_outside (m : List Host.Cell) (addr : Half) (i : Nat) (bs : List Byte) (a : Nat)
    (h : ∀ j, j < bs.length → spiAddress addr (i + j) ≠ a) : readByte (storeBytes m addr i bs) a = readByte m a := by
  induction bs generalizing m i with
  | nil => rfl
  | cons b bs ih =>
    rw [storeBytes, ih]
    · refine readByte_writeBlock_outside _ _ _ _ ?_
      have := h 0 (by simp)
      simp only [List.length_cons, List.length_nil, Nat.add_zero] at this ⊢
      omega
    · intro j hj
      have := h (j + 1) (by simp; omega)
      rwa [show i + 1 + j = i + (j + 1) by omega]

/-! ### Transactions (R176) -/

/-- A byte put below some bits. -/
theorem toNat_append_byte {w : Nat} (x : BitVec w) (n : Nat) : (x ++ byte n).toNat = x.toNat * 256 + n % 256 := by
  rw [BitVec.toNat_append, ← Nat.shiftLeft_add_eq_or_of_lt (byte n).isLt, Nat.shiftLeft_eq]
  simp [byte]

/-- The two address bytes give the address back. -/
theorem address_bytes (a : Half) : (byte (a.toNat / 256) ++ byte a.toNat : Half) = a := by
  apply BitVec.eq_of_toNat_eq
  have := a.isLt
  rw [toNat_append_byte, byte, BitVec.toNat_ofNat]
  omega

/-- The four data bytes of a REG_WRITE give the value back. -/
theorem wordOf_le4 (v : Word) :
    wordOf (byte v.toNat) (byte (v.toNat / 256)) (byte (v.toNat / 65536)) (byte (v.toNat / 65536 / 256)) = v := by
  apply BitVec.eq_of_toNat_eq
  have := v.isLt
  simp only [wordOf, toNat_append_byte]
  simp only [byte, BitVec.toNat_ofNat]
  omega

/-- Each spelled transaction is read as what it spells (10.1). -/
theorem readTransaction_spelled (addr : Half) (n : Nat) (data : List Byte) (reg : Byte) (value : Word) :
    readTransaction (memReadBytes addr n) = .memRead addr ∧
      readTransaction (memWriteBytes addr data) = .memWrite addr data ∧
      readTransaction (regReadBytes reg n) = .regRead reg ∧ readTransaction (regWriteBytes reg value) = .regWrite reg value := by
  refine ⟨?_, ?_, rfl, ?_⟩
  · show Transaction.memRead _ = _
    rw [address_bytes]
  · show Transaction.memWrite _ data = _
    rw [address_bytes]
  · show Transaction.regWrite _ _ = _
    rw [wordOf_le4]

theorem length_fetchBytes (m : List Host.Cell) (addr : Half) (i n : Nat) : (fetchBytes m addr i n none).length = n := by
  rw [(fetchBytes_eq m addr i n).1]
  simp

/-- What a MEM_READ of `n` bytes and a REG_READ leave in `spiOut`, and what a MEM_WRITE and a REG_WRITE do. -/
theorem State.transact_memRead (s : State) (addr : Half) (n : Nat) :
    s.transact (memReadBytes addr n) = s.withExch { s.exch with spiOut := readOut s.exch.mem addr n } := by
  have len : (memReadBytes addr n).length = 4 + n := by simp [memReadBytes]; omega
  simp only [State.transact, State.shiftedOut, (readTransaction_spelled addr n [] 0 0).1, len, Nat.add_sub_cancel_left]
  rw [List.take_of_length_le]
  simp only [readOut, List.length_append, List.length_replicate, length_fetchBytes]
  omega

theorem State.transact_memWrite (s : State) (addr : Half) (data : List Byte) :
    s.transact (memWriteBytes addr data) = s.withExch (s.exch.memWrite addr data s.time) := by
  simp only [State.transact, (readTransaction_spelled addr 0 data 0 0).2.1]

theorem State.transact_regRead (s : State) (reg : Byte) (extra : Nat) :
    s.transact (regReadBytes reg extra) =
      s.withExch { s.exch with
        spiOut := List.replicate 3 0 ++ le4 (s.readRegister reg).toNat ++ List.replicate extra 0 } := by
  have len : (regReadBytes reg extra).length = 7 + extra := by simp [regReadBytes]; omega
  simp only [State.transact, State.shiftedOut, (readTransaction_spelled 0 extra [] reg 0).2.2.1, len,
    Nat.add_sub_cancel_left]
  rw [List.take_of_length_le]
  simp; omega

theorem State.transact_regWrite (s : State) (reg : Byte) (value : Word) :
    s.transact (regWriteBytes reg value) = s.writeRegister reg value := by
  simp only [State.transact, (readTransaction_spelled 0 0 [] reg value).2.2.2]

/-- The SPI commands in one place: a MEM_READ, a MEM_WRITE and the register writes. -/
theorem exec_spi (s : State) :
    (∀ addr n, exec (.memRead addr n) s = .next (s.withExch { s.exch with spiOut := readOut s.exch.mem addr n })) ∧
      (∀ addr data, exec (.memWrite addr data) s = .next (s.withExch (s.exch.memWrite addr data s.time))) ∧
      (∀ v, exec (.attnWrite v) s = .next (s.writeRegister 2 v)) ∧
      (∀ v, exec (.attnMaskWrite v) s = .next (s.writeRegister 3 v)) ∧
      exec .restart s = .next s.restart ∧
      ∀ reg v, exec (.registerWriteIgnored reg v) s = .next (s.writeRegister reg v) :=
  ⟨fun a n => congrArg Host.Outcome.next (s.transact_memRead a n),
    fun a d => congrArg Host.Outcome.next (s.transact_memWrite a d),
    fun v => congrArg Host.Outcome.next (s.transact_regWrite 2 v),
    fun v => congrArg Host.Outcome.next (s.transact_regWrite 3 v),
    (congrArg Host.Outcome.next (s.transact_regWrite 4 1)).trans (by rw [State.writeRegister]; rfl),
    fun r v => congrArg Host.Outcome.next (s.transact_regWrite r v)⟩

/-! ### The journal and completions -/

/-- A submitted record is written or withheld (R187, R189). -/
theorem Exchange.submit_cases (x : Exchange) (t : Word) (k b : Byte) (d : List Byte) :
    (x.unconsumed < 32 ∧ x.submit t k b d = x.putRecord t k b d) ∨ (32 ≤ x.unconsumed ∧ x.submit t k b d = x.withhold) := by
  unfold Exchange.submit
  split
  · exact .inl ⟨‹_›, rfl⟩
  · exact .inr ⟨Nat.le_of_not_lt ‹_›, rfl⟩

/-- The fields of the Exchange Unit a submitted record leaves alone. -/
theorem Exchange.submit_keeps (x : Exchange) (t : Word) (k b : Byte) (d : List Byte) :
    (x.submit t k b d).slots = x.slots ∧ (x.submit t k b d).released = x.released ∧ (x.submit t k b d).mask = x.mask ∧
      (x.submit t k b d).pageRev = x.pageRev ∧ (x.submit t k b d).telemetrySeq = x.telemetrySeq ∧
      (x.submit t k b d).spiOut = x.spiOut := by
  rcases Exchange.submit_cases x t k b d with ⟨-, e⟩ | ⟨-, e⟩ <;> rw [e] <;> exact ⟨rfl, rfl, rfl, rfl, rfl, rfl⟩

/-- A submitted record writes only the write number, the withheld count and the journal. -/
theorem Exchange.readByte_submit_outside (x : Exchange) (t : Word) (k b : Byte) (d : List Byte) (a : Nat)
    (h : a < 0x400 ∨ 0x404 ≤ a ∧ a < 0x410 ∨ 0x610 ≤ a) : readByte (x.submit t k b d).mem a = readByte x.mem a := by
  rcases Exchange.submit_cases x t k b d with ⟨-, e⟩ | ⟨-, e⟩ <;> rw [e]
  · have := recordAddress_bounds (x.written + 1)
    refine (readByte_writeBlock_outside _ _ _ _ ?_).trans (readByte_writeBlock_outside _ _ _ _ ?_)
    · simp only [length_le2, Config.writeNumberAt]
      omega
    · simp only [length_recordBytes]
      omega
  · refine readByte_writeBlock_outside _ _ _ _ ?_
    simp only [length_le2, Config.withheldAt]
    omega

theorem slotAddress_disjoint {j k : Fin 8} (h : j ≠ k) : slotAddress j + 32 ≤ slotAddress k ∨ slotAddress k + 32 ≤ slotAddress j := by
  have : j.val ≠ k.val := fun e => h (Fin.ext e)
  simp only [slotAddress]
  omega

@[simp] theorem Exchange.slot_setSlot_self (x : Exchange) (k : Fin 8) (v : Slot) : (x.setSlot k v).slot k = v := by
  simp [Exchange.slot, Exchange.setSlot]

theorem Exchange.slot_setSlot_of_ne (x : Exchange) {j k : Fin 8} (v : Slot) (h : j ≠ k) :
    (x.setSlot k v).slot j = x.slot j := by
  have : k.val ≠ j.val := fun e => h (Fin.ext e.symm)
  simp [Exchange.slot, Exchange.setSlot, Vector.getElem_set_ne _ _ this]

/-- A completion (R184): the copy becomes DONE, another slot keeps its copy, mark and request. -/
theorem Exchange.slot_complete (x : Exchange) (j k : Fin 8) (c : ResultCode) (d : List Byte) :
    (x.complete k c d).slot j = if j = k then { x.slot k with copy := .done } else x.slot j := by
  by_cases h : j = k
  · subst h
    simp [Exchange.complete, Exchange.slot]
  · rw [if_neg h]
    exact Exchange.slot_setSlot_of_ne x _ h

/-- A completion writes its slot alone. -/
theorem Exchange.readByte_complete_outside (x : Exchange) (k : Fin 8) (c : ResultCode) (d : List Byte) (a : Nat)
    (h : a < slotAddress k ∨ slotAddress k + 32 ≤ a) : readByte (x.complete k c d).mem a = readByte x.mem a := by
  refine (readByte_writeBlock_outside _ _ _ _ ?_).trans ((readByte_writeBlock_outside _ _ _ _ ?_).trans
    (readByte_writeBlock_outside _ _ _ _ ?_))
  · simp only [List.length_cons, List.length_nil]
    omega
  · simp only [length_padTo]
    omega
  · simp only [List.length_append, List.length_cons, List.length_nil, length_le2]
    omega

/-- The state byte after a completion is DONE. -/
theorem Exchange.readByte_complete_state (x : Exchange) (k : Fin 8) (c : ResultCode) (d : List Byte) :
    readByte (x.complete k c d).mem (slotAddress k) = 3 :=
  readByte_writeBlock_inside _ _ [SlotCopy.done.code] 0 (by decide)

/-- The result data after a completion, unused bytes 0 (R184). -/
theorem Exchange.readByte_complete_data (x : Exchange) (k : Fin 8) (c : ResultCode) (d : List Byte) (i : Nat) (h : i < 16) :
    readByte (x.complete k c d).mem (slotAddress k + 16 + i) = (padTo 16 d).getD i 0 := by
  refine (readByte_writeBlock_outside _ _ _ _ ?_).trans (readByte_writeBlock_inside _ _ _ _ ?_)
  · simp only [List.length_cons, List.length_nil]
    omega
  · simpa using h

/-- Kind, port, result code and host tag after a completion (R184). -/
theorem Exchange.readByte_complete_head (x : Exchange) (k : Fin 8) (c : ResultCode) (d : List Byte) (i : Nat) (h : i < 5) :
    readByte (x.complete k c d).mem (slotAddress k + 1 + i) =
      ([(x.slot k).req.kind, (x.slot k).req.port, c.code] ++ le2 (x.slot k).req.tag.toNat).getD i 0 := by
  refine (readByte_writeBlock_outside _ _ _ _ ?_).trans ((readByte_writeBlock_outside _ _ _ _ ?_).trans
    (readByte_writeBlock_inside _ _ _ _ ?_))
  · simp only [List.length_cons, List.length_nil]
    omega
  · simp only [length_padTo]
    omega
  · simpa using h

/-- A port's request in flight of one of some kinds completes; otherwise nothing happens. -/
theorem State.completePort_cases (s : State) (p : LinePort) (kinds : List PortRequestKind) (c : ResultCode) :
    (∃ q, (s.port p).inFlight = some q ∧ kinds.contains q.kind = true ∧
      s.completePort p kinds c =
        (s.setPort p { s.port p with inFlight := none }).complete q.slot c ((s.port p).requestData q.kind)) ∨
    ((∀ q, (s.port p).inFlight = some q → kinds.contains q.kind = false) ∧ s.completePort p kinds c = s) := by
  unfold State.completePort
  cases h : (s.port p).inFlight with
  | none => exact .inr ⟨fun q e => by simp at e, rfl⟩
  | some q =>
    cases k : kinds.contains q.kind with
    | true => exact .inl ⟨q, rfl, k, by simp only [k, if_true]⟩
    | false => exact .inr ⟨fun r e => by cases e; exact k, by simp only [k]; rfl⟩

/-- A PRIMARY in flight with a target completes; otherwise nothing happens. -/
theorem State.completePrimary_cases (s : State) (y : Connector) (c : ResultCode) :
    (∃ q, s.path.inFlight = some q ∧ q.target = y ∧
      s.completePrimary y c = (s.withPath { s.path with inFlight := none }).complete q.slot c s.path.data) ∨
    ((∀ q, s.path.inFlight = some q → q.target ≠ y) ∧ s.completePrimary y c = s) := by
  unfold State.completePrimary
  cases h : s.path.inFlight with
  | none => exact .inr ⟨fun q e => by simp at e, rfl⟩
  | some q =>
    by_cases k : q.target = y
    · exact .inl ⟨q, rfl, k, by simp only [k, if_true]⟩
    · exact .inr ⟨fun r e => by cases e; exact k, by simp only [k, if_false]⟩

/-! ### Evaluations and selections -/

/-- What an evaluation can do to the path (R110). -/
theorem State.evaluatePath_cases (s : State) :
    s.evaluatePath = s ∨
    (s.path.state = .idle ∧ ∃ y, s.freshChoice = some y ∧ s.evaluatePath = s.enterClosing y) ∨
    (∃ x, (s.path.state = .closing x ∨ s.path.state = .closed x) ∧ s.eligible x = false ∧ s.evaluatePath = s.losePath x) ∨
    ∃ x y, s.path.state = .closed x ∧ s.eligible x = true ∧ s.challenger x = some y ∧ s.atRest y = true ∧
      s.evaluatePath = s.openPath x := by
  unfold State.evaluatePath
  cases h : s.path.state with
  | idle =>
    dsimp only
    cases k : s.freshChoice with
    | none => exact .inl rfl
    | some y => exact .inr (.inl ⟨rfl, y, rfl, rfl⟩)
  | closing y =>
    dsimp only
    cases k : s.eligible y with
    | true => exact .inl rfl
    | false => exact .inr (.inr (.inl ⟨y, .inl rfl, k, rfl⟩))
  | closed x =>
    dsimp only
    cases k : s.eligible x with
    | false => exact .inr (.inr (.inl ⟨x, .inr rfl, k, rfl⟩))
    | true =>
      simp only [if_true, State.improve]
      cases c : s.challenger x with
      | none => exact .inl rfl
      | some y =>
        cases r : s.atRest y with
        | false => exact .inl (by simp [r])
        | true => exact .inr (.inr (.inr ⟨x, y, rfl, k, c, r, by simp [r]⟩))
  | opening x => exact .inl rfl

/-- A list's scored leader is one of it, and none beats it. -/
theorem leader_spec (l : List (Connector × Nat)) :
    (leader l = none ↔ l = []) ∧ ∀ c, leader l = some c → c ∈ l ∧ ∀ d ∈ l, d.2 ≤ c.2 := by
  cases l with
  | nil => exact ⟨⟨fun _ => rfl, fun _ => rfl⟩, fun c h => by cases h⟩
  | cons a l =>
    refine ⟨?_, fun c h => ?_⟩
    · simp [leader]
    simp only [leader, Option.some.injEq] at h
    subst h
    induction l generalizing a with
    | nil => simp
    | cons b l ih =>
      simp only [List.foldl_cons]
      split
      · have := ih b
        refine ⟨List.mem_cons_of_mem _ this.1, fun d hd => ?_⟩
        rcases List.mem_cons.1 hd with rfl | hd
        · exact Nat.le_trans (Nat.le_of_lt ‹_›) (this.2 b (List.mem_cons_self ..))
        · exact this.2 d hd
      · have := ih a
        refine ⟨?_, fun d hd => ?_⟩
        · rcases List.mem_cons.1 this.1 with h | h
          · rw [h]
            exact List.mem_cons_self ..
          · exact List.mem_cons_of_mem _ (List.mem_cons_of_mem _ h)
        · rcases List.mem_cons.1 hd with rfl | hd
          · exact this.2 d (List.mem_cons_self ..)
          · rcases List.mem_cons.1 hd with rfl | hd
            · exact Nat.le_trans (Nat.le_of_not_lt ‹_›) (this.2 a (List.mem_cons_self ..))
            · exact this.2 d (List.mem_cons_of_mem _ hd)

/-- A selection writes the scores, recomputes the prospect and touches nothing else (R85, R95). -/
theorem State.select_state (s : State) (p : LinePort) :
    (s.select p).1 = (s.setPort p (rescore s.policy p (s.port p))).recomputeProspect := by
  unfold State.select
  dsimp only
  split <;> rfl

end Sys2Proof.Machine
end

