-- ==== Sys2Proof/Tests/Slice0.lean ====
section
/-! SUPPORT. Tests: ill-formed commands are refused, the manual's worked figures come out, and every statement's
hypotheses are met by a concrete state (each clause, at a boundary value where it has a range). -/

namespace Sys2Proof.Tests

open Sys2Proof Sys2Proof.Machine

/-! ### Well-formedness -/

def post (k : Fin 8) (port : Byte) : Posting := ⟨k, port, 0x0041⟩

theorem test_wf_ignored_register : (Instr.registerWriteIgnored 2 0).wellFormed = false ∧
    (Instr.registerWriteIgnored 3 0).wellFormed = false ∧ (Instr.registerWriteIgnored 4 1).wellFormed = false ∧
    (Instr.registerWriteIgnored 4 2).wellFormed = true ∧ (Instr.registerWriteIgnored 1 0).wellFormed = true ∧
    (Instr.registerWriteIgnored 5 1).wellFormed = true := by decide

theorem test_wf_line_port_bytes : (Instr.pin (post 0 3) 1 0 0).wellFormed = false ∧
    (Instr.unpin (post 0 3)).wellFormed = false ∧ (Instr.hold (post 0 3)).wellFormed = false ∧
    (Instr.resume (post 0 3)).wellFormed = false ∧ (Instr.hold (post 0 2)).wellFormed = true := by decide

theorem test_wf_connector_bytes : (Instr.refresh (post 0 4)).wellFormed = false ∧
    (Instr.release (post 0 4)).wellFormed = false ∧ (Instr.primary (post 0 4)).wellFormed = false ∧
    (Instr.primary (post 0 0xFF)).wellFormed = true ∧ (Instr.release (post 0 3)).wellFormed = true := by decide

/-- The table gives no row bits, so no word spells a command. -/
theorem test_no_word_spells_a_command : decodeTableWord 8 0 = none ∧ State.reset.withFetchWord 8 0 = State.reset :=
  ⟨rfl, rfl⟩

/-! ### States the tests use -/

/-- The state after a command. -/
def after (c : Instr) (s : State) : Option State :=
  match exec c s with
  | .next t => some t
  | _ => none

/-- A record of an attached line port. -/
def inState (k : PortState) : PortRecord := { PortRecord.cleared with state := k, live := some Contract.base }

/-- Port A attached, with a record. -/
def withA (r : PortRecord) : State :=
  (State.reset.setPort .a r).setTracker (.line .a) ⟨.attached, none, none⟩

/-- Engine 0 leased to port A. -/
def leased (s : State) (g : EngineState) (c : LineCondition) : State :=
  (s.setEngine .e0 { Engine.freed with state := g, lease := some ⟨.a, .hail⟩ }).setLine .a { Line.cleared with cond := c }

/-- Engine 0 with gathered bytes. -/
def gathered (s : State) (rx : List Byte) : State := s.setEngine .e0 { s.engine .e0 with rx := rx }

/-- The path in a state. -/
def onPath (s : State) (k : PathState) : State := s.withPath { s.path with state := k }

def barrelIn (k : BarrelState) (live : Option Contract) : State :=
  (State.reset.withBarrel { Barrel.cleared with state := k, live := live }).setTracker .barrel ⟨.attached, none, none⟩

def adapter : Contract := ⟨.negotiated, some 1, 20000, 2250, 100, false, false⟩

def fixed20 : Level := ⟨.fixed, false, 20000, 20000, 2250, true, 0⟩

def oneLevel : Image := ⟨.adapter, 7, 0, [fixed20]⟩

/-- A slot with nothing in flight and no mark is ready (reset's slots are so). -/
theorem ready_of (s : State) (k : Fin 8) (he : s.exch = State.reset.exch) (ha : s.ports.a.inFlight = none)
    (hb : s.ports.b.inFlight = none) (hc : s.ports.c.inFlight = none) (hd : s.barrel.inFlight = none)
    (hp : s.path.inFlight = none) (hm : s.meas.singles = []) : s.slotReady k := by
  have hs : ∀ j : Fin 8, (s.exch.slot j).copy = .free ∧ (s.exch.slot j).mark = false := by
    rw [he]; decide
  refine ⟨(hs k).1, fun j _ => (hs j).2, ?_, by simp [hd], by simp [hp], by simp [hm]⟩
  intro p q h
  cases p <;> simp_all [State.port, PerPort.get]

/-- No request in flight holds a slot. -/
theorem unheld_of (s : State) (k : Fin 8) (ha : s.ports.a.inFlight = none) (hb : s.ports.b.inFlight = none)
    (hc : s.ports.c.inFlight = none) (hd : s.barrel.inFlight = none) (hp : s.path.inFlight = none)
    (hm : s.meas.singles = []) : s.unheld k := by
  refine ⟨?_, by simp [hd], by simp [hp], by simp [hm]⟩
  intro p q h
  cases p <;> simp_all [State.port, PerPort.get]

/-! ### The manual's figures -/

/-- 2.3, the ASK with tag 0: the register after the header is 0x15, and the frame is 0x10, 0x00, 0x3D. -/
theorem test_crc_of_ask : crc [0x10] = 0x15 ∧ frameBytes .ask 0 = [0x10, 0x00, 0x3D] := by decide +kernel

/-- R16: a data byte ends high, a delimiter low. -/
theorem test_symbols : readSymbol (middleBits 0x3A) true = .data 0x3A ∧ readSymbol (middleBits 0x3A) false = .endDelimiter ∧
    readSymbol (middleBits 0xC5) false = .startDelimiter ∧ readSymbol (middleBits 0) false = .invalid := by decide

/-- 5.7: the five-level dock tender under VIN 5000 to 20000, PATHMAX 5000, CEILING_MW 60000, SHARED_WEIGHT 224. -/
def dockLevels : List Level :=
  [⟨.fixed, false, 5000, 5000, 3000, true, 0⟩, ⟨.fixed, false, 9000, 9000, 3000, true, 0⟩,
   ⟨.fixed, false, 15000, 15000, 3000, true, 0⟩, ⟨.fixed, true, 20000, 20000, 3250, true, 0⟩,
   ⟨.span, false, 5000, 21000, 3000, true, 0⟩]

def dockPolicy : Policy := { Policy.initial with ceiling := 60000 }

theorem test_dock_scores :
    dockLevels.map (levelScore dockPolicy (.line .c)) = [15000, 27000, 45000, 52500, 60000] := by decide

theorem test_dock_claim : composeClaim dockPolicy .c true ⟨.dock, 0, 0, dockLevels⟩ none =
    some ⟨5, 20000, 3000, 3000, false⟩ := by decide

/-- 8.4: the regulator's worked cases. -/
def gains : Policy := { Policy.initial with satLo := 0, satHi := 9500 }

theorem test_pi_step : ({ State.reset.reg with spf := 646, iacc := 256000 }.piStep gains 600).output = 1103 ∧
    ({ State.reset.reg with spf := 646, iacc := 256000 }.piStep gains 600).iacc = 258944 := by decide

theorem test_pi_step_negative : ({ State.reset.reg with spf := 0, iacc := 25600 }.piStep gains 300).iacc = 6400 ∧
    ({ State.reset.reg with spf := 0, iacc := 25600 }.piStep gains 300).output = 0 := by decide

/-- 8.3: the filter from 500 toward 2847. -/
theorem test_filter : advanceFilter Policy.initial 500 2847 = 646 ∧ advanceFilter Policy.initial 646 2847 = 783 ∧
    advanceFilter Policy.initial 783 2847 = 912 ∧ advanceFilter Policy.initial 912 2847 = 1032 := by decide

/-- R149: the ramp from 1103 toward 800 closes its last difference of 3 whole. -/
theorem test_ramp : rampOutput 50 1103 800 = 1053 ∧ rampOutput 50 803 800 = 800 ∧ rampOutput 50 800 800 = 800 := by decide

/-- R131, the table of DEAD_MV 9000. -/
theorem test_dead_flag : deadAfter 9000 false 6200 = true ∧ deadAfter 9000 true 9200 = true ∧
    deadAfter 9000 true 9499 = true ∧ deadAfter 9000 true 9500 = false ∧ deadAfter 9000 false 9100 = false ∧
    deadAfter 9000 false 8999 = true ∧ deadAfter 0 true 0 = false := by decide

/-- R182's table, and a state byte that no copy has. -/
theorem test_examination_table : examined .free 1 = .take ∧ examined .free 0 = .nothing ∧ examined .taken 2 = .nothing ∧
    examined .done 3 = .nothing ∧ examined .done 0 = .giveBack ∧ examined .taken 0 = .misuse ∧ examined .done 1 = .misuse ∧
    examined .free 9 = .misuse := by decide

/-- 9.4.1 and 9.4.2: clamping and the refusal. -/
theorem test_clamped_fields :
    (Proposal.mk { Policy.initial with vinMin := 4500, ceiling := 60000, droopPct := 40, deadMv := 1200, ids := [] } 3
      [⟨300, 700, 2250⟩, ⟨900, 3500, 3250⟩, ⟨1500, 1900, 4500⟩, ⟨0, 0, 0⟩, ⟨4000, 100, 9999⟩]).clampedFields =
      [1, 13, 19, 32] := by decide

theorem test_refused_draft :
    (Proposal.mk { Policy.initial with satLo := 12000 } 9 []).contradiction = some (24, .order) ∧
    (Proposal.mk { Policy.initial with satLo := 12000 } 9 []).clampedFields = [23] ∧
    (Proposal.mk { Policy.initial with satLo := 500 } 9 []).contradiction = some (30, .count) := by decide

/-- R179 and 10.3: the draft and the pages that stand in memory at power-on are those of the power-on records. -/
theorem test_reset_draft :
    ((List.range 100).map fun i => readByte State.reset.exch.mem i) = draftBytes State.reset.policy := by decide

theorem test_reset_pages : connectors.all (fun x => decide
    (((List.range 126).map fun i => readByte State.reset.exch.mem (pageAddress x + 2 + i)) = State.reset.pageOf x)) = true ∧
    ((List.range 126).map fun i => readByte State.reset.exch.mem (0x382 + i)) = State.reset.telemetryPage := by
  decide +kernel

/-- R177: IDENT reads 0x54, 0x48, 0x01, 0x00; STATUS after reset shows no connector. -/
theorem test_registers : State.reset.readRegister 0 = 0x00014854 ∧ State.reset.readRegister 1 = 0xFFFF0000 ∧
    State.reset.readRegister 2 = 0x40 ∧ State.reset.readRegister 4 = 0 := by decide

/-- R18: three pulses 100 µs apart are a hail, and engine 0 heeds it. -/
theorem test_hail : (((after (.hailPulse .a 100) (withA (inState .base))).bind (after (.hailPulse .a 200))).bind
    (after (.hailPulse .a 300))).map (fun t => (t.engines.e0.state, (t.line .a).hail)) = some (.heeding, true) := by
  decide

/-- R129, 7.4.1: the third low sample in a row faults a BOUND standby with DROOP. -/
theorem test_droop : (after (.voltageCompletion (.line .a) 13000)
    ((withA { inState .bound with live := some adapter }).withMeas { State.reset.meas with droop := ⟨2, 0, 0, 0⟩ })).map
      (fun t => ((t.port .a).state, (t.port .a).cause, t.meas.droop.a)) = some (.faulted, some .droop, 0) := by
  decide

/-! ### Hypotheses that can be met -/

theorem test_hyp_step : (State.reset.withPending [.restart, .slotExamination]).pending = .restart :: [.slotExamination] ∧
    State.reset.pending = [] := ⟨rfl, rfl⟩

/-- Port A attached in BASE, a pulse waiting. -/
def attachedA : State := ((withA (inState .base)).withProspect (some (.line .a))).withPending [.hailPulse .a 100]

theorem test_hyp_every_step : (∃ t, step attachedA = .next t) ∧ ∃ t, exec (.hailPulse .a 100) attachedA = .next t :=
  ⟨⟨_, rfl⟩, ⟨_, rfl⟩⟩

theorem test_hyp_exchange : attachedA.memoryOk ∧ attachedA.journalOk :=
  ⟨by unfold State.memoryOk; decide, by unfold State.journalOk; decide⟩

theorem test_hyp_switches : attachedA.switchesOk := by
  intro x
  cases x with
  | line p => cases p <;> rfl
  | barrel => rfl

theorem test_hyp_policy : attachedA.policy.inForce := by
  refine ⟨by decide, by decide, by decide, by decide, by decide, ?_⟩
  decide

theorem test_hyp_regulator : attachedA.regulatorOk ∧ attachedA.openPathOk := by
  refine ⟨⟨by decide, ⟨by decide, ?_⟩⟩, fun _ => ⟨fun _ => by decide, by decide, by decide⟩⟩
  exact ⟨by decide, by decide, by decide, by decide⟩

theorem test_hyp_records : attachedA.recordsOk := by
  refine ⟨fun p => ?_, ?_⟩
  · cases p
    · exact ⟨(by decide : PortState.base ≠ .empty ∧ PortState.base ≠ .settling), by decide, by decide,
        (by decide : PortState.base ≠ .shifting), by decide, by decide⟩
    · exact ⟨rfl, by decide, by decide, (by decide : PortState.empty ≠ .shifting), by decide, by decide⟩
    · exact ⟨rfl, by decide, by decide, (by decide : PortState.empty ≠ .shifting), by decide, by decide⟩
  · exact ⟨rfl, by decide, by decide⟩

theorem test_hyp_derived_figures : attachedA.prospectOk ∧ attachedA.budgetOk := by
  refine ⟨?_, ?_⟩
  · unfold State.prospectOk
    decide
  · unfold State.budgetOk
    decide

theorem test_hyp_engines : State.enginesOk (leased (withA (inState .base)) .receiving .receiving) := by
  refine ⟨?_, ?_, ?_, ?_, ?_⟩
  · intro e
    cases e <;> decide
  · intro l m _ h
    cases h
  · decide
  · intro p h
    cases p <;> cases h
  · intro p h
    cases p
    · rfl
    · rcases h with h | h <;> cases h
    · rcases h with h | h <;> cases h

/-- A receives on engine 0 and C sends on engine 1, B waits with a class. -/
def waiting (k : LeaseKind) (l : Line) (slot : Option OutFrame) : State :=
  let s := leased (withA (inState .base)) .receiving .receiving
  let s := (s.setEngine .e1 { Engine.freed with state := .sending, lease := some ⟨.c, .send⟩ }).setLine .c
    { Line.cleared with cond := .sending }
  let s := ((s.setTracker (.line .b) ⟨.attached, none, none⟩).setTracker (.line .c) ⟨.attached, none, none⟩).setLine .b l
  (s.setPort .b { inState .base with slot := slot, tagCounter := 6 }).withQueue [⟨.b, k⟩]

def hailed : Line := { Line.cleared with cond := .hailed, hail := true }

theorem test_hyp_served : State.enginesOk (waiting .hail hailed (some .ask)) ∧
    State.enginesServed (waiting .hail hailed (some .ask)) ∧ (waiting .hail hailed (some .ask)).queue ≠ [] := by
  refine ⟨⟨?_, ?_, by decide, ?_, ?_⟩, ⟨?_, ?_, by decide, ?_, ?_⟩, by decide⟩
  · intro e
    cases e <;> decide
  · intro l m hl hm
    cases hl
    cases hm
    decide
  · intro p h
    cases p <;> first | rfl | cases h
  · intro p _
    cases p <;> rfl
  · intro _ e
    cases e <;> decide
  · intro p _ h
    cases p
    · exact .inr rfl
    · exact .inl rfl
    · exact .inr rfl
  · intro e l hl
    cases e <;> cases hl <;> rfl
  · intro p
    cases p
    · refine ⟨by decide, by decide, ?_⟩
      rintro (h | ⟨e, -, h⟩)
      · exact absurd h (by decide)
      · cases e <;> exact absurd h (by decide)
    · exact ⟨by decide, by decide, by decide⟩
    · refine ⟨by decide, by decide, ?_⟩
      rintro (h | ⟨e, -, h⟩)
      · exact absurd h (by decide)
      · cases e <;> exact absurd h (by decide)

theorem test_hyp_changed_records :
    (after (.presenceAsserted (.line .a)) State.reset).map (fun t => recordChanged State.reset t (.line .a)) = some true := by
  decide

theorem test_hyp_frames : examines .softStartExpiry = false ∧ eventOnly .softStartExpiry = true ∧
    routed (.hold (post 7 0)) = some (post 7 0) ∧ State.reset.slotReady 7 :=
  ⟨rfl, rfl, rfl, ready_of _ _ rfl rfl rfl rfl rfl rfl rfl⟩

/-! Presence -/

theorem test_hyp_presence_asserted :
    (State.reset.policy.enabled (.line .a) = true ∧ (State.reset.tracker (.line .a)).state = .empty) ∧
    (State.reset.policy.enabled .barrel = true ∧ (State.reset.tracker .barrel).state = .empty) ∧
    ((withA (inState .base)).policy.enabled (.line .a) = true ∧
      ((withA (inState .base)).tracker (.line .a)).state = .attached) ∧
    (State.reset.withPolicy { Policy.initial with portEnable := 7 }).policy.enabled .barrel = false ∧
    ((State.reset.startSettling .barrel).tracker .barrel).state = .settling := by decide

theorem test_hyp_presence_removed :
    ((State.reset.startSettling .barrel).policy.enabled .barrel = true ∧
      ((State.reset.startSettling .barrel).tracker .barrel).state = .settling) ∧
    ((State.reset.startSettling (.line .a)).policy.enabled (.line .a) = true ∧
      ((State.reset.startSettling (.line .a)).tracker (.line .a)).state = .settling) ∧
    ((withA (inState .base)).policy.enabled (.line .a) = true ∧
      ((withA (inState .base)).tracker (.line .a)).state = .attached) ∧
    (State.reset.tracker .barrel).state = .empty := by decide

theorem test_hyp_attach :
    (let s := State.reset.startSettling (.line .a);
      (s.tracker (.line .a)).state = .settling ∧ (s.tracker (.line .a)).attachInterval = some 20) ∧
    (let s := State.reset.startSettling .barrel;
      (s.tracker .barrel).state = .settling ∧ (s.tracker .barrel).attachInterval = some 20) := by decide

/-- An ASK put into the slot: engines FREE at the wrap of the tag counter, engine 1 alone FREE, none FREE, an entry and an
engine of the port's own, and a line in STRAY. -/
theorem test_hyp_puts :
    let busy := fun p => { Engine.freed with state := .sending, lease := some ⟨p, .send⟩ }
    let s := withA { inState .asking with timer := .tenderWait, askAttempts := 2, tagCounter := 6 }
    let one := s.withEngines ⟨busy .b, Engine.freed⟩
    let full := s.withEngines ⟨busy .b, busy .c⟩
    let stray := s.setLine .a { Line.cleared with cond := .stray }
    (s.attached (.line .a) = true ∧ s.engineOf .a = none ∧ s.queued .a = false ∧ s.line .a = Line.cleared ∧
      s.engines.e0.state = .free ∧ (s.port .a).tagCounter = 6) ∧
    (one.engineOf .a = none ∧ one.engines.e0.state ≠ .free ∧ one.engines.e1.state = .free) ∧
    (full.engineOf .a = none ∧ full.queued .a = false ∧ full.engines.e0.state ≠ .free ∧ full.engines.e1.state ≠ .free) ∧
    (⟨.a, .hail⟩ ∈ (full.withQueue [⟨.a, .hail⟩]).queue ∧ (full.withQueue [⟨.a, .hail⟩]).engineOf .a = none) ∧
    ((s.withEngines ⟨busy .a, Engine.freed⟩).engineOf .a = some .e0 ∧ (busy .a).state ≠ .free) ∧
    (stray.line .a).cond = .stray ∧ (stray.line .a).hail = false := by decide

/-- The first ASK after the attach goes out under tag 0 on engine 0, its bytes those that 2.3 works out. -/
theorem test_attach_sends_ask :
    (after (.attachIntervalExpiry (.line .a)) (State.reset.startSettling (.line .a))).map
      (fun t => (t.engines.e0, (t.port .a).tagCounter, (t.line .a).cond, (t.port .a).slot)) =
    some (⟨.sending, some ⟨.a, .send⟩, false, [], some ⟨.ask, 0, [0x10, 0x00, 0x3D]⟩⟩, 1, .sending, none) := by
  decide +kernel

theorem test_hyp_detach : State.enginesOk (State.reset.setTracker (.line .a) ⟨.attached, none, some 10⟩) ∧
    (State.reset.setTracker (.line .a) ⟨.attached, none, some 10⟩).tracker (.line .a) = ⟨.attached, none, some 10⟩ ∧
    (State.reset.setTracker .barrel ⟨.attached, none, some 10⟩).tracker .barrel = ⟨.attached, none, some 10⟩ := by
  refine ⟨⟨?_, ?_, ?_, ?_, ?_⟩, rfl, rfl⟩
  · intro e
    cases e <;> decide
  · intro l m h
    cases h
  · decide
  · intro p h
    cases p <;> cases h
  · intro p h
    cases p <;> rcases h with h | h <;> cases h

/-- A, a DETACH due, holds engine 0 while B waits. -/
theorem test_hyp_detach_gives_engine :
    let s := fun l f => (waiting .hail l f).setTracker (.line .a) ⟨.attached, none, some 10⟩
    (s hailed none).engineOf .a = some .e0 ∧ (s hailed none).queue = [⟨.b, .hail⟩] ∧ ((s hailed none).line .b).hail = true ∧
      ((s Line.cleared (some .ask)).line .b).hail = false ∧ ((s Line.cleared (some .ask)).port .b).slot = some .ask ∧
      ((s Line.cleared (some .ask)).line .b).cond = .idle ∧ ((s hailed none).tracker (.line .a)).detachInterval = some 10 ∧
      (s hailed none).attached (.line .b) = true := by decide

/-- A, a DETACH due, is the path connector, CLOSED, and the target of a PRIMARY. -/
def leavingA : State :=
  let s := (State.reset.setPort .a (inState .bound)).setTracker (.line .a) ⟨.attached, none, some 10⟩
  s.withPath { s.path with state := .closed (.line .a), inFlight := some ⟨.line .a, 7⟩ }

theorem test_hyp_detach_of_primary : State.enginesOk leavingA ∧ leavingA.tracker (.line .a) = ⟨.attached, none, some 10⟩ ∧
    leavingA.eligible (.line .a) = true ∧ leavingA.path.state = .closed (.line .a) ∧
    leavingA.path.state ≠ .opening (.line .a) ∧ leavingA.solePrimary ⟨.line .a, 7⟩ := by
  refine ⟨⟨?_, ?_, ?_, ?_, ?_⟩, rfl, by decide, rfl, by decide, rfl, unheld_of _ _ rfl rfl rfl rfl rfl rfl⟩
  · intro e
    cases e <;> decide
  · intro l m h
    cases h
  · decide
  · intro p h
    cases p <;> cases h
  · intro p h
    cases p <;> rcases h with h | h <;> cases h

/-- D BOUND on 19.4 V, with the path in a state. -/
def boundD (k : PathState) : State := onPath (barrelIn .bound (some (Contract.ofBarrel 19400 4500))) k

theorem test_hyp_detach_of_d :
    let s := (boundD (.closing .barrel)).setTracker .barrel ⟨.attached, none, some 10⟩
    let u := s.withPath { s.path with inFlight := some ⟨.barrel, 7⟩ }
    (s.tracker .barrel = ⟨.attached, none, some 10⟩ ∧ s.eligible .barrel = true ∧ s.path.state = .closing .barrel) ∧
    u.solePrimary ⟨.barrel, 7⟩ ∧ u.eligible .barrel = true ∧ u.path.state ≠ .opening .barrel :=
  ⟨by decide, ⟨rfl, unheld_of _ _ rfl rfl rfl rfl rfl rfl⟩, by decide, by decide⟩

/-! Measurement and regulator -/

/-- The path CLOSED on A's 20 V contract, with a regulator. -/
def drawing (r : Regulator) : State :=
  (onPath (withA { inState .bound with live := some adapter }) (.closed (.line .a))).withReg r

theorem test_hyp_outside : State.reset.pathClosed = false ∧
    (drawing { State.reset.reg with mode := .off }).pathClosed = true ∧
    (drawing { State.reset.reg with mode := .off }).reg.mode = .off := by decide

/-- 2250 × 110 / 100 = 2475: a sample of 2475 is not above the threshold, one of 2476 is. -/
theorem test_hyp_auto : (drawing State.reset.reg).path.state = .closed (.line .a) ∧
    (drawing State.reset.reg).live (.line .a) = some adapter ∧ (drawing State.reset.reg).reg.mode = .auto ∧
    (drawing State.reset.reg).reg.transfer = false ∧ ¬ adapter.limit * Policy.initial.overdrawPct / 100 < 2475 ∧
    adapter.limit * Policy.initial.overdrawPct / 100 < 2476 ∧ (drawing State.reset.reg).reg.overdraw + 1 < 10 := by decide

theorem test_hyp_transfer :
    let s := drawing { State.reset.reg with transfer := true, output := 1000, spf := 600, spTarget := 600 }
    s.reg.transfer = true ∧ s.reg.inRange s.policy ∧ s.policy.satLo ≤ s.policy.satHi ∧
      600 ≤ adapter.limit * s.policy.overdrawPct / 100 ∧ (s.policy.satLo : Int) * 256 ≤ 256000 ∧
      (256000 : Int) ≤ s.policy.satHi * 256 ∧ (s.reg.output : Int) * 256 - s.policy.kp * ((600 : Int) - 600) = 256000 :=
  ⟨rfl, ⟨by decide, by decide, by decide, by decide, by decide⟩, by decide, by decide, by decide, by decide, by decide⟩

theorem test_hyp_manual : (drawing { State.reset.reg with mode := .manual, manualTarget := 9500 }).reg.mode = .manual ∧
    (drawing { State.reset.reg with mode := .manual, manualTarget := 9500 }).reg.inRange Policy.initial :=
  ⟨rfl, by decide, by decide, by decide, by decide, by decide⟩

theorem test_hyp_overdraw : (drawing { State.reset.reg with overdraw := 9 }).reg.overdraw = 9 ∧
    (drawing { State.reset.reg with overdraw := 9 }).reg.mode ≠ .off ∧
    adapter.limit * Policy.initial.overdrawPct / 100 < 2476 := by decide

/-- With 31 records unconsumed one more is written, with 32 it is withheld. -/
theorem test_hyp_overdraw_journal :
    let s := fun n => (drawing { State.reset.reg with overdraw := 9 }).withExch { State.reset.exch with written := n }
    (s 31).exch.unconsumed < 32 ∧ 32 ≤ (s 32).exch.unconsumed ∧ (s 32).reg.overdraw = 9 ∧ (s 31).reg.mode ≠ .off ∧
      (s 31).live (.line .a) = some adapter ∧ (s 32).path.state = .closed (.line .a) := by decide

/-- 20000 × 80 / 100 = 16000: 16000 is not below the threshold, 15999 is; with DROOP_COUNT 3 a count of 1 rises and a count
of 2 reports. -/
theorem test_hyp_voltage :
    let s := (withA { inState .bound with live := some adapter }).withMeas { State.reset.meas with droop := ⟨1, 0, 0, 0⟩ };
    ((onPath s (.closing .barrel)).path.state = .closing .barrel ∧ (onPath s (.closing .barrel)).path.checkDeferred = false) ∧
    (s.path.state ≠ .closing (.line .a) ∧
      ∀ k, s.live (.line .a) = some k → ¬ min 25500 (16000 : Int).toNat < k.volts * s.policy.droopPct / 100) ∧
    (s.live (.line .a) = some adapter ∧ s.path.state ≠ .closing (.line .a) ∧ (s.port .a).state = .bound ∧
      (s.port .a).lapsing = none ∧ min 25500 (15999 : Int).toNat < adapter.volts * s.policy.droopPct / 100 ∧
      s.meas.droop.get (.line .a) + 1 < s.policy.droopCount) :=
  ⟨by decide, ⟨by decide, fun k h => by cases h; decide⟩, by decide⟩

theorem test_hyp_voltage_outside_the_check :
    ((withA { inState .shifting with live := some adapter }).port .a).state = .shifting ∧
    ((withA { inState .bound with live := some adapter, lapsing := some .live }).port .a).lapsing ≠ none := by decide

theorem test_hyp_voltage_of_d :
    let s := barrelIn .bound (some (Contract.ofBarrel 19400 4500))
    s.live .barrel = some (Contract.ofBarrel 19400 4500) ∧ s.path.state ≠ .closing .barrel ∧ s.barrel.state = .bound ∧
      min 25500 (15519 : Int).toNat < 19400 * s.policy.droopPct / 100 ∧ s.meas.droop.get .barrel + 1 < s.policy.droopCount := by
  decide

theorem test_hyp_droop :
    let s := (withA { inState .bound with live := some adapter }).withMeas { State.reset.meas with droop := ⟨2, 0, 0, 0⟩ }
    let d := (barrelIn .bound (some (Contract.ofBarrel 19400 4500))).withMeas { State.reset.meas with droop := ⟨0, 0, 0, 2⟩ };
    (s.live (.line .a) = some adapter ∧ s.path.state ≠ .closing (.line .a) ∧ (s.port .a).state = .bound ∧
      (s.port .a).lapsing = none ∧ min 25500 (15999 : Int).toNat < adapter.volts * s.policy.droopPct / 100 ∧
      s.policy.droopCount ≤ s.meas.droop.get (.line .a) + 1) ∧
    (d.barrel.live = some (Contract.ofBarrel 19400 4500) ∧ d.path.state ≠ .closing .barrel ∧ d.barrel.state = .bound ∧
      min 25500 (15519 : Int).toNat < 19400 * d.policy.droopPct / 100 ∧ d.policy.droopCount ≤ d.meas.droop.get .barrel + 1) := by
  decide

/-- The same low sample with the path CLOSED on the connector, and on a FAULTED port. -/
theorem test_hyp_droop_of_primary :
    let s := (drawing State.reset.reg).withMeas { State.reset.meas with droop := ⟨2, 0, 0, 0⟩ }
    let d := (boundD (.closed .barrel)).withMeas { State.reset.meas with droop := ⟨0, 0, 0, 2⟩ }
    let f := (withA (inState .faulted)).withMeas { State.reset.meas with droop := ⟨2, 0, 0, 0⟩ };
    (s.live (.line .a) = some adapter ∧ s.path.state = .closed (.line .a) ∧ s.eligible (.line .a) = true ∧
      (s.port .a).state = .bound ∧ (s.port .a).lapsing = none ∧ (15999 : Nat) < adapter.volts * s.policy.droopPct / 100 ∧
      s.policy.droopCount ≤ s.meas.droop.get (.line .a) + 1) ∧
    (d.barrel.live = some (Contract.ofBarrel 19400 4500) ∧ d.path.state = .closed .barrel ∧ d.eligible .barrel = true ∧
      d.barrel.state = .bound ∧ d.policy.droopCount ≤ d.meas.droop.get .barrel + 1) ∧
    (f.prospect = f.findProspect ∧ (f.port .a).state = .faulted ∧ f.live (.line .a) = some Contract.base ∧
      f.path.state ≠ .closing (.line .a) ∧ (f.port .a).lapsing = none ∧ f.exch.unconsumed < 32 ∧
      (3999 : Nat) < Contract.base.volts * f.policy.droopPct / 100 ∧
      f.policy.droopCount ≤ f.meas.droop.get (.line .a) + 1) := by decide

theorem test_hyp_vbat_changes : decide (State.reset.policy.deadMv ≠ 0 ∧ 8999 < State.reset.policy.deadMv) ≠
    State.reset.meas.dead := by decide

theorem test_hyp_vbat : decide (State.reset.policy.deadMv ≠ 0 ∧ 9000 < State.reset.policy.deadMv) = State.reset.meas.dead := by
  decide

theorem test_hyp_idd : State.reset.meas.singlePending = false ∧ State.reset.barrel.state ≠ .identifying ∧
    (barrelIn .identifying none).barrel.state = .identifying ∧ (barrelIn .identifying none).barrel.count < 7 ∧
    (barrelIn .identifying none).prospect = (barrelIn .identifying none).findProspect := by decide

/-- Two SINGLE wait in slots 0 and 7, and none in slot 1. -/
theorem test_hyp_single :
    let s := State.reset.withMeas { State.reset.meas with singlePending := true, singles := [0, 7] }
    s.meas.singlePending = true ∧ (0 : Fin 8) ∈ s.meas.singles ∧ (7 : Fin 8) ∈ s.meas.singles ∧
      (1 : Fin 8) ∉ s.meas.singles := by decide

/-- The eighth sample with a REFRESH in flight on D; VIN_MIN is 5000, and 4999 mV round down to 4900. -/
theorem test_hyp_eighth_sample :
    let b := (barrelIn .identifying none).barrel
    let s := (barrelIn .identifying none).withBarrel { b with count := 7, sum := 3500, inFlight := some 7 }
    (s.barrel.state = .identifying ∧ s.barrel.count = 7 ∧ (s.barrel.sum + min 3300 500) / 8 = 500 ∧
      s.barrel.inFlight = some 7 ∧ s.policy.vinMin = 5000 - 5000 % 100 ∧ 4999 - 4999 % 100 < s.policy.vinMin) ∧
    (s.withBarrel { s.barrel with inFlight := none }).unheld 7 :=
  ⟨by decide, unheld_of _ _ rfl rfl rfl rfl rfl rfl⟩

theorem test_hyp_period : (State.reset.withMeas { State.reset.meas with periodTimer := some 10 }).meas.periodTimer = some 10 := rfl

/-! The terms line -/

theorem test_hyp_hail_pulse :
    let s := withA (inState .base)
    let seen := fun n => s.setLine .a { Line.cleared with lastPulse := some 0, pulses := n }
    s.attached (.line .a) = true ∧ (s.line .a).cond = .idle ∧ (s.line .a).lastPulse ≠ some (100 - 100) ∧
      ((seen 1).line .a).lastPulse = some (100 - 100) ∧ ((seen 1).line .a).pulses = 1 ∧ ((seen 2).line .a).pulses = 2 ∧
      (seen 2).queued .a = false ∧ (seen 2).engineOf .a = none ∧ (seen 2).engines.e0.state = .free := by decide

theorem test_hyp_hail_queued :
    let s := (withA (inState .base)).withEngines
      ⟨{ Engine.freed with state := .heeding, lease := some ⟨.b, .hail⟩ },
       { Engine.freed with state := .heeding, lease := some ⟨.c, .hail⟩ }⟩
    s.queued .a = false ∧ s.engineOf .a = none ∧ s.engines.e0.state ≠ .free ∧ s.engines.e1.state ≠ .free := by decide

/-- Engine 0 busy and engine 1 FREE; a SEND entry, a HAIL entry, and an engine of the port's own. -/
theorem test_hyp_hail_places :
    let busy : Engine := { Engine.freed with state := .heeding, lease := some ⟨.b, .hail⟩ }
    let s := withA (inState .base)
    let one := s.withEngines ⟨busy, Engine.freed⟩
    let queue := fun k => s.withQueue [⟨.b, .hail⟩, ⟨.c, .send⟩, ⟨.a, k⟩]
    (one.queued .a = false ∧ one.engineOf .a = none ∧ one.engines.e0.state ≠ .free ∧ one.engines.e1.state = .free) ∧
    (⟨.a, .send⟩ ∈ (queue .send).queue ∧ ((queue .send).queue.map QueueEntry.port).Nodup) ∧
    (⟨.a, .hail⟩ ∈ (queue .hail).queue ∧ ((queue .hail).queue.map QueueEntry.port).Nodup) ∧
    (leased s .waitLine .idle).queued .a = false ∧ (leased s .waitLine .idle).engineOf .a ≠ none := by decide

/-- A pulse on a wire that is not attached, in HAILED, SENDING, HEEDED, RECEIVING and STRAY. -/
theorem test_hyp_pulse_outside_idle :
    let s := fun g c => leased (withA (inState .base)) g c
    let stray := (withA (inState .base)).setLine .a { Line.cleared with cond := .stray, strayCounted := true }
    State.reset.attached (.line .a) = false ∧ ((s .waitLine .hailed).line .a).cond = .hailed ∧
      ((s .heeding .sending).line .a).cond = .sending ∧
      ((s .awaiting .heeded).lastLease .a .e0 ∧ ((s .awaiting .heeded).line .a).cond = .heeded) ∧
      ((s .receiving .receiving).lastLease .a .e0 ∧ ((s .receiving .receiving).line .a).cond = .receiving) ∧
      stray.engineOf .a = none ∧ (stray.line .a).cond = .stray ∧ stray.attached (.line .a) = true :=
  ⟨rfl, rfl, rfl, ⟨⟨rfl, rfl, rfl, rfl⟩, rfl⟩, ⟨⟨rfl, rfl, rfl, rfl⟩, rfl⟩, rfl, rfl, rfl⟩

/-- The thirtieth byte of a STRAY is behind it, and the thirty-first. -/
theorem test_hyp_stray_bytes :
    let s := fun n => (withA (inState .base)).setLine .a { Line.cleared with cond := .stray, strayBytes := n }
    ((s 30).line .a).strayBytes < 31 ∧ 31 ≤ ((s 31).line .a).strayBytes ∧ ((s 31).line .a).strayCounted = false ∧
      (s 31).engineOf .a = none := by decide

theorem test_hyp_heed : ((leased (withA (inState .base)) .waitLine .hailed).line .a).cond = .hailed ∧
    (leased (withA (inState .base)) .heeding .sending).engineOf .a = some .e0 ∧
    ((leased (withA (inState .base)) .heeding .sending).engine .e0).state = .heeding := by decide

theorem test_hyp_heed_wait :
    let s := leased (withA (inState .base)) .awaiting .heeded;
    (s.setEngine .e0 { s.engine .e0 with heedTimer := true }).lastLease .a .e0 :=
  ⟨rfl, rfl, rfl, rfl⟩

theorem test_hyp_start : ((leased (withA (inState .base)) .awaiting .heeded).line .a).cond = .heeded ∧
    (leased (withA (inState .base)) .awaiting .heeded).attached (.line .a) = true ∧
    ((withA (inState .base)).line .a).cond = .idle := by decide

theorem test_hyp_data :
    let s := leased (withA (inState .base)) .receiving .receiving
    s.lastLease .a .e0 ∧ ((gathered s (List.replicate 30 0)).engine .e0).rx.length < 31 ∧
      31 ≤ ((gathered s (List.replicate 31 0)).engine .e0).rx.length :=
  ⟨⟨rfl, rfl, rfl, rfl⟩, by decide, by decide⟩

theorem test_hyp_bad_frame :
    let s := gathered (leased (withA (inState .base)) .receiving .receiving) ([0x91, 0x00] ++ [0x00])
    s.attached (.line .a) = true ∧ (s.line .a).cond = .receiving ∧ s.lastLease .a .e0 ∧
      (s.engine .e0).rx = [0x91, 0x00] ++ [0x00] ∧ crc [0x91, 0x00] ≠ 0x00 :=
  ⟨rfl, rfl, ⟨rfl, rfl, rfl, rfl⟩, rfl, by decide +kernel⟩

/-- The state in which a broken frame of A leaves all but the engines and the queue. -/
def broken (s : State) : State :=
  (s.withLines (s.lines.set .a (s.line .a).idled)).withPorts
    (s.ports.set .a { s.port .a with badFrame := counted (s.port .a).badFrame })

/-- The engine of a broken frame with B at the head of the queue: a hail, a frame on an IDLE and on a STRAY line, nothing to
do. -/
theorem test_hyp_lease_ends :
    let ends := fun u : State => (u.withEngines (u.engines.set .e0 Engine.freed)).engineOf .a = none ∧ u.queued .a = false ∧
      (u.line .a).hail = false ∧ u.attached (.line .a) = true ∧ u.engines.e0.state ≠ .free ∧ u.engines.e1.state ≠ .free
    let s := fun l f => broken (waiting .hail l f)
    let stray : Line := { Line.cleared with cond := .stray }
    ((waiting .hail hailed none).engineOf .a = some .e0 ∧ ((waiting .hail hailed none).line .a).cond = .receiving) ∧
    (ends (s hailed none) ∧ ((s hailed none).line .b).hail = true ∧ (s hailed none).queue = [⟨.b, .hail⟩]) ∧
    (ends (s Line.cleared (some .ask)) ∧ ((s Line.cleared (some .ask)).port .b).slot = some .ask ∧
      ((s Line.cleared (some .ask)).line .b).cond = .idle) ∧
    (ends (s stray (some .ask)) ∧ ((s stray (some .ask)).line .b).cond = .stray) ∧
    ends (s Line.cleared none) ∧ ((s Line.cleared none).port .b).slot = none ∧
      ((s Line.cleared none).line .b).hail = false := by decide

/-- A frame of A's own in its slot, with nobody waiting and engine 0 its own, and with engine 1 its own and engine 0 FREE. -/
theorem test_hyp_port_applies_again :
    let s := leased (withA { inState .base with slot := some .giveback }) .receiving .receiving
    let own : Engine := { Engine.freed with state := .receiving, lease := some ⟨.a, .hail⟩ }
    let r := s.withEngines ⟨Engine.freed, own⟩
    let u := broken s
    (s.engineOf .a = some .e0 ∧ u.queue = [] ∧ (u.port .a).slot = some .giveback ∧ (u.line .a).cond = .idle ∧
      (u.withEngines (u.engines.set .e0 Engine.freed)).engines.e0.state = .free ∧ u.attached (.line .a) = true) ∧
    r.engineOf .a = some .e1 ∧ r.engines.e0.state = .free := by decide

/-- 3.10 at 11.00: the lease of A ends, B's HAIL entry finds no hail and nothing to send, and the engine is FREE again. A hail
of B would be heeded (3.9 at 0.55), and a frame of B would go out under its tag. -/
theorem test_engine_goes_to_head :
    let s := fun l f => after (.lineError .a) (waiting .hail l f)
    (s Line.cleared none).map (fun t => (t.engines.e0, t.queue, (t.port .b).missedHail)) = some (Engine.freed, [], 1) ∧
    (s hailed none).map (fun t => (t.engines.e0.state, t.engines.e0.lease, t.queue, (t.port .b).missedHail)) =
      some (.heeding, some ⟨.b, .hail⟩, [], 0) ∧
    (s Line.cleared (some .giveback)).map (fun t => (t.engines.e0.tx.map TxFrame.tag, (t.port .b).tagCounter)) =
      some (some 6, 0) := by decide +kernel

/-- An engine in WAIT_LINE with a frame and without one; the hail that R46 names too. -/
theorem test_hyp_wait_line :
    let s := fun h f => (leased (withA { inState .base with slot := f }) .waitLine .stray).setLine .a
      { Line.cleared with cond := .stray, hail := h }
    (s false (some .ask)).engineOf .a = some .e0 ∧ ((s false (some .ask)).engine .e0).state = .waitLine ∧
      ((s false (some .ask)).line .a).cond = .stray ∧ ((s false (some .ask)).port .a).slot = some .ask ∧
      ((s false none).port .a).slot = none ∧ ((s true none).line .a).hail = true ∧
      (s false none).attached (.line .a) = true := by decide

theorem test_hyp_stray : ((withA (inState .base)).setLine .a { Line.cleared with cond := .stray }).engineOf .a = none ∧
    (((withA (inState .base)).setLine .a { Line.cleared with cond := .stray }).line .a).cond = .stray := by decide

theorem test_hyp_grant :
    let claim : PortRecord := { inState .claimed with claimTag := some 6, staged := some adapter }
    let s := gathered (leased (withA claim) .receiving .receiving) [0x9D, 0, crc [0x9D, 0]];
    (s.port .a).state = .claimed ∧ (s.port .a).claimTag = some 6 ∧ (s.port .a).staged = some adapter ∧
      (s.engine .e0).rx = [BitVec.ofNat 8 (0x91 + 2 * 6), 0, crc [BitVec.ofNat 8 (0x91 + 2 * 6), 0]] ∧
      s.engineOf .a = some .e0 ∧ (s.line .a).cond = .receiving ∧ s.attached (.line .a) = true := by decide +kernel

theorem test_hyp_settled :
    let shift : PortRecord := { inState .shifting with claimTag := some 6, staged := some adapter }
    let s := gathered (leased (withA shift) .receiving .receiving) [0xBD, 0, crc [0xBD, 0]];
    (s.port .a).state = .shifting ∧
      (s.engine .e0).rx = [BitVec.ofNat 8 (0xB1 + 2 * 6), 0, crc [BitVec.ofNat 8 (0xB1 + 2 * 6), 0]] ∧
      ∀ l, (s.port .a).live = some l → l.volts ≠ adapter.volts :=
  ⟨rfl, by decide +kernel, fun l h => by cases h; decide +kernel⟩

theorem test_hyp_settled_refresh :
    let s := withA { inState .shifting with claimTag := some 6, staged := some adapter, inFlight := some ⟨.refresh, 7⟩ }
    s.soleRequest .a ⟨.refresh, 7⟩ ∧ (s.port .a).refreshPending = false ∧ (s.port .a).state = .shifting :=
  ⟨⟨rfl, unheld_of _ _ rfl rfl rfl rfl rfl rfl⟩, rfl, rfl⟩

theorem test_hyp_declined :
    let claim : PortRecord :=
      { inState .claimed with claimTag := some 0, staged := some adapter, inFlight := some ⟨.pin, 7⟩ }
    let s := gathered (leased (withA claim) .receiving .receiving) [0xA1, 1, 4, crc [0xA1, 1, 4]];
    ((s.port .a).state = .claimed ∧ (s.port .a).claimTag = some 0 ∧ (s.port .a).staged = some adapter ∧
      (s.engine .e0).rx = [BitVec.ofNat 8 (0xA1 + 2 * 0), 1, 4, crc [BitVec.ofNat 8 (0xA1 + 2 * 0), 1, 4]] ∧
      s.engineOf .a = some .e0 ∧ (s.line .a).cond = .receiving ∧ s.attached (.line .a) = true) ∧
    s.soleRequest .a ⟨.pin, 7⟩ :=
  ⟨by decide +kernel, rfl, unheld_of _ _ rfl rfl rfl rfl rfl rfl⟩

/-- A frame received on A, engine 0 leased to it and the prospect current. -/
def received (r : PortRecord) (rx : List Byte) : State :=
  (gathered (leased (withA r) .receiving .receiving) rx).recomputeProspect

theorem test_hyp_received (r : PortRecord) (rx : List Byte) : (received r rx).attached (.line .a) = true ∧
    ((received r rx).line .a).cond = .receiving ∧ (received r rx).engineOf .a = some .e0 ∧
    (r.slot = none → (received r rx).lastLease .a .e0) :=
  ⟨rfl, rfl, rfl, fun h => ⟨rfl, rfl, h, rfl⟩⟩

/-- A SETTLED under the claim tag in CLAIMED, and a GRANT under tag 7, are stale. -/
theorem test_hyp_stale :
    let s := received { inState .claimed with claimTag := some 6, staged := some adapter } [0xBD, 0, crc [0xBD, 0]]
    let g := received (inState .bound) [0x9F, 0, crc [0x9F, 0]];
    (s.prospect = s.findProspect ∧ (s.port .a).claimTag = some 6 ∧ (s.port .a).state ≠ .shifting ∧
      (s.engine .e0).rx = [BitVec.ofNat 8 (0xB1 + 2 * 6), 0, crc [BitVec.ofNat 8 (0xB1 + 2 * 6), 0]]) ∧
    (g.prospect = g.findProspect ∧ (g.port .a).claimTag ≠ some 7 ∧
      (g.engine .e0).rx = [BitVec.ofNat 8 (0x91 + 2 * 7), 0, crc [BitVec.ofNat 8 (0x91 + 2 * 7), 0]]) := by decide +kernel

/-- An ADAPTER tender of one fixed level, of volts and amps codes, unsolicited or under a tag. -/
def offer (tag : Nat) (volts amps : Byte) : List Byte := tenderBytes tag 1 [(0, volts, volts, amps)]

theorem test_hyp_tender :
    offer 7 50 60 = [0x8F, 5, 1, 0, 50, 50, 60, crc [0x8F, 5, 1, 0, 50, 50, 60]] ∧
    (let s := received { inState .asking with askTag := some 0 } (offer 0 50 60);
      (s.engine .e0).rx = offer 0 50 60 ∧ (s.port .a).askTag = some 0 ∧ (s.port .a).state = .asking ∧
        (s.port .a).held = false ∧ (s.port .a).released = false ∧ (s.port .a).pin = none ∧
        (winner s.policy (.line .a) [levelOf (0, 50, 50, 60)]).isSome = true) := by decide +kernel

/-- A live contract of 20 V and 2250 mA is not contained by a 15 V level (so no level bears a pin of 20 V either), is narrowed
by one of 2000 mA, and a pin of 2250 mA with it; a level of 4.9 V is not usable. -/
theorem test_hyp_coverage :
    let live : PortRecord := { inState .bound with live := some adapter, pin := some ⟨1, 20000, 2250⟩, held := true }
    let s := received live (offer 7 150 60)
    let t := received live (offer 7 200 40)
    let u := received { inState .base with pin := some ⟨1, 20000, 2250⟩ } (offer 7 49 60);
    (s.live (.line .a) = some adapter ∧ adapter.origin = .negotiated ∧ (s.port .a).state = .bound ∧ (s.port .a).held = true ∧
      ([levelOf (0, 150, 150, 60)].filter fun l =>
        l.usable && decide (l.lo ≤ adapter.volts ∧ adapter.volts ≤ l.hi)) = []) ∧
    (t.live (.line .a) = some adapter ∧ levelOf (0, 200, 200, 40) = ⟨.fixed, false, 20000, 20000, 2000, true, 0⟩) ∧
    ((u.port .a).state = .base ∧ (u.port .a).pin = some ⟨1, 20000, 2250⟩ ∧ (levelOf (0, 49, 49, 60)).usable = false) := by
  decide +kernel

/-- In SHIFTING a staged 20 V of 2250 mA is not contained by a 15 V level, is narrowed by one of 2000 mA, and a lapse of it
is cancelled by one of 2250 mA; on a free port a 20 V level of 2250 mA bears a pin of those figures. -/
theorem test_hyp_staged_coverage :
    let shift : PortRecord := { inState .shifting with staged := some adapter, lapsing := some .staged }
    let s := fun amps volts => received shift (offer 7 volts amps)
    let u := received { inState .base with pin := some ⟨1, 20000, 2250⟩ } (offer 7 200 45)
    let f := received (inState .faulted) (offer 7 200 45)
    (((s 60 150).engine .e0).rx = offer 7 150 60 ∧ ((s 60 150).port .a).state = .shifting ∧
      ((s 60 150).port .a).staged = some adapter ∧ ((s 60 150).port .a).lapsing = some .staged ∧
      (f.port .a).state = .faulted ∧ (u.port .a).pin = some ⟨1, 20000, 2250⟩ ∧ (u.port .a).held = false ∧
      (u.port .a).released = false) ∧
    ampsAt [levelOf (0, 150, 150, 60)] 20000 = [] ∧ ampsAt [levelOf (0, 200, 200, 40)] 20000 = [2000] ∧
      ampsAt [levelOf (0, 200, 200, 45)] 20000 = [2250] ∧ (levelOf (0, 200, 200, 45)).usable = true :=
  ⟨⟨rfl, rfl, rfl, rfl, rfl, rfl, rfl, rfl⟩, by decide, by decide, by decide, by decide⟩

/-- A usable level above VIN_MAX is no candidate. -/
theorem test_hyp_no_level :
    let s := received (inState .base) (offer 7 240 60)
    (s.port .a).state = .base ∧ (s.port .a).held = false ∧ (s.port .a).released = false ∧ (s.port .a).pin = none ∧
      winner s.policy (.line .a) [levelOf (0, 240, 240, 60)] = none ∧ (levelOf (0, 240, 240, 60)).usable = true := by
  decide +kernel

theorem test_hyp_stale_tender :
    let s := received { inState .asking with askTag := some 1 } (offer 6 50 60)
    s.prospect = s.findProspect ∧ (s.engine .e0).rx = offer 6 50 60 ∧ (s.port .a).askTag ≠ some 6 := by decide +kernel

/-- A CUT to 2000 mA of the live 20 V, of the staged 20 V in SHIFTING, and of volts nobody has. -/
theorem test_hyp_cut :
    let rx : List Byte := [0xCF, 2, 200, 40, crc [0xCF, 2, 200, 40]]
    let s := received { inState .bound with live := some adapter } rx
    let t := received { inState .shifting with staged := some adapter } rx
    let u := received (inState .base) rx;
    ((s.engine .e0).rx = rx ∧ s.live (.line .a) = some adapter ∧ adapter.volts = (200 : Byte).toNat * 100 ∧
      (s.port .a).state ≠ .shifting ∧ (40 : Byte).toNat * 50 < adapter.limit) ∧
    ((t.port .a).state = .shifting ∧ (t.port .a).staged = some adapter) ∧
    (u.prospect = u.findProspect ∧ u.live (.line .a) = some Contract.base ∧ (u.port .a).staged = none ∧
      Contract.base.volts ≠ (200 : Byte).toNat * 100) := by decide +kernel

/-- Engine 0 sends a frame of A. -/
def sendingOf (r : PortRecord) (f : OutFrame) : State :=
  ((leased (withA r) .sending .sending).setEngine .e0
    { Engine.freed with state := .sending, lease := some ⟨.a, .send⟩, tx := some ⟨f, 6, frameBytes f 6⟩ }).recomputeProspect

def sending (k : PortState) (f : OutFrame) : State := sendingOf (inState k) f

theorem test_hyp_transmission : (sending .asking .ask).lastLease .a .e0 ∧
    (sending .asking .ask).prospect = (sending .asking .ask).findProspect ∧
    ((sending .asking .ask).engine .e0).state = .sending ∧ ((sending .asking .ask).port .a).state = .asking ∧
    (sending .claimed (.claim 1 20000 2250 100)).lastLease .a .e0 ∧
    ((sending .claimed (.claim 1 20000 2250 100)).port .a).state = .claimed :=
  ⟨⟨rfl, rfl, rfl, rfl⟩, by decide, rfl, rfl, ⟨rfl, rfl, rfl, rfl⟩, rfl⟩

/-- A GIVEBACK sent with no request and with a RELEASE in flight, and a CLAIM sent while the slot holds another. -/
theorem test_hyp_giveback_sent :
    let s := sending .base .giveback
    let r := sendingOf { inState .base with inFlight := some ⟨.release, 7⟩ } .giveback
    let c := sendingOf { inState .claimed with slot := some (.claim 2 9000 500 100) } (.claim 1 20000 2250 100)
    (s.lastLease .a .e0 ∧ s.prospect = s.findProspect ∧ (s.engine .e0).tx.map TxFrame.frame = some .giveback ∧
      (s.port .a).inFlight = none) ∧
    (r.lastLease .a .e0 ∧ r.prospect = r.findProspect ∧ r.soleRequest .a ⟨.release, 7⟩) ∧
    c.engineOf .a = some .e0 ∧ (c.engine .e0).state = .sending ∧ (c.port .a).state = .claimed ∧
      (c.port .a).slot = some (.claim 2 9000 500 100) ∧ c.prospect = c.findProspect :=
  ⟨⟨⟨rfl, rfl, rfl, rfl⟩, by decide, rfl, rfl⟩,
    ⟨⟨rfl, rfl, rfl, rfl⟩, by decide, ⟨rfl, unheld_of _ _ rfl rfl rfl rfl rfl rfl⟩⟩, rfl, rfl, rfl, rfl, by decide⟩

/-- A frame sent with another in the port's slot, and with B waiting. -/
theorem test_hyp_transmission_hands_on :
    let s := sendingOf { inState .asking with slot := some .giveback } .ask
    let w := (s.setEngine .e1 { Engine.freed with state := .sending, lease := some ⟨.c, .send⟩ }).withQueue [⟨.b, .send⟩]
    s.engineOf .a = some .e0 ∧ s.prospect = s.findProspect ∧ (s.port .a).slot = some .giveback ∧ s.queue = [] ∧
      (s.port .a).state = .asking ∧ w.queue = [⟨.b, .send⟩] ∧ w.prospect = w.findProspect ∧ w.queued .a = false ∧
      w.engines.e0.state ≠ .free ∧ w.engines.e1.state ≠ .free := by decide

/-! Timers -/

theorem test_hyp_tender_wait :
    let s := fun n => withA { inState .asking with timer := .tenderWait, askAttempts := n };
    ((s 2).port .a).state = .asking ∧ ((s 2).port .a).timer = .tenderWait ∧ ((s 2).port .a).askAttempts < 3 ∧
      ((s 3).port .a).askAttempts = 3 := by decide

/-- The third expiry of TENDER_WAIT on a held port with a REFRESH in flight. -/
theorem test_hyp_silent :
    let s := withA { inState .asking with
      timer := .tenderWait, askAttempts := 3, held := true, inFlight := some ⟨.refresh, 0⟩ }
    (s.port .a).askAttempts = 3 ∧ (s.port .a).held = true ∧ s.soleRequest .a ⟨.refresh, 0⟩ :=
  ⟨rfl, rfl, rfl, unheld_of _ _ rfl rfl rfl rfl rfl rfl⟩

/-- The first expiry of CLAIM_WAIT on a free and on a held port, the second, and SETTLE_WAIT, a PIN in flight. -/
theorem test_hyp_claim_ends :
    let claim : PortRecord :=
      { inState .claimed with timer := .claimWait, claimAttempts := 1, staged := some adapter, inFlight := some ⟨.pin, 3⟩ }
    let s := (withA claim).recomputeProspect
    let h := withA { claim with held := true }
    let f := withA { claim with claimAttempts := 2 }
    let w := withA { claim with state := .shifting, timer := .settleWait }
    (s.prospect = s.findProspect ∧ (s.port .a).held = false ∧ (s.port .a).staged = some adapter ∧ adapter.level = some 1 ∧
      (h.port .a).held = true ∧ (h.port .a).claimAttempts < 2 ∧ 2 ≤ (f.port .a).claimAttempts ∧
      (w.port .a).state = .shifting ∧ (w.port .a).timer = .settleWait) ∧
    h.soleRequest .a ⟨.pin, 3⟩ ∧ f.soleRequest .a ⟨.pin, 3⟩ ∧ w.soleRequest .a ⟨.pin, 3⟩ :=
  ⟨by decide, ⟨rfl, unheld_of _ _ rfl rfl rfl rfl rfl rfl⟩, ⟨rfl, unheld_of _ _ rfl rfl rfl rfl rfl rfl⟩,
    ⟨rfl, unheld_of _ _ rfl rfl rfl rfl rfl rfl⟩⟩

theorem test_hyp_claim_wait :
    let s := fun n => (withA { inState .claimed with timer := .claimWait, claimAttempts := n }).recomputeProspect;
    ((s 1).port .a).claimAttempts < 2 ∧ ((s 1).port .a).held = false ∧ (s 1).prospect = (s 1).findProspect ∧
      ((s 2).port .a).claimAttempts = 2 ∧ ((s 2).port .a).timer = .claimWait ∧
      ((withA { inState .shifting with timer := .settleWait }).port .a).timer = .settleWait := by decide

theorem test_hyp_lapse : ((withA { inState .bound with lapseTimer := true, live := some adapter }).port .a).lapseTimer = true ∧
    adapter ≠ Contract.base := by decide

/-- A in CLOSING with its soft start running and a sample; the window of 20000 mV is 2000 mV, so 18000 passes and 17999
does not. -/
def closingA (r : PortRecord) (sample : Nat) : State :=
  ((onPath (withA r) (.closing (.line .a))).withPath
    { (onPath (withA r) (.closing (.line .a))).path with softStart := some 8 }).withMeas
      { State.reset.meas with table := { State.reset.meas.table with volts := ⟨⟨sample, none, none⟩, .cleared, .cleared, .cleared⟩ } }
  |>.recomputeProspect

theorem test_hyp_soft_start :
    let bound : PortRecord := { inState .bound with live := some adapter, held := true }
    let s := closingA bound 18000
    let low := closingA bound 17999
    let moving := closingA { bound with lapsing := some .live } 18000;
    (s.prospect = s.findProspect ∧ s.path.state = .closing (.line .a) ∧ s.path.softStart = some 8 ∧
      s.live (.line .a) = some adapter ∧ s.eligible (.line .a) = true ∧ (s.port .a).state ≠ .shifting ∧
      (s.port .a).lapsing = none ∧ connectors.all (fun x => decide (x = .line .a) || !s.eligible x) = true ∧
      (s.meas.table.volts.get (.line .a)).last + adapter.volts * s.policy.closeWindow / 100 = adapter.volts) ∧
    (low.prospect = low.findProspect ∧ low.path.softStart = some 8 ∧ (low.port .a).held = true ∧
      (low.meas.table.volts.get (.line .a)).last + adapter.volts * low.policy.closeWindow / 100 < adapter.volts) ∧
    (moving.prospect = moving.findProspect ∧ moving.path.softStart = some 8 ∧ (moving.port .a).lapsing ≠ none) := by
  decide +kernel

/-- A deferred check with its rail at rest and a PRIMARY in flight; the same of D. -/
theorem test_hyp_deferred_check :
    let s := (onPath (withA { inState .bound with live := some adapter }) (.closing (.line .a))).withPath
      { State.reset.path with
        state := .closing (.line .a), checkDeferred := true, inFlight := some ⟨.line .a, 2⟩ }
    let d := (boundD (.closing .barrel)).withPath { State.reset.path with
      state := .closing .barrel, checkDeferred := true, softStart := some 1, inFlight := some ⟨.barrel, 2⟩ };
    (s.path.checkDeferred = true ∧ s.path.state = .closing (.line .a) ∧ s.live (.line .a) = some adapter ∧
      (s.port .a).state ≠ .shifting ∧ (s.port .a).lapsing = none ∧ (s.port .a).image = none ∧
      18000 + adapter.volts * s.policy.closeWindow / 100 = adapter.volts ∧
      17999 + adapter.volts * s.policy.closeWindow / 100 < adapter.volts) ∧
    (d.live .barrel = some (Contract.ofBarrel 19400 4500) ∧ d.path.softStart = some 1) ∧
    s.solePrimary ⟨.line .a, 2⟩ ∧ d.solePrimary ⟨.barrel, 2⟩ :=
  ⟨by decide, by decide, ⟨rfl, unheld_of _ _ rfl rfl rfl rfl rfl rfl⟩, ⟨rfl, unheld_of _ _ rfl rfl rfl rfl rfl rfl⟩⟩

theorem test_hyp_break :
    let s := fun r => ((onPath (withA r) (.opening .barrel)).withPath
      { (onPath (withA r) (.opening .barrel)).path with breakTimer := some 3 }).recomputeProspect;
    ((s (inState .base)).prospect = (s (inState .base)).findProspect ∧ (s (inState .base)).path.state = .opening .barrel ∧
      (s (inState .base)).path.breakTimer = some 3 ∧ (s (inState .base)).eligible (.line .a) = true) ∧
    ((s (inState .faulted)).prospect = (s (inState .faulted)).findProspect ∧
      (s (inState .faulted)).path.state = .opening .barrel ∧ (s (inState .faulted)).path.breakTimer = some 3 ∧
      connectors.all (fun x => !(s (inState .faulted)).eligible x) = true) := by decide +kernel

/-! SPI -/

/-- A write from 0x406 to 0x403 through the wrap, of 2046 bytes, misses the release word. -/
theorem test_hyp_mem_write : 2046 ≤ 2048 ∧ ∀ i, i < 2046 → (0x406 + i) % 2048 ≠ 0x404 ∧ (0x406 + i) % 2048 ≠ 0x405 := by
  refine ⟨by decide, fun i h => ?_⟩
  omega

theorem test_hyp_release : ((32 : Half) - 0).toNat ≤ ({ State.reset.exch with written := 32 }).unconsumed ∧
    0 < ({ State.reset.exch with withheld := 1 }).withheld ∧ ((32 : Half) - 1).toNat < 32 ∧
    ¬ ((33 : Half) - 0).toNat ≤ ({ State.reset.exch with written := 32 }).unconsumed := by decide

/-- One byte at 0x405; two from 0x403, which reach 0x404 alone; and the whole word at 0xC04, which wraps to 0x404. -/
theorem test_hyp_release_word_written : ((0x405 : Half).toNat + 0) % 2048 = 0x405 ∧ ((0x403 : Half).toNat + 1) % 2048 = 0x404 ∧
    ((0xC04 : Half).toNat + 0) % 2048 = 0x404 ∧ ((0xC04 : Half).toNat + 1) % 2048 = 0x405 := by decide

/-- What stands in memory after one byte at 0x405. -/
theorem test_hyp_release_word_host (b : Byte) : ∃ host : Nat → Byte,
    (∀ i, i < [b].length → host (((0x405 : Half).toNat + i) % 2048) = [b].getD i 0) ∧
    ∀ a, (∀ i, i < [b].length → ((0x405 : Half).toNat + i) % 2048 ≠ a) → host a = readByte State.reset.exch.mem a := by
  refine ⟨fun a => if a = 0x405 then b else readByte State.reset.exch.mem a, fun i h => ?_, fun a h => ?_⟩
  · obtain rfl : i = 0 := by simpa using h
    rfl
  · have := h 0 Nat.one_pos
    exact if_neg (Ne.symm this)

/-- An unknown operation, a lone operation, a MEM_READ cut in its address, a REG_WRITE cut in its data, and seven bits of a
byte that never came. -/
theorem test_hyp_ignored :
    (∀ op, ([0xB0, 0, 0, 0, 0, 0] : List Byte).head? = some op → op ≠ 0xA1 ∧ op ≠ 0xA2 ∧ op ≠ 0xB1 ∧ op ≠ 0xB2) ∧
    ([0xB1] : List Byte).length < 2 ∧ ([0xA1, 0] : List Byte).length < 3 ∧ ([0xB2, 2, 1, 0, 0] : List Byte).length < 6 ∧
    (List.replicate 7 true).length < 8 := by
  refine ⟨fun op h => ?_, by decide, by decide, by decide, by decide⟩
  cases h
  decide

/-! The slot reader and requests -/

/-- Slot 0 marked, with a copy and a state byte. -/
def marked (copy : SlotCopy) (found : Byte) : State :=
  State.reset.withExch { (State.reset.exch.setSlot 0 { Slot.cleared with copy := copy, mark := true }) with
    mem := writeBlock State.reset.exch.mem 0x80 [found] }

theorem test_hyp_examination : ((marked .free 1).exch.slot 0).mark = true ∧
    (marked .taken 2).exch.mem.length = (marked .done 3).exch.mem.length ∧
    readByte (marked .taken 2).exch.mem (slotAddress 0) = SlotCopy.taken.code ∧
    readByte (marked .done 0).exch.mem (slotAddress 0) = 0 ∧ readByte (marked .free 1).exch.mem (slotAddress 0) = 1 ∧
    readByte (marked .taken 1).exch.mem (slotAddress 0) ≠ SlotCopy.taken.code := by decide

/-- Kind 0, and kind 0x0C, in a posting. -/
theorem test_hyp_bad_kind :
    let s := marked .free 1
    let u := s.withExch { s.exch with mem := writeBlock s.exch.mem 0x81 [0x0C] }
    ((s.exch.slot 0).mark = true ∧ (s.exch.slot 0).copy = .free ∧ readByte s.exch.mem (slotAddress 0) = 1 ∧
      readByte s.exch.mem (slotAddress 0 + 1) = 0) ∧
    readByte u.exch.mem (slotAddress 0) = 1 ∧ (u.exch.slot 0).mark = true ∧
      0x0B < (readByte u.exch.mem (slotAddress 0 + 1)).toNat := by decide

/-- The first port byte outside each kind's range, and the last before PRIMARY's 0xFF. -/
theorem test_hyp_bad_port : State.reset.slotReady 0 ∧ requestOf (.refresh (post 0 4)) = some (post 0 4, 0x02) ∧
    requestOf (.release (post 0 4)) = some (post 0 4, 0x07) ∧ requestOf (.pin (post 0 3) 1 0 0) = some (post 0 3, 0x03) ∧
    requestOf (.resume (post 0 3)) = some (post 0 3, 0x06) ∧ 3 < (post 0 4).port.toNat ∧ 2 < (post 0 3).port.toNat ∧
    requestOf (.primary (post 0 0xFE)) = some (post 0 0xFE, 0x08) ∧ 3 < (post 0 0xFE).port.toNat ∧
    (post 0 0xFE).port ≠ 0xFF :=
  ⟨ready_of _ _ rfl rfl rfl rfl rfl rfl rfl, rfl, rfl, rfl, rfl, by decide, by decide, rfl, by decide, by decide⟩

/-- A slot is ready beside requests in flight in other slots. -/
theorem ready_beside (s : State) (k : Fin 8) (he : s.exch = State.reset.exch) (h : s.unheld k) : s.slotReady k := by
  have := ready_of State.reset k rfl rfl rfl rfl rfl rfl rfl
  exact ⟨by rw [he]; exact this.1, by rw [he]; exact this.2.1, h⟩

theorem test_hyp_port_busy :
    let s := withA { inState .base with inFlight := some ⟨.pin, 1⟩ }
    let d := (barrelIn .bound none).withBarrel { (barrelIn .bound none).barrel with inFlight := some 1 }
    let u := State.reset.withPath { State.reset.path with inFlight := some ⟨.barrel, 1⟩ }
    (s.slotReady 0 ∧ linePortOf (post 0 0).port = some .a ∧ (s.port .a).inFlight ≠ none) ∧
    (d.slotReady 0 ∧ d.barrel.inFlight ≠ none) ∧ u.slotReady 0 ∧ u.path.inFlight ≠ none := by
  refine ⟨⟨ready_beside _ _ rfl ⟨?_, by decide, by decide, by decide⟩, rfl, by decide⟩,
    ⟨ready_beside _ _ rfl ⟨?_, by decide, by decide, by decide⟩, by decide⟩,
    ready_beside _ _ rfl ⟨?_, by decide, ?_, by decide⟩, by decide⟩
  · intro p q h
    cases p <;> cases h
    decide
  · intro p q h
    cases p <;> cases h
  · intro p q h
    cases p <;> cases h
  · intro q h
    cases h
    decide

/-- An empty line port and an empty D; and PIN: on a FAULTED port, with the first index beyond the image, without an image,
with index 0, for a level that is not usable, and for one 100 mV above VIN_MAX 20000. -/
theorem test_hyp_refused :
    (State.reset.slotReady 0 ∧ linePortOf (post 0 2).port = some .c ∧ (State.reset.port .c).state = .empty ∧
      (State.reset.port .c).inFlight = none ∧ State.reset.barrel.state = .empty ∧ State.reset.barrel.inFlight = none) ∧
    (let s := withA (inState .faulted);
      s.slotReady 0 ∧ (s.port .a).inFlight = none ∧ (s.port .a).state = .faulted ∧ (s.port .a).negotiating = true) ∧
    (let s := fun levels => withA { inState .bound with image := some ⟨.adapter, 7, 0, levels⟩ };
      (s [fixed20]).slotReady 0 ∧ [fixed20].length < (2 : Byte).toNat ∧ (0 : Byte).toNat = 0 ∧
        ({ fixed20 with usable := false } : Level).usable = false ∧
        min 20100 ((s []).policy.vinMax / 100 * 100) < max 20100 (((s []).policy.vinMin + 99) / 100 * 100)) ∧
    (let s := withA (inState .base);
      s.slotReady 0 ∧ (s.port .a).image = none) :=
  ⟨⟨ready_of _ _ rfl rfl rfl rfl rfl rfl rfl, rfl, rfl, rfl, rfl, rfl⟩,
   ⟨ready_of _ _ rfl rfl rfl rfl rfl rfl rfl, rfl, rfl, rfl⟩,
   ⟨ready_of _ _ rfl rfl rfl rfl rfl rfl rfl, by decide, by decide, rfl, by decide⟩,
   ⟨ready_of _ _ rfl rfl rfl rfl rfl rfl rfl, rfl⟩⟩

theorem test_hyp_adopt :
    let s := State.reset.withExch { State.reset.exch with mem := writeBlock State.reset.exch.mem 0x33 [9] };
    (State.reset.slotReady 0 ∧ draftContradiction State.reset.exch.mem = none) ∧
    s.slotReady 0 ∧ draftContradiction s.exch.mem = some (30, 2) := by
  refine ⟨⟨ready_of _ _ rfl rfl rfl rfl rfl rfl rfl, by decide +kernel⟩, ?_, by decide +kernel⟩
  exact ready_of State.reset 0 rfl rfl rfl rfl rfl rfl rfl

/-- The policy a draft with some bytes written at an offset installs. -/
def drafted (offset : Nat) (bytes : List Byte) : Policy :=
  (readDraft (writeBlock State.reset.exch.mem offset bytes)).clamped

/-- R4's table: A attached, eligible and the path connector when its bit clears, A SETTLING then, and D's plug seated when its
bit is set. -/
theorem test_hyp_adopt_enable :
    let settling := State.reset.startSettling (.line .a)
    let seated : State := { State.reset.withPolicy { Policy.initial with portEnable := 7 } with
      presence := ⟨false, false, false, true⟩ };
    draftContradiction (writeBlock State.reset.exch.mem 0x32 [0x0E]) = none ∧
    ((drafted 0x32 [0x0E]).enabled (.line .a) = false ∧ leavingA.policy.enabled (.line .a) = true ∧
      leavingA.attached (.line .a) = true ∧ leavingA.eligible (.line .a) = true ∧ leavingA.path.state = .closed (.line .a)) ∧
    ((settling.tracker (.line .a)).state = .settling ∧ settling.policy.enabled (.line .a) = true) ∧
    (seated.policy.enabled .barrel = false ∧ (drafted 0x32 [0x0F]).enabled .barrel = true ∧
      (seated.tracker .barrel).state = .empty ∧ seated.presence.get .barrel = true) := by decide +kernel

/-- D BOUND on its stored 19.4 V binds under VIN_MAX 19400 and not under 19300; a D that was never identified stays. -/
theorem test_hyp_adopt_reclassifies :
    let d := (boundD .idle).withBarrel { (boundD .idle).barrel with stored := some ⟨1700, 3, 19400⟩ }
    d.reclassifies (drafted 2 (le2 19300)) ⟨1700, 3, 19400⟩ ∧ (drafted 2 (le2 19400)).binds 19400 4500 = true ∧
      d.attached .barrel = true ∧ d.eligible .barrel = true ∧ ∀ q i, ¬ State.reset.reclassifies q i := by
  refine ⟨⟨.inl rfl, rfl, fun h => absurd (h.2.2 (by decide +kernel)).1 (by decide)⟩, by decide +kernel, rfl, by decide, ?_⟩
  rintro q i ⟨h | h, -⟩
  · cases h
  · cases h.1

/-- Under VIN_MAX 15000 a pin of 15000 mV stands and one of 15100 mV is void; PATHMAX of A lowers a limit above it; a DEAD_MV
of 0 clears a set flag. -/
theorem test_hyp_adopt_pin :
    let s := withA { inState .bound with
      image := some oneLevel, pin := some ⟨1, 15100, 2250⟩, inFlight := some ⟨.pin, 1⟩ }
    ((drafted 2 (le2 15000)).outside 15000 = false ∧ (drafted 2 (le2 15000)).outside 15100 = true ∧
      (drafted 8 (le2 500)).pathMax.get (.line .a) = 500 ∧ (drafted 0x20 (le2 0)).deadMv = 0 ∧
      oneLevel.levels[1 - 1]? = some fixed20) ∧
    s.soleRequest .a ⟨.pin, 1⟩ ∧ s.voidRecord (drafted 2 (le2 15000)) .a ≠ [] :=
  ⟨by decide +kernel, ⟨rfl, unheld_of _ _ rfl rfl rfl rfl rfl rfl⟩, by decide +kernel⟩

theorem test_hyp_refresh : (withA (inState .faulted)).slotReady 0 ∧ (post 0 3).port = 3 ∧
    ((withA (inState .faulted)).port .a).negotiating = true ∧ ((withA (inState .faulted)).port .a).state ≠ .shifting ∧
    ((withA (inState .faulted)).port .a).inFlight = none ∧ (barrelIn .bound none).barrel.present = true ∧
    (barrelIn .bound none).slotReady 0 ∧ (barrelIn .bound none).barrel.inFlight = none :=
  ⟨ready_of _ _ rfl rfl rfl rfl rfl rfl rfl, rfl, rfl, by decide, rfl, rfl, ready_of _ _ rfl rfl rfl rfl rfl rfl rfl, rfl⟩

theorem test_hyp_refresh_shifting :
    let s := withA { inState .shifting with live := some adapter, staged := some adapter }
    s.slotReady 7 ∧ linePortOf (post 7 0).port = some .a ∧ (s.port .a).negotiating = true ∧
      (s.port .a).state = .shifting ∧ (s.port .a).inFlight = none :=
  ⟨ready_of _ _ rfl rfl rfl rfl rfl rfl rfl, rfl, rfl, rfl, rfl⟩

/-- VIN_MIN 5000 and VIN_MAX 20000 leave a 20 V level one place. -/
theorem test_hyp_pin :
    let s := withA { inState .bound with live := some adapter, image := some oneLevel }
    s.slotReady 0 ∧ linePortOf (post 0 0).port = some .a ∧ (s.port .a).state = .bound ∧ (s.port .a).released = false ∧
      (s.port .a).inFlight = none ∧ (s.port .a).image = some oneLevel ∧ (1 : Byte).toNat ≠ 0 ∧
      oneLevel.levels[(1 : Byte).toNat - 1]? = some fixed20 ∧ fixed20.usable = true ∧
      max fixed20.lo ((s.policy.vinMin + 99) / 100 * 100) = 20000 ∧ min fixed20.hi (s.policy.vinMax / 100 * 100) = 20000 :=
  ⟨ready_of _ _ rfl rfl rfl rfl rfl rfl rfl, rfl, rfl, rfl, rfl, rfl, by decide, by decide, rfl, by decide, by decide⟩

theorem test_hyp_pin_waits :
    let s := fun k => withA { inState k with live := some adapter, image := some oneLevel }
    (s .asking).slotReady 0 ∧ (s .shifting).slotReady 0 ∧ ((s .asking).port .a).negotiating = true ∧
      ((s .shifting).port .a).negotiating = true ∧ ((s .asking).port .a).inFlight = none ∧
      ((s .shifting).port .a).image = some oneLevel :=
  ⟨ready_of _ _ rfl rfl rfl rfl rfl rfl rfl, ready_of _ _ rfl rfl rfl rfl rfl rfl rfl, rfl, rfl, rfl, rfl⟩

theorem test_hyp_unpin :
    let s := withA { inState .bound with pin := some ⟨1, 20000, 2250⟩ }
    let h := withA { inState .bound with pin := some ⟨1, 20000, 2250⟩, held := true, image := some oneLevel }
    (s.slotReady 7 ∧ linePortOf (post 7 0).port = some .a ∧ (s.port .a).negotiating = true ∧ (s.port .a).pin ≠ none ∧
      ((withA (inState .faulted)).port .a).pin = none) ∧
    h.slotReady 7 ∧ (h.port .a).negotiating = true ∧ (h.port .a).pin ≠ none ∧ (h.port .a).held = true :=
  ⟨⟨ready_of _ _ rfl rfl rfl rfl rfl rfl rfl, rfl, rfl, by decide, rfl⟩,
    ready_of _ _ rfl rfl rfl rfl rfl rfl rfl, rfl, by decide, rfl⟩

/-- A PIN in flight beside the pin; and the states from which UNPIN and a RESUME on a held port call for selection, with a
winner and without one, and with a pin. -/
theorem test_hyp_selection_called :
    let r : PortRecord := { inState .bound with pin := some ⟨1, 20000, 2250⟩, image := some oneLevel }
    let s := withA { r with inFlight := some ⟨.pin, 1⟩ }
    let h := fun k => withA { r with state := k, held := true, staged := some adapter }
    (s.slotReady 0 ∧ s.soleRequest .a ⟨.pin, 1⟩ ∧ (s.port .a).held = false) ∧
    ((h .claimed).slotReady 0 ∧ ((h .claimed).port .a).held = true ∧ ((h .claimed).port .a).negotiating = true ∧
      ((h .shifting).port .a).image ≠ none ∧ ((h .asking).port .a).negotiating = true ∧
      oneLevel.levels[1 - 1]? = some fixed20) ∧
    (winner s.policy (.line .a) oneLevel.levels).isSome = true ∧ winner s.policy (.line .a) [] = none := by
  refine ⟨⟨ready_beside _ _ rfl ⟨?_, by decide, by decide, by decide⟩, ⟨rfl, unheld_of _ _ rfl rfl rfl rfl rfl rfl⟩, rfl⟩,
    ⟨ready_of _ _ rfl rfl rfl rfl rfl rfl rfl, rfl, rfl, by decide, rfl, rfl⟩, by decide, by decide⟩
  intro p q h
  cases p <;> cases h
  decide

theorem test_hyp_release_request :
    let s := withA { inState .bound with live := some adapter }
    s.slotReady 0 ∧ (s.port .a).negotiating = true ∧ (s.port .a).state ≠ .faulted ∧ (s.port .a).inFlight = none ∧
      (s.port .a).live.map Contract.origin = some .negotiated ∧ ((withA (inState .base)).port .a).staged = none ∧
      (barrelIn .unusable none).barrel.present = true ∧ (barrelIn .unusable none).slotReady 0 :=
  ⟨ready_of _ _ rfl rfl rfl rfl rfl rfl rfl, rfl, by decide, rfl, rfl, rfl, rfl, ready_of _ _ rfl rfl rfl rfl rfl rfl rfl⟩

theorem test_hyp_release_of_primary :
    (drawing State.reset.reg).slotReady 0 ∧ (drawing State.reset.reg).eligible (.line .a) = true ∧
      (drawing State.reset.reg).path.state = .closed (.line .a) ∧ ((drawing State.reset.reg).port .a).state ≠ .faulted ∧
      (withA (inState .faulted)).slotReady 0 ∧ ((withA (inState .faulted)).port .a).state = .faulted ∧
      (boundD (.closed .barrel)).slotReady 0 ∧ (boundD (.closed .barrel)).eligible .barrel = true ∧
      (boundD (.closed .barrel)).barrel.present = true :=
  ⟨ready_of _ _ rfl rfl rfl rfl rfl rfl rfl, by decide, rfl, by decide, ready_of _ _ rfl rfl rfl rfl rfl rfl rfl, rfl,
    ready_of _ _ rfl rfl rfl rfl rfl rfl rfl, by decide, rfl⟩

/-- The path CLOSED on A's BASE contract of 2500 mW, D BOUND on a contract, the prospect current. -/
def beside (c : Contract) : State :=
  (onPath (((withA (inState .base)).withBarrel { Barrel.cleared with state := .bound, live := some c }).setTracker .barrel
    ⟨.attached, none, none⟩) (.closed (.line .a))).recomputeProspect

/-- With SWITCH_MARGIN_MW 5000 a challenger of 7501 mW switches the path and one of 7500 mW does not. -/
theorem test_hyp_improvement :
    let s := beside (Contract.ofBarrel 7501 1000)
    let t := beside (Contract.ofBarrel 7500 1000)
    s.slotReady 0 ∧ t.slotReady 0 ∧
    (s.path.inFlight = none ∧ s.path.state = .closed (.line .a) ∧ s.eligible (.line .a) = true ∧ s.meas.dead = false ∧
      s.eligible .barrel = true ∧ s.barrel.state = .bound ∧
      s.liveScore (.line .a) + s.policy.switchMargin < s.liveScore .barrel ∧
      connectors.all (fun w => !s.eligible w || decide (s.liveScore w ≤ s.liveScore .barrel ∧
        (s.liveScore w = s.liveScore .barrel → 3 ≤ connectorNumber w))) = true ∧
      connectorOf (post 0 3).port.toNat = some .barrel) ∧
    (t.path.inFlight = none ∧ t.path.pin = none ∧ t.prospect = t.findProspect ∧ t.eligible (.line .a) = true ∧
      connectors.all (fun y => !t.eligible y ||
        decide (t.liveScore y ≤ t.liveScore (.line .a) + t.policy.switchMargin)) = true) :=
  ⟨ready_of _ _ rfl rfl rfl rfl rfl rfl rfl, ready_of _ _ rfl rfl rfl rfl rfl rfl rfl, by decide, by decide⟩

theorem test_hyp_primary :
    let s := withA (inState .base)
    s.slotReady 0 ∧ s.path.inFlight = none ∧ connectorOf (post 0 0).port.toNat = some (.line .a) ∧
      s.eligible (.line .a) = true ∧ s.path.state ≠ .closed (.line .a) ∧ s.eligible .barrel = false ∧
      (onPath s (.closed (.line .a))).eligible (.line .a) = true :=
  ⟨ready_of _ _ rfl rfl rfl rfl rfl rfl rfl, rfl, rfl, by decide, by decide, by decide, by decide⟩

theorem test_hyp_abort :
    let s := State.reset.withExch (State.reset.exch.setSlot 7 { Slot.cleared with copy := .taken })
    s.slotReady 0 ∧ (7 : Fin 8) ≠ 0 ∧ (s.exch.slot 7).copy = .taken ∧ (s.exch.slot 6).copy ≠ .taken ∧
      7 < (8 : Byte).toNat := by
  refine ⟨⟨rfl, ?_, ?_, by decide, by decide, by decide⟩, by decide, rfl, by decide, by decide⟩
  · decide
  · intro p q h
    cases p <;> cases h

/-- An identification with its REFRESH taken in slot 7, the target of the ABORT. -/
theorem test_hyp_abort_of_refresh :
    let s := (barrelIn .identifying none).withBarrel
      { Barrel.cleared with state := .identifying, count := 5, sum := 2500, refreshPending := false, inFlight := some 7 }
    let u := s.withExch (s.exch.setSlot 7 { Slot.cleared with copy := .taken })
    u.slotReady 0 ∧ (u.exch.slot 7).copy = .taken ∧ u.barrel.inFlight = some 7 ∧ u.barrel.state = .identifying := by
  refine ⟨⟨rfl, by decide, ?_, by decide, by decide, by decide⟩, rfl, rfl, rfl⟩
  intro p q h
  cases p <;> cases h

/-! The rules behind the choices -/

/-- R86 at the window's ends, 5000 and 20000 under VIN_MIN 4950 rounded up and VIN_MAX 20050 rounded down. -/
theorem test_chosen_volts :
    let q : Policy := { Policy.initial with vinMin := 4950, vinMax := 20050 }
    let fixed := fun v => chosenVolts q { fixed20 with lo := v, hi := v }
    let span := fun lo hi => chosenVolts q { fixed20 with form := .span, lo := lo, hi := hi }
    fixed 5000 = some 5000 ∧ fixed 4900 = none ∧ fixed 20000 = some 20000 ∧ fixed 20100 = none ∧
      span 5000 21000 = some 20000 ∧ span 20000 24000 = some 20000 ∧ span 20100 24000 = none ∧ span 4000 4900 = none ∧
      chosenVolts q { fixed20 with usable := false } = none := by decide

theorem test_hyp_winner : winner dockPolicy (.line .c) dockLevels =
    some ⟨5, 20000, 60000, ⟨.span, false, 5000, 21000, 3000, true, 0⟩⟩ := by decide

/-- R190, R119, R95: a failed close check sets A's path_fault, and A's claim under its new role is an event of its own, so
the revision word of A's page rises by 4. -/
theorem test_failed_check_then_claim_rewrites_twice :
    let bound : PortRecord := { inState .bound with live := some { adapter with operating := 2250 }, image := some oneLevel }
    let s := (withA bound).withPath { State.reset.path with state := .closing (.line .a), softStart := some 5 };
    ((after .softStartExpiry s).map fun t =>
        ((t.exch.pageRev.get (.line .a)).toNat, (t.port .a).state, (t.port .a).pathFault)) =
      some (4, .claimed, true) := by decide +kernel

/-- Each row of R93: out of service, barred, pinned, SHIFTING, no image, a winner, no candidate. -/
theorem test_hyp_prospective :
    let s := fun r => withA r
    let image : PortRecord := { inState .bound with image := some oneLevel, live := some adapter }
    let blank : PortRecord := { image with image := some ⟨.adapter, 7, 0, []⟩ };
    (s (inState .faulted)).prospective (.line .a) = none ∧
    (s { image with barred := true, staged := some Contract.base }).prospective (.line .a) = some 2500 ∧
    (s { image with pin := some ⟨1, 20000, 1000⟩ }).prospective (.line .a) = some 20000 ∧
    (s { image with state := .shifting, staged := some Contract.base }).prospective (.line .a) = some 2500 ∧
    (s { image with image := none }).prospective (.line .a) = some 45000 ∧
    ((s image).prospective (.line .a) = some 45000 ∧ (winner Policy.initial (.line .a) oneLevel.levels).isSome = true) ∧
    ((s blank).prospective (.line .a) = some 45000 ∧ winner Policy.initial (.line .a) [] = none) := by decide

/-- R93's rows of D, and R94: nobody scored; a tie to the lower number without an incumbent; the incumbent A at 2500 mW
against D at 7500 and at 7501 mW with SWITCH_MARGIN_MW 5000; the dead flag; the pin. -/
theorem test_hyp_prospect :
    let s := beside (Contract.ofBarrel 7500 1000)
    let u := beside (Contract.ofBarrel 7501 1000)
    let tie := onPath (beside (Contract.ofBarrel 5000 500)) .idle
    (State.reset.prospective .barrel = none ∧ (barrelIn .unusable none).prospective .barrel = none ∧
      s.prospective .barrel = some 7500 ∧ s.prospective (.line .a) = some 2500) ∧
    (connectors.all (fun x => decide (State.reset.prospective x = none)) = true ∧ State.reset.findProspect = none) ∧
    (tie.prospective .barrel = tie.prospective (.line .a) ∧ tie.findProspect = some (.line .a)) ∧
    s.findProspect = some (.line .a) ∧ u.findProspect = some .barrel ∧
    (u.withMeas { u.meas with dead := true }).findProspect = some (.line .a) ∧
    (u.withPath { u.path with pin := some (.line .a) }).findProspect = some (.line .a) := by decide

/-- 8.2, step 4: while the primary shifts the budget is at most SHIFT_MA, 500. -/
theorem test_hyp_budget_shifting :
    let s := (onPath (withA { inState .shifting with live := some adapter, staged := some adapter })
      (.closed (.line .a))).recomputeBudget
    s.reg.spTarget = s.budget ∧ s.live (.line .a) = some adapter ∧ (s.port .a).state = .shifting ∧ s.reg.spTarget = 500 := by
  decide

theorem test_hyp_budget_current :
    State.reset.reg.spTarget = State.reset.budget ∧ State.reset.pathClosed = false ∧
    (drawing { State.reset.reg with spTarget := 2135 }).budget = 2135 := by decide

/-- 8.2: 2250 mA at 20 V, DERATE 243: 2250 × 243 / 256 = 2135. -/
theorem test_hyp_budget : (drawing State.reset.reg).live (.line .a) = some adapter ∧ Policy.initial.derate ≤ 256 ∧
    (drawing State.reset.reg).budget = 2135 ∧ ({ Policy.initial with derate := 256 }).derate = 256 := by decide

end Sys2Proof.Tests
end

section
/-! The regulator step at an IIN completion on a CLOSED path (R145-R149, R157, R158): what each part of the step does, said
once, and the PI step of AUTO and the MANUAL ramp assembled from the parts. -/

namespace Sys2Proof.Machine

/-! ### A result enters the table (R125) -/

theorem enter_eq_rowAfter (row : ChannelRow) (v : Nat) : row.enter v = rowAfter row v := by
  obtain ⟨_, lo, hi⟩ := row
  have least : ∀ m : Nat, (if v < m then v else m) = min m v := fun m => by split <;> omega
  have most : ∀ m : Nat, (if m < v then v else m) = max m v := fun m => by split <;> omega
  cases lo <;> cases hi <;> simp [ChannelRow.enter, rowAfter, least, most]

theorem State.enterResult_iin (s : State) (v : Nat) :
    s.enterResult .iin v =
      s.entered { s.meas.table with iin := rowAfter s.meas.table.iin v } (some (.volts (.line .a))) := by
  simp only [State.enterResult, State.entered, ResultTable.get, ResultTable.set, Channel.following,
    enter_eq_rowAfter]

/-! ### The ramp (R149) -/

theorem rampOutput_toInt (rate output target : Nat) :
    (rampOutput rate output target : Int) =
      if ((target : Int) - output).natAbs ≤ (rate : Int) then (target : Int)
      else if (output : Int) < target then (output : Int) + rate else (output : Int) - rate := by
  unfold rampOutput
  split <;> split <;> omega

/-- The ramp stays between the output and the target it moves to. -/
theorem rampOutput_between {lo hi output target : Nat} (rate : Nat) (ho : lo ≤ output ∧ output ≤ hi)
    (ht : lo ≤ target ∧ target ≤ hi) : lo ≤ rampOutput rate output target ∧ rampOutput rate output target ≤ hi := by
  unfold rampOutput
  split <;> split <;> omega

theorem Regulator.inRange.rampOutput_within {g : Regulator} {q : Policy} (h : g.inRange q) (hm : g.mode = .manual) :
    q.satLo ≤ rampOutput q.manualRate g.output g.manualTarget ∧
      rampOutput q.manualRate g.output g.manualTarget ≤ q.satHi := by
  obtain ⟨htarget, hmode⟩ := h
  rw [hm] at hmode
  obtain ⟨hlo, hhi, -, -⟩ := hmode
  exact rampOutput_between _ ⟨hlo, hhi⟩ htarget

/-! ### The parts of a step (R146) -/

@[simp] theorem Regulator.advance_mode (g : Regulator) (q : Policy) (pv : Nat) : (g.advance q pv).mode = g.mode := by
  unfold Regulator.advance Regulator.compute
  split
  · split <;> rfl
  · rfl
  · rfl

@[simp] theorem Regulator.advance_overdraw (g : Regulator) (q : Policy) (pv : Nat) :
    (g.advance q pv).overdraw = g.overdraw := by
  unfold Regulator.advance Regulator.compute
  split
  · split <;> rfl
  · rfl
  · rfl

theorem Regulator.advance_auto {g : Regulator} (q : Policy) (pv : Nat) (hm : g.mode = .auto) (ht : g.transfer = false) :
    g.advance q pv = Regulator.piStep { g with spf := advanceFilter q g.spf g.spTarget } q pv := by
  simp [Regulator.advance, Regulator.compute, hm, ht]

theorem Regulator.advance_manual {g : Regulator} (q : Policy) (pv : Nat) (hm : g.mode = .manual) :
    g.advance q pv = Regulator.manualStep { g with spf := advanceFilter q g.spf g.spTarget } q := by
  simp [Regulator.advance, Regulator.compute, hm]

theorem Regulator.trips_iff (g : Regulator) (q : Policy) (limit pv : Nat) :
    g.trips q limit pv = true ↔ overdrawThreshold q limit < pv ∧ 10 ≤ g.overdraw + 1 := by
  simp [Regulator.trips, Config.overdrawTrip]

/-- A sample that is not above the threshold, or not the tenth one above it, trips nothing. -/
theorem Regulator.advance_not_trips {g : Regulator} {q : Policy} {limit pv : Nat}
    (quiet : overdrawThreshold q limit < pv → g.overdraw + 1 < 10) : ¬ (g.advance q pv).trips q limit pv = true := by
  rw [Regulator.trips_iff, Regulator.advance_overdraw]
  omega

theorem Regulator.guard_of_not_trips {g : Regulator} {q : Policy} {limit pv : Nat} (h : ¬ g.trips q limit pv = true) :
    g.guard q limit pv = { g with overdraw := if overdrawThreshold q limit < pv then g.overdraw + 1 else 0 } := by
  rw [Regulator.guard, if_neg h]
  split <;> rfl

theorem Regulator.guard_of_trips {g : Regulator} {q : Policy} {limit pv : Nat} (h : g.trips q limit pv = true) :
    g.guard q limit pv =
      { g.atSatLo q with manualTarget := if g.mode = .manual then q.satLo else g.manualTarget, overdraw := 0 } := by
  rw [Regulator.guard, if_pos h]

theorem Regulator.countSaturation_auto {g : Regulator} (q : Policy) (hm : g.mode = .auto) :
    g.countSaturation q =
      { g with saturation := if g.output = q.satHi then counted g.saturation else g.saturation } := by
  unfold Regulator.countSaturation
  by_cases top : g.output = q.satHi
  · rw [if_pos ⟨hm, top⟩, if_pos top]
    rfl
  · rw [if_neg fun h => top h.2, if_neg top]

theorem Regulator.countSaturation_of_ne_auto {g : Regulator} (q : Policy) (hm : g.mode ≠ .auto) :
    g.countSaturation q = g := by
  rw [Regulator.countSaturation, if_neg fun h => hm h.1]

/-! ### Whole steps -/

theorem Regulator.step_of_not_trips {g : Regulator} {q : Policy} {limit pv : Nat}
    (quiet : overdrawThreshold q limit < pv → g.overdraw + 1 < 10) :
    g.step q limit pv = Regulator.countSaturation
      { g.advance q pv with overdraw := if overdrawThreshold q limit < pv then g.overdraw + 1 else 0 } q := by
  rw [Regulator.step, Regulator.guard_of_not_trips (Regulator.advance_not_trips quiet), Regulator.advance_overdraw]

/-- The PI step of AUTO where the guard does not trip (R147, R157, R158). -/
theorem Regulator.step_auto {g : Regulator} {q : Policy} {limit pv : Nat} (hm : g.mode = .auto) (ht : g.transfer = false)
    (quiet : overdrawThreshold q limit < pv → g.overdraw + 1 < 10) :
    g.step q limit pv =
      let spf := advanceFilter q g.spf g.spTarget
      let e : Int := (spf : Int) - pv
      let acc := clampAcc q (g.iacc + q.ki * e)
      { g with
        spf := spf, iacc := acc, output := piOutput q e acc
        overdraw := if overdrawThreshold q limit < pv then g.overdraw + 1 else 0
        saturation := if piOutput q e acc = q.satHi then counted g.saturation else g.saturation } := by
  rw [Regulator.step_of_not_trips quiet, Regulator.countSaturation_auto q (by simp [hm]),
    Regulator.advance_auto q pv hm ht]
  rfl

/-- The MANUAL step where the guard does not trip (R149, R157). -/
theorem Regulator.step_manual {g : Regulator} {q : Policy} {limit pv : Nat} (hm : g.mode = .manual)
    (quiet : overdrawThreshold q limit < pv → g.overdraw + 1 < 10) :
    g.step q limit pv =
      let out := rampOutput q.manualRate g.output g.manualTarget
      { g with
        spf := advanceFilter q g.spf g.spTarget, output := out, iacc := (out : Int) * 256
        overdraw := if overdrawThreshold q limit < pv then g.overdraw + 1 else 0 } := by
  rw [Regulator.step_of_not_trips quiet, Regulator.countSaturation_of_ne_auto q (by simp [hm]),
    Regulator.advance_manual q pv hm]
  rfl

/-- The MANUAL step in which the guard trips (R157). -/
theorem Regulator.step_manual_of_trips {g : Regulator} {q : Policy} {limit pv : Nat} (hm : g.mode = .manual)
    (above : overdrawThreshold q limit < pv) (tenth : g.overdraw = 9) :
    g.step q limit pv =
      { g with
        spf := advanceFilter q g.spf g.spTarget, output := q.satLo, iacc := (q.satLo : Int) * 256, overdraw := 0
        manualTarget := q.satLo } := by
  have htrip : (g.advance q pv).trips q limit pv = true := by simp [Regulator.trips_iff, above, tenth]
  rw [Regulator.step, Regulator.guard_of_trips htrip,
    Regulator.countSaturation_of_ne_auto q (by simp [Regulator.atSatLo, hm]), Regulator.advance_manual q pv hm]
  simp [Regulator.atSatLo, Regulator.manualStep, hm]

/-! ### The delivery of an IIN result (R146, R157) -/

theorem State.pathLimit_eq {s : State} {x : Connector} {k : Contract} (h : s.live x = some k) : s.pathLimit x = k.limit := by
  simp [State.pathLimit, h]

theorem State.deliverIin_reg {s : State} {x : Connector} {k : Contract} (v : Nat) (hk : s.live x = some k)
    (hm : s.reg.mode ≠ .off) :
    (s.deliverIin x v).reg = Regulator.step { s.reg with lastPV := v } s.policy k.limit v := by
  unfold State.deliverIin
  rw [if_neg hm, State.pathLimit_eq hk]
  dsimp only
  split <;> rfl

/-- Without a trip nothing is journalled: the delivery changes the regulator alone. -/
theorem State.deliverIin_of_not_trips {s : State} {x : Connector} {k : Contract} {v : Nat} (hk : s.live x = some k)
    (hm : s.reg.mode ≠ .off) (quiet : overdrawThreshold s.policy k.limit < v → s.reg.overdraw + 1 < 10) :
    s.deliverIin x v = s.withReg (Regulator.step { s.reg with lastPV := v } s.policy k.limit v) := by
  unfold State.deliverIin
  rw [if_neg hm, State.pathLimit_eq hk]
  exact if_neg (Regulator.advance_not_trips (g := { s.reg with lastPV := v }) quiet)

/-! ### IIN_COMPLETION on a CLOSED path -/

theorem exec_iinCompletion_closed {s : State} {x : Connector} (r : Int) (hp : s.path.state = .closed x) :
    exec (.iinCompletion r) s =
      .next ((s.entered { s.meas.table with iin := rowAfter s.meas.table.iin (min 10000 r.toNat) }
        (some (.volts (.line .a)))).deliverIin x (min 10000 r.toNat)) := by
  change execIinCompletion r s = _
  rw [← State.enterResult_iin]
  have hpath : (s.enterResult .iin (Channel.iin.result r)).path.state = .closed x := hp
  simp only [execIinCompletion, hpath]
  rfl

/-- Trip or not, the regulator takes one step at the result (R146). -/
theorem exec_iinCompletion_reg {s : State} {x : Connector} {k : Contract} {g : Regulator} (r : Int)
    (hp : s.path.state = .closed x) (hk : s.live x = some k) (hm : s.reg.mode ≠ .off)
    (hg : Regulator.step { s.reg with lastPV := min 10000 r.toNat } s.policy k.limit (min 10000 r.toNat) = g) :
    ∃ t, exec (.iinCompletion r) s = .next t ∧ t.reg = g := by
  refine ⟨_, exec_iinCompletion_closed r hp, ?_⟩
  rw [← hg]
  exact State.deliverIin_reg _ hk hm

/-- A command that leaves the records of all connectors has no page to rewrite. -/
theorem leads_of_records_kept {c : Instr} {s u : State} (h : exec c s = .next u) (hp : u.ports = s.ports)
    (hb : u.barrel = s.barrel) : leads c s u := by
  have kept : ∀ x, recordChanged s u x = false := fun x => by
    rw [recordChanged_congr x hp hb]
    cases x <;> simp [recordChanged]
  exact leads_of_finish (by rw [State.finish_of_unchanged kept, h])

/-- An IIN result at which the guard does not trip: its entry in the table and one regulator step (R146). -/
theorem leads_iinCompletion_of_not_trips {s : State} {x : Connector} {k : Contract} {g : Regulator} (r : Int)
    (hp : s.path.state = .closed x) (hk : s.live x = some k) (hm : s.reg.mode ≠ .off)
    (quiet : overdrawThreshold s.policy k.limit < min 10000 r.toNat → s.reg.overdraw + 1 < 10)
    (hg : Regulator.step { s.reg with lastPV := min 10000 r.toNat } s.policy k.limit (min 10000 r.toNat) = g) :
    leads (.iinCompletion r) s
      ((s.entered { s.meas.table with iin := rowAfter s.meas.table.iin (min 10000 r.toNat) }
        (some (.volts (.line .a)))).withReg g) := by
  refine leads_of_records_kept ?_ rfl rfl
  rw [exec_iinCompletion_closed r hp, ← hg]
  exact congrArg _ (State.deliverIin_of_not_trips hk hm quiet)

/-- Settles O21: the ramp's step where the guard does not trip, and the step in which it does. -/
theorem iinStepInManual : Obligations.IinStepInManual := by
  intro s r x k hp hk hm
  have hon : s.reg.mode ≠ .off := by simp [hm]
  refine ⟨fun quiet => ?_, fun above tenth => ?_⟩
  · exact ⟨rampOutput s.policy.manualRate s.reg.output s.reg.manualTarget, rampOutput_toInt _ _ _,
      fun range => range.rampOutput_within hm,
      leads_iinCompletion_of_not_trips r hp hk hon quiet (Regulator.step_manual hm quiet)⟩
  · exact exec_iinCompletion_reg r hp hk hon (Regulator.step_manual_of_trips hm above tenth)

/-- Settles O19: the delivery of an IIN result without a trip, with the PI step of AUTO. -/
theorem iinStepInAuto : Obligations.IinStepInAuto := by
  intro s r x k hp hk hm ht v above quiet
  have hon : s.reg.mode ≠ .off := by simp [hm]
  exact leads_iinCompletion_of_not_trips r hp hk hon quiet (Regulator.step_auto hm ht quiet)

end Sys2Proof.Machine
end

section
/-! The host's writes to exchange memory (R176, R180) and the release word (R188, R189): the bytes and the marks that a
MEM_WRITE leaves, and what a release does with them. -/

namespace Sys2Proof.Machine

/-! ### The bytes of a MEM_WRITE (R176) -/

/-- Bytes of one MEM_WRITE that are less than the memory's size apart lie at different addresses. -/
theorem spiAddress_ne (addr : Half) {i j : Nat} (hlt : i < j) (hclose : j < i + 2048) :
    spiAddress addr i ≠ spiAddress addr j := by
  simp only [spiAddress, Config.memBytes]
  omega

/-- A byte that a MEM_WRITE of at most the whole memory stores stands at its address. -/
theorem readByte_storeBytes_inside (m : List Host.Cell) (addr : Half) (i : Nat) (bs : List Byte)
    (fits : bs.length ≤ 2048) (j : Nat) (hj : j < bs.length) :
    readByte (storeBytes m addr i bs) (spiAddress addr (i + j)) = bs.getD j 0 := by
  induction bs generalizing m i j with
  | nil => cases hj
  | cons b bs ih =>
    simp only [List.length_cons] at fits hj
    cases j with
    | zero =>
      rw [storeBytes, readByte_storeBytes_outside _ _ _ _ _ fun l hl => (spiAddress_ne addr (by omega) (by omega)).symm]
      exact readByte_writeBlock_inside m _ [b] 0 Nat.one_pos
    | succ j =>
      rw [show i + (j + 1) = i + 1 + j by omega]
      exact ih _ (i + 1) (by omega) j (by omega)

/-- Memory after a MEM_WRITE is what its bytes and the bytes it does not store make it. -/
theorem readByte_storeBytes_eq {m : List Host.Cell} {addr : Half} {data : List Byte} {host : Nat → Byte}
    (fits : data.length ≤ 2048) (stored : ∀ i, i < data.length → host ((addr.toNat + i) % 2048) = data.getD i 0)
    (kept : ∀ a, (∀ i, i < data.length → (addr.toNat + i) % 2048 ≠ a) → host a = readByte m a) (a : Nat) :
    readByte (storeBytes m addr 0 data) a = host a := by
  by_cases h : ∃ i, i < data.length ∧ (addr.toNat + i) % 2048 = a
  · obtain ⟨i, hi, rfl⟩ := h
    rw [stored i hi, ← readByte_storeBytes_inside m addr 0 data fits i hi, Nat.zero_add]
    rfl
  · have away : ∀ i, i < data.length → (addr.toNat + i) % 2048 ≠ a := fun i hi e => h ⟨i, hi, e⟩
    rw [kept a away]
    exact readByte_storeBytes_outside m addr 0 data a fun i hi => by rw [Nat.zero_add]; exact away i hi

/-- The decision whether a MEM_WRITE stored a byte, as the existence of the byte's number. -/
theorem storedAt_iff (addr : Half) {count a : Nat} (fits : count ≤ 2048) (ha : a < 2048) :
    storedAt addr count a = true ↔ ∃ i, i < count ∧ (addr.toNat + i) % 2048 = a := by
  rw [storedAt, decide_eq_true_eq, Config.memBytes]
  constructor
  · intro h
    refine ⟨(a + 2048 - addr.toNat % 2048) % 2048, h, ?_⟩
    omega
  · rintro ⟨i, hi, rfl⟩
    omega

/-! ### The marks of a MEM_WRITE (R180) -/

theorem Exchange.slot_setMark (x : Exchange) (j k : Fin 8) :
    (x.setMark k).slot j = { x.slot j with mark := (x.slot j).mark || decide (j = k) } := by
  by_cases h : j = k
  · subst h
    simp [Exchange.setMark]
  · simp [Exchange.setMark, Exchange.slot_setSlot_of_ne x _ h, h]

/-- Marking changes the marks of the slots alone. -/
theorem Exchange.markStored_rest (x : Exchange) (addr : Half) (count : Nat) :
    x.markStored addr count = { x with slots := (x.markStored addr count).slots } := by
  unfold Exchange.markStored
  generalize slotIds = l
  induction l generalizing x with
  | nil => rfl
  | cons k l ih =>
    rw [List.foldl_cons]
    split
    · exact ih (x.setMark k)
    · exact ih x

/-- Marking the slots of a list whose state byte was stored. -/
theorem Exchange.slot_markEach (addr : Half) (count : Nat) (l : List (Fin 8)) (x : Exchange) (j : Fin 8) :
    (l.foldl (fun y k => if storedAt addr count (slotAddress k) then y.setMark k else y) x).slot j =
      { x.slot j with mark := (x.slot j).mark || (decide (j ∈ l) && storedAt addr count (slotAddress j)) } := by
  induction l generalizing x with
  | nil => simp
  | cons k l ih =>
    rw [List.foldl_cons, ih]
    by_cases hjk : j = k
    · subst hjk
      cases h : storedAt addr count (slotAddress j) <;> simp [Exchange.slot_setMark]
    · split <;> simp [Exchange.slot_setMark, hjk]

theorem mem_slotIds (k : Fin 8) : k ∈ slotIds := by
  revert k
  decide

/-- A slot is marked by the storing of its state byte, and keeps its copy and request. -/
theorem Exchange.slot_markStored (x : Exchange) (addr : Half) (count : Nat) (j : Fin 8) :
    (x.markStored addr count).slot j =
      { x.slot j with mark := (x.slot j).mark || storedAt addr count (slotAddress j) } := by
  rw [Exchange.markStored, Exchange.slot_markEach, decide_eq_true (mem_slotIds j), Bool.true_and]

/-! ### The release word (R188, R189) -/

/-- A two-byte number in memory as the word of its bytes. -/
theorem ofNat_read2 (m : List Host.Cell) (a : Nat) :
    BitVec.ofNat 16 (read2 m a) = (readByte m (a + 1) ++ readByte m a : Half) := by
  apply BitVec.eq_of_toNat_eq
  have low := (readByte m a).isLt
  have high := (readByte m (a + 1)).isLt
  rw [BitVec.toNat_append, ← Nat.shiftLeft_add_eq_or_of_lt low, Nat.shiftLeft_eq, read2, BitVec.toNat_ofNat]
  omega

/-- Memory after a GAP (R189): its record, the write number, and no record withheld. -/
def gapMemory (m : List Host.Cell) (n : Half) (time : Word) (withheld : Nat) : List Host.Cell :=
  writeBlock (writeBlock (writeBlock m (recordAddress n) (recordBytes n 0xFF 0xFF time (le2 withheld)))
    Config.writeNumberAt (le2 n.toNat)) Config.withheldAt (le2 0)

/-- The record of a GAP stands in the journal. -/
theorem readByte_gapMemory_record (m : List Host.Cell) (n : Half) (time : Word) (withheld : Nat) {i : Nat} (h : i < 16) :
    readByte (gapMemory m n time withheld) (recordAddress n + i) =
      (recordBytes n 0xFF 0xFF time (le2 withheld)).getD i 0 := by
  have := recordAddress_bounds n
  rw [gapMemory, readByte_writeBlock_outside, readByte_writeBlock_outside, readByte_writeBlock_inside]
  · rfl
  · rwa [length_recordBytes]
  · rw [length_le2, Config.writeNumberAt]
    omega
  · rw [length_le2, Config.withheldAt]
    omega

/-- The write number and the withheld count after a GAP. -/
theorem readByte_gapMemory_counts (m : List Host.Cell) (n : Half) (time : Word) (withheld : Nat) {i : Nat} (h : i < 4) :
    readByte (gapMemory m n time withheld) (0x400 + i) = (le2 n.toNat ++ [0, 0]).getD i 0 := by
  by_cases number : i < 2
  · rw [gapMemory, readByte_writeBlock_outside _ _ _ _ (by rw [Config.withheldAt]; omega),
      List.getD_append _ _ _ _ (by rwa [length_le2])]
    exact readByte_writeBlock_inside _ Config.writeNumberAt _ i (by rwa [length_le2])
  · obtain ⟨j, rfl⟩ : ∃ j, i = 2 + j := ⟨i - 2, by omega⟩
    rw [List.getD_append_right _ _ _ _ (by simp), length_le2, Nat.add_sub_cancel_left, ← Nat.add_assoc]
    exact readByte_writeBlock_inside _ Config.withheldAt (le2 0) j (by rw [length_le2]; omega)

/-- A GAP leaves every other byte. -/
theorem readByte_gapMemory_outside (m : List Host.Cell) (n : Half) (time : Word) (withheld : Nat) {a : Nat}
    (counts : a < 0x400 ∨ 0x404 ≤ a) (record : a < recordAddress n ∨ recordAddress n + 16 ≤ a) :
    readByte (gapMemory m n time withheld) a = readByte m a := by
  rw [gapMemory, readByte_writeBlock_outside, readByte_writeBlock_outside, readByte_writeBlock_outside]
  · rwa [length_recordBytes]
  · rw [length_le2, Config.writeNumberAt]
    omega
  · rw [length_le2, Config.withheldAt]
    omega

/-- What the release word can do (R188, R189): nothing where it names neither P nor an unconsumed record; move P; or move P
and write the GAP for which that makes room. -/
theorem Exchange.release_cases (x : Exchange) (time : Word) {v : Half}
    (hv : (readByte x.mem 0x405 ++ readByte x.mem 0x404 : Half) = v) :
    (¬ (v - x.released).toNat ≤ x.unconsumed ∧ x.release time = x) ∨
    ((v - x.released).toNat ≤ x.unconsumed ∧ ¬ (0 < x.withheld ∧ (x.written - v).toNat < 32) ∧
      x.release time = { x with released := v }) ∨
    ((v - x.released).toNat ≤ x.unconsumed ∧ (0 < x.withheld ∧ (x.written - v).toNat < 32) ∧
      x.release time = { x with
        mem := gapMemory x.mem (x.written + 1) time x.withheld, released := v, written := x.written + 1, withheld := 0
        attn := x.attn ||| causeJournal }) := by
  have word : BitVec.ofNat 16 (read2 x.mem Config.releaseAt) = v := (ofNat_read2 _ _).trans hv
  unfold Exchange.release
  simp only [word]
  split
  next named =>
    unfold Exchange.gap
    split
    next room => exact .inr (.inr ⟨named, room, rfl⟩)
    next full => exact .inr (.inl ⟨named, full, rfl⟩)
  next foreign => exact .inl ⟨foreign, rfl⟩

/-- A MEM_WRITE that stores a byte of the release word ends with the release, over its own bytes and marks. -/
theorem Exchange.memWrite_releases (x : Exchange) {addr : Half} {data : List Byte} (time : Word) (fits : data.length ≤ 2048)
    (word : ∃ i, i < data.length ∧ ((addr.toNat + i) % 2048 = 0x404 ∨ (addr.toNat + i) % 2048 = 0x405)) :
    ∃ slots : Vector Slot 8,
      (∀ k : Fin 8, slots[k.val] =
        { x.slot k with mark := (x.slot k).mark || storedAt addr data.length (slotAddress k) }) ∧
      x.memWrite addr data time =
        Exchange.release { x with mem := storeBytes x.mem addr 0 data, slots := slots } time := by
  have stored : (storedAt addr data.length Config.releaseAt || storedAt addr data.length (Config.releaseAt + 1)) = true := by
    rw [Bool.or_eq_true, storedAt_iff addr fits (by decide), storedAt_iff addr fits (by decide)]
    obtain ⟨i, hi, low | high⟩ := word
    · exact .inl ⟨i, hi, low⟩
    · exact .inr ⟨i, hi, high⟩
  have rest := Exchange.markStored_rest { x with mem := storeBytes x.mem addr 0 data } addr data.length
  refine ⟨_, Exchange.slot_markStored { x with mem := storeBytes x.mem addr 0 data } addr data.length, ?_⟩
  exact (if_pos stored).trans (congrArg (·.release time) rest)

@[simp] theorem Exchange.release_slots (x : Exchange) (time : Word) : (x.release time).slots = x.slots := by
  rcases x.release_cases time rfl with ⟨-, e⟩ | ⟨-, -, e⟩ | ⟨-, -, e⟩ <;> rw [e]

/-- A release changes memory, P, W, the withheld count and the attention causes alone. -/
theorem Exchange.release_rest (x : Exchange) (time : Word) :
    x.release time = { x with
      mem := (x.release time).mem, released := (x.release time).released, written := (x.release time).written
      withheld := (x.release time).withheld, attn := (x.release time).attn } := by
  rcases x.release_cases time rfl with ⟨-, e⟩ | ⟨-, -, e⟩ | ⟨-, -, e⟩ <;> rw [e]

/-- Settles O44: the host's bytes and marks, then the cases of the release. -/
theorem releaseWordFreesRecords : Obligations.ReleaseWordFreesRecords := by
  intro s addr data fits word host stored kept v n entry
  obtain ⟨slots, marks, writes⟩ := s.exch.memWrite_releases s.time fits word
  have bytes := readByte_storeBytes_eq fits stored kept
  generalize storeBytes s.exch.mem addr 0 data = m at writes bytes
  generalize hy : { s.exch with mem := m, slots := slots } = y at writes
  have hslot : ∀ k, (y.release s.time).slot k = slots[k.val] := fun k => by
    rw [Exchange.slot]
    simp only [Exchange.release_slots, ← hy]
  refine ⟨s.withExch (y.release s.time), ((exec_spi s).2.1 addr data).trans (by rw [writes]), fun k => ?_, fun k => ?_, ?_⟩
  · have inside := (slotAddress_bounds k).2
    rw [State.withExch_exch, hslot, marks, Bool.or_eq_true, storedAt_iff addr fits (by omega)]
    rfl
  · rw [State.withExch_exch, hslot, marks]
    exact ⟨rfl, rfl⟩
  rw [State.withExch_exch]
  refine ⟨congrArg s.withExch ((y.release_rest s.time).trans (by rw [← hy]; simp)), ?_⟩
  have hv : (readByte y.mem 0x405 ++ readByte y.mem 0x404 : Half) = v := by
    rw [← hy, bytes, bytes]
  have cases := y.release_cases s.time hv
  have same : y.unconsumed = s.exch.unconsumed := by
    rw [← hy]
    rfl
  rw [same] at cases
  subst hy
  dsimp only at cases
  rcases cases with ⟨foreign, e⟩ | ⟨named, full, e⟩ | ⟨named, room, e⟩
  · rw [e, if_neg foreign, if_neg fun h => foreign h.1]
    exact ⟨rfl, rfl, rfl, rfl, bytes⟩
  · rw [e, if_pos named, if_neg fun h => full h.2]
    exact ⟨rfl, rfl, rfl, rfl, bytes⟩
  · rw [e, if_pos named, if_pos ⟨named, room⟩]
    refine ⟨rfl, rfl, rfl, rfl, fun i hi => ?_, fun i hi => ?_, fun a counts record => ?_⟩
    · exact readByte_gapMemory_record m n s.time s.exch.withheld hi
    · exact readByte_gapMemory_counts m n s.time s.exch.withheld hi
    · exact (readByte_gapMemory_outside m n s.time s.exch.withheld counts record).trans (bytes a)

end Sys2Proof.Machine
end

section
/-! The slot reader (R181, R182): which slot it examines, what an examination does by the table of R182, and that no
request taken sets a mark. -/

namespace Sys2Proof.Machine

/-! ### What keeps the marks (R180, R181) -/

/-- The marks of the slots, in number order. -/
def Exchange.marks (x : Exchange) : Vector Bool 8 := x.slots.map Slot.mark

theorem Exchange.getElem_marks (x : Exchange) (k : Fin 8) : x.marks[k.val] = (x.slot k).mark :=
  Vector.getElem_map Slot.mark k.isLt

/-- A slot set to one of the same mark. -/
theorem Exchange.marks_setSlot (x : Exchange) {k : Fin 8} {v : Slot} (h : v.mark = (x.slot k).mark) :
    (x.setSlot k v).marks = x.marks := by
  refine Vector.ext fun i hi => ?_
  have at_i := Exchange.getElem_marks (x.setSlot k v) ⟨i, hi⟩
  have before := Exchange.getElem_marks x ⟨i, hi⟩
  by_cases hik : (⟨i, hi⟩ : Fin 8) = k
  · subst hik
    rw [Exchange.slot_setSlot_self, h] at at_i
    exact at_i.trans before.symm
  · rw [Exchange.slot_setSlot_of_ne x v hik] at at_i
    exact at_i.trans before.symm

@[simp] theorem Exchange.marks_submit (x : Exchange) (t : Word) (k b : Byte) (d : List Byte) :
    (x.submit t k b d).marks = x.marks :=
  congrArg (Vector.map Slot.mark) (x.submit_keeps t k b d).1

@[simp] theorem Exchange.marks_complete (x : Exchange) (k : Fin 8) (c : ResultCode) (d : List Byte) :
    (x.complete k c d).marks = x.marks :=
  Exchange.marks_setSlot x (v := { x.slot k with copy := .done }) rfl

@[simp] theorem Exchange.marks_take (x : Exchange) (k : Fin 8) : (x.take k).marks = x.marks :=
  Exchange.marks_setSlot x (v := { x.slot k with copy := .taken, req := readRequest x.mem k }) rfl

@[simp] theorem State.marks_journal (s : State) (k b : Byte) (d : List Byte) :
    (s.journal k b d).exch.marks = s.exch.marks := Exchange.marks_submit s.exch s.time k b d

@[simp] theorem State.marks_complete (s : State) (k : Fin 8) (c : ResultCode) (d : List Byte) :
    (s.complete k c d).exch.marks = s.exch.marks := Exchange.marks_complete s.exch k c d

@[simp] theorem State.marks_finish (s t : State) : (s.finish t).exch.marks = t.exch.marks := by
  have slots := congrArg Exchange.slots (State.finish_exch_rest s t)
  exact congrArg (Vector.map Slot.mark) slots

/-! #### The Negotiation Unit -/

@[simp] theorem State.marks_completePort (s : State) (p : LinePort) (ks : List PortRequestKind) (c : ResultCode) :
    (s.completePort p ks c).exch.marks = s.exch.marks := by
  rcases State.completePort_cases s p ks c with ⟨q, -, -, e⟩ | ⟨-, e⟩ <;> rw [e]
  simp

@[simp] theorem State.marks_applyOutcome (s : State) (p : LinePort) (o : Outcome) :
    (s.applyOutcome p o).exch.marks = s.exch.marks := by
  cases o <;> simp only [State.applyOutcome]
  · simp
  · split <;> simp
  · simp

@[simp] theorem State.marks_callSelection (s : State) (p : LinePort) :
    (s.callSelection p).exch.marks = s.exch.marks := by
  unfold State.callSelection
  dsimp only
  (repeat' split) <;> simp

@[simp] theorem State.marks_voidPin (s : State) (p : LinePort) (n : Pin) (why : VoidReason) :
    (s.voidPin p n why).exch.marks = s.exch.marks := by simp [State.voidPin]

@[simp] theorem State.marks_adoptPin (s : State) (p : LinePort) : (s.adoptPin p).exch.marks = s.exch.marks := by
  unfold State.adoptPin
  (repeat' split) <;> simp

@[simp] theorem State.marks_portDetach (s : State) (p : LinePort) : (s.portDetach p).exch.marks = s.exch.marks := by
  unfold State.portDetach
  dsimp only
  split <;> simp

@[simp] theorem State.marks_portRelease (s : State) (p : LinePort) (k : Fin 8) :
    (s.portRelease p k).exch.marks = s.exch.marks := by
  unfold State.portRelease
  dsimp only
  split <;> simp

@[simp] theorem State.marks_portPin (s : State) (p : LinePort) (k : Fin 8) (n : Pin) :
    (s.portPin p k n).exch.marks = s.exch.marks := by simp [State.portPin]

@[simp] theorem State.marks_portUnpin (s : State) (p : LinePort) (k : Fin 8) :
    (s.portUnpin p k).exch.marks = s.exch.marks := by simp [State.portUnpin]

/-! #### The barrel machine -/

@[simp] theorem State.marks_completeBarrel (s : State) (c : ResultCode) :
    (s.completeBarrel c).exch.marks = s.exch.marks := by
  unfold State.completeBarrel
  split <;> simp

@[simp] theorem State.marks_barrelDetach (s : State) : s.barrelDetach.exch.marks = s.exch.marks := by
  simp [State.barrelDetach]

@[simp] theorem State.marks_barrelOutcome (s : State) (i : StoredId) (amps : Nat) :
    (s.barrelOutcome i amps).exch.marks = s.exch.marks := by
  simp only [State.barrelOutcome, State.marks_journal]
  split <;> simp

@[simp] theorem State.marks_reclassify (s : State) (i : StoredId) : (s.reclassify i).exch.marks = s.exch.marks := by
  unfold State.reclassify
  dsimp only
  (repeat' split) <;> simp

@[simp] theorem State.marks_barrelAdopt (s : State) : s.barrelAdopt.exch.marks = s.exch.marks := by
  unfold State.barrelAdopt
  (repeat' split) <;> simp

@[simp] theorem State.marks_barrelRelease (s : State) (k : Fin 8) : (s.barrelRelease k).exch.marks = s.exch.marks := by
  simp [State.barrelRelease]

/-! #### The Path Controller -/

@[simp] theorem State.marks_completePrimary (s : State) (y : Connector) (c : ResultCode) :
    (s.completePrimary y c).exch.marks = s.exch.marks := by
  rcases State.completePrimary_cases s y c with ⟨q, -, -, e⟩ | ⟨-, e⟩ <;> rw [e]
  simp

@[simp] theorem State.marks_losePath (s : State) (y : Connector) : (s.losePath y).exch.marks = s.exch.marks := by
  unfold State.losePath
  dsimp only
  split <;> simp

@[simp] theorem State.marks_evaluatePath (s : State) : s.evaluatePath.exch.marks = s.exch.marks := by
  rcases State.evaluatePath_cases s with e | ⟨-, y, -, e⟩ | ⟨x, -, -, e⟩ | ⟨x, y, -, -, -, -, e⟩ <;> rw [e] <;> simp

@[simp] theorem State.marks_dropLostPrimary (s : State) : s.dropLostPrimary.exch.marks = s.exch.marks := by
  unfold State.dropLostPrimary
  (repeat' split) <;> simp

@[simp] theorem State.marks_evaluate (s : State) : s.evaluate.exch.marks = s.exch.marks := by simp [State.evaluate]

/-! #### The reports of an event -/

@[simp] theorem State.marks_report (s t : State) : (s.report t).exch.marks = t.exch.marks := by
  have owners : (s.reportOwners t).exch.marks = t.exch.marks := by
    unfold State.reportOwners
    split <;> simp
  simp [State.report, connectors, owners]

@[simp] theorem State.marks_concludes (pages : Bool) (s t : State) : (s.concludes pages t).exch.marks = t.exch.marks := by
  rcases State.concludes_cases pages s t with ⟨-, e⟩ | ⟨-, e⟩ <;> rw [e] <;> simp

@[simp] theorem marks_settle (pages : Bool) (n : Nat) (s t : State) : (settle pages n s t).exch.marks = t.exch.marks :=
  settle_induction (fun u => u.exch.marks = t.exch.marks) pages (fun a b h => by simpa using h)
    (fun u p h => by simpa using h) n s t rfl

@[simp] theorem State.marks_settles (s t : State) : (s.settles t).exch.marks = t.exch.marks := marks_settle _ _ s t

@[simp] theorem State.marks_settlesWithin (s t : State) : (s.settlesWithin t).exch.marks = t.exch.marks :=
  marks_settle _ _ s t

@[simp] theorem State.marks_portEvent (s : State) (p : LinePort) (t : State) :
    (s.portEvent p t).exch.marks = t.exch.marks := by simp [State.portEvent]

@[simp] theorem State.marks_portEventWithin (s : State) (p : LinePort) (t : State) :
    (s.portEventWithin p t).exch.marks = t.exch.marks := by simp [State.portEventWithin]

/-! #### Adoption (R170, R171) -/

/-- What each step of a fold over ports or connectors keeps, the fold keeps. -/
theorem marks_foldl {α : Type} (f : State → α → State) (kept : ∀ u x, (f u x).exch.marks = u.exch.marks) (l : List α)
    (s : State) : (l.foldl f s).exch.marks = s.exch.marks := by
  induction l generalizing s with
  | nil => rfl
  | cons x l ih => rw [List.foldl_cons, ih, kept]

@[simp] theorem State.marks_install (s : State) (p : Proposal) : (s.install p).exch.marks = s.exch.marks :=
  State.marks_journal _ _ _ _

@[simp] theorem State.marks_enableChange (s : State) (old : Policy) (x : Connector) :
    (s.enableChange old x).exch.marks = s.exch.marks := by
  have detached : (s.detached x).exch.marks = s.exch.marks := by
    cases x <;> simp [State.detached]
  unfold State.enableChange
  split
  · simp [State.abandonSettling]
  · simp [detached]
  · split <;> simp [State.startSettling]
  · rfl

@[simp] theorem State.marks_adoptMeasurement (s : State) : s.adoptMeasurement.exch.marks = s.exch.marks := by
  unfold State.adoptMeasurement
  dsimp only
  split <;> simp [State.deadChange]

@[simp] theorem State.marks_adoptBarrel (s : State) : s.adoptBarrel.exch.marks = s.exch.marks := by
  unfold State.adoptBarrel
  split <;> simp

@[simp] theorem State.marks_adoptImages (s : State) : s.adoptImages.exch.marks = s.exch.marks := by
  rw [State.adoptImages, marks_foldl _ State.marks_adoptPin]
  exact marks_foldl (fun u p => u.setPort p (rescore u.policy p (u.port p))) (fun _ _ => rfl) linePorts s

@[simp] theorem State.marks_adoptEffects (s : State) (old : Policy) : (s.adoptEffects old).exch.marks = s.exch.marks := by
  simp [State.adoptEffects, State.adoptTrackers, State.adoptSelector, State.adoptNegotiation, State.adoptCall, State.adoptPath,
    State.adoptRegulator, marks_foldl]

/-! #### Requests (R183, R185) -/

@[simp] theorem State.marks_reqAdopt (s : State) (k : Fin 8) : (s.reqAdopt k).exch.marks = s.exch.marks := by
  unfold State.reqAdopt
  dsimp only
  split <;> simp

@[simp] theorem State.marks_reqRefresh (s : State) (k : Fin 8) (b : Byte) :
    (s.reqRefresh k b).exch.marks = s.exch.marks := by
  unfold State.reqRefresh State.reqRefreshPort State.reqRefreshBarrel
  (repeat' split) <;> simp

@[simp] theorem State.marks_reqPin (s : State) (k : Fin 8) (r : Request) : (s.reqPin k r).exch.marks = s.exch.marks := by
  unfold State.reqPin State.reqPinPort
  (repeat' split) <;> simp

@[simp] theorem State.marks_reqUnpin (s : State) (k : Fin 8) (b : Byte) : (s.reqUnpin k b).exch.marks = s.exch.marks := by
  unfold State.reqUnpin State.reqUnpinPort
  (repeat' split) <;> simp

@[simp] theorem State.marks_reqHold (s : State) (k : Fin 8) (b : Byte) : (s.reqHold k b).exch.marks = s.exch.marks := by
  unfold State.reqHold State.reqHoldPort
  (repeat' split) <;> simp

@[simp] theorem State.marks_reqResume (s : State) (k : Fin 8) (b : Byte) :
    (s.reqResume k b).exch.marks = s.exch.marks := by
  unfold State.reqResume State.reqResumePort
  (repeat' split) <;> simp

@[simp] theorem State.marks_reqRelease (s : State) (k : Fin 8) (b : Byte) :
    (s.reqRelease k b).exch.marks = s.exch.marks := by
  unfold State.reqRelease State.reqReleasePort State.reqReleaseBarrel State.releaseFaulted
  (repeat' split) <;> simp

@[simp] theorem State.marks_reqPrimary (s : State) (k : Fin 8) (b : Byte) :
    (s.reqPrimary k b).exch.marks = s.exch.marks := by
  unfold State.reqPrimary State.takePrimary
  simp only [State.marks_settles, State.marks_evaluate]
  (repeat' split) <;> simp

@[simp] theorem State.marks_reqRegulate (s : State) (k : Fin 8) (mode target : Nat) :
    (s.reqRegulate k mode target).exch.marks = s.exch.marks := by
  unfold State.reqRegulate
  split <;> simp

@[simp] theorem State.marks_reqTelemetry (s : State) (k : Fin 8) (mode period : Nat) :
    (s.reqTelemetry k mode period).exch.marks = s.exch.marks := by
  unfold State.reqTelemetry
  split <;> simp

@[simp] theorem State.marks_reqAbort (s : State) (k : Fin 8) (target : Nat) :
    (s.reqAbort k target).exch.marks = s.exch.marks := by
  unfold State.reqAbort
  dsimp only
  (repeat' split) <;> simp [State.abortTarget, State.forget]

@[simp] theorem State.marks_dispatch (s : State) (k : Fin 8) (r : Request) (kind : RequestKind) :
    (s.dispatch k r kind).exch.marks = s.exch.marks := by
  cases kind <;> simp [State.dispatch]

@[simp] theorem State.marks_checkRequest (s : State) (k : Fin 8) (r : Request) :
    (s.checkRequest k r).exch.marks = s.exch.marks := by
  unfold State.checkRequest
  (repeat' split) <;> simp

/-- Taking a request sets and clears no mark. -/
theorem State.marks_takeRequest (s : State) (k : Fin 8) : (s.takeRequest k).exch.marks = s.exch.marks := by
  simp [State.takeRequest]

/-! ### The examination of the lowest marked slot (R181, R182) -/

/-- Every slot stands in the reader's order after lower ones only. -/
theorem slotIds_split (k : Fin 8) :
    slotIds = slotIds.take k.val ++ k :: slotIds.drop (k.val + 1) ∧ ∀ j ∈ slotIds.take k.val, j < k := by
  revert k
  decide

/-- The slot reader examines a marked slot below which none is marked (R181). -/
theorem State.readerStep_of_lowest {s : State} {k : Fin 8} (marked : (s.exch.slot k).mark = true)
    (lowest : ∀ j, j < k → (s.exch.slot j).mark = false) : s.readerStep = s.examine k := by
  have found : s.exch.lowestMarked = some k := by
    obtain ⟨split, below⟩ := slotIds_split k
    refine List.find?_eq_some_iff_append.mpr ⟨marked, _, _, split, fun j hj => ?_⟩
    rw [lowest j (below j hj)]
    rfl
  rw [State.readerStep, found]

theorem exec_slotExamination {s : State} {k : Fin 8} (marked : (s.exch.slot k).mark = true)
    (lowest : ∀ j, j < k → (s.exch.slot j).mark = false) : exec .slotExamination s = .next (s.examine k) :=
  congrArg Host.Outcome.next (State.readerStep_of_lowest marked lowest)

/-! #### The table of R182, a lemma for each action -/

theorem examined_self (copy : SlotCopy) : examined copy copy.code = .nothing := if_pos rfl

theorem examined_misuse {copy : SlotCopy} {found : Byte} (differs : found ≠ copy.code)
    (notPosted : ¬ (copy = .free ∧ found = 1)) (notFreed : ¬ (copy = .done ∧ found = 0)) :
    examined copy found = .misuse := by
  refine (if_neg differs).trans ?_
  cases copy with
  | free => exact if_neg fun h => notPosted ⟨rfl, h⟩
  | taken => rfl
  | done => exact if_neg fun h => notFreed ⟨rfl, h⟩

/-- Settles O47: the lowest marked slot is the one examined, and the table of R182 gives each clause its action. -/
theorem examinationComparesByteAndCopy : Obligations.ExaminationComparesByteAndCopy := by
  intro s k marked lowest found v u
  have slot : u.exch.slot k = v := Exchange.slot_setSlot_self s.exch k v
  have acts : ∀ {action}, examined v.copy found = action → exec .slotExamination s = .next (u.examineAs k action) :=
    fun table => (exec_slotExamination marked lowest).trans (congrArg (Host.Outcome.next <| u.examineAs k ·) table)
  refine ⟨fun same => ?_, fun done freed => ?_, fun differs notPosted notFreed => ?_, fun free posted => ?_⟩
  · exact acts (same ▸ examined_self v.copy)
  · have table : examined v.copy found = .giveBack := by
      rw [done, freed]
      rfl
    rw [acts table, State.examineAs, slot]
    simp only [u, Exchange.setSlot, State.withExch, Vector.set_set]
  · rw [acts (examined_misuse differs notPosted notFreed), State.examineAs, Exchange.misuse, slot]
    rfl
  · have table : examined v.copy found = .take := by
      rw [free, posted]
      rfl
    refine ⟨u.takeRequest k, acts table, rfl, ?_⟩
    rw [← Exchange.getElem_marks, State.marks_takeRequest, Exchange.getElem_marks, slot]

end Sys2Proof.Machine
end

section
/-! What a command can do to the Exchange Unit, said once. A command submits journal records, completes requests in flight
and rewrites pages, and leaves a fixed part of the state alone. -/

namespace Sys2Proof.Machine

/-! ### The writes of a command to the Exchange Unit -/

/-- The Exchange Unit `y` is reached from `x` by submitting the records `l` in their order, completing requests of slots
in `held`, raising NO_SOURCE and, where `pages` is set, rewriting pages. -/
inductive Exchange.Logs (pages : Bool) (time : Word) (held : Fin 8 → Prop) (x : Exchange) :
    List (Byte × Byte × List Byte) → Exchange → Prop where
  | refl : Logs pages time held x [] x
  | submit {l : List (Byte × Byte × List Byte)} {y : Exchange} (kind port : Byte) (data : List Byte) :
      Logs pages time held x l y → Logs pages time held x (l ++ [(kind, port, data)]) (y.submit time kind port data)
  | complete {l : List (Byte × Byte × List Byte)} {y : Exchange} (k : Fin 8) (code : ResultCode) (data : List Byte) :
      held k → Logs pages time held x l y → Logs pages time held x l (y.complete k code data)
  | noSource {l : List (Byte × Byte × List Byte)} {y : Exchange} :
      Logs pages time held x l y → Logs pages time held x l (y.raise causeNoSource)
  | page {l : List (Byte × Byte × List Byte)} {y : Exchange} (c : Connector) (bytes : List Byte) :
      pages = true → bytes.length = 126 → Logs pages time held x l y →
      Logs pages time held x l
        { y with
          mem := writePage y.mem (pageAddress c) (y.pageRev.get c + 2) bytes
          pageRev := y.pageRev.set c (y.pageRev.get c + 2) }

section
variable {pages : Bool} {time : Word} {held : Fin 8 → Prop} {x y z : Exchange} {l m : List (Byte × Byte × List Byte)}

theorem Exchange.Logs.trans (h : x.Logs pages time held l y) (k : y.Logs pages time held m z) :
    x.Logs pages time held (l ++ m) z := by
  induction k with
  | refl => rwa [List.append_nil]
  | submit kind port data _ ih => rw [← List.append_assoc]; exact .submit kind port data ih
  | complete k code data hk _ ih => exact .complete k code data hk ih
  | noSource _ ih => exact .noSource ih
  | page c bytes hp hb _ ih => exact .page c bytes hp hb ih

/-- Page rewrites may be allowed where none is made. -/
theorem Exchange.Logs.allowPages (h : x.Logs pages time held l y) : x.Logs true time held l y := by
  induction h with
  | refl => exact .refl
  | submit kind port data _ ih => exact .submit kind port data ih
  | complete k code data hk _ ih => exact .complete k code data hk ih
  | noSource _ ih => exact .noSource ih
  | page c bytes _ hb _ ih => exact .page c bytes rfl hb ih

theorem Exchange.Logs.wf (h : x.Logs pages time held l y) (hx : Memory.wf x.mem = true) : Memory.wf y.mem = true := by
  induction h with
  | refl => exact hx
  | submit kind port data _ ih => exact Memory.wf_submit ih
  | complete k code data _ _ ih => exact Memory.wf_complete ih
  | noSource _ ih => exact ih
  | page c bytes _ hb _ ih =>
    refine Memory.wf_writePage ih ?_
    have := pageAddress_bounds c
    rw [hb, Config.memBytes]
    omega

/-- A written record is one more unconsumed. -/
theorem Exchange.unconsumed_putRecord {x : Exchange} (t : Word) (k b : Byte) (d : List Byte) (h : x.unconsumed < 32) :
    (x.putRecord t k b d).unconsumed = x.unconsumed + 1 := by
  simp only [Exchange.unconsumed, Exchange.putRecord] at h ⊢
  bv_omega

theorem Exchange.Logs.journalOk (h : x.Logs pages time held l y) (hx : x.unconsumed ≤ 32) : y.unconsumed ≤ 32 := by
  induction h with
  | refl => exact hx
  | @submit l y kind port data _ ih =>
    rcases y.submit_cases time kind port data with ⟨room, e⟩ | ⟨-, e⟩ <;> rw [e]
    · rw [Exchange.unconsumed_putRecord _ _ _ _ room]
      exact room
    · exact ih
  | complete k code data _ _ ih => exact ih
  | noSource _ ih => exact ih
  | page c bytes _ _ _ ih => exact ih

/-- The fields of the Exchange Unit that no command's own writes change. -/
theorem Exchange.Logs.keeps (h : x.Logs pages time held l y) :
    y.released = x.released ∧ y.mask = x.mask ∧ y.telemetrySeq = x.telemetrySeq ∧ y.spiOut = x.spiOut := by
  induction h with
  | refl => exact ⟨rfl, rfl, rfl, rfl⟩
  | @submit l y kind port data _ ih =>
    obtain ⟨-, released, mask, -, seq, out⟩ := y.submit_keeps time kind port data
    rwa [released, mask, seq, out]
  | complete k code data _ _ ih => exact ih
  | noSource _ ih => exact ih
  | page c bytes _ _ _ ih => exact ih

/-- Further causes leave the causes that are set (R178). -/
theorem causes_kept {attn causes : BitVec 7} (h : attn &&& causes = causes) {more : BitVec 7} :
    (attn ||| more) &&& causes = causes := by
  rw [← h]
  ext i hi
  simp only [BitVec.getElem_and, BitVec.getElem_or]
  cases attn[i] <;> cases more[i] <;> cases causes[i] <;> rfl

theorem causes_set (attn causes : BitVec 7) : (attn ||| causes) &&& causes = causes := by
  ext i hi
  simp only [BitVec.getElem_and, BitVec.getElem_or]
  cases attn[i] <;> cases causes[i] <;> rfl

/-- Attention causes that are set stay set. -/
theorem Exchange.Logs.attn (h : x.Logs pages time held l y) {causes : BitVec 7} (hx : x.attn &&& causes = causes) :
    y.attn &&& causes = causes := by
  induction h with
  | refl => exact hx
  | @submit l y kind port data _ ih =>
    rcases y.submit_cases time kind port data with ⟨-, e⟩ | ⟨-, e⟩ <;> rw [e] <;> exact causes_kept ih
  | complete k code data _ _ ih => exact causes_kept ih
  | noSource _ ih => exact causes_kept ih
  | page c bytes _ _ _ ih => exact ih

/-- A slot that no completed request was posted in keeps its copy, mark and request. -/
theorem Exchange.Logs.slot (h : x.Logs pages time held l y) {k : Fin 8} (hk : ¬ held k) : y.slot k = x.slot k := by
  induction h with
  | refl => rfl
  | @submit l y kind port data _ ih =>
    obtain ⟨slots, -⟩ := y.submit_keeps time kind port data
    rw [← ih, Exchange.slot, Exchange.slot]
    simp only [slots]
  | @complete l y j code data hj _ ih =>
    have : k ≠ j := fun e => hk (e ▸ hj)
    rw [Exchange.slot_complete, if_neg this, ih]
  | noSource _ ih => exact ih
  | page c bytes _ _ _ ih => exact ih

theorem Exchange.Logs.mark (h : x.Logs pages time held l y) (k : Fin 8) : (y.slot k).mark = (x.slot k).mark := by
  have marks : y.marks = x.marks := by
    induction h with
    | refl => rfl
    | @submit l y kind port data _ ih => rw [← ih, Exchange.marks_submit]
    | complete k code data _ _ ih => rw [← ih, Exchange.marks_complete]
    | noSource _ ih => exact ih
    | page c bytes _ _ _ ih => exact ih
  rw [← Exchange.getElem_marks, ← Exchange.getElem_marks, marks]

/-- The request of a slot stays the part's copy. -/
theorem Exchange.Logs.req (h : x.Logs pages time held l y) (k : Fin 8) : (y.slot k).req = (x.slot k).req := by
  induction h with
  | refl => rfl
  | @submit l y kind port data _ ih =>
    obtain ⟨slots, -⟩ := y.submit_keeps time kind port data
    rw [← ih, Exchange.slot, Exchange.slot]
    simp only [slots]
  | @complete l y j code data hj _ ih =>
    rw [Exchange.slot_complete]
    split
    next e => rw [e] at ih ⊢; exact ih
    next => exact ih
  | noSource _ ih => exact ih
  | page c bytes _ _ _ ih => exact ih

/-- A page rewrite writes its 128 bytes alone. -/
theorem readByte_writePage_outside (m : List Host.Cell) (a : Nat) (w : Half) {bytes : List Byte} (hb : bytes.length = 126)
    {b : Nat} (h : b < a ∨ a + 128 ≤ b) : readByte (writePage m a w bytes) b = readByte m b := by
  refine readByte_writeBlock_outside _ _ _ _ ?_
  rw [List.length_append, length_le2, hb]
  omega

/-- Bytes outside the slots, the pages, the journal and its counts. -/
theorem Exchange.Logs.readByte_outside (h : x.Logs pages time held l y) {a : Nat}
    (ha : a < 0x80 ∨ 0x380 ≤ a ∧ a < 0x400 ∨ 0x404 ≤ a ∧ a < 0x410 ∨ 0x610 ≤ a) :
    readByte y.mem a = readByte x.mem a := by
  induction h with
  | refl => rfl
  | @submit l y kind port data _ ih => rw [y.readByte_submit_outside time kind port data a (by omega), ih]
  | @complete l y k code data _ _ ih =>
    have := slotAddress_bounds k
    rw [y.readByte_complete_outside k code data a (by omega), ih]
  | noSource _ ih => exact ih
  | page c bytes _ hb _ ih =>
    have := pageAddress_bounds c
    exact (readByte_writePage_outside _ _ _ hb (by omega)).trans ih

/-- The bytes of a slot in which no completed request was posted. -/
theorem Exchange.Logs.readByte_slot (h : x.Logs pages time held l y) {k : Fin 8} (hk : ¬ held k) {a : Nat}
    (ha : slotAddress k ≤ a ∧ a < slotAddress k + 32) : readByte y.mem a = readByte x.mem a := by
  have hb := slotAddress_bounds k
  induction h with
  | refl => rfl
  | @submit l y kind port data _ ih => rw [y.readByte_submit_outside time kind port data a (by omega), ih]
  | @complete l y j code data hj _ ih =>
    have := slotAddress_disjoint (j := k) (k := j) fun e => hk (e ▸ hj)
    rw [y.readByte_complete_outside j code data a (by omega), ih]
  | noSource _ ih => exact ih
  | page c bytes _ hb _ ih =>
    have := pageAddress_bounds c
    exact (readByte_writePage_outside _ _ _ hb (by omega)).trans ih

/-- Without page rewrites the pages stand. -/
theorem Exchange.Logs.readByte_page (h : x.Logs false time held l y) {a : Nat} (ha : 0x180 ≤ a ∧ a < 0x380) :
    readByte y.mem a = readByte x.mem a := by
  induction h with
  | refl => rfl
  | @submit l y kind port data _ ih => rw [y.readByte_submit_outside time kind port data a (by omega), ih]
  | @complete l y k code data _ _ ih =>
    have := slotAddress_bounds k
    rw [y.readByte_complete_outside k code data a (by omega), ih]
  | noSource _ ih => exact ih
  | page c bytes hp _ _ ih => cases hp

theorem Exchange.Logs.pageRev (h : x.Logs false time held l y) : y.pageRev = x.pageRev := by
  induction h with
  | refl => rfl
  | @submit l y kind port data _ ih =>
    obtain ⟨-, -, -, rev, -⟩ := y.submit_keeps time kind port data
    rwa [rev]
  | complete k code data _ _ ih => exact ih
  | noSource _ ih => exact ih
  | page c bytes hp _ _ ih => cases hp

/-- A page's revision word keeps its parity: every rewrite raises it by 2 (R190). -/
theorem Exchange.Logs.parity (h : x.Logs pages time held l y) (c : Connector) :
    (y.pageRev.get c).getLsbD 0 = (x.pageRev.get c).getLsbD 0 := by
  have two : ∀ w : Half, (w + 2).getLsbD 0 = w.getLsbD 0 := by
    intro w
    have := w.isLt
    have even : (w + 2).toNat % 2 = w.toNat % 2 := by
      rw [BitVec.toNat_add, show (2 : Half).toNat = 2 from rfl]
      omega
    rw [BitVec.getLsbD, BitVec.getLsbD, Nat.testBit_zero, Nat.testBit_zero, even]
  induction h with
  | refl => rfl
  | @submit l y kind port data _ ih =>
    obtain ⟨-, -, -, rev, -⟩ := y.submit_keeps time kind port data
    rw [rev, ih]
  | complete k code data _ _ ih => exact ih
  | noSource _ ih => exact ih
  | page d bytes _ _ _ ih =>
    rw [← ih]
    by_cases e : c = d
    · rw [e, PerConn.get_set_self, two]
    · rw [PerConn.get_set_of_ne _ _ e]

/-! ### The records of a command (R187, R189) -/

/-- The entry of record `n` holds a record. -/
def Exchange.recordAt (y : Exchange) (time : Word) (n : Half) (kind port : Byte) (data : List Byte) : Prop :=
  ∀ j, j < 16 → readByte y.mem (recordAddress n + j) = (recordBytes n kind port time data).getD j 0

theorem Exchange.recordAt.of_bytes {n : Half} {kind port : Byte} {data : List Byte} (h : y.recordAt time n kind port data)
    (same : ∀ a, 0x410 ≤ a → a < 0x610 → readByte z.mem a = readByte y.mem a) : z.recordAt time n kind port data := by
  intro j hj
  have := recordAddress_bounds n
  rw [same _ (by omega) (by omega), h j hj]

/-- Fewer than 32 records apart, two records have different entries. -/
theorem recordAddress_disjoint (n : Half) {i j : Nat} (hlt : i < j) (near : j < i + 32) :
    recordAddress (n + BitVec.ofNat 16 i) + 16 ≤ recordAddress (n + BitVec.ofNat 16 j) ∨
      recordAddress (n + BitVec.ofNat 16 j) + 16 ≤ recordAddress (n + BitVec.ofNat 16 i) := by
  simp only [recordAddress, Config.journalSize, BitVec.toNat_add, BitVec.toNat_ofNat]
  omega

/-- The record that a write puts into its entry stands there. -/
theorem Exchange.recordAt_putRecord (y : Exchange) (time : Word) (kind port : Byte) (data : List Byte) :
    (y.putRecord time kind port data).recordAt time (y.written + 1) kind port data := by
  intro j hj
  have := recordAddress_bounds (y.written + 1)
  refine (readByte_writeBlock_outside _ _ _ _ ?_).trans (readByte_writeBlock_inside _ _ _ _ ?_)
  · rw [length_le2, Config.writeNumberAt]
    omega
  · rwa [length_recordBytes]

/-- A record in another entry stands after a write. -/
theorem Exchange.recordAt.putRecord {n : Half} {kind port : Byte} {data : List Byte} (h : y.recordAt time n kind port data)
    (kind' port' : Byte) (data' : List Byte)
    (apart : recordAddress n + 16 ≤ recordAddress (y.written + 1) ∨ recordAddress (y.written + 1) + 16 ≤ recordAddress n) :
    (y.putRecord time kind' port' data').recordAt time n kind port data := by
  intro j hj
  have := recordAddress_bounds n
  rw [← h j hj]
  refine (readByte_writeBlock_outside _ _ _ _ ?_).trans (readByte_writeBlock_outside _ _ _ _ ?_)
  · rw [length_le2, Config.writeNumberAt]
    omega
  · rw [length_recordBytes]
    omega

/-- What became of submitted record number `i`: written, or withheld where 32 are unconsumed (R187, R189). -/
def Exchange.recorded (x y : Exchange) (time : Word) (i : Nat) (r : Byte × Byte × List Byte) : Prop :=
  if x.unconsumed + i < 32 then
    y.attn &&& causeJournal = causeJournal ∧
      y.recordAt time (x.written + BitVec.ofNat 16 (i + 1)) r.1 r.2.1 r.2.2
  else y.attn &&& causeJournalFull = causeJournalFull ∧ min 65535 (x.withheld + 1) ≤ y.withheld

/-- Writes outside the journal leave what became of a record. -/
theorem Exchange.recorded.of_bytes {i : Nat} {r : Byte × Byte × List Byte} (h : x.recorded y time i r)
    (same : ∀ a, 0x410 ≤ a → a < 0x610 → readByte z.mem a = readByte y.mem a)
    (attn : ∀ causes : BitVec 7, y.attn &&& causes = causes → z.attn &&& causes = causes)
    (withheld : z.withheld = y.withheld) : x.recorded z time i r := by
  unfold Exchange.recorded at h ⊢
  split
  next room => rw [if_pos room] at h; exact ⟨attn _ h.1, h.2.of_bytes same⟩
  next full => rw [if_neg full] at h; exact ⟨attn _ h.1, withheld ▸ h.2⟩

/-- The counts of unconsumed and withheld records after some submissions, and what became of each record. -/
def Exchange.journalAfter (x y : Exchange) (time : Word) (l : List (Byte × Byte × List Byte)) : Prop :=
  y.unconsumed = (if x.unconsumed + l.length ≤ 32 then x.unconsumed + l.length else max 32 x.unconsumed) ∧
    (x.unconsumed + l.length ≤ 32 → y.written = x.written + BitVec.ofNat 16 l.length) ∧ x.withheld ≤ y.withheld ∧
    ∀ i r, l[i]? = some r → x.recorded y time i r

theorem Exchange.journalAfter.of_bytes (h : x.journalAfter y time l)
    (same : ∀ a, 0x410 ≤ a → a < 0x610 → readByte z.mem a = readByte y.mem a)
    (attn : ∀ causes : BitVec 7, y.attn &&& causes = causes → z.attn &&& causes = causes)
    (written : z.written = y.written) (released : z.released = y.released) (withheld : z.withheld = y.withheld) :
    x.journalAfter z time l := by
  obtain ⟨count, number, more, records⟩ := h
  refine ⟨?_, fun room => written ▸ number room, withheld ▸ more, fun i r hi => ?_⟩
  · rw [← count, Exchange.unconsumed, written, released]
    rfl
  · exact (records i r hi).of_bytes same attn withheld

theorem le_satInc (n : Nat) : n ≤ satInc n := by
  unfold satInc
  split <;> omega

theorem satInc_min (n : Nat) : min 65535 (n + 1) ≤ satInc n := by
  unfold satInc Config.counterMax
  split <;> omega

theorem Exchange.journalAfter.submit (h : x.journalAfter y time l) (kind port : Byte) (data : List Byte) :
    x.journalAfter (y.submit time kind port data) time (l ++ [(kind, port, data)]) := by
  obtain ⟨count, number, more, records⟩ := h
  have last : ∀ i r, (l ++ [(kind, port, data)])[i]? = some r →
      (i < l.length ∧ l[i]? = some r) ∨ i = l.length ∧ r = (kind, port, data) := by
    intro i r hi
    by_cases hlt : i < l.length
    · rw [List.getElem?_append_left hlt] at hi
      exact .inl ⟨hlt, hi⟩
    · rw [List.getElem?_append_right (Nat.le_of_not_lt hlt)] at hi
      have zero : i - l.length = 0 := by
        by_contra h0
        obtain ⟨j, hj⟩ := Nat.exists_eq_succ_of_ne_zero h0
        rw [hj] at hi
        simp at hi
      rw [zero] at hi
      exact .inr ⟨by omega, by simpa using hi.symm⟩
  rcases y.submit_cases time kind port data with ⟨room, e⟩ | ⟨full, e⟩ <;> rw [e]
  · have before : x.unconsumed + l.length < 32 := by
      rw [count] at room
      split at room <;> omega
    have next : y.written + 1 = x.written + BitVec.ofNat 16 (l.length + 1) := by
      rw [number (by omega), BitVec.ofNat_add, BitVec.add_assoc]
      rfl
    refine ⟨?_, fun _ => ?_, more, fun i r hi => ?_⟩
    · rw [Exchange.unconsumed_putRecord _ _ _ _ room, count, if_pos (by omega), List.length_append,
        if_pos (by simp only [List.length_cons, List.length_nil]; omega)]
      rfl
    · rw [List.length_append]
      exact next
    · rcases last i r hi with ⟨hlt, hi⟩ | ⟨rfl, rfl⟩
      · have old := records i r hi
        rw [Exchange.recorded, if_pos (by omega)] at old ⊢
        refine ⟨causes_kept old.1, old.2.putRecord _ _ _ ?_⟩
        rw [next]
        exact recordAddress_disjoint x.written (by omega) (by omega)
      · rw [Exchange.recorded, if_pos before, ← next]
        exact ⟨causes_set _ _, y.recordAt_putRecord time kind port data⟩
  · have after : 32 ≤ x.unconsumed + l.length := by
      rw [count] at full
      split at full <;> omega
    have same : y.withhold.unconsumed = y.unconsumed := rfl
    refine ⟨?_, fun room => ?_, more.trans (le_satInc _), fun i r hi => ?_⟩
    · rw [same, count, List.length_append, List.length_cons, List.length_nil]
      split <;> split <;> omega
    · rw [List.length_append, List.length_cons, List.length_nil] at room
      omega
    · rcases last i r hi with ⟨hlt, hi⟩ | ⟨rfl, rfl⟩
      · have old := records i r hi
        unfold Exchange.recorded at old ⊢
        split
        next room =>
          rw [if_pos room] at old
          refine ⟨causes_kept old.1, old.2.of_bytes fun a ha _ => readByte_writeBlock_outside _ _ _ _ ?_⟩
          rw [length_le2, Config.withheldAt]
          omega
        next none =>
          rw [if_neg none] at old
          exact ⟨causes_kept old.1, old.2.trans (le_satInc _)⟩
      · rw [Exchange.recorded, if_neg (by omega)]
        exact ⟨causes_set _ _, (by omega : min 65535 (x.withheld + 1) ≤ min 65535 (y.withheld + 1)).trans (satInc_min _)⟩

theorem Exchange.Logs.journalAfter (h : x.Logs pages time held l y) : x.journalAfter y time l := by
  induction h with
  | refl =>
    refine ⟨?_, fun _ => ?_, Nat.le_refl _, fun i r hi => by simp at hi⟩
    · rw [List.length_nil]
      split <;> omega
    · exact (BitVec.add_zero _).symm
  | submit kind port data _ ih => exact ih.submit kind port data
  | @complete l y k code data _ _ ih =>
    refine ih.of_bytes (fun a ha _ => ?_) (fun _ h => causes_kept h) rfl rfl rfl
    have := slotAddress_bounds k
    exact y.readByte_complete_outside k code data a (by omega)
  | noSource _ ih => exact ih.of_bytes (fun _ _ _ => rfl) (fun _ h => causes_kept h) rfl rfl rfl
  | page c bytes _ hb _ ih =>
    refine ih.of_bytes (fun a ha _ => ?_) (fun _ h => h) rfl rfl rfl
    have := pageAddress_bounds c
    exact readByte_writePage_outside _ _ _ hb (by omega)

/-- The first records of those submitted are the first that the command journals. -/
theorem Exchange.Logs.journals {s t : State} {records rest : List (Byte × Byte × List Byte)}
    (h : s.exch.Logs pages s.time held (records ++ rest) t.exch) : s.journals t records := by
  obtain ⟨-, -, -, became⟩ := h.journalAfter
  intro i kind port data hi
  have hlt : i < records.length := (List.getElem?_eq_some_iff.mp hi).1
  have r := became i _ ((List.getElem?_append_left hlt).trans hi)
  unfold Exchange.recorded at r
  dsimp only
  split
  next room =>
    rw [if_pos room] at r
    refine ⟨r.1, fun j hj => (r.2 j hj).trans ?_⟩
    rw [recordBytes, ← List.append_assoc, ← List.append_assoc]
  next full => rwa [if_neg full] at r

end

end Sys2Proof.Machine
end

section
/-! What follows from the writes of a command: the part of the state that the blocks' own work leaves alone, and the
relation `State.Follows` that every operation of the blocks satisfies. -/

namespace Sys2Proof.Machine

/-! ### The part of the state that the blocks' own work leaves alone -/

/-- The state with everything masked that the events of the blocks may change: the inputs, the policy, the trackers, the
time base, the result table, telemetry, the regulator's settings and the primary pin remain. -/
def State.fixed (s : State) : State :=
  { s with
    barrel := .cleared, lines := ⟨.cleared, .cleared, .cleared⟩, engines := ⟨.freed, .freed⟩, queue := []
    ports := ⟨.cleared, .cleared, .cleared⟩, prospect := none, path := { State.reset.path with pin := s.path.pin }
    meas := { s.meas with droop := ⟨0, 0, 0, 0⟩ }
    reg := { s.reg with spTarget := 0, spf := 0, iacc := 0, output := 0, transfer := false, overdraw := 0 }
    exch := State.reset.exch }

section
variable {s t : State}

theorem State.presence_of_fixed (h : t.fixed = s.fixed) : t.presence = s.presence :=
  (congrArg State.presence h :)
theorem State.trackers_of_fixed (h : t.fixed = s.fixed) : t.trackers = s.trackers :=
  (congrArg State.trackers h :)
theorem State.policy_of_fixed (h : t.fixed = s.fixed) : t.policy = s.policy :=
  (congrArg State.policy h :)
theorem State.origin_of_fixed (h : t.fixed = s.fixed) : t.origin = s.origin :=
  (congrArg State.origin h :)
theorem State.time_of_fixed (h : t.fixed = s.fixed) : t.time = s.time :=
  (congrArg State.time h :)
theorem State.pending_of_fixed (h : t.fixed = s.fixed) : t.pending = s.pending :=
  (congrArg State.pending h :)
theorem State.latestVD_of_fixed (h : t.fixed = s.fixed) : t.latestVD = s.latestVD :=
  (congrArg State.latestVD h :)
theorem State.pin_of_fixed (h : t.fixed = s.fixed) : t.path.pin = s.path.pin :=
  congrArg (fun u => u.path.pin) h
theorem State.mode_of_fixed (h : t.fixed = s.fixed) : t.reg.mode = s.reg.mode :=
  congrArg (fun u => u.reg.mode) h
theorem State.manualTarget_of_fixed (h : t.fixed = s.fixed) : t.reg.manualTarget = s.reg.manualTarget :=
  congrArg (fun u => u.reg.manualTarget) h
theorem State.lastPV_of_fixed (h : t.fixed = s.fixed) : t.reg.lastPV = s.reg.lastPV :=
  congrArg (fun u => u.reg.lastPV) h
theorem State.saturation_of_fixed (h : t.fixed = s.fixed) : t.reg.saturation = s.reg.saturation :=
  congrArg (fun u => u.reg.saturation) h
theorem State.converting_of_fixed (h : t.fixed = s.fixed) : t.meas.converting = s.meas.converting :=
  congrArg (fun u => u.meas.converting) h
theorem State.table_of_fixed (h : t.fixed = s.fixed) : t.meas.table = s.meas.table :=
  congrArg (fun u => u.meas.table) h
theorem State.dead_of_fixed (h : t.fixed = s.fixed) : t.meas.dead = s.meas.dead :=
  congrArg (fun u => u.meas.dead) h
theorem State.periodTimer_of_fixed (h : t.fixed = s.fixed) : t.meas.periodTimer = s.meas.periodTimer :=
  congrArg (fun u => u.meas.periodTimer) h
theorem State.reload_of_fixed (h : t.fixed = s.fixed) : t.meas.reload = s.meas.reload :=
  congrArg (fun u => u.meas.reload) h
theorem State.singlePending_of_fixed (h : t.fixed = s.fixed) : t.meas.singlePending = s.meas.singlePending :=
  congrArg (fun u => u.meas.singlePending) h
theorem State.singles_of_fixed (h : t.fixed = s.fixed) : t.meas.singles = s.meas.singles :=
  congrArg (fun u => u.meas.singles) h

end

@[simp] theorem State.fixed_setPort (s : State) (p : LinePort) (r : PortRecord) : (s.setPort p r).fixed = s.fixed := rfl
@[simp] theorem State.fixed_withPorts (s : State) (v : PerPort PortRecord) : (s.withPorts v).fixed = s.fixed := rfl
@[simp] theorem State.fixed_setLine (s : State) (p : LinePort) (l : Line) : (s.setLine p l).fixed = s.fixed := rfl
@[simp] theorem State.fixed_setEngine (s : State) (e : EngineId) (g : Engine) : (s.setEngine e g).fixed = s.fixed := rfl
@[simp] theorem State.fixed_withQueue (s : State) (v : List QueueEntry) : (s.withQueue v).fixed = s.fixed := rfl
@[simp] theorem State.fixed_withBarrel (s : State) (v : Barrel) : (s.withBarrel v).fixed = s.fixed := rfl
@[simp] theorem State.fixed_withProspect (s : State) (v : Option Connector) : (s.withProspect v).fixed = s.fixed := rfl
@[simp] theorem State.fixed_withExch (s : State) (v : Exchange) : (s.withExch v).fixed = s.fixed := rfl
@[simp] theorem State.fixed_journal (s : State) (k b : Byte) (d : List Byte) : (s.journal k b d).fixed = s.fixed := rfl
@[simp] theorem State.fixed_complete (s : State) (k : Fin 8) (c : ResultCode) (d : List Byte) :
    (s.complete k c d).fixed = s.fixed := rfl
@[simp] theorem State.fixed_raise (s : State) (c : BitVec 7) : (s.raise c).fixed = s.fixed := rfl
@[simp] theorem State.fixed_clearDroop (s : State) (x : Connector) : (s.clearDroop x).fixed = s.fixed := rfl

/-! ### Requests in flight (R183) -/

/-- The requests in flight stand in slots of a set. -/
def State.heldIn (s : State) (held : Fin 8 → Prop) : Prop := ∀ k, ¬ held k → s.unheld k

theorem State.heldIn_all (s : State) : s.heldIn fun _ => True := fun _ h => absurd trivial h

theorem State.heldIn_self (s : State) : s.heldIn fun k => ¬ s.unheld k := fun _ h => not_not.mp h

section
variable {s : State} {held : Fin 8 → Prop}

theorem State.heldIn.port (h : s.heldIn held) {p : LinePort} {q : PortRequest} (hq : (s.port p).inFlight = some q) :
    held q.slot := by
  by_contra hn
  exact (h q.slot hn).1 p q hq rfl

theorem State.heldIn.barrel (h : s.heldIn held) {k : Fin 8} (hk : s.barrel.inFlight = some k) : held k := by
  by_contra hn
  exact (h k hn).2.1 hk

theorem State.heldIn.path (h : s.heldIn held) {q : PrimaryRequest} (hq : s.path.inFlight = some q) : held q.slot := by
  by_contra hn
  exact (h q.slot hn).2.2.1 q hq rfl

theorem State.heldIn.singles (h : s.heldIn held) {k : Fin 8} (hk : k ∈ s.meas.singles) : held k := by
  by_contra hn
  exact (h k hn).2.2.2 hk

end

/-! ### The relation of a state to what the blocks make of it -/

/-- `t` follows `s`: the Exchange Unit has taken the records `l`, requests in flight may have completed, and the fixed part
stands. `held` is a set of slots that the requests in flight stay in. -/
structure State.Follows (pages : Bool) (held : Fin 8 → Prop) (s : State) (l : List (Byte × Byte × List Byte))
    (t : State) : Prop where
  logs : s.heldIn held → s.exch.Logs pages s.time held l t.exch
  stays : s.heldIn held → t.heldIn held
  fixed : t.fixed = s.fixed

/-- `t` follows `s` with some records. -/
def State.Goes (pages : Bool) (held : Fin 8 → Prop) (s t : State) : Prop := ∃ l, s.Follows pages held l t

section
variable {pages : Bool} {held : Fin 8 → Prop} {s t u : State} {l m : List (Byte × Byte × List Byte)}

theorem State.Follows.refl (s : State) : s.Follows pages held [] s := ⟨fun _ => .refl, id, rfl⟩

theorem State.Follows.trans (h : s.Follows pages held l t) (k : t.Follows pages held m u) :
    s.Follows pages held (l ++ m) u where
  logs hs := (h.logs hs).trans (State.time_of_fixed h.fixed ▸ k.logs (h.stays hs))
  stays hs := k.stays (h.stays hs)
  fixed := k.fixed.trans h.fixed

theorem State.Follows.allowPages (h : s.Follows false held l t) : s.Follows pages held l t := by
  cases pages
  · exact h
  · exact ⟨fun hs => (h.logs hs).allowPages, h.stays, h.fixed⟩

theorem State.Follows.goes (h : s.Follows pages held l t) : s.Goes pages held t := ⟨l, h⟩

theorem State.Goes.refl (s : State) : s.Goes pages held s := ⟨[], .refl s⟩

theorem State.Goes.trans (h : s.Goes pages held t) (k : t.Goes pages held u) : s.Goes pages held u := by
  obtain ⟨l, h⟩ := h
  obtain ⟨m, k⟩ := k
  exact ⟨l ++ m, h.trans k⟩

theorem State.Goes.allowPages (h : s.Goes false held t) : s.Goes pages held t := by
  obtain ⟨l, h⟩ := h
  exact ⟨l, h.allowPages⟩

/-- Records first, anything after. -/
theorem State.Follows.journals_of_goes (h : s.Follows pages held l t) (k : t.Goes pages held u) (hs : s.heldIn held) :
    s.journals u l := by
  obtain ⟨m, k⟩ := k
  exact Exchange.Logs.journals ((h.trans k).logs hs)

/-- A change outside the Exchange Unit that puts no request in flight but of slots in the set. -/
theorem State.Follows.of_exch_eq (exch : t.exch = s.exch) (fixed : t.fixed = s.fixed)
    (ports : ∀ p q, (t.port p).inFlight = some q → (s.port p).inFlight = some q ∨ held q.slot)
    (barrel : ∀ k, t.barrel.inFlight = some k → s.barrel.inFlight = some k ∨ held k)
    (path : ∀ q, t.path.inFlight = some q → s.path.inFlight = some q ∨ held q.slot) : s.Follows pages held [] t where
  logs _ := exch ▸ .refl
  stays hs k hk := by
    refine ⟨fun p q hq e => ?_, fun e => ?_, fun q hq e => ?_, fun hm => ?_⟩
    · rcases ports p q hq with old | inside
      · exact (hs k hk).1 p q old e
      · exact hk (e ▸ inside)
    · rcases barrel k e with old | inside
      · exact (hs k hk).2.1 old
      · exact hk inside
    · rcases path q hq with old | inside
      · exact (hs k hk).2.2.1 q old e
      · exact hk (e ▸ inside)
    · rw [State.singles_of_fixed fixed] at hm
      exact (hs k hk).2.2.2 hm
  fixed := fixed

theorem State.follows_setPort (s : State) (p : LinePort) (r : PortRecord)
    (h : ∀ q, r.inFlight = some q → (s.port p).inFlight = some q ∨ held q.slot) : s.Follows pages held [] (s.setPort p r) := by
  refine .of_exch_eq rfl rfl (fun o q hq => ?_) (fun _ => .inl) fun _ => .inl
  by_cases e : o = p
  · subst e
    rw [State.port_setPort_self] at hq
    exact h q hq
  · rw [State.port_setPort_of_ne s r e] at hq
    exact .inl hq

/-- A port record changed in other fields than its request in flight. -/
theorem State.follows_setPort_kept (s : State) (p : LinePort) (r : PortRecord) (h : r.inFlight = (s.port p).inFlight) :
    s.Follows pages held [] (s.setPort p r) :=
  State.follows_setPort s p r fun _ hq => .inl (h ▸ hq)

theorem State.follows_withBarrel (s : State) (b : Barrel)
    (h : ∀ k, b.inFlight = some k → s.barrel.inFlight = some k ∨ held k) : s.Follows pages held [] (s.withBarrel b) :=
  .of_exch_eq rfl rfl (fun _ _ => .inl) h fun _ => .inl

theorem State.follows_withBarrel_kept (s : State) (b : Barrel) (h : b.inFlight = s.barrel.inFlight) :
    s.Follows pages held [] (s.withBarrel b) :=
  State.follows_withBarrel s b fun _ hk => .inl (h ▸ hk)

theorem State.follows_withPath (s : State) (v : Path) (pin : v.pin = s.path.pin)
    (h : ∀ q, v.inFlight = some q → s.path.inFlight = some q ∨ held q.slot) : s.Follows pages held [] (s.withPath v) :=
  .of_exch_eq rfl (by simp [State.fixed, State.withPath, pin]) (fun _ _ => .inl) (fun _ => .inl) h

theorem State.follows_withPath_kept (s : State) (v : Path) (pin : v.pin = s.path.pin)
    (h : v.inFlight = s.path.inFlight) :
    s.Follows pages held [] (s.withPath v) :=
  State.follows_withPath s v pin fun _ hq => .inl (h ▸ hq)

/-- A change of lines, engines, queue, prospect, droop counters or regulator figures alone. -/
theorem State.follows_of_owners_kept (exch : t.exch = s.exch) (fixed : t.fixed = s.fixed) (ports : t.ports = s.ports)
    (barrel : t.barrel = s.barrel) (path : t.path = s.path) : s.Follows pages held [] t :=
  .of_exch_eq exch fixed (fun p q h => .inl (by rwa [State.port, ports] at h)) (fun k h => .inl (barrel ▸ h))
    fun q h => .inl (path ▸ h)

theorem State.follows_journal (s : State) (k b : Byte) (d : List Byte) :
    s.Follows pages held [(k, b, d)] (s.journal k b d) :=
  ⟨fun _ => Exchange.Logs.submit k b d .refl, id, rfl⟩

theorem State.follows_raise (s : State) : s.Follows pages held [] (s.raise causeNoSource) :=
  ⟨fun _ => Exchange.Logs.noSource .refl, id, rfl⟩

/-- A completion in a slot of the set. -/
theorem State.follows_complete (s : State) {k : Fin 8} (c : ResultCode) (d : List Byte) (hk : s.heldIn held → held k) :
    s.Follows pages held [] (s.complete k c d) :=
  ⟨fun hs => Exchange.Logs.complete k c d (hk hs) .refl, id, rfl⟩

/-! ### The Negotiation Unit -/

theorem State.follows_completePort (s : State) (p : LinePort) (ks : List PortRequestKind) (c : ResultCode) :
    s.Follows pages held [] (s.completePort p ks c) := by
  rcases State.completePort_cases s p ks c with ⟨q, flight, -, e⟩ | ⟨-, e⟩ <;> rw [e]
  · refine ⟨fun hs => Exchange.Logs.complete _ _ _ (hs.port flight) .refl, fun hs => ?_, rfl⟩
    exact (State.follows_setPort (pages := pages) s p { s.port p with inFlight := none } fun _ h => by cases h).stays hs
  · exact .refl s

/-- What the outcome of a selection journals (R64). -/
def Outcome.records (p : LinePort) (image : Option Image) : Outcome → List (Byte × Byte × List Byte)
  | .noCandidate => [(0x11, lineByte p, [byte ((image.map fun i => i.levels.length).getD 0)])]
  | _ => []

theorem State.follows_toRest (s : State) (p : LinePort) : s.Follows pages held [] (s.toRest p) :=
  State.follows_setPort_kept _ _ _ (by rfl)

theorem State.follows_applyOutcome (s : State) (p : LinePort) (o : Outcome) :
    s.Follows pages held (o.records p (s.port p).image) (s.applyOutcome p o) := by
  cases o with
  | claim c => exact State.follows_setPort_kept _ _ _ (by rfl)
  | noClaim shared =>
    have rested := ((State.follows_setPort_kept (pages := pages) (held := held) s p ((s.port p).setShared shared) rfl).trans
      (State.follows_toRest _ p)).trans (State.follows_completePort _ p [.refresh] .ok)
    simp only [State.applyOutcome]
    split
    · exact rested.trans (State.follows_completePort _ p [.pin] .ok)
    · exact rested
  | noCandidate =>
    exact ((State.follows_toRest s p).trans (State.follows_journal _ _ _ _)).trans (State.follows_completePort _ p _ _)

theorem State.follows_select (s : State) (p : LinePort) : s.Follows pages held [] (s.select p).1 := by
  rw [State.select_state]
  exact (State.follows_setPort_kept s p (rescore s.policy p (s.port p)) (by rfl)).trans
    (State.follows_of_owners_kept rfl rfl rfl rfl rfl)

@[simp] theorem PortRecord.retire_inFlight (r : PortRecord) : r.retire.inFlight = r.inFlight := by
  unfold PortRecord.retire PortRecord.withdrawClaim
  split <;> rfl

theorem State.goes_selected (s : State) (p : LinePort) (o : Outcome) :
    s.Goes pages held ((s.select p).1.applyOutcome p o) :=
  (State.follows_select s p).goes.trans (State.follows_applyOutcome _ p o).goes

theorem State.goes_reselected (s : State) (p : LinePort) (o : Outcome) :
    s.Goes pages held (((s.select p).1.setPort p ((s.select p).1.port p).retire).applyOutcome p o) :=
  ((State.follows_select s p).trans (State.follows_setPort_kept _ p _ (PortRecord.retire_inFlight _))).goes.trans
    (State.follows_applyOutcome _ p o).goes

theorem State.goes_callSelection (s : State) (p : LinePort) : s.Goes pages held (s.callSelection p) := by
  unfold State.callSelection
  dsimp only
  split
  · exact .refl s
  · split
    · exact (State.follows_setPort_kept _ _ _ (by rfl)).goes
    · split
      · exact .refl s
      · exact State.goes_selected s p _
    · split
      · exact .refl s
      · exact State.goes_selected s p _
    · split
      · exact .refl s
      · split
        · split
          · exact (State.follows_select s p).goes
          · exact State.goes_reselected s p _
        · exact State.goes_reselected s p _
    all_goals exact .refl s

theorem State.goes_captureSelection (s : State) (p : LinePort) : s.Goes pages held (s.captureSelection p) := by
  unfold State.captureSelection
  dsimp only
  split
  · exact .refl s
  · exact (State.follows_setPort_kept _ _ _ (by rfl)).goes
  · have retired : s.Goes pages held (if (s.port p).state = .claimed then s.setPort p (s.port p).retire else s) := by
      split
      · exact (State.follows_setPort_kept _ _ _ (PortRecord.retire_inFlight _)).goes
      · exact .refl s
    refine retired.trans ?_
    generalize (if (s.port p).state = .claimed then s.setPort p (s.port p).retire else s) = t
    split
    · exact ((State.follows_toRest t p).trans (State.follows_completePort _ p _ _)).goes
    · split
      · exact (State.follows_toRest t p).goes
      · exact State.goes_selected t p _

theorem State.follows_portAttach (s : State) (p : LinePort) :
    s.Follows pages held [(0x01, lineByte p, [])] (s.portAttach p) :=
  (State.follows_setPort_kept s p _ (by rfl)).trans (State.follows_journal _ _ _ _)

theorem State.follows_txReport (s : State) (p : LinePort) (f : OutFrame) (tag : Nat) :
    s.Follows pages held [] (s.txReport p f tag) := by
  unfold State.txReport
  dsimp only
  split
  · split
    · exact State.follows_setPort_kept _ _ _ (by rfl)
    · exact .refl s
  · split
    · exact State.follows_setPort_kept _ _ _ (by rfl)
    · exact .refl s
  · exact State.follows_completePort _ _ _ _

theorem PortRecord.cancelLapse_inFlight (r : PortRecord) (t : LapseTarget) : (r.cancelLapse t).inFlight = r.inFlight := by
  unfold PortRecord.cancelLapse
  split <;> rfl

theorem PortRecord.setContract_inFlight (r : PortRecord) (t : LapseTarget) (c : Contract) :
    (r.setContract t c).inFlight = r.inFlight := by
  cases t <;> rfl

theorem State.goes_coverContract (s : State) (p : LinePort) (i : Image) (t : LapseTarget) (c : Contract) :
    s.Goes pages held (s.coverContract p i t c) := by
  unfold State.coverContract
  dsimp only
  split
  · exact ((State.follows_setPort_kept s p _ (by rfl)).trans (State.follows_journal _ _ _ _)).goes
  · split
    · exact (State.follows_setPort_kept s p _ (PortRecord.cancelLapse_inFlight _ _)).goes
    · exact ((State.follows_setPort_kept s p _ (by
        rw [PortRecord.cancelLapse_inFlight, PortRecord.setContract_inFlight])).trans (State.follows_journal _ _ _ _)).goes

theorem State.goes_coverage (s : State) (p : LinePort) (i : Image) : s.Goes pages held (s.coverage p i) := by
  have checked : ∀ (t : LapseTarget) (k : Option Contract), s.Goes pages held
      (match k with
        | some c => if c.negotiated then s.coverContract p i t c else s
        | none => s) := by
    intro t k
    split
    · split
      · exact State.goes_coverContract s p i t _
      · exact .refl s
    · exact .refl s
  unfold State.coverage
  dsimp only
  split
  · exact checked .live _
  · exact checked .live _
  · exact checked .live _
  · exact checked .staged _
  · exact .refl s

theorem State.follows_voidPin (s : State) (p : LinePort) (n : Pin) (why : VoidReason) :
    s.Follows pages held [(0x10, lineByte p, [byte n.level, why.code] ++ le2 n.volts ++ le2 n.limit)] (s.voidPin p n why) :=
  ((State.follows_setPort_kept s p _ (by rfl)).trans (State.follows_journal _ _ _ _)).trans (State.follows_completePort _ p _ _)

theorem State.goes_recheckPin (s : State) (p : LinePort) (i : Image) : s.Goes pages held (s.recheckPin p i) := by
  unfold State.recheckPin
  split
  · exact .refl s
  · split
    · exact (State.follows_voidPin s p _ _).goes
    · exact (State.follows_setPort_kept s p _ (by rfl)).goes

theorem State.goes_adoptPin (s : State) (p : LinePort) : s.Goes pages held (s.adoptPin p) := by
  unfold State.adoptPin
  split
  · split
    · exact (State.follows_voidPin s p _ _).goes
    · exact (State.follows_setPort_kept s p _ (by rfl)).goes
  · exact .refl s

/-- The TENDER record (R60 step 3). -/
def tenderRecord (p : LinePort) (i : Image) (answer : Bool) : Byte × Byte × List Byte :=
  (0x03, lineByte p,
    [i.cls.code, byte i.levels.length, byte (i.levels.countP fun l => l.usable), byte i.tag, if answer then 1 else 0])

theorem State.follows_storeImage (s : State) (p : LinePort) (i : Image) (answer : Bool) :
    s.Follows pages held [tenderRecord p i answer] (s.storeImage p i answer) :=
  (State.follows_setPort_kept s p _ (by rfl)).trans (State.follows_journal _ _ _ _)

theorem PortRecord.endAsk_inFlight (r : PortRecord) : r.endAsk.inFlight = r.inFlight := by
  unfold PortRecord.endAsk PortRecord.withdrawAsk
  split <;> rfl

/-- The ask ends where the port is asking (R61). -/
def State.askEnded (s : State) (p : LinePort) : State :=
  if (s.port p).state = .asking then s.setPort p (s.port p).endAsk else s

theorem State.capture_eq (s : State) (p : LinePort) (i : Image) (answer : Bool) :
    s.capture p i answer =
      (((((s.storeImage p i answer).askEnded p).coverage p i).recheckPin p i).captureSelection p) := rfl

theorem State.follows_askEnded (s : State) (p : LinePort) : s.Follows pages held [] (s.askEnded p) := by
  unfold State.askEnded
  split
  · exact State.follows_setPort_kept _ _ _ (PortRecord.endAsk_inFlight _)
  · exact .refl s

theorem State.goes_capture (s : State) (p : LinePort) (i : Image) (answer : Bool) :
    s.Goes pages held (s.capture p i answer) := by
  rw [State.capture_eq]
  exact ((((State.follows_storeImage s p i answer).trans (State.follows_askEnded _ p)).goes.trans
    (State.goes_coverage _ p i)).trans (State.goes_recheckPin _ p i)).trans (State.goes_captureSelection _ p)

theorem State.follows_declined (s : State) (p : LinePort) (reason : Byte) :
    s.Follows pages held
      [(0x05, lineByte p, [reason, byte (((s.port p).staged.bind Contract.level).getD 0)] ++
        le2 (((s.port p).staged.map Contract.volts).getD 0) ++ le2 (((s.port p).staged.map Contract.limit).getD 0))]
      (s.declined p reason) :=
  ((State.follows_setPort_kept s p _ (by rfl)).trans (State.follows_journal _ _ _ _)).trans (State.follows_completePort _ p _ _)

theorem PortRecord.settleLapse_inFlight (r : PortRecord) : r.settleLapse.inFlight = r.inFlight := by
  unfold PortRecord.settleLapse
  split <;> rfl

theorem State.goes_settled (s : State) (p : LinePort) : s.Goes pages held (s.settled p) := by
  unfold State.settled
  dsimp only
  have live := ((State.follows_setPort_kept (pages := pages) (held := held) s p
    { (s.port p).settleLapse with
      live := (s.port p).settleLapse.staged, staged := none, timer := .stopped, claimTag := none, claimAttempts := 0
      pathFault := false, state := .bound } (PortRecord.settleLapse_inFlight _)).trans
    (State.follows_journal _ 0x04 (lineByte p)
      ([byte (((s.port p).settleLapse.staged.bind Contract.level).getD 0), 0] ++
        le2 (((s.port p).settleLapse.staged.map Contract.volts).getD 0) ++
        le2 (((s.port p).settleLapse.staged.map Contract.limit).getD 0) ++
        le2 (((s.port p).settleLapse.staged.map Contract.operating).getD 0)))).goes
  refine live.trans ?_
  generalize State.journal _ _ _ _ = t
  have refreshed : t.Goes pages held
      (if (s.port p).settleLapse.refreshPending = true then t else t.completePort p [.refresh] .ok) := by
    split
    · exact .refl t
    · exact (State.follows_completePort _ _ _ _).goes
  refine refreshed.trans ?_
  generalize (if (s.port p).settleLapse.refreshPending = true then t else t.completePort p [.refresh] .ok) = u
  have pinned : u.Goes pages held (if u.matchesPin p = true then u.completePort p [.pin] .ok else u) := by
    split
    · exact (State.follows_completePort _ _ _ _).goes
    · exact .refl u
  refine pinned.trans ?_
  generalize (if u.matchesPin p = true then u.completePort p [.pin] .ok else u) = v
  split
  · exact (State.follows_setPort_kept _ _ _ (by rfl)).goes
  · split
    · exact (State.follows_setPort_kept v p _ (by rfl)).goes.trans (State.goes_callSelection _ p)
    · exact .refl v

theorem State.goes_takeCut (s : State) (p : LinePort) (volts amps : Nat) : s.Goes pages held (s.takeCut p volts amps) := by
  unfold State.takeCut
  dsimp only
  split
  · exact (State.follows_setPort_kept s p _ (by rfl)).goes
  · refine ((State.follows_setPort_kept s p _ ?_).trans (State.follows_journal _ _ _ _)).goes
    split <;> exact PortRecord.setContract_inFlight _ _ _

theorem State.follows_enterFaulted (s : State) (p : LinePort) (cause : FaultCause) :
    s.Follows pages held [(0x09, lineByte p, [cause.code])] (s.enterFaulted p cause) :=
  ((State.follows_setPort_kept s p _ (by rfl)).trans (State.follows_journal _ _ _ _)).trans (State.follows_completePort _ p _ _)

theorem State.goes_portDroop (s : State) (p : LinePort) : s.Goes pages held (s.portDroop p) := by
  unfold State.portDroop
  dsimp only
  split
  · exact .refl s
  · split
    all_goals first
      | exact (State.follows_enterFaulted s p .droop).goes
      | exact .refl s

/-- The third TENDER_WAIT: the port goes silent, before its call for selection (R62). -/
def State.silenced (s : State) (p : LinePort) : State :=
  ((s.setPort p { s.port p with
    askTag := none, timer := .stopped, silent := true, state := (s.port p).resting }).journal 0x0A (lineByte p)
      []).completePort p [.refresh, .pin] .timedOut

theorem State.tenderTimeout_eq (s : State) (p : LinePort) :
    s.tenderTimeout p =
      if (s.port p).askAttempts < 3 then
        s.setPort p { s.port p with
          askTag := none, timer := .stopped, slot := some .ask, askAttempts := (s.port p).askAttempts + 1 }
      else (s.silenced p).callSelection p := rfl

theorem State.follows_silenced (s : State) (p : LinePort) :
    s.Follows pages held [(0x0A, lineByte p, [])] (s.silenced p) :=
  ((State.follows_setPort_kept s p _ (by rfl)).trans (State.follows_journal _ _ _ _)).trans (State.follows_completePort _ p _ _)

theorem State.goes_tenderTimeout (s : State) (p : LinePort) : s.Goes pages held (s.tenderTimeout p) := by
  rw [State.tenderTimeout_eq]
  split
  · exact (State.follows_setPort_kept s p _ (by rfl)).goes
  · exact (State.follows_silenced s p).goes.trans (State.goes_callSelection _ p)

theorem State.goes_claimTimeout (s : State) (p : LinePort) : s.Goes pages held (s.claimTimeout p) := by
  unfold State.claimTimeout
  dsimp only
  split
  · exact ((State.follows_setPort_kept s p _ (by rfl)).trans (State.follows_enterFaulted _ p _)).goes
  · split
    · exact ((State.follows_setPort_kept s p _ (by rfl)).trans (State.follows_completePort _ p _ _)).goes
    · exact (State.follows_setPort_kept s p _ (by rfl)).goes

theorem State.follows_lapse (s : State) (p : LinePort) :
    s.Follows pages held [(0x08, lineByte p, le2 (((s.port p).live.map Contract.volts).getD 0))] (s.lapse p) :=
  (State.follows_setPort_kept s p _ (by rfl)).trans (State.follows_journal _ _ _ _)

theorem State.follows_portRelease (s : State) (p : LinePort) {k : Fin 8} (hk : held k) :
    s.Follows pages held [] (s.portRelease p k) := by
  unfold State.portRelease
  dsimp only
  split
  · refine State.follows_setPort s p _ fun q hq => ?_
    cases hq
    exact .inr hk
  · refine (State.follows_setPort_kept s p _ ?_).trans (State.follows_complete _ _ _ fun _ => hk)
    simp only [PortRecord.setLive_inFlight, PortRecord.stopLapse, PortRecord.withdrawAsk]
    split <;> rfl

theorem State.follows_portRefresh (s : State) (p : LinePort) {k : Fin 8} (hk : held k) :
    s.Follows pages held [] (s.portRefresh p k) := by
  have flight : ∀ q : PortRequest, some (⟨.refresh, k⟩ : PortRequest) = some q → held q.slot := by
    intro q hq
    cases hq
    exact hk
  unfold State.portRefresh
  dsimp only
  split
  · exact State.follows_setPort s p _ fun q hq => .inr (flight q hq)
  · refine State.follows_setPort s p _ fun q hq => .inr (flight q ?_)
    rw [← hq]
    simp only [PortRecord.startAsk, PortRecord.put]
    split
    · rw [PortRecord.retire_inFlight]
    · rfl

theorem State.goes_portPin (s : State) (p : LinePort) {k : Fin 8} (n : Pin) (hk : held k) :
    s.Goes pages held (s.portPin p k n) := by
  refine (State.follows_setPort s p _ fun q hq => ?_).goes.trans (State.goes_callSelection _ p)
  cases hq
  exact .inr hk

theorem State.goes_portUnpin (s : State) (p : LinePort) {k : Fin 8} (hk : held k) :
    s.Goes pages held (s.portUnpin p k) :=
  (((State.follows_setPort_kept s p _ (by rfl)).trans (State.follows_completePort _ p _ _)).trans
    (State.follows_complete _ _ _ fun _ => hk)).goes.trans (State.goes_callSelection _ p)

theorem State.goes_deliver (s : State) (p : LinePort) (tag : Nat) (f : FeederFrame) :
    s.Goes pages held (s.deliver p tag f) := by
  have stale : s.Goes pages held (s.countStaleFrame p) := (State.follows_setPort_kept s p _ (by rfl)).goes
  unfold State.deliver
  dsimp only
  split <;> split
  · exact State.goes_capture s p _ _
  · exact stale
  · exact (State.follows_setPort_kept s p _ (by rfl)).goes
  · exact stale
  · exact (State.follows_declined s p _).goes
  · exact stale
  · exact State.goes_settled s p
  · exact stale
  · exact State.goes_takeCut s p _ _
  · exact stale

end

end Sys2Proof.Machine
end

section
/-! That the barrel machine, the engines, the Path Controller and the reports follow (`State.Follows`), and so all that
follows an event. -/

namespace Sys2Proof.Machine

section
variable {pages : Bool} {held : Fin 8 → Prop} {s t u : State}

/-! ### The barrel machine -/

theorem State.follows_completeBarrel (s : State) (c : ResultCode) : s.Follows pages held [] (s.completeBarrel c) := by
  unfold State.completeBarrel
  split
  next k flight =>
    refine ⟨fun hs => Exchange.Logs.complete _ _ _ (hs.barrel flight) .refl, fun hs => ?_, rfl⟩
    exact (State.follows_withBarrel (pages := pages) s { s.barrel with inFlight := none } fun _ h => by cases h).stays hs
  next => exact .refl s

theorem State.follows_clearDroop (s : State) (x : Connector) : s.Follows pages held [] (s.clearDroop x) :=
  State.follows_of_owners_kept rfl rfl rfl rfl rfl

/-- The BARREL_ID record of an outcome (R10). -/
def State.barrelRecord (s : State) (i : StoredId) (amps : Nat) : Byte × Byte × List Byte :=
  (0x12, barrelByte, [byte i.entry, outcomeByte (s.policy.barrelCause i.volts amps)] ++ le2 i.average ++ le2 i.volts ++
    le2 (if (s.policy.barrelCause i.volts amps).isNone then amps else 0))

theorem State.follows_barrelOutcome (s : State) (i : StoredId) (amps : Nat) :
    s.Follows pages held [s.barrelRecord i amps] (s.barrelOutcome i amps) := by
  unfold State.barrelOutcome
  refine State.Follows.trans (l := []) ?_ (State.follows_journal _ _ _ _)
  have installed : ∀ b : Barrel, b.inFlight = s.barrel.inFlight → s.Follows pages held []
      (if (s.policy.barrelCause i.volts amps).isNone then (s.withBarrel b).clearDroop .barrel else s.withBarrel b) := by
    intro b hb
    split
    · exact (State.follows_withBarrel_kept s b hb).trans (State.follows_clearDroop _ .barrel)
    · exact State.follows_withBarrel_kept s b hb
  refine installed _ ?_
  split <;> rfl

/-- The identification that eight samples make (R8). -/
def State.identified (s : State) : StoredId :=
  ⟨s.barrel.sum / Config.iddSamples, (s.policy.classify (s.barrel.sum / Config.iddSamples)).1, s.latestVD / 100 * 100⟩

theorem State.follows_identify (s : State) :
    s.Follows pages held
      [s.barrelRecord s.identified (s.policy.classify (s.barrel.sum / Config.iddSamples)).2] s.identify :=
  (State.follows_barrelOutcome s _ _).trans (State.follows_completeBarrel _ _)

theorem State.goes_barrelSample (s : State) (v : Nat) : s.Goes pages held (s.barrelSample v) := by
  unfold State.barrelSample
  dsimp only
  split
  · have sampled := State.follows_withBarrel_kept (pages := pages) (held := held) s
      { s.barrel with count := s.barrel.count + 1, sum := s.barrel.sum + v } rfl
    split
    · exact sampled.goes.trans (State.follows_identify _).goes
    · exact sampled.goes
  · exact .refl s

theorem State.goes_reclassify (s : State) (i : StoredId) : s.Goes pages held (s.reclassify i) := by
  unfold State.reclassify
  dsimp only
  split <;> split
  all_goals first
    | exact .refl s
    | exact (State.follows_barrelOutcome s _ _).goes

theorem State.goes_barrelAdopt (s : State) : s.Goes pages held s.barrelAdopt := by
  unfold State.barrelAdopt
  split
  · exact .refl s
  · split
    all_goals first
      | exact State.goes_reclassify s _
      | exact .refl s

theorem State.follows_barrelAttach (s : State) : s.Follows pages held [(0x01, barrelByte, [])] s.barrelAttach :=
  (State.follows_withBarrel_kept s _ (by rfl)).trans (State.follows_journal _ _ _ _)

theorem State.follows_barrelDetach (s : State) : s.Follows pages held [(0x02, barrelByte, [])] s.barrelDetach :=
  (((State.follows_withBarrel_kept s { Barrel.cleared with inFlight := s.barrel.inFlight } rfl).trans
    (State.follows_clearDroop _ .barrel)).trans (State.follows_journal _ _ _ _)).trans (State.follows_completeBarrel _ _)

theorem State.follows_barrelDroop (s : State) : s.Follows pages held [] s.barrelDroop := by
  unfold State.barrelDroop
  dsimp only
  split
  · exact State.follows_withBarrel_kept s _ (by rfl)
  · exact (State.follows_withBarrel_kept s { s.barrel with
      live := none, state := .unusable, cause := some .droop, count := 0, sum := 0, refreshPending := false } rfl).trans
      (State.follows_completeBarrel _ _)
  · exact .refl s

theorem State.follows_barrelRefresh (s : State) {k : Fin 8} (hk : held k) : s.Follows pages held [] (s.barrelRefresh k) := by
  refine State.follows_withBarrel s _ fun j hj => ?_
  cases hj
  exact .inr hk

theorem State.follows_barrelRelease (s : State) {k : Fin 8} (hk : held k) : s.Follows pages held [] (s.barrelRelease k) :=
  (State.follows_withBarrel_kept s { s.barrel with released := true } rfl).trans (State.follows_complete _ _ _ fun _ => hk)

/-! ### The engines -/

/-- The part of a port record that no engine touches. -/
def PortRecord.sansEngine (r : PortRecord) : PortRecord := { r with slot := none, tagCounter := 0, missedHail := 0 }

/-- What the engines make of a state: lines, engines and queue; of each port record only that its frame leaves the slot, the
tag counter moves on within its range, and missed hails are counted. -/
structure State.Served (s t : State) : Prop where
  rest : ((((t.withLines s.lines).withEngines s.engines).withQueue s.queue).withPorts s.ports) = s
  port : ∀ p, (t.port p).sansEngine = (s.port p).sansEngine
  slot : ∀ p, (t.port p).slot = (s.port p).slot ∨ (t.port p).slot = none
  counter : ∀ p, (s.port p).tagCounter < 7 → (t.port p).tagCounter < 7

theorem State.Served.refl (s : State) : s.Served s := ⟨rfl, fun _ => rfl, fun _ => .inl rfl, fun _ => id⟩

theorem State.Served.trans (h : s.Served t) (k : t.Served u) : s.Served u where
  rest := by
    have hr := h.rest
    have kr := k.rest
    rw [← hr, ← kr]
    rfl
  port p := (k.port p).trans (h.port p)
  slot p := by
    rcases k.slot p with e | e
    · exact e ▸ h.slot p
    · exact .inr e
  counter p hp := k.counter p (h.counter p hp)

theorem State.Served.exch (h : s.Served t) : t.exch = s.exch := (congrArg State.exch h.rest :)
theorem State.Served.barrel (h : s.Served t) : t.barrel = s.barrel := (congrArg State.barrel h.rest :)
theorem State.Served.path (h : s.Served t) : t.path = s.path := (congrArg State.path h.rest :)
theorem State.Served.meas (h : s.Served t) : t.meas = s.meas := (congrArg State.meas h.rest :)
theorem State.Served.reg (h : s.Served t) : t.reg = s.reg := (congrArg State.reg h.rest :)
theorem State.Served.policy (h : s.Served t) : t.policy = s.policy := (congrArg State.policy h.rest :)
theorem State.Served.trackers (h : s.Served t) : t.trackers = s.trackers := (congrArg State.trackers h.rest :)
theorem State.Served.prospect (h : s.Served t) : t.prospect = s.prospect := (congrArg State.prospect h.rest :)
theorem State.Served.fixed (h : s.Served t) : t.fixed = s.fixed := (congrArg State.fixed h.rest :)

/-- A field of a port record that no engine touches. -/
theorem State.Served.field {α : Type} (h : s.Served t) (p : LinePort) (f : PortRecord → α)
    (keeps : ∀ r, f r = f r.sansEngine) : f (t.port p) = f (s.port p) := by
  rw [keeps, h.port, ← keeps]

theorem State.Served.follows (h : s.Served t) : s.Follows pages held [] t :=
  .of_exch_eq h.exch h.fixed (fun p _ hq => .inl (h.field p PortRecord.inFlight (fun _ => rfl) ▸ hq))
    (fun _ hk => .inl (h.barrel ▸ hk)) fun _ hq => .inl (h.path ▸ hq)

/-- A change of lines, engines and queue alone. -/
theorem State.Served.of_ports_eq
    (rest : ((((t.withLines s.lines).withEngines s.engines).withQueue s.queue).withPorts s.ports) = s)
    (ports : t.ports = s.ports) : s.Served t := by
  have same : ∀ p, t.port p = s.port p := fun p => by rw [State.port, State.port, ports]
  exact ⟨rest, fun p => by rw [same], fun p => .inl (by rw [same]), fun p => by rw [same]; exact id⟩

theorem State.served_countMissedHail (s : State) (p : LinePort) : s.Served (s.countMissedHail p) := by
  refine ⟨rfl, fun q => ?_, fun q => ?_, fun q => ?_⟩ <;>
  · by_cases e : q = p
    · subst e
      simp only [State.countMissedHail, State.port_setPort_self, PortRecord.sansEngine, true_or, imp_self]
    · simp only [State.countMissedHail, State.port_setPort_of_ne _ _ e, true_or, imp_self]

theorem State.served_setLine (s : State) (p : LinePort) (l : Line) : s.Served (s.setLine p l) := .of_ports_eq (by rfl) (by rfl)

theorem State.served_setEngine (s : State) (e : EngineId) (g : Engine) : s.Served (s.setEngine e g) := .of_ports_eq (by rfl) (by rfl)

theorem State.served_withQueue (s : State) (q : List QueueEntry) : s.Served (s.withQueue q) := .of_ports_eq (by rfl) (by rfl)

theorem State.served_beginHeed (s : State) (e : EngineId) (p : LinePort) : s.Served (s.beginHeed e p) :=
  (State.served_setEngine s e _).trans (State.served_setLine _ p _)

theorem State.served_takeFrame (s : State) (e : EngineId) (p : LinePort) (f : OutFrame) : s.Served (s.takeFrame e p f) := by
  have taken : s.Served (s.setPort p { s.port p with slot := none, tagCounter := ((s.port p).tagCounter + 1) % 7 }) := by
    refine ⟨rfl, fun q => ?_, fun q => ?_, fun q => ?_⟩
    all_goals
      by_cases e : q = p
      · subst e
        simp only [State.port_setPort_self, PortRecord.sansEngine, or_true]
        try omega
      · simp only [State.port_setPort_of_ne _ _ e, true_or, imp_self]
  exact (taken.trans (State.served_setEngine _ e _)).trans (State.served_setLine _ p _)

theorem State.served_serve (s : State) (e : EngineId) (p : LinePort) : s.Served (s.serve e p) := by
  unfold State.serve
  split
  · exact State.served_beginHeed s e p
  · split
    · split
      · exact State.served_takeFrame s e p _
      · exact State.served_setEngine s e _
    · exact State.served_setEngine s e _

theorem State.served_beginLease (s : State) (e : EngineId) (p : LinePort) (k : LeaseKind) : s.Served (s.beginLease e p k) := by
  unfold State.beginLease
  dsimp only
  have begun := State.served_setEngine s e { Engine.freed with state := .waitLine, lease := some ⟨p, k⟩ }
  refine State.Served.trans ?_ (State.served_serve _ e p)
  split
  · exact begun.trans (State.served_countMissedHail _ p)
  · exact begun

theorem served_giveOut (e : EngineId) (l : List QueueEntry) (s : State) : s.Served (giveOut e l s) := by
  induction l generalizing s with
  | nil => exact .refl s
  | cons q rest ih =>
    unfold giveOut
    split
    · exact (State.served_withQueue s rest).trans
        ((State.served_beginLease _ e q.port q.cls).trans (ih _))
    · exact .refl s

theorem State.served_giveEngine (s : State) (e : EngineId) : s.Served (s.giveEngine e) := served_giveOut e s.queue s

theorem State.served_apply (s : State) (p : LinePort) : s.Served (s.apply p) := by
  unfold State.apply
  dsimp only
  split
  · split
    · exact State.served_beginLease s _ p _
    · split
      · exact State.served_beginLease s _ p _
      · exact State.served_withQueue s _
  · exact .refl s

theorem State.served_endLease (s : State) (e : EngineId) (p : LinePort) : s.Served (s.endLease e p) :=
  ((State.served_setEngine s e Engine.freed).trans (State.served_giveEngine _ e)).trans
    (State.served_apply _ p)

theorem State.served_endLeaseOf (s : State) (p : LinePort) : s.Served (s.endLeaseOf p) := by
  unfold State.endLeaseOf
  split
  · exact State.served_endLease s _ p
  · exact .refl s

theorem State.served_lineFreed (s : State) (p : LinePort) : s.Served (s.lineFreed p) := by
  unfold State.lineFreed
  split
  · split
    · dsimp only
      split
      · exact (State.served_serve s _ p).trans (State.served_endLease _ _ p)
      · exact State.served_serve s _ p
    · exact .refl s
  · exact .refl s

theorem State.served_dropLine (s : State) (p : LinePort) : s.Served (s.dropLine p) := by
  unfold State.dropLine
  dsimp only
  have dropped := (State.served_withQueue s (leaveQueue s.queue p)).trans (State.served_setLine _ p Line.cleared)
  split
  · exact dropped.trans ((State.served_setEngine _ _ Engine.freed).trans (State.served_giveEngine _ _))
  · exact dropped

/-- A detach clears the record, drops the line, and ends a request in flight (R58). -/
theorem State.follows_portDetach (s : State) (p : LinePort) :
    s.Follows pages held
      [(0x02, lineByte p, le2 (s.port p).badFrame ++ le2 (s.port p).staleFrame ++ le2 (s.port p).missedHail)]
      (s.portDetach p) := by
  unfold State.portDetach
  dsimp only
  rw [← List.append_nil [_]]
  refine State.Follows.trans ?_ (State.served_dropLine _ p).follows
  have cleared := (State.follows_setPort (pages := pages) (held := held) s p PortRecord.cleared fun _ h => by cases h).trans
    (State.follows_journal _ 0x02 (lineByte p)
      (le2 (s.port p).badFrame ++ le2 (s.port p).staleFrame ++ le2 (s.port p).missedHail))
  split
  next q flight =>
    exact ⟨fun hs => .complete _ _ _ (hs.port flight) (cleared.logs hs), cleared.stays, cleared.fixed⟩
  next => exact cleared

/-! ### The Path Controller -/

theorem State.follows_completePrimary (s : State) (y : Connector) (c : ResultCode) :
    s.Follows pages held [] (s.completePrimary y c) := by
  rcases State.completePrimary_cases s y c with ⟨q, flight, -, e⟩ | ⟨-, e⟩ <;> rw [e]
  · refine ⟨fun hs => Exchange.Logs.complete _ _ _ (hs.path flight) .refl, fun hs => ?_, rfl⟩
    exact (State.follows_withPath (pages := pages) s { s.path with inFlight := none } rfl fun _ h => by cases h).stays hs
  · exact .refl s

theorem State.follows_enterClosing (s : State) (y : Connector) : s.Follows pages held [] (s.enterClosing y) :=
  State.follows_withPath_kept s _ (by rfl) (by rfl)

theorem State.follows_openPath (s : State) (y : Connector) : s.Follows pages held [] (s.openPath y) :=
  State.follows_withPath_kept s _ (by rfl) (by rfl)

/-- The FAILOVER record of a loss: only a CLOSED path makes one (R116). -/
def State.lossRecords (s : State) (y : Connector) : List (Byte × Byte × List Byte) :=
  if s.path.state = .closed y then [(0x0C, connectorByteOf y, [((s.lossCause y).getD .released).code])] else []

theorem State.follows_losePath (s : State) (y : Connector) : s.Follows pages held (s.lossRecords y) (s.losePath y) := by
  unfold State.losePath State.lossRecords
  dsimp only
  split
  · exact ((State.follows_openPath s y).trans (State.follows_journal _ _ _ _)).trans (State.follows_completePrimary _ y _)
  · exact (State.follows_openPath s y).trans (State.follows_completePrimary _ y _)

theorem State.follows_dropLostPrimary (s : State) : s.Follows pages held [] s.dropLostPrimary := by
  unfold State.dropLostPrimary
  split
  · split
    · exact State.follows_completePrimary s _ _
    · exact .refl s
  · exact .refl s

theorem State.goes_evaluatePath (s : State) : s.Goes pages held s.evaluatePath := by
  rcases s.evaluatePath_cases with e | ⟨-, y, -, e⟩ | ⟨x, -, -, e⟩ | ⟨x, y, -, -, -, -, e⟩ <;> rw [e]
  · exact .refl s
  · exact (State.follows_enterClosing s y).goes
  · exact (State.follows_losePath s x).goes
  · exact (State.follows_openPath s x).goes

theorem State.goes_evaluate (s : State) : s.Goes pages held s.evaluate :=
  s.goes_evaluatePath.trans (State.follows_dropLostPrimary _).goes

/-- The state in which the path has entered CLOSED, before its evaluation (R112). -/
def State.closedPath (s : State) (y : Connector) : State :=
  ((s.withPath { s.path with state := .closed y, checkDeferred := false, softStart := none, lastPrimary := some y }).journal
    0x0B (connectorByteOf y) [connectorCode s.path.lastPrimary, connectorByteOf y]).completePrimary y .ok

theorem State.enterClosed_eq (s : State) (y : Connector) : s.enterClosed y = (s.closedPath y).evaluate := rfl

theorem State.follows_closedPath (s : State) (y : Connector) :
    s.Follows pages held [(0x0B, connectorByteOf y, [connectorCode s.path.lastPrimary, connectorByteOf y])]
      (s.closedPath y) :=
  ((State.follows_withPath_kept s { s.path with
      state := .closed y, checkDeferred := false, softStart := none, lastPrimary := some y } rfl rfl).trans
    (State.follows_journal _ _ _ _)).trans (State.follows_completePrimary _ y _)

theorem State.follows_setPathFault (s : State) (y : Connector) : s.Follows pages held [] (s.setPathFault y) := by
  cases y with
  | line p => exact State.follows_setPort_kept s p _ (by rfl)
  | barrel => exact State.follows_withBarrel_kept s _ (by rfl)

theorem State.follows_failClose (s : State) (y : Connector) (sample : Nat) :
    s.Follows pages held [(0x0D, connectorByteOf y, le2 sample ++ le2 (s.liveVolts y))] (s.failClose y sample) :=
  (((State.follows_openPath s y).trans (State.follows_setPathFault _ y)).trans (State.follows_journal _ _ _ _)).trans
    (State.follows_completePrimary _ y _)

theorem State.goes_closeCheck (s : State) (y : Connector) (sample : Nat) : s.Goes pages held (s.closeCheck y sample) := by
  unfold State.closeCheck
  split
  · rw [State.enterClosed_eq]
    exact (State.follows_closedPath s y).goes.trans (State.goes_evaluate _)
  · exact (State.follows_failClose s y sample).goes

theorem State.goes_softStartEnds (s : State) (y : Connector) : s.Goes pages held (s.softStartEnds y) := by
  have stopped := (State.follows_withPath_kept (pages := pages) (held := held) s { s.path with softStart := none } rfl
    rfl).goes
  unfold State.softStartEnds
  dsimp only
  split
  · exact stopped.trans (State.follows_withPath_kept _ _ (by rfl) (by rfl)).goes
  · exact stopped.trans (State.goes_closeCheck _ y _)

theorem State.goes_breakEnds (s : State) : s.Goes pages held s.breakEnds := by
  have stopped := (State.follows_withPath_kept (pages := pages) (held := held) s { s.path with breakTimer := none } rfl
    rfl).goes
  unfold State.breakEnds
  dsimp only
  split
  · exact stopped.trans (State.follows_enterClosing _ _).goes
  · exact stopped.trans (((State.follows_withPath_kept _ _ (by rfl) (by rfl)).trans (State.follows_journal _ _ _ _)).trans
      (State.follows_raise _)).goes

/-! ### The reports of an event -/

theorem State.goes_reportOwners (s t : State) : t.Goes pages held (s.reportOwners t) := by
  unfold State.reportOwners
  split
  · exact t.goes_evaluate
  · exact .refl t

theorem State.follows_reportDroop (s t : State) (x : Connector) : t.Follows pages held [] (s.reportDroop t x) := by
  unfold State.reportDroop
  split
  · exact State.follows_clearDroop t x
  · exact .refl t

theorem State.follows_reportDroops (s t : State) (l : List Connector) :
    t.Follows pages held [] (l.foldl (fun u x => s.reportDroop u x) t) := by
  induction l generalizing t with
  | nil => exact .refl t
  | cons x l ih => exact (State.follows_reportDroop s t x).trans (ih _)

theorem State.follows_recomputeBudget (s : State) : s.Follows pages held [] s.recomputeBudget :=
  State.follows_of_owners_kept rfl rfl rfl rfl rfl

theorem State.follows_pathLeft (s : State) : s.Follows pages held [] (s.withReg (s.reg.pathLeft s.policy)) := by
  refine State.follows_of_owners_kept rfl ?_ rfl rfl rfl
  have : ({ s.reg.pathLeft s.policy with spTarget := 0, spf := 0, iacc := 0, output := 0, transfer := false, overdraw := 0 } :
      Regulator) = { s.reg with spTarget := 0, spf := 0, iacc := 0, output := 0, transfer := false, overdraw := 0 } := by
    unfold Regulator.pathLeft Regulator.atSatLo
    dsimp only
    split <;> rfl
  simp only [State.fixed, State.withReg, this]

theorem State.follows_reportBudget (s t : State) : t.Follows pages held [] (s.reportBudget t) := by
  unfold State.reportBudget
  dsimp only
  split
  · split
    · exact (State.follows_recomputeBudget t).trans (State.follows_pathLeft _)
    · exact State.follows_recomputeBudget t
  · exact .refl t

theorem State.follows_recomputeProspect (s : State) : s.Follows pages held [] s.recomputeProspect :=
  State.follows_of_owners_kept rfl rfl rfl rfl rfl

theorem State.goes_report (s t : State) : t.Goes pages held (s.report t) :=
  (((State.goes_reportOwners s t).trans (State.follows_reportDroops s _ connectors).goes).trans
    (State.follows_reportBudget s _).goes).trans (State.follows_recomputeProspect _).goes

theorem State.follows_rewritePage (s : State) (x : Connector) : s.Follows true held [] (s.rewritePage x) :=
  ⟨fun _ => Exchange.Logs.page x _ rfl (length_pageOf s x) .refl, id, rfl⟩

theorem State.follows_finish (s t : State) : t.Follows true held [] (s.finish t) :=
  State.finish_induction (fun u => t.Follows true held [] u) s t (.refl t) fun u x h => by
    rcases State.refreshPage_cases s u x with ⟨-, e⟩ | ⟨-, e⟩ <;> rw [e]
    · exact h.trans (State.follows_rewritePage u x)
    · exact h

theorem State.goes_concludes (s t : State) : t.Goes pages held (s.concludes pages t) := by
  rcases State.concludes_cases pages s t with ⟨rfl, e⟩ | ⟨-, e⟩ <;> rw [e]
  · exact (State.goes_report s t).trans (State.follows_finish s _).goes
  · exact State.goes_report s t

theorem goes_settle (n : Nat) (s t : State) : t.Goes pages held (settle pages n s t) :=
  settle_induction (fun u => t.Goes pages held u) pages (fun a _ h => h.trans (State.goes_concludes a _))
    (fun u p h => (h.trans (State.goes_callSelection u p)).trans (State.served_apply _ p).follows.goes) n s t (.refl t)

theorem State.goes_settles (s t : State) : t.Goes true held (s.settles t) := goes_settle _ s t

theorem State.goes_settlesWithin (s t : State) : t.Goes false held (s.settlesWithin t) := goes_settle _ s t

theorem State.goes_portEvent (s : State) (p : LinePort) (t : State) : t.Goes true held (s.portEvent p t) :=
  (State.served_apply t p).follows.goes.trans (State.goes_settles s _)

theorem State.goes_portEventWithin (s : State) (p : LinePort) (t : State) : t.Goes false held (s.portEventWithin p t) :=
  (State.served_apply t p).follows.goes.trans (State.goes_settlesWithin s _)

end

end Sys2Proof.Machine
end

section
/-! What a whole command keeps: the events of lines, timers and debounce intervals, the requests, adoption, restart,
publishing and the host's transactions. -/

namespace Sys2Proof.Machine

section
variable {pages : Bool} {held : Fin 8 → Prop} {s t u : State}

/-! ### The terms line -/

theorem State.follows_countBadFrame (s : State) (p : LinePort) : s.Follows pages held [] (s.countBadFrame p) :=
  State.follows_setPort_kept s p _ (by rfl)

theorem State.follows_breakFrame (s : State) (p : LinePort) : s.Follows pages held [] (s.breakFrame p) :=
  ((State.served_setLine s p _).follows.trans (State.follows_countBadFrame _ p)).trans
    (State.served_endLeaseOf _ p).follows

theorem State.follows_endStray (s : State) (p : LinePort) : s.Follows pages held [] (s.endStray p) := by
  unfold State.endStray
  dsimp only
  have ended := (State.served_setLine s p ((s.line p).enter .idle)).follows (pages := pages) (held := held)
  split
  · exact ended.trans (State.served_lineFreed _ p).follows
  · exact (ended.trans (State.follows_countBadFrame _ p)).trans (State.served_lineFreed _ p).follows

theorem State.served_hailSeen (s : State) (p : LinePort) (time : Nat) : s.Served (s.hailSeen p time) := by
  unfold State.hailSeen
  dsimp only
  split
  · exact (State.served_setLine s p _).trans (State.served_withQueue _ _)
  · exact (State.served_setLine s p _).trans (State.served_apply _ p)

theorem State.served_notePulse (s : State) (p : LinePort) (time : Nat) : s.Served (s.notePulse p time) :=
  State.served_setLine s p _

theorem State.follows_takePulse (s : State) (p : LinePort) (time : Nat) : s.Follows pages held [] (s.takePulse p time) := by
  have noted := State.served_notePulse s p time
  unfold State.takePulse
  dsimp only
  split
  · split
    · exact (State.served_hailSeen s p time).follows
    · exact (State.served_setLine s p _).follows
  · exact noted.follows
  · exact .refl s
  · exact (((noted.trans (State.served_setLine _ p _)).trans (State.served_countMissedHail _ p)).trans
      (State.served_endLeaseOf _ p)).follows
  · exact noted.follows.trans (State.follows_breakFrame _ p)
  · exact noted.follows.trans (State.follows_endStray _ p)

theorem State.served_withdrawHail (s : State) (p : LinePort) : s.Served (s.withdrawHail p) := by
  unfold State.withdrawHail
  split
  · exact State.served_setLine s p _
  · exact .refl s

theorem State.served_endHeed (s : State) (p : LinePort) : s.Served (s.endHeed p) := by
  unfold State.endHeed
  split
  · split
    · exact (State.served_setEngine s _ _).trans (State.served_setLine _ p _)
    · exact .refl s
  · exact .refl s

theorem State.served_endHeedWait (s : State) (p : LinePort) : s.Served (s.endHeedWait p) := by
  unfold State.endHeedWait
  split
  · split
    · exact ((State.served_setLine s p _).trans (State.served_countMissedHail _ p)).trans (State.served_endLease _ _ p)
    · exact .refl s
  · exact .refl s

theorem State.follows_takeStart (s : State) (p : LinePort) : s.Follows pages held [] (s.takeStart p) := by
  unfold State.takeStart
  split
  · split
    · exact ((State.served_setEngine s _ _).trans (State.served_setLine _ p _)).follows
    · exact .refl s
  · exact State.follows_breakFrame s p
  · exact (State.served_setLine s p _).follows
  · exact (State.served_setLine s p _).follows
  · exact .refl s
  · exact .refl s

theorem State.follows_takeData (s : State) (p : LinePort) (v : Byte) : s.Follows pages held [] (s.takeData p v) := by
  unfold State.takeData
  dsimp only
  split
  · split
    · split
      · exact (State.served_setEngine s _ _).follows
      · exact ((State.served_setLine s p _).follows.trans (State.follows_countBadFrame _ p)).trans
          (State.served_endLease _ _ p).follows
    · exact .refl s
  · exact State.follows_breakFrame s p
  · split
    · exact .refl s
    · split
      · exact State.follows_endStray s p
      · exact (State.served_setLine s p _).follows
  all_goals exact .refl s

theorem State.follows_takeError (s : State) (p : LinePort) : s.Follows pages held [] (s.takeError p) := by
  unfold State.takeError
  split
  · exact State.follows_breakFrame s p
  · exact State.follows_breakFrame s p
  · exact .refl s

theorem State.follows_takeSilence (s : State) (p : LinePort) : s.Follows pages held [] (s.takeSilence p) := by
  unfold State.takeSilence
  split
  · exact State.follows_breakFrame s p
  · exact .refl s

theorem State.follows_takeStraySilence (s : State) (p : LinePort) : s.Follows pages held [] (s.takeStraySilence p) := by
  unfold State.takeStraySilence
  split
  · exact State.follows_endStray s p
  · exact .refl s

theorem State.goes_receive (s : State) (p : LinePort) (e : EngineId) : s.Goes true held (s.receive p e) := by
  unfold State.receive
  dsimp only
  have idled := (State.served_setLine s p ((s.line p).enter .idle)).follows (pages := true) (held := held)
  split
  · exact ((idled.goes.trans (State.goes_deliver _ p _ _)).trans (State.served_endLeaseOf _ p).follows.goes).trans
      (State.goes_settles s _)
  · exact (((idled.trans (State.follows_countBadFrame _ p)).trans (State.served_endLeaseOf _ p).follows).trans
      (State.follows_finish s _)).goes

theorem State.goes_takeEnd (s : State) (p : LinePort) : s.Goes true held (s.takeEnd p) := by
  unfold State.takeEnd
  split
  · split
    · exact State.goes_receive s p _
    · exact .refl s
  · exact ((State.follows_breakFrame s p).trans (State.follows_finish s _)).goes
  · split
    · exact .refl s
    · exact ((State.follows_endStray s p).trans (State.follows_finish s _)).goes
  all_goals exact .refl s

theorem State.goes_endSending (s : State) (p : LinePort) : s.Goes true held (s.endSending p) := by
  unfold State.endSending
  split
  · split
    · exact (((State.served_setLine s p _).follows.trans (State.follows_txReport _ p _ _)).trans
        (State.served_endLeaseOf _ p).follows).goes.trans (State.goes_settles s _)
    · exact .refl s
  · exact .refl s

theorem State.goes_ifAttached (s : State) (p : LinePort) (h : s.Goes pages held t) :
    s.Goes pages held (s.ifAttached p t) := by
  unfold State.ifAttached
  split
  · exact h
  · exact .refl s

theorem State.Goes.finish (h : s.Goes true held t) : s.Goes true held (s.finish t) := h.trans (State.follows_finish s t).goes

/-! ### Events -/

/-- An event of a line, a timer or a debounce interval: the trackers move at a debounce expiry alone, and the blocks do the
rest. -/
theorem exec_goes_of_eventOnly {c : Instr} (hc : eventOnly c = true) (h : exec c s = .next t) :
    ∃ v, (s.withTrackers v).Goes true held t ∧
      ((∀ x, c ≠ .attachIntervalExpiry x ∧ c ≠ .detachIntervalExpiry x) → v = s.trackers) := by
  have still : s.Goes true held t → ∃ v, (s.withTrackers v).Goes true held t ∧
      ((∀ x, c ≠ .attachIntervalExpiry x ∧ c ≠ .detachIntervalExpiry x) → v = s.trackers) :=
    fun g => ⟨s.trackers, g, fun _ => rfl⟩
  have timed : ∀ p u, s.Goes true held u → s.Goes true held (s.portEvent p u) :=
    fun p u g => g.trans (State.goes_portEvent s p u)
  cases c with
  | attachIntervalExpiry x =>
    cases h
    unfold State.attachExpires
    split
    · refine ⟨s.trackers.set x ⟨.attached, none, none⟩, ?_, fun no => absurd rfl (no x).1⟩
      cases x with
      | line p =>
        exact ((State.served_setLine _ p Line.cleared).follows.trans (State.follows_portAttach _ p)).goes.trans
          (State.goes_portEvent s p _)
      | barrel => exact (State.follows_barrelAttach _).goes.trans (State.goes_settles s _)
    · exact ⟨s.trackers, .refl s, fun _ => rfl⟩
  | detachIntervalExpiry x =>
    cases h
    unfold State.detachExpires
    split
    · refine ⟨s.trackers.set x Tracker.cleared, ?_, fun no => absurd rfl (no x).2⟩
      refine State.Goes.trans ?_ (State.goes_settles s _)
      cases x with
      | line p => exact ((State.follows_clearDroop _ _).trans (State.follows_portDetach _ p)).goes
      | barrel => exact ((State.follows_clearDroop _ _).trans (State.follows_barrelDetach _)).goes
    · exact ⟨s.trackers, .refl s, fun _ => rfl⟩
  | hailPulse p time =>
    cases h
    exact still (State.goes_ifAttached s p (State.follows_takePulse s p time).goes).finish
  | hailWithdrawn p =>
    cases h
    exact still (State.goes_ifAttached s p (State.served_withdrawHail s p).follows.goes).finish
  | heedEnd p =>
    cases h
    exact still (State.served_endHeed s p).follows.goes.finish
  | heedWaitExpiry p =>
    cases h
    exact still (State.served_endHeedWait s p).follows.goes.finish
  | startDelimiter p =>
    cases h
    exact still (State.goes_ifAttached s p (State.follows_takeStart s p).goes).finish
  | dataSymbol p v =>
    cases h
    exact still (State.goes_ifAttached s p (State.follows_takeData s p v).goes).finish
  | lineError p =>
    cases h
    exact still (State.goes_ifAttached s p (State.follows_takeError s p).goes).finish
  | lineSilence p =>
    cases h
    exact still (State.goes_ifAttached s p (State.follows_takeSilence s p).goes).finish
  | straySilence p =>
    cases h
    exact still (State.goes_ifAttached s p (State.follows_takeStraySilence s p).goes).finish
  | endDelimiter p =>
    cases h
    exact still (State.goes_ifAttached s p (State.goes_takeEnd s p))
  | frameTransmitted p =>
    cases h
    exact still (State.goes_endSending s p)
  | tenderWaitExpiry p =>
    cases h
    refine still ?_
    split
    · exact timed p _ (State.goes_tenderTimeout s p)
    · exact .refl s
  | claimWaitExpiry p =>
    cases h
    refine still ?_
    split
    · exact timed p _ (State.goes_claimTimeout s p)
    · exact .refl s
  | settleWaitExpiry p =>
    cases h
    refine still ?_
    split
    · exact timed p _ (State.follows_enterFaulted s p _).goes
    · exact .refl s
  | lapseExpiry p =>
    cases h
    refine still ?_
    split
    · exact timed p _ (State.follows_lapse s p).goes
    · exact .refl s
  | softStartExpiry =>
    cases h
    refine still ?_
    unfold State.softStartExpires
    split
    · exact (State.goes_softStartEnds s _).trans (State.goes_settles s _)
    · exact .refl s
  | breakExpiry =>
    cases h
    refine still ?_
    unfold State.breakExpires
    split
    · exact (State.goes_breakEnds s).trans (State.goes_settles s _)
    · exact .refl s
  | _ => cases hc

/-! ### The requests to a line port, D or the Path Controller -/

theorem State.goes_reqRefresh (s : State) {k : Fin 8} (b : Byte) (hk : held k) : s.Goes true held (s.reqRefresh k b) := by
  unfold State.reqRefresh State.reqRefreshPort State.reqRefreshBarrel
  split <;> split
  · exact (State.follows_portRefresh s _ hk).goes.trans (State.goes_portEvent s _ _)
  · exact (State.follows_complete s _ _ fun _ => hk).goes
  · exact (State.follows_barrelRefresh s hk).goes.trans (State.goes_settles s _)
  · exact (State.follows_complete s _ _ fun _ => hk).goes

theorem State.goes_reqPin (s : State) {k : Fin 8} (r : Request) (hk : held k) : s.Goes true held (s.reqPin k r) := by
  have refused : ∀ code data, s.Goes true held (s.complete k code data) :=
    fun code data => (State.follows_complete s _ _ fun _ => hk).goes
  unfold State.reqPin
  split
  · unfold State.reqPinPort
    split
    · exact refused _ _
    · split
      · exact refused _ _
      · split
        · exact refused _ _
        · split
          · exact refused _ _
          · exact (State.goes_portPin s _ _ hk).trans (State.goes_portEvent s _ _)
  · exact .refl s

theorem State.goes_reqUnpin (s : State) {k : Fin 8} (b : Byte) (hk : held k) : s.Goes true held (s.reqUnpin k b) := by
  unfold State.reqUnpin
  split
  · unfold State.reqUnpinPort
    split
    · exact (State.follows_complete s _ _ fun _ => hk).goes
    · split
      · exact (State.goes_portUnpin s _ hk).trans (State.goes_portEvent s _ _)
      · exact (State.follows_complete s _ _ fun _ => hk).goes
  · exact .refl s

theorem State.goes_reqHold (s : State) {k : Fin 8} (b : Byte) (hk : held k) : s.Goes true held (s.reqHold k b) := by
  unfold State.reqHold
  split
  · unfold State.reqHoldPort
    split
    · exact ((State.follows_setPort_kept s _ _ (by rfl)).trans (State.follows_complete _ _ _ fun _ => hk)).goes.trans
        (State.goes_portEvent s _ _)
    · exact (State.follows_complete s _ _ fun _ => hk).goes
  · exact .refl s

theorem State.goes_reqResume (s : State) {k : Fin 8} (b : Byte) (hk : held k) : s.Goes true held (s.reqResume k b) := by
  unfold State.reqResume
  split
  · unfold State.reqResumePort
    split
    · exact (State.follows_complete s _ _ fun _ => hk).goes
    · split
      · exact (((State.follows_setPort_kept s _ _ (by rfl)).trans (State.follows_complete _ _ _ fun _ => hk)).goes.trans
          (State.goes_callSelection _ _)).trans (State.goes_portEvent s _ _)
      · exact (State.follows_complete s _ _ fun _ => hk).goes
  · exact .refl s

theorem State.goes_reqRelease (s : State) {k : Fin 8} (b : Byte) (hk : held k) : s.Goes true held (s.reqRelease k b) := by
  unfold State.reqRelease
  split
  · unfold State.reqReleasePort
    split
    · exact (State.follows_complete s _ _ fun _ => hk).goes
    · split
      · exact ((State.follows_setPort_kept s _ _ (by rfl)).trans (State.follows_complete _ _ _ fun _ => hk)).goes.trans
          (State.goes_portEvent s _ _)
      · exact (State.follows_portRelease s _ hk).goes.trans (State.goes_portEvent s _ _)
  · unfold State.reqReleaseBarrel
    split
    · exact (State.follows_barrelRelease s hk).goes.trans (State.goes_settles s _)
    · exact (State.follows_complete s _ _ fun _ => hk).goes

/-- PRIMARY sets the pin, and the Path Controller does the rest (R118). -/
theorem State.goes_takePrimary (s : State) {k : Fin 8} (x : Option Connector) (hk : held k) :
    ∃ pin, (s.withPath { s.path with pin := pin }).Goes true held (s.takePrimary k x) := by
  cases x with
  | none => exact ⟨none, (State.follows_complete _ _ _ fun _ => hk).goes⟩
  | some x =>
    simp only [State.takePrimary]
    split
    · exact ⟨s.path.pin, (State.follows_complete s _ _ fun _ => hk).goes⟩
    · split
      · exact ⟨some x, (State.follows_complete _ _ _ fun _ => hk).goes⟩
      · refine ⟨some x, (State.follows_withPath _ { s.path with pin := some x, inFlight := some ⟨x, k⟩ } rfl ?_).goes⟩
        intro q hq
        cases hq
        exact .inr hk

theorem State.goes_reqPrimary (s : State) {k : Fin 8} (b : Byte) (hk : held k) :
    ∃ pin, (s.withPath { s.path with pin := pin }).Goes true held (s.reqPrimary k b) := by
  obtain ⟨pin, g⟩ := State.goes_takePrimary s (connectorOf b.toNat) hk
  exact ⟨pin, (g.trans (State.goes_evaluate _)).trans (State.goes_settles s _)⟩

/-- The kinds of requests that reach a line port, D or the Path Controller. -/
def RequestKind.routed : RequestKind → Bool
  | .adopt => false
  | .regulate => false
  | .telemetry => false
  | .abort => false
  | _ => true

theorem State.goes_dispatch (s : State) {k : Fin 8} (r : Request) {kind : RequestKind} (routed : kind.routed = true)
    (hk : held k) : ∃ pin, (s.withPath { s.path with pin := pin }).Goes true held (s.dispatch k r kind) := by
  cases kind with
  | refresh => exact ⟨s.path.pin, State.goes_reqRefresh s _ hk⟩
  | pin => exact ⟨s.path.pin, State.goes_reqPin s _ hk⟩
  | unpin => exact ⟨s.path.pin, State.goes_reqUnpin s _ hk⟩
  | hold => exact ⟨s.path.pin, State.goes_reqHold s _ hk⟩
  | resume => exact ⟨s.path.pin, State.goes_reqResume s _ hk⟩
  | release => exact ⟨s.path.pin, State.goes_reqRelease s _ hk⟩
  | primary => exact State.goes_reqPrimary s _ hk
  | adopt => cases routed
  | regulate => cases routed
  | telemetry => cases routed
  | abort => cases routed

/-! ### What every command keeps of the Exchange Unit -/

/-- The canonical form of memory, the bound of the journal, the parity of the revision words, the host's own bytes, and the
commands that wait are kept. -/
structure State.Keeps (s t : State) : Prop where
  wf : s.memoryOk → t.memoryOk
  journal : s.journalOk → t.journalOk
  parity : ∀ x, (t.exch.pageRev.get x).getLsbD 0 = (s.exch.pageRev.get x).getLsbD 0
  scratch : ∀ a, 0x64 ≤ a ∧ a < 0x80 ∨ 0x610 ≤ a → readByte t.exch.mem a = readByte s.exch.mem a
  pending : t.pending = s.pending

theorem State.Keeps.of_exch_eq (exch : t.exch = s.exch) (pending : t.pending = s.pending) :
    s.Keeps t := by
  refine ⟨fun h => ?_, fun h => ?_, fun x => by rw [exch], fun a _ => by rw [exch], pending⟩
  · rwa [State.memoryOk, exch]
  · rwa [State.journalOk, exch]

theorem State.Keeps.refl (s : State) : s.Keeps s := .of_exch_eq (by rfl) (by rfl)

theorem State.Keeps.trans (h : s.Keeps t) (k : t.Keeps u) : s.Keeps u :=
  ⟨fun w => k.wf (h.wf w), fun w => k.journal (h.journal w), fun x => (k.parity x).trans (h.parity x),
    fun a ha => (k.scratch a ha).trans (h.scratch a ha), k.pending.trans h.pending⟩

theorem State.Goes.keeps (h : s.Goes pages (fun _ => True) t) : s.Keeps t := by
  obtain ⟨l, follows⟩ := h
  have logs := follows.logs s.heldIn_all
  exact ⟨logs.wf, logs.journalOk, logs.parity, fun a ha => logs.readByte_outside (by omega),
    State.pending_of_fixed follows.fixed⟩

/-- A write to bytes that are not the host's own, the counts and revision words standing. -/
theorem State.Keeps.of_write {mem : List Host.Cell} (wf : s.memoryOk → Memory.wf mem = true)
    (bytes : ∀ a, 0x64 ≤ a ∧ a < 0x80 ∨ 0x610 ≤ a → readByte mem a = readByte s.exch.mem a) (exch : t.exch.mem = mem)
    (counts : t.exch.written = s.exch.written ∧ t.exch.released = s.exch.released ∧ t.exch.pageRev = s.exch.pageRev ∧
      t.pending = s.pending) : s.Keeps t where
  wf h := by rw [State.memoryOk, exch]; exact wf h
  journal h := by
    have : t.exch.unconsumed = s.exch.unconsumed := by
      rw [Exchange.unconsumed, counts.1, counts.2.1]; rfl
    rwa [State.journalOk, this]
  parity x := by rw [counts.2.2.1]
  scratch a ha := by rw [exch]; exact bytes a ha
  pending := counts.2.2.2

theorem State.keeps_finish (s t : State) : t.Keeps (s.finish t) := (State.follows_finish s t).goes.keeps

theorem State.keeps_settles (s t : State) : t.Keeps (s.settles t) := (State.goes_settles s t).keeps

theorem State.keeps_settlesWithin (s t : State) : t.Keeps (s.settlesWithin t) := (State.goes_settlesWithin s t).keeps

theorem State.keeps_complete (s : State) (k : Fin 8) (c : ResultCode) (d : List Byte) : s.Keeps (s.complete k c d) :=
  (State.follows_complete (pages := true) s c d fun _ => trivial).goes.keeps

theorem State.keeps_journal (s : State) (k b : Byte) (d : List Byte) : s.Keeps (s.journal k b d) :=
  (State.follows_journal (pages := true) s k b d).goes.keeps

/-! ### Presence -/

theorem State.keeps_ownerSettling (s : State) (x : Connector) (start : Bool) : s.Keeps (s.ownerSettling x start) := by
  cases x <;> exact .of_exch_eq (by rfl) (by rfl)

theorem State.keeps_startSettling (s : State) (x : Connector) : s.Keeps (s.startSettling x) :=
  State.Keeps.trans (t := s.setTracker x ⟨.settling, some s.policy.attachMs, none⟩) (.of_exch_eq (by rfl) (by rfl))
    (State.keeps_ownerSettling _ x true)

theorem State.keeps_abandonSettling (s : State) (x : Connector) : s.Keeps (s.abandonSettling x) :=
  State.Keeps.trans (t := s.setTracker x Tracker.cleared) (.of_exch_eq (by rfl) (by rfl)) (State.keeps_ownerSettling _ x false)

theorem State.keeps_assertPresence (s : State) (x : Connector) : s.Keeps (s.assertPresence x) := by
  have set : s.Keeps (s.setPresence x true) := .of_exch_eq (by rfl) (by rfl)
  unfold State.assertPresence
  dsimp only
  split
  · split
    · exact set.trans (State.keeps_startSettling _ x)
    · exact set
    · exact set.trans (.of_exch_eq (by rfl) (by rfl))
  · exact set

theorem State.keeps_removePresence (s : State) (x : Connector) : s.Keeps (s.removePresence x) := by
  have set : s.Keeps (s.setPresence x false) := .of_exch_eq (by rfl) (by rfl)
  unfold State.removePresence
  dsimp only
  split
  · split
    · exact set
    · exact set.trans (State.keeps_abandonSettling _ x)
    · split
      · exact set.trans (.of_exch_eq (by rfl) (by rfl))
      · exact set
  · exact set

theorem State.keeps_detached (s : State) (x : Connector) : s.Keeps (s.detached x) := by
  have cleared : s.Keeps ((s.setTracker x Tracker.cleared).clearDroop x) := .of_exch_eq (by rfl) (by rfl)
  refine cleared.trans ?_
  cases x with
  | line p => exact (State.follows_portDetach (pages := true) _ p).goes.keeps
  | barrel => exact (State.follows_barrelDetach (pages := true) _).goes.keeps

/-! ### Measurement -/

theorem State.keeps_enterResult (s : State) (c : Channel) (v : Nat) : s.Keeps (s.enterResult c v) := .of_exch_eq (by rfl) (by rfl)

theorem State.keeps_noteVD (s : State) (x : Connector) (v : Nat) : s.Keeps (s.noteVD x v) := by
  cases x <;> exact .of_exch_eq (by rfl) (by rfl)

theorem State.keeps_checkDroop (s : State) (x : Connector) (v : Nat) : s.Keeps (s.checkDroop x v) := by
  unfold State.checkDroop
  split
  · split
    · have journalled : s.Keeps ((s.clearDroop x).journal 0x15 (connectorByteOf x) (le2 v ++ le2 (s.droopThreshold x))) :=
        State.Keeps.trans (t := s.clearDroop x) (.of_exch_eq (by rfl) (by rfl)) (State.keeps_journal _ _ _ _)
      refine journalled.trans ?_
      cases x with
      | line p => exact ((State.goes_portDroop (pages := true) _ p).trans (State.goes_portEvent _ p _)).keeps
      | barrel => exact ((State.follows_barrelDroop (pages := true) _).goes.trans (State.goes_settles _ _)).keeps
    · exact .of_exch_eq (by rfl) (by rfl)
  · exact .of_exch_eq (by rfl) (by rfl)

theorem State.keeps_deferredCheck (s : State) (x : Connector) (v : Nat) : s.Keeps (s.deferredCheck x v) := by
  unfold State.deferredCheck
  split
  · exact ((State.goes_closeCheck (pages := true) s x v).trans (State.goes_settles s _)).keeps
  · exact .refl s

theorem State.keeps_deadChange (s : State) (dead : Bool) (v : Nat) : s.Keeps (s.deadChange dead v) :=
  State.Keeps.trans (t := s.withMeas { s.meas with dead := dead }) (.of_exch_eq (by rfl) (by rfl)) (State.keeps_journal _ _ _ _)

theorem State.keeps_setDead (s : State) (dead : Bool) (v : Nat) : s.Keeps (s.setDead dead v) := by
  unfold State.setDead
  split
  · exact .refl s
  · exact (State.keeps_deadChange s dead v).trans (State.keeps_settles s _)

theorem State.keeps_writeTelemetry (s : State) : s.Keeps s.writeTelemetry :=
  .of_write (mem := writePage s.exch.mem Config.telemetryBase (s.exch.telemetrySeq + 2) s.telemetryPage)
    (fun h => Memory.wf_writePage h (by rw [length_telemetryPage]; decide))
    (fun a ha => readByte_writePage_outside _ _ _ (length_telemetryPage s) (by rw [Config.telemetryBase]; omega)) rfl ⟨rfl, rfl, rfl, rfl⟩

theorem State.keeps_publish (s : State) : s.Keeps s.publish :=
  State.Keeps.trans (State.keeps_writeTelemetry s) (.of_write id (fun _ _ => rfl) rfl ⟨rfl, rfl, rfl, rfl⟩)

theorem State.keeps_foldl {α : Type} (f : State → α → State) (kept : ∀ (u : State) x, u.Keeps (f u x)) (l : List α) (s : State) :
    s.Keeps (l.foldl f s) := by
  induction l generalizing s with
  | nil => exact .refl s
  | cons x l ih => exact (kept s x).trans (ih _)

theorem State.keeps_publishSingle (s : State) : s.Keeps s.publishSingle := by
  unfold State.publishSingle
  dsimp only
  split
  · refine (State.keeps_publish s).trans (State.Keeps.trans (t := s.publish.withMeas
      { s.publish.meas with singlePending := false, singles := [] }) (.of_exch_eq (by rfl) (by rfl)) ?_)
    exact State.keeps_foldl _ (fun u k => State.keeps_complete u k _ _) _ _
  · exact .refl s

theorem State.keeps_deliverIin (s : State) (x : Connector) (v : Nat) : s.Keeps (s.deliverIin x v) := by
  unfold State.deliverIin
  dsimp only
  split
  · exact .of_exch_eq (by rfl) (by rfl)
  · split
    · exact State.Keeps.trans (t := s.withReg _) (.of_exch_eq (by rfl) (by rfl)) (State.keeps_journal _ _ _ _)
    · exact .of_exch_eq (by rfl) (by rfl)

end

end Sys2Proof.Machine
end

section
/-! What adoption, the requests, a restart and the host's transactions keep, and the statements about every command:
the Exchange Unit, the waiting commands, the frames. -/

namespace Sys2Proof.Machine

section
variable {pages : Bool} {held : Fin 8 → Prop} {s t u : State}

/-! ### Adoption -/

/-- Bytes written below the host's own, or between them. -/
theorem State.keeps_write (s : State) {a : Nat} {bs : List Byte}
    (h : a + bs.length ≤ 0x64 ∨ 0x80 ≤ a ∧ a + bs.length ≤ 0x610) : s.Keeps (s.withExch (s.exch.write a bs)) :=
  .of_write (fun w => Memory.wf_writeBlock w (by rw [Config.memBytes]; omega))
    (fun _ _ => readByte_writeBlock_outside _ _ _ _ (by omega)) rfl ⟨rfl, rfl, rfl, rfl⟩

theorem State.keeps_writeDraft (s : State) : s.Keeps s.writeDraft :=
  s.keeps_write (.inl (by rw [length_draftBytes, Config.draftBase]))

theorem State.keeps_install (s : State) (p : Proposal) : s.Keeps (s.install p) :=
  State.Keeps.trans (t := (s.withPolicy p.clamped).withOrigin .adopted) (.of_exch_eq (by rfl) (by rfl))
    ((State.keeps_writeDraft _).trans (State.keeps_journal _ _ _ _))

theorem State.keeps_enableChange (s : State) (old : Policy) (x : Connector) : s.Keeps (s.enableChange old x) := by
  unfold State.enableChange
  split
  · exact State.keeps_abandonSettling s x
  · exact (State.keeps_detached s x).trans (State.keeps_settlesWithin s _)
  · split
    · exact State.keeps_startSettling s x
    · exact .refl s
  · exact .refl s

theorem State.keeps_adoptMeasurement (s : State) : s.Keeps s.adoptMeasurement := by
  have cleared : s.Keeps (s.withMeas { s.meas with droop := ⟨0, 0, 0, 0⟩ }) := .of_exch_eq (by rfl) (by rfl)
  unfold State.adoptMeasurement
  dsimp only
  split
  · exact cleared.trans ((State.keeps_deadChange _ _ _).trans (State.keeps_settlesWithin _ _))
  · exact cleared

theorem State.keeps_adoptBarrel (s : State) : s.Keeps s.adoptBarrel := by
  unfold State.adoptBarrel
  split
  · exact .refl s
  · exact ((State.goes_barrelAdopt (pages := false) s).trans (State.goes_settlesWithin s _)).keeps

theorem State.goes_foldl {α : Type} (f : State → α → State) (kept : ∀ (u : State) x, u.Goes pages held (f u x)) (l : List α)
    (s : State) : s.Goes pages held (l.foldl f s) := by
  induction l generalizing s with
  | nil => exact .refl s
  | cons x l ih => exact (kept s x).trans (ih _)

theorem State.goes_adoptImages (s : State) : s.Goes pages held s.adoptImages :=
  (State.goes_foldl _ (fun u p => (State.follows_setPort_kept u p (rescore u.policy p (u.port p)) (by rfl)).goes) linePorts s).trans
    (State.goes_foldl _ State.goes_adoptPin linePorts _)

theorem State.goes_adoptSelector (s : State) : s.Goes false held s.adoptSelector :=
  (State.goes_adoptImages s).trans (State.goes_settlesWithin s _)

theorem State.goes_adoptCall (s : State) (p : LinePort) : s.Goes false held (s.adoptCall p) :=
  ((State.follows_setPort_kept s p { s.port p with barred := false } (by rfl)).goes.trans (State.goes_callSelection _ p)).trans
    (State.goes_portEventWithin s p _)

theorem State.goes_adoptNegotiation (s : State) : s.Goes false held s.adoptNegotiation :=
  State.goes_foldl _ State.goes_adoptCall linePorts s

theorem State.goes_adoptPath (s : State) : s.Goes false held s.adoptPath :=
  (State.goes_evaluate s).trans (State.goes_settlesWithin s _)

theorem State.keeps_adoptRegulator (s : State) : s.Keeps s.adoptRegulator := .of_exch_eq (by rfl) (by rfl)

theorem State.keeps_adoptEffects (s : State) (old : Policy) : s.Keeps (s.adoptEffects old) :=
  ((((State.keeps_foldl _ (fun u x => State.keeps_enableChange u old x) connectors s).trans
    (State.keeps_adoptMeasurement _)).trans (State.keeps_adoptBarrel _)).trans
      (((State.goes_adoptSelector _).trans (State.goes_adoptNegotiation _)).trans (State.goes_adoptPath _)).keeps).trans
    (State.keeps_adoptRegulator _)

theorem State.keeps_reqAdopt (s : State) (k : Fin 8) : s.Keeps (s.reqAdopt k) := by
  unfold State.reqAdopt
  dsimp only
  split
  · exact State.keeps_complete s k _ _
  · exact ((State.keeps_install s _).trans ((State.keeps_adoptEffects _ _).trans (State.keeps_complete _ k _ _))).trans
      (State.keeps_finish s _)

/-! ### The requests -/

theorem State.keeps_reqRegulate (s : State) (k : Fin 8) (mode target : Nat) : s.Keeps (s.reqRegulate k mode target) := by
  have set : ∀ r code data, s.Keeps ((s.withReg r).complete k code data) := fun r code data =>
    State.Keeps.trans (t := s.withReg r) (.of_exch_eq (by rfl) (by rfl)) (State.keeps_complete _ k code data)
  unfold State.reqRegulate
  split
  · exact set _ _ _
  · exact set _ _ _
  · exact set _ _ _
  · exact State.keeps_complete s k _ _

theorem State.keeps_reqTelemetry (s : State) (k : Fin 8) (mode period : Nat) : s.Keeps (s.reqTelemetry k mode period) := by
  have set : ∀ m code data, s.Keeps ((s.withMeas m).complete k code data) := fun m code data =>
    State.Keeps.trans (t := s.withMeas m) (.of_exch_eq (by rfl) (by rfl)) (State.keeps_complete _ k code data)
  unfold State.reqTelemetry
  split
  · exact set _ _ _
  · exact .of_exch_eq (by rfl) (by rfl)
  · exact set _ _ _
  · exact State.keeps_complete s k _ _

theorem State.keeps_reqAbort (s : State) (k : Fin 8) (target : Nat) : s.Keeps (s.reqAbort k target) := by
  unfold State.reqAbort
  split
  · dsimp only
    split
    · refine State.Keeps.trans (t := s.forget ⟨target, ‹_›⟩) (.of_exch_eq (by rfl) (by rfl)) ?_
      exact ((State.keeps_complete _ _ _ _).trans (State.keeps_complete _ _ _ _)).trans (State.keeps_finish s _)
    · exact State.keeps_complete s k _ _
  · exact State.keeps_complete s k _ _

theorem State.keeps_dispatch (s : State) (k : Fin 8) (r : Request) (kind : RequestKind) : s.Keeps (s.dispatch k r kind) := by
  cases routed : kind.routed with
  | true =>
    obtain ⟨pin, goes⟩ := State.goes_dispatch (held := fun _ => True) s r routed (trivial : _)
    exact State.Keeps.trans (t := s.withPath { s.path with pin := pin }) (.of_exch_eq (by rfl) (by rfl)) goes.keeps
  | false =>
    cases kind with
    | adopt => exact State.keeps_reqAdopt s k
    | regulate => exact State.keeps_reqRegulate s k _ _
    | telemetry => exact State.keeps_reqTelemetry s k _ _
    | abort => exact State.keeps_reqAbort s k _
    | _ => cases routed

theorem State.keeps_checkRequest (s : State) (k : Fin 8) (r : Request) : s.Keeps (s.checkRequest k r) := by
  unfold State.checkRequest
  split
  · exact State.keeps_complete s k _ _
  · split
    · exact State.keeps_complete s k _ _
    · split
      · exact State.keeps_complete s k _ _
      · exact State.keeps_dispatch s k r _

/-- A slot's copy, mark and request are changed alone. -/
theorem State.keeps_setSlot (s : State) (k : Fin 8) (v : Slot) : s.Keeps (s.withExch (s.exch.setSlot k v)) :=
  .of_write id (fun _ _ => rfl) rfl ⟨rfl, rfl, rfl, rfl⟩

/-- A state byte is written. -/
theorem State.keeps_writeState (s : State) (k : Fin 8) (b : Byte) :
    s.Keeps (s.withExch (s.exch.write (slotAddress k) [b])) := by
  have := slotAddress_bounds k
  exact s.keeps_write (.inr (by simp only [List.length_cons, List.length_nil]; omega))

theorem State.keeps_takeRequest (s : State) (k : Fin 8) : s.Keeps (s.takeRequest k) :=
  (s.keeps_setSlot k _).trans ((State.keeps_writeState (s.withExch (s.exch.setSlot k _)) k _).trans
    (State.keeps_checkRequest _ k _))

theorem State.keeps_examine (s : State) (k : Fin 8) : s.Keeps (s.examine k) := by
  have cleared : s.Keeps (s.withExch (s.exch.clearMark k)) := s.keeps_setSlot k _
  refine cleared.trans ?_
  unfold State.examine
  generalize s.withExch (s.exch.clearMark k) = v
  cases examined (s.exch.slot k).copy (readByte s.exch.mem (slotAddress k)) with
  | nothing => exact .refl v
  | take => exact State.keeps_takeRequest v k
  | giveBack => exact v.keeps_setSlot k _
  | misuse => exact (v.keeps_writeState k _).trans (.of_write id (fun _ _ => rfl) rfl ⟨rfl, rfl, rfl, rfl⟩)

theorem State.keeps_readerStep (s : State) : s.Keeps s.readerStep := by
  unfold State.readerStep
  split
  · exact State.keeps_examine s _
  · exact .refl s

theorem length_postedBytes (q : Posting) (kind : Byte) (args : List Byte) : (postedBytes q kind args).length = 16 := by
  simp [postedBytes]

theorem State.keeps_request (s : State) (q : Posting) (kind : Byte) (args : List Byte) : s.Keeps (s.request q kind args) := by
  have posted : s.Keeps (s.withExch (s.exch.post q kind args)) := by
    have := slotAddress_bounds q.slot
    refine (s.keeps_write (a := slotAddress q.slot) (bs := postedBytes q kind args) (.inr ?_)).trans
      (State.keeps_setSlot (s.withExch (s.exch.write _ _)) q.slot _)
    rw [length_postedBytes]
    omega
  refine posted.trans (State.keeps_foldl _ (fun u k => ?_) _ _)
  split
  · exact State.keeps_examine u k
  · exact .refl u

/-! ### The host's transactions -/

theorem State.keeps_restart (s : State) : s.Keeps s.restart := by
  have freed : s.Keeps (s.withExch s.exch.freeSlots) := by
    have each : ∀ (l : List (Fin 8)) (x : Exchange), (s.withExch x).Keeps (s.withExch (l.foldl (fun y k =>
        (y.setSlot k { y.slot k with copy := .free, mark := false }).write (slotAddress k) [SlotCopy.free.code]) x)) := by
      intro l
      induction l with
      | nil => exact fun x => .refl _
      | cons k l ih =>
        exact fun x => (((s.withExch x).keeps_setSlot k _).trans (State.keeps_writeState (s.withExch _) k _)).trans (ih _)
    exact each slotIds s.exch
  have counts : (s.withExch s.exch.freeSlots).Keeps (s.withExch s.exch.restart) :=
    ((s.withExch s.exch.freeSlots).keeps_write (a := Config.writeNumberAt) (bs := List.replicate 6 0) (by decide)).trans
      ⟨id, fun _ => (by decide : ((0 : Half) - 0).toNat ≤ 32), fun _ => rfl, fun _ _ => rfl, rfl⟩
  have blocks : s.Keeps s.restartBlocks :=
    (freed.trans counts).trans (.of_exch_eq (by simp [State.restartBlocks]) (by simp [State.restartBlocks]))
  have calls : ∀ u : State, u.Keeps (linePorts.foldl s.restartCall u) := fun u => by
    refine State.keeps_foldl _ (fun v p => ?_) linePorts u
    unfold State.restartCall
    split
    · exact ((State.goes_callSelection (pages := false) v p).trans (State.goes_portEventWithin v p _)).keeps
    · exact .refl v
  have rewritten : ∀ u : State, u.Keeps (connectors.foldl (fun v x => v.rewritePage x) u) :=
    State.keeps_foldl _ (fun v x => (State.follows_rewritePage v x).goes.keeps) connectors
  exact ((((blocks.trans ((State.goes_evaluate (pages := false) _).trans (State.goes_settlesWithin s _)).keeps).trans
    (calls _)).trans (State.keeps_writeDraft _)).trans (rewritten _)).trans (State.keeps_writeTelemetry _)

theorem State.keeps_writeRegister (s : State) (reg : Byte) (value : Word) : s.Keeps (s.writeRegister reg value) := by
  unfold State.writeRegister
  split
  · exact .of_write id (fun _ _ => rfl) rfl ⟨rfl, rfl, rfl, rfl⟩
  · exact .of_write id (fun _ _ => rfl) rfl ⟨rfl, rfl, rfl, rfl⟩
  · split
    · exact State.keeps_restart s
    · exact .refl s
  · exact .refl s

theorem State.keeps_regWrite (s : State) (reg : Byte) (value : Word) : s.Keeps (s.transact (regWriteBytes reg value)) := by
  rw [State.transact_regWrite]
  exact State.keeps_writeRegister s reg value

/-- Every command but POWER_ON and MEM_WRITE keeps the Exchange Unit sound and the host's own bytes. -/
theorem exec_keeps {c : Instr} (power : ∀ a b d e, c ≠ .powerOn a b d e) (write : ∀ x y, c ≠ .memWrite x y)
    (h : exec c s = .next t) : s.Keeps t := by
  cases event : eventOnly c with
  | true =>
    obtain ⟨v, goes, -⟩ := exec_goes_of_eventOnly event h
    exact State.Keeps.trans (t := s.withTrackers v) (.of_exch_eq (by rfl) (by rfl)) goes.keeps
  | false =>
    cases c with
    | powerOn a b d e => exact absurd rfl (power a b d e)
    | presenceAsserted x =>
      cases h
      exact (State.keeps_assertPresence s x).trans (State.keeps_finish s _)
    | presenceRemoved x =>
      cases h
      exact (State.keeps_removePresence s x).trans (State.keeps_finish s _)
    | coreSequenceStart =>
      cases h
      exact .of_exch_eq (by rfl) (by rfl)
    | iinCompletion r =>
      cases h
      have entered := s.keeps_enterResult .iin (Channel.iin.result r)
      refine entered.trans ?_
      split
      · exact State.keeps_deliverIin _ _ _
      · exact .refl _
    | voltageCompletion x r =>
      cases h
      exact (((s.keeps_enterResult _ _).trans (State.keeps_noteVD _ _ _)).trans (State.keeps_checkDroop _ _ _)).trans
        (State.keeps_deferredCheck _ _ _)
    | vbatCompletion r =>
      cases h
      exact (s.keeps_enterResult .vbat _).trans (State.keeps_setDead _ _ _)
    | vsysCompletion r =>
      cases h
      exact s.keeps_enterResult .vsys _
    | iddCompletion r =>
      cases h
      refine (s.keeps_enterResult .idd (Channel.idd.result r)).trans (State.Keeps.trans ?_ (State.keeps_publishSingle _))
      split
      · exact ((State.goes_barrelSample (pages := true) _ _).trans (State.goes_settles _ _)).keeps
      · exact .refl _
    | periodTimerExpiry =>
      cases h
      split
      · exact (State.keeps_publish s).trans (.of_exch_eq (by rfl) (by rfl))
      · exact .refl s
    | memRead addr n =>
      cases h
      rw [State.transact_memRead]
      exact .of_write id (fun _ _ => rfl) rfl ⟨rfl, rfl, rfl, rfl⟩
    | memWrite addr data => exact absurd rfl (write addr data)
    | attnWrite v =>
      cases h
      exact s.keeps_regWrite 2 v
    | attnMaskWrite v =>
      cases h
      exact s.keeps_regWrite 3 v
    | restart =>
      cases h
      exact s.keeps_regWrite 4 1
    | registerWriteIgnored reg v =>
      cases h
      exact s.keeps_regWrite reg v
    | slotExamination =>
      cases h
      exact State.keeps_readerStep s
    | adopt q => cases h; exact State.keeps_request s q _ _
    | refresh q => cases h; exact State.keeps_request s q _ _
    | pin q level volts limit => cases h; exact State.keeps_request s q _ _
    | unpin q => cases h; exact State.keeps_request s q _ _
    | hold q => cases h; exact State.keeps_request s q _ _
    | resume q => cases h; exact State.keeps_request s q _ _
    | release q => cases h; exact State.keeps_request s q _ _
    | primary q => cases h; exact State.keeps_request s q _ _
    | regulate q mode target => cases h; exact State.keeps_request s q _ _
    | telemetry q mode period => cases h; exact State.keeps_request s q _ _
    | abort q target => cases h; exact State.keeps_request s q _ _
    | _ => cases event

/-! ### MEM_WRITE and POWER_ON -/

/-- A release leaves no more records unconsumed than before, but for a GAP where there is room (R188, R189). -/
theorem Exchange.unconsumed_release {x : Exchange} {time : Word} (h : x.unconsumed ≤ 32) :
    (x.release time).unconsumed ≤ 32 := by
  rcases x.release_cases time rfl with ⟨-, e⟩ | ⟨named, -, e⟩ | ⟨named, room, e⟩ <;> rw [e]
  · exact h
  · simp only [Exchange.unconsumed] at named h ⊢
    bv_omega
  · obtain ⟨-, room⟩ := room
    simp only [Exchange.unconsumed] at h ⊢
    bv_omega

theorem Exchange.mem_markStored (x : Exchange) (addr : Half) (count : Nat) : (x.markStored addr count).mem = x.mem := by
  rw [Exchange.markStored_rest]

/-- A MEM_WRITE keeps the canonical form, the bound of the journal and the revision words. -/
theorem Exchange.memWrite_sound (x : Exchange) (addr : Half) (data : List Byte) (time : Word) :
    (Memory.wf x.mem = true → Memory.wf (x.memWrite addr data time).mem = true) ∧
      (x.unconsumed ≤ 32 → (x.memWrite addr data time).unconsumed ≤ 32) ∧
      (x.memWrite addr data time).pageRev = x.pageRev := by
  obtain ⟨slots, marked⟩ : ∃ slots, Exchange.markStored { x with mem := storeBytes x.mem addr 0 data } addr data.length =
      { x with mem := storeBytes x.mem addr 0 data, slots := slots } := ⟨_, Exchange.markStored_rest _ addr data.length⟩
  unfold Exchange.memWrite
  dsimp only
  rw [marked]
  unfold Exchange.releaseStored
  split
  · refine ⟨fun h => Memory.wf_release (Memory.wf_storeBytes addr 0 data h),
      fun h => Exchange.unconsumed_release (x := { x with mem := _, slots := slots }) h, ?_⟩
    rw [Exchange.release_rest]
  · exact ⟨fun h => Memory.wf_storeBytes addr 0 data h, id, rfl⟩

theorem exec_memWrite_sound {addr : Half} {data : List Byte} (h : exec (.memWrite addr data) s = .next t) :
    (s.memoryOk → t.memoryOk) ∧ (s.journalOk → t.journalOk) ∧ t.exch.pageRev = s.exch.pageRev ∧ t.pending = s.pending := by
  rw [(exec_spi s).2.1 addr data] at h
  cases h
  obtain ⟨wf, journal, rev⟩ := s.exch.memWrite_sound addr data s.time
  exact ⟨wf, journal, rev, rfl⟩

theorem exec_powerOn_keeps {a b c d : Bool} (h : exec (.powerOn a b c d) s = .next t) :
    (State.reset.withPending s.pending).Keeps t := by
  cases h
  exact (State.keeps_foldl _ State.keeps_assertPresence _ _).trans (State.keeps_finish _ _)

/-- The three facts that hold of every command (R187, R179; log entry 1). -/
theorem exec_sound (c : Instr) (h : exec c s = .next t) :
    (s.memoryOk → t.memoryOk) ∧ (s.journalOk → t.journalOk) ∧ t.pending = s.pending := by
  by_cases power : ∃ a b d e, c = .powerOn a b d e
  · obtain ⟨a, b, d, e, rfl⟩ := power
    have keeps := exec_powerOn_keeps h
    exact ⟨fun _ => keeps.wf Memory.wf_reset, fun _ => keeps.journal (by decide : ((0 : Half) - 0).toNat ≤ 32), keeps.pending⟩
  · by_cases write : ∃ x y, c = .memWrite x y
    · obtain ⟨x, y, rfl⟩ := write
      obtain ⟨wf, journal, -, pending⟩ := exec_memWrite_sound h
      exact ⟨wf, journal, pending⟩
    · have keeps := exec_keeps (fun a b d e hc => power ⟨a, b, d, e, hc⟩) (fun x y hc => write ⟨x, y, hc⟩) h
      exact ⟨keeps.wf, keeps.journal, keeps.pending⟩

/-- A step idles, or runs a command. -/
theorem step_cases (h : step s = .next t) : t = s ∨ ∃ c rest, exec c (s.withPending rest) = .next t := by
  unfold step at h
  split at h
  · cases h
    exact .inl rfl
  · exact .inr ⟨_, _, h⟩

end

/-- Settles O5: every operation of the blocks submits records and writes pages and slots in the same few ways. -/
theorem stepKeepsExchangeUnit : Obligations.StepKeepsExchangeUnit := by
  unfold Obligations.StepKeepsExchangeUnit
  intro s t h
  rcases step_cases h with rfl | ⟨c, rest, h⟩
  · exact ⟨id, id⟩
  · obtain ⟨wf, journal, -⟩ := exec_sound c h
    exact ⟨wf, journal⟩

/-- Settles O2: no operation writes the queue of commands. -/
theorem commandsLeaveQueue : Obligations.CommandsLeaveQueue := by
  unfold Obligations.CommandsLeaveQueue
  intro c s t h
  obtain ⟨-, -, pending⟩ := exec_sound c h
  exact pending

/-- Settles O1. -/
theorem stepRunsFrontCommand : Obligations.StepRunsFrontCommand := by
  unfold Obligations.StepRunsFrontCommand
  refine ⟨fun s c rest h => ?_, fun s h => ?_⟩ <;> rw [step, h]

/-! ### The frames of the policy, the scratch area and the settings -/

section
variable {s t u : State}

/-- The live policy and its origin are kept. -/
def State.policyKept (s t : State) : Prop := t.policy = s.policy ∧ t.origin = s.origin

theorem State.policyKept.trans (h : s.policyKept t) (k : t.policyKept u) : s.policyKept u :=
  ⟨k.1.trans h.1, k.2.trans h.2⟩

theorem State.Goes.policyKept {pages : Bool} {held : Fin 8 → Prop} (h : s.Goes pages held t) : s.policyKept t := by
  obtain ⟨l, follows⟩ := h
  exact ⟨State.policy_of_fixed follows.fixed, State.origin_of_fixed follows.fixed⟩

theorem State.policyKept_foldl {α : Type} (f : State → α → State) (kept : ∀ (u : State) x, u.policyKept (f u x)) (l : List α)
    (s : State) : s.policyKept (l.foldl f s) := by
  induction l generalizing s with
  | nil => exact ⟨rfl, rfl⟩
  | cons x l ih => exact (kept s x).trans (ih _)

theorem State.policyKept_restart (s : State) : s.policyKept s.restart := by
  have calls : ∀ u : State, u.policyKept (linePorts.foldl s.restartCall u) := fun u => by
    refine State.policyKept_foldl _ (fun v p => ?_) linePorts u
    unfold State.restartCall
    split
    · exact ((State.goes_callSelection (pages := false) (held := fun _ => True) v p).trans
        (State.goes_portEventWithin v p _)).policyKept
    · exact ⟨rfl, rfl⟩
  have rewritten : ∀ u : State, u.policyKept (connectors.foldl (fun v x => v.rewritePage x) u) :=
    State.policyKept_foldl _ (fun _ _ => ⟨rfl, rfl⟩) connectors
  have evaluated : s.policyKept (s.settlesWithin s.restartBlocks.evaluate) :=
    State.policyKept.trans (t := s.restartBlocks) ⟨by simp [State.restartBlocks], by simp [State.restartBlocks]⟩
      ((State.goes_evaluate (pages := false) (held := fun _ => True) _).trans (State.goes_settlesWithin s _)).policyKept
  have drafted : ∀ u : State, u.policyKept u.writeDraft := fun _ => ⟨rfl, rfl⟩
  have published : ∀ u : State, u.policyKept u.writeTelemetry := fun _ => ⟨rfl, rfl⟩
  exact (((evaluated.trans (calls _)).trans (drafted _)).trans (rewritten _)).trans (published _)

theorem State.policyKept_regWrite (s : State) (reg : Byte) (value : Word) :
    s.policyKept (s.transact (regWriteBytes reg value)) := by
  rw [State.transact_regWrite]
  unfold State.writeRegister
  split
  · exact ⟨rfl, rfl⟩
  · exact ⟨rfl, rfl⟩
  · split
    · exact State.policyKept_restart s
    · exact ⟨rfl, rfl⟩
  · exact ⟨rfl, rfl⟩

theorem State.policyKept_assertPresence (s : State) (x : Connector) : s.policyKept (s.assertPresence x) := by
  unfold State.assertPresence State.startSettling
  dsimp only
  split
  · split
    · cases x <;> exact ⟨rfl, rfl⟩
    · exact ⟨rfl, rfl⟩
    · exact ⟨rfl, rfl⟩
  · exact ⟨rfl, rfl⟩

theorem State.policyKept_removePresence (s : State) (x : Connector) : s.policyKept (s.removePresence x) := by
  unfold State.removePresence State.abandonSettling
  dsimp only
  split
  · split
    · exact ⟨rfl, rfl⟩
    · cases x <;> exact ⟨rfl, rfl⟩
    · split <;> exact ⟨rfl, rfl⟩
  · exact ⟨rfl, rfl⟩

theorem State.policyKept_enterResult (s : State) (c : Channel) (v : Nat) : s.policyKept (s.enterResult c v) := ⟨rfl, rfl⟩

theorem State.policyKept_noteVD (s : State) (x : Connector) (v : Nat) : s.policyKept (s.noteVD x v) := by
  cases x <;> exact ⟨rfl, rfl⟩

theorem State.policyKept_withMeas (s : State) (m : Measurement) : s.policyKept (s.withMeas m) := ⟨rfl, rfl⟩

theorem State.policyKept_publish (s : State) : s.policyKept s.publish := ⟨rfl, rfl⟩

theorem State.policyKept_publishSingle (s : State) : s.policyKept s.publishSingle := by
  unfold State.publishSingle
  dsimp only
  split
  · have completed : ∀ (u : State) k, u.policyKept (u.complete k .ok u.meas.data) := fun _ _ => ⟨rfl, rfl⟩
    exact ((State.policyKept_publish s).trans (State.policyKept_withMeas _ _)).trans (State.policyKept_foldl _ completed _ _)
  · exact ⟨rfl, rfl⟩

theorem State.policyKept_checkDroop (s : State) (x : Connector) (v : Nat) : s.policyKept (s.checkDroop x v) := by
  unfold State.checkDroop
  split
  · split
    · refine State.policyKept.trans (t := (s.clearDroop x).journal 0x15 (connectorByteOf x)
        (le2 v ++ le2 (s.droopThreshold x))) ⟨rfl, rfl⟩ ?_
      cases x with
      | line p =>
        exact ((State.goes_portDroop (pages := true) (held := fun _ => True) _ p).trans
          (State.goes_portEvent _ p _)).policyKept
      | barrel =>
        exact ((State.follows_barrelDroop (pages := true) (held := fun _ => True) _).goes.trans
          (State.goes_settles _ _)).policyKept
    · exact ⟨rfl, rfl⟩
  · exact ⟨rfl, rfl⟩

theorem State.policyKept_deferredCheck (s : State) (x : Connector) (v : Nat) : s.policyKept (s.deferredCheck x v) := by
  unfold State.deferredCheck
  split
  · exact ((State.goes_closeCheck (pages := true) (held := fun _ => True) s x v).trans
      (State.goes_settles s _)).policyKept
  · exact ⟨rfl, rfl⟩

theorem State.policyKept_setDead (s : State) (dead : Bool) (v : Nat) : s.policyKept (s.setDead dead v) := by
  unfold State.setDead
  split
  · exact ⟨rfl, rfl⟩
  · exact State.policyKept.trans (t := s.deadChange dead v) ⟨rfl, rfl⟩
      (State.goes_settles (held := fun _ => True) s _).policyKept

theorem State.policyKept_deliverIin (s : State) (x : Connector) (v : Nat) : s.policyKept (s.deliverIin x v) := by
  unfold State.deliverIin
  dsimp only
  split
  · exact ⟨rfl, rfl⟩
  · split <;> exact ⟨rfl, rfl⟩

/-- Only the slot reader and POWER_ON reach the policy (R164, R170, R175). -/
theorem exec_policyKept {c : Instr} (power : ∀ a b d e, c ≠ .powerOn a b d e) (still : examines c = false)
    (h : exec c s = .next t) : s.policyKept t := by
  cases event : eventOnly c with
  | true =>
    obtain ⟨v, goes, -⟩ := exec_goes_of_eventOnly (held := fun _ => True) event h
    exact State.policyKept.trans (t := s.withTrackers v) ⟨rfl, rfl⟩ goes.policyKept
  | false =>
    cases c with
    | powerOn a b d e => exact absurd rfl (power a b d e)
    | presenceAsserted x =>
      cases h
      exact (State.policyKept_assertPresence s x).trans
        (State.follows_finish (held := fun _ => True) s _).goes.policyKept
    | presenceRemoved x =>
      cases h
      exact (State.policyKept_removePresence s x).trans
        (State.follows_finish (held := fun _ => True) s _).goes.policyKept
    | coreSequenceStart =>
      cases h
      exact ⟨rfl, rfl⟩
    | iinCompletion r =>
      cases h
      refine (s.policyKept_enterResult .iin (Channel.iin.result r)).trans ?_
      split
      · exact State.policyKept_deliverIin _ _ _
      · exact ⟨rfl, rfl⟩
    | voltageCompletion x r =>
      cases h
      exact (((s.policyKept_enterResult _ _).trans (State.policyKept_noteVD _ _ _)).trans
        (State.policyKept_checkDroop _ _ _)).trans (State.policyKept_deferredCheck _ _ _)
    | vbatCompletion r =>
      cases h
      exact (s.policyKept_enterResult .vbat _).trans (State.policyKept_setDead _ _ _)
    | vsysCompletion r =>
      cases h
      exact ⟨rfl, rfl⟩
    | iddCompletion r =>
      cases h
      refine (s.policyKept_enterResult .idd (Channel.idd.result r)).trans
        (State.policyKept.trans ?_ (State.policyKept_publishSingle _))
      split
      · exact ((State.goes_barrelSample (pages := true) (held := fun _ => True) _ _).trans
          (State.goes_settles _ _)).policyKept
      · exact ⟨rfl, rfl⟩
    | periodTimerExpiry =>
      cases h
      split
      · exact (State.policyKept_publish s).trans (State.policyKept_withMeas _ _)
      · exact ⟨rfl, rfl⟩
    | memRead addr n =>
      cases h
      rw [State.transact_memRead]
      exact ⟨rfl, rfl⟩
    | memWrite addr data =>
      cases h
      rw [State.transact_memWrite]
      exact ⟨rfl, rfl⟩
    | attnWrite v =>
      cases h
      exact s.policyKept_regWrite 2 v
    | attnMaskWrite v =>
      cases h
      exact s.policyKept_regWrite 3 v
    | restart =>
      cases h
      exact s.policyKept_regWrite 4 1
    | registerWriteIgnored reg v =>
      cases h
      exact s.policyKept_regWrite reg v
    | slotExamination => cases still
    | adopt q => cases still
    | refresh q => cases still
    | pin q level volts limit => cases still
    | unpin q => cases still
    | hold q => cases still
    | resume q => cases still
    | release q => cases still
    | primary q => cases still
    | regulate q mode target => cases still
    | telemetry q mode period => cases still
    | abort q target => cases still
    | _ => cases event

end

/-- Settles O13. -/
theorem policyAndScratchFrames : Obligations.PolicyAndScratchFrames := by
  unfold Obligations.PolicyAndScratchFrames
  intro c s t h power
  exact ⟨fun still => exec_policyKept power still h, fun a write ha => (exec_keeps power write h).scratch a ha⟩

end Sys2Proof.Machine
end

section
/-! SUPPORT. What a port, a line, an engine and a tracker read as after an update of another field. -/

namespace Sys2Proof.Machine

/-! ### port -/

@[simp] theorem State.port_withPresence (s : State) (v : PerConn Bool) (p : LinePort) : (s.withPresence v).port p = s.port p := rfl
@[simp] theorem State.port_withTrackers (s : State) (v : PerConn Tracker) (p : LinePort) : (s.withTrackers v).port p = s.port p := rfl
@[simp] theorem State.port_withBarrel (s : State) (v : Barrel) (p : LinePort) : (s.withBarrel v).port p = s.port p := rfl
@[simp] theorem State.port_withLatestVD (s : State) (v : Nat) (p : LinePort) : (s.withLatestVD v).port p = s.port p := rfl
@[simp] theorem State.port_withLines (s : State) (v : PerPort Line) (p : LinePort) : (s.withLines v).port p = s.port p := rfl
@[simp] theorem State.port_withEngines (s : State) (v : Engines) (p : LinePort) : (s.withEngines v).port p = s.port p := rfl
@[simp] theorem State.port_withQueue (s : State) (v : List QueueEntry) (p : LinePort) : (s.withQueue v).port p = s.port p := rfl
@[simp] theorem State.port_withProspect (s : State) (v : Option Connector) (p : LinePort) : (s.withProspect v).port p = s.port p := rfl
@[simp] theorem State.port_withPath (s : State) (v : Path) (p : LinePort) : (s.withPath v).port p = s.port p := rfl
@[simp] theorem State.port_withMeas (s : State) (v : Measurement) (p : LinePort) : (s.withMeas v).port p = s.port p := rfl
@[simp] theorem State.port_withReg (s : State) (v : Regulator) (p : LinePort) : (s.withReg v).port p = s.port p := rfl
@[simp] theorem State.port_withPolicy (s : State) (v : Policy) (p : LinePort) : (s.withPolicy v).port p = s.port p := rfl
@[simp] theorem State.port_withOrigin (s : State) (v : PolicyOrigin) (p : LinePort) : (s.withOrigin v).port p = s.port p := rfl
@[simp] theorem State.port_withExch (s : State) (v : Exchange) (p : LinePort) : (s.withExch v).port p = s.port p := rfl
@[simp] theorem State.port_withTime (s : State) (v : Word) (p : LinePort) : (s.withTime v).port p = s.port p := rfl
@[simp] theorem State.port_setLine (s : State) (q : LinePort) (v : Line) (p : LinePort) :
    (s.setLine q v).port p = s.port p := rfl
@[simp] theorem State.port_setEngine (s : State) (f : EngineId) (v : Engine) (p : LinePort) :
    (s.setEngine f v).port p = s.port p := rfl
@[simp] theorem State.port_setTracker (s : State) (y : Connector) (v : Tracker) (p : LinePort) :
    (s.setTracker y v).port p = s.port p := rfl
@[simp] theorem State.port_journal (s : State) (k b : Byte) (d : List Byte) (p : LinePort) :
    (s.journal k b d).port p = s.port p := rfl
@[simp] theorem State.port_complete (s : State) (k : Fin 8) (c : ResultCode) (d : List Byte) (p : LinePort) :
    (s.complete k c d).port p = s.port p := rfl
@[simp] theorem State.port_raise (s : State) (c : BitVec 7) (p : LinePort) : (s.raise c).port p = s.port p := rfl
@[simp] theorem State.port_clearDroop (s : State) (y : Connector) (p : LinePort) : (s.clearDroop y).port p = s.port p := rfl

/-! ### line -/

@[simp] theorem State.line_withPresence (s : State) (v : PerConn Bool) (p : LinePort) : (s.withPresence v).line p = s.line p := rfl
@[simp] theorem State.line_withTrackers (s : State) (v : PerConn Tracker) (p : LinePort) : (s.withTrackers v).line p = s.line p := rfl
@[simp] theorem State.line_withBarrel (s : State) (v : Barrel) (p : LinePort) : (s.withBarrel v).line p = s.line p := rfl
@[simp] theorem State.line_withLatestVD (s : State) (v : Nat) (p : LinePort) : (s.withLatestVD v).line p = s.line p := rfl
@[simp] theorem State.line_withEngines (s : State) (v : Engines) (p : LinePort) : (s.withEngines v).line p = s.line p := rfl
@[simp] theorem State.line_withQueue (s : State) (v : List QueueEntry) (p : LinePort) : (s.withQueue v).line p = s.line p := rfl
@[simp] theorem State.line_withPorts (s : State) (v : PerPort PortRecord) (p : LinePort) : (s.withPorts v).line p = s.line p := rfl
@[simp] theorem State.line_withProspect (s : State) (v : Option Connector) (p : LinePort) : (s.withProspect v).line p = s.line p := rfl
@[simp] theorem State.line_withPath (s : State) (v : Path) (p : LinePort) : (s.withPath v).line p = s.line p := rfl
@[simp] theorem State.line_withMeas (s : State) (v : Measurement) (p : LinePort) : (s.withMeas v).line p = s.line p := rfl
@[simp] theorem State.line_withReg (s : State) (v : Regulator) (p : LinePort) : (s.withReg v).line p = s.line p := rfl
@[simp] theorem State.line_withPolicy (s : State) (v : Policy) (p : LinePort) : (s.withPolicy v).line p = s.line p := rfl
@[simp] theorem State.line_withOrigin (s : State) (v : PolicyOrigin) (p : LinePort) : (s.withOrigin v).line p = s.line p := rfl
@[simp] theorem State.line_withExch (s : State) (v : Exchange) (p : LinePort) : (s.withExch v).line p = s.line p := rfl
@[simp] theorem State.line_withTime (s : State) (v : Word) (p : LinePort) : (s.withTime v).line p = s.line p := rfl
@[simp] theorem State.line_setPort (s : State) (q : LinePort) (v : PortRecord) (p : LinePort) :
    (s.setPort q v).line p = s.line p := rfl
@[simp] theorem State.line_setEngine (s : State) (f : EngineId) (v : Engine) (p : LinePort) :
    (s.setEngine f v).line p = s.line p := rfl
@[simp] theorem State.line_setTracker (s : State) (y : Connector) (v : Tracker) (p : LinePort) :
    (s.setTracker y v).line p = s.line p := rfl
@[simp] theorem State.line_journal (s : State) (k b : Byte) (d : List Byte) (p : LinePort) :
    (s.journal k b d).line p = s.line p := rfl
@[simp] theorem State.line_complete (s : State) (k : Fin 8) (c : ResultCode) (d : List Byte) (p : LinePort) :
    (s.complete k c d).line p = s.line p := rfl
@[simp] theorem State.line_raise (s : State) (c : BitVec 7) (p : LinePort) : (s.raise c).line p = s.line p := rfl
@[simp] theorem State.line_clearDroop (s : State) (y : Connector) (p : LinePort) : (s.clearDroop y).line p = s.line p := rfl

/-! ### engine -/

@[simp] theorem State.engine_withPresence (s : State) (v : PerConn Bool) (e : EngineId) : (s.withPresence v).engine e = s.engine e := rfl
@[simp] theorem State.engine_withTrackers (s : State) (v : PerConn Tracker) (e : EngineId) : (s.withTrackers v).engine e = s.engine e := rfl
@[simp] theorem State.engine_withBarrel (s : State) (v : Barrel) (e : EngineId) : (s.withBarrel v).engine e = s.engine e := rfl
@[simp] theorem State.engine_withLatestVD (s : State) (v : Nat) (e : EngineId) : (s.withLatestVD v).engine e = s.engine e := rfl
@[simp] theorem State.engine_withLines (s : State) (v : PerPort Line) (e : EngineId) : (s.withLines v).engine e = s.engine e := rfl
@[simp] theorem State.engine_withQueue (s : State) (v : List QueueEntry) (e : EngineId) : (s.withQueue v).engine e = s.engine e := rfl
@[simp] theorem State.engine_withPorts (s : State) (v : PerPort PortRecord) (e : EngineId) : (s.withPorts v).engine e = s.engine e := rfl
@[simp] theorem State.engine_withProspect (s : State) (v : Option Connector) (e : EngineId) : (s.withProspect v).engine e = s.engine e := rfl
@[simp] theorem State.engine_withPath (s : State) (v : Path) (e : EngineId) : (s.withPath v).engine e = s.engine e := rfl
@[simp] theorem State.engine_withMeas (s : State) (v : Measurement) (e : EngineId) : (s.withMeas v).engine e = s.engine e := rfl
@[simp] theorem State.engine_withReg (s : State) (v : Regulator) (e : EngineId) : (s.withReg v).engine e = s.engine e := rfl
@[simp] theorem State.engine_withPolicy (s : State) (v : Policy) (e : EngineId) : (s.withPolicy v).engine e = s.engine e := rfl
@[simp] theorem State.engine_withOrigin (s : State) (v : PolicyOrigin) (e : EngineId) : (s.withOrigin v).engine e = s.engine e := rfl
@[simp] theorem State.engine_withExch (s : State) (v : Exchange) (e : EngineId) : (s.withExch v).engine e = s.engine e := rfl
@[simp] theorem State.engine_withTime (s : State) (v : Word) (e : EngineId) : (s.withTime v).engine e = s.engine e := rfl
@[simp] theorem State.engine_setPort (s : State) (q : LinePort) (v : PortRecord) (e : EngineId) :
    (s.setPort q v).engine e = s.engine e := rfl
@[simp] theorem State.engine_setLine (s : State) (q : LinePort) (v : Line) (e : EngineId) :
    (s.setLine q v).engine e = s.engine e := rfl
@[simp] theorem State.engine_setTracker (s : State) (y : Connector) (v : Tracker) (e : EngineId) :
    (s.setTracker y v).engine e = s.engine e := rfl
@[simp] theorem State.engine_journal (s : State) (k b : Byte) (d : List Byte) (e : EngineId) :
    (s.journal k b d).engine e = s.engine e := rfl
@[simp] theorem State.engine_complete (s : State) (k : Fin 8) (c : ResultCode) (d : List Byte) (e : EngineId) :
    (s.complete k c d).engine e = s.engine e := rfl
@[simp] theorem State.engine_raise (s : State) (c : BitVec 7) (e : EngineId) : (s.raise c).engine e = s.engine e := rfl
@[simp] theorem State.engine_clearDroop (s : State) (y : Connector) (e : EngineId) :
    (s.clearDroop y).engine e = s.engine e := rfl

/-! ### tracker -/

@[simp] theorem State.tracker_withPresence (s : State) (v : PerConn Bool) (x : Connector) : (s.withPresence v).tracker x = s.tracker x := rfl
@[simp] theorem State.tracker_withBarrel (s : State) (v : Barrel) (x : Connector) : (s.withBarrel v).tracker x = s.tracker x := rfl
@[simp] theorem State.tracker_withLatestVD (s : State) (v : Nat) (x : Connector) : (s.withLatestVD v).tracker x = s.tracker x := rfl
@[simp] theorem State.tracker_withLines (s : State) (v : PerPort Line) (x : Connector) : (s.withLines v).tracker x = s.tracker x := rfl
@[simp] theorem State.tracker_withEngines (s : State) (v : Engines) (x : Connector) : (s.withEngines v).tracker x = s.tracker x := rfl
@[simp] theorem State.tracker_withQueue (s : State) (v : List QueueEntry) (x : Connector) : (s.withQueue v).tracker x = s.tracker x := rfl
@[simp] theorem State.tracker_withPorts (s : State) (v : PerPort PortRecord) (x : Connector) : (s.withPorts v).tracker x = s.tracker x := rfl
@[simp] theorem State.tracker_withProspect (s : State) (v : Option Connector) (x : Connector) : (s.withProspect v).tracker x = s.tracker x := rfl
@[simp] theorem State.tracker_withPath (s : State) (v : Path) (x : Connector) : (s.withPath v).tracker x = s.tracker x := rfl
@[simp] theorem State.tracker_withMeas (s : State) (v : Measurement) (x : Connector) : (s.withMeas v).tracker x = s.tracker x := rfl
@[simp] theorem State.tracker_withReg (s : State) (v : Regulator) (x : Connector) : (s.withReg v).tracker x = s.tracker x := rfl
@[simp] theorem State.tracker_withPolicy (s : State) (v : Policy) (x : Connector) : (s.withPolicy v).tracker x = s.tracker x := rfl
@[simp] theorem State.tracker_withOrigin (s : State) (v : PolicyOrigin) (x : Connector) : (s.withOrigin v).tracker x = s.tracker x := rfl
@[simp] theorem State.tracker_withExch (s : State) (v : Exchange) (x : Connector) : (s.withExch v).tracker x = s.tracker x := rfl
@[simp] theorem State.tracker_withTime (s : State) (v : Word) (x : Connector) : (s.withTime v).tracker x = s.tracker x := rfl
@[simp] theorem State.tracker_setPort (s : State) (q : LinePort) (v : PortRecord) (x : Connector) :
    (s.setPort q v).tracker x = s.tracker x := rfl
@[simp] theorem State.tracker_setLine (s : State) (q : LinePort) (v : Line) (x : Connector) :
    (s.setLine q v).tracker x = s.tracker x := rfl
@[simp] theorem State.tracker_setEngine (s : State) (f : EngineId) (v : Engine) (x : Connector) :
    (s.setEngine f v).tracker x = s.tracker x := rfl
@[simp] theorem State.tracker_journal (s : State) (k b : Byte) (d : List Byte) (x : Connector) :
    (s.journal k b d).tracker x = s.tracker x := rfl
@[simp] theorem State.tracker_complete (s : State) (k : Fin 8) (c : ResultCode) (d : List Byte) (x : Connector) :
    (s.complete k c d).tracker x = s.tracker x := rfl
@[simp] theorem State.tracker_raise (s : State) (c : BitVec 7) (x : Connector) : (s.raise c).tracker x = s.tracker x := rfl
@[simp] theorem State.tracker_clearDroop (s : State) (y : Connector) (x : Connector) :
    (s.clearDroop y).tracker x = s.tracker x := rfl

end Sys2Proof.Machine
end

section
/-! How a request is posted, taken and answered (R180 to R184): what a request row leads to when its slot is ready, and how
a completed slot stands. -/

namespace Sys2Proof.Machine

/-! ### Taking (R183) -/

/-- Of the Exchange Unit only slot `k` changed: it holds request `r`, TAKEN. -/
structure Exchange.Took (x y : Exchange) (k : Fin 8) (r : Request) : Prop where
  bytes : ∀ a, a < slotAddress k ∨ slotAddress k + 32 ≤ a → readByte y.mem a = readByte x.mem a
  slots : ∀ j, j ≠ k → y.slot j = x.slot j
  rest : { y with mem := x.mem, slots := x.slots } = x
  copy : (y.slot k).copy = .taken
  req : (y.slot k).req = r
  state : readByte y.mem (slotAddress k) = 2

/-- The request that the part copies from a posting (R183). -/
def postedRequest (q : Posting) (kind : Byte) (args : List Byte) : Request := ⟨kind, q.port, q.tag, padTo 10 args⟩

theorem Exchange.Took.trans {x y z : Exchange} {k : Fin 8} {r : Request}
    (bytes : ∀ a, a < slotAddress k ∨ slotAddress k + 32 ≤ a → readByte y.mem a = readByte x.mem a)
    (slots : ∀ j, j ≠ k → y.slot j = x.slot j) (rest : { y with mem := x.mem, slots := x.slots } = x)
    (h : y.Took z k r) : x.Took z k r where
  bytes a ha := (h.bytes a ha).trans (bytes a ha)
  slots j hj := (h.slots j hj).trans (slots j hj)
  rest := by rw [← rest, ← h.rest]
  copy := h.copy
  req := h.req
  state := h.state

/-- Taking the request that stands in a slot (R183). -/
theorem Exchange.took_take (x : Exchange) (k : Fin 8) : x.Took (x.take k) k (readRequest x.mem k) where
  bytes a ha := readByte_writeBlock_outside _ _ _ _ (by simp only [List.length_cons, List.length_nil]; omega)
  slots j hj := Exchange.slot_setSlot_of_ne x _ hj
  rest := rfl
  copy := congrArg Slot.copy (Exchange.slot_setSlot_self x k _)
  req := congrArg Slot.req (Exchange.slot_setSlot_self x k _)
  state := readByte_writeBlock_inside _ _ [SlotCopy.taken.code] 0 (by decide)

theorem getD_le2 (w : Half) : (byte w.toNat).toNat + 256 * (byte (w.toNat / 256)).toNat = w.toNat := by
  have := w.isLt
  simp only [byte, BitVec.toNat_ofNat]
  omega

theorem getD_range_map (f : Nat → Byte) {l : List Byte} {n : Nat} (hl : l.length = n) (h : ∀ i, i < n → f i = l.getD i 0) :
    (List.range n).map f = l := by
  refine List.ext_getElem (by simp [hl]) fun i hi hj => ?_
  simp only [List.getElem_map, List.getElem_range]
  rw [h i (by simpa using hi), List.getD_eq_getElem _ _ hj]

/-- The request that a posting's bytes spell. -/
theorem readRequest_posted (m : List Host.Cell) (q : Posting) (kind : Byte) (args : List Byte) :
    readRequest (writeBlock m (slotAddress q.slot) (postedBytes q kind args)) q.slot = postedRequest q kind args := by
  have at_i : ∀ i, i < 16 → readByte (writeBlock m (slotAddress q.slot) (postedBytes q kind args)) (slotAddress q.slot + i) =
      (postedBytes q kind args).getD i 0 :=
    fun i hi => readByte_writeBlock_inside _ _ _ _ (by rwa [length_postedBytes])
  have tag : BitVec.ofNat 16 (read2 (writeBlock m (slotAddress q.slot) (postedBytes q kind args)) (slotAddress q.slot + 4)) =
      q.tag := by
    refine BitVec.eq_of_toNat_eq ?_
    have low : (postedBytes q kind args).getD 4 0 = byte q.tag.toNat := rfl
    have high : (postedBytes q kind args).getD 5 0 = byte (q.tag.toNat / 256) := rfl
    rw [read2, at_i 4 (by omega), Nat.add_assoc, at_i 5 (by omega), low, high, BitVec.toNat_ofNat,
      Nat.mod_eq_of_lt ((getD_le2 q.tag).trans_lt q.tag.isLt : _ < 2 ^ 16)]
    exact getD_le2 q.tag
  have arguments : (List.range 10).map (fun i => readByte (writeBlock m (slotAddress q.slot) (postedBytes q kind args))
      (slotAddress q.slot + 6 + i)) = padTo 10 args := by
    refine getD_range_map _ (length_padTo 10 args) fun i hi => ?_
    rw [Nat.add_assoc, at_i (6 + i) (by omega)]
    exact List.getD_append_right [1, kind, q.port, 0, byte q.tag.toNat, byte (q.tag.toNat / 256)] (padTo 10 args) 0 (6 + i)
      (by simp) |>.trans (by simp)
  rw [readRequest]
  simp only [tag, arguments, postedRequest, Request.mk.injEq, and_true]
  exact ⟨at_i 1 (by omega), at_i 2 (by omega)⟩

theorem slotIds_upTo (k : Fin 8) : (slotIds.filter fun j => decide (j ≤ k)) = slotIds.take k.val ++ [k] := by
  revert k
  decide

theorem State.readSlots_unmarked {s : State} {l : List (Fin 8)} (h : ∀ j ∈ l, (s.exch.slot j).mark = false) :
    s.readSlots l = s := by
  induction l with
  | nil => rfl
  | cons j l ih =>
    have skip : s.readSlots (j :: l) = s.readSlots l := by
      simp only [State.readSlots, List.foldl_cons, h j (List.mem_cons_self ..), Bool.false_eq_true, if_false]
    rw [skip, ih fun i hi => h i (List.mem_cons_of_mem _ hi)]

/-- A posted request whose slot is ready is taken at once, the slot reader having nothing before it (R181 to R183). -/
theorem State.request_ready {s : State} {q : Posting} (ready : s.slotReady q.slot) (kind : Byte) (args : List Byte) :
    ∃ y, s.exch.Took y q.slot (postedRequest q kind args) ∧
      s.request q kind args = (s.withExch y).checkRequest q.slot (postedRequest q kind args) := by
  obtain ⟨free, unmarked, -⟩ := ready
  have posted := s.exch.slot_setMark q.slot
  let m := writeBlock s.exch.mem (slotAddress q.slot) (postedBytes q kind args)
  let z := (s.exch.post q kind args).clearMark q.slot
  have slot_post : ∀ j, (s.exch.post q kind args).slot j =
      if j = q.slot then { s.exch.slot j with mark := true } else s.exch.slot j := by
    intro j
    by_cases e : j = q.slot
    · rw [if_pos e, e]
      exact Exchange.slot_setSlot_self _ _ _
    · rw [if_neg e]
      exact Exchange.slot_setSlot_of_ne _ _ e
  have reads : readRequest z.mem q.slot = postedRequest q kind args := readRequest_posted s.exch.mem q kind args
  refine ⟨z.take q.slot, ?_, ?_⟩
  · refine Exchange.Took.trans (y := z) (fun a ha => ?_) (fun j hj => ?_) rfl (reads ▸ z.took_take q.slot)
    · refine readByte_writeBlock_outside _ _ _ _ ?_
      rw [length_postedBytes]
      omega
    · exact (Exchange.slot_setSlot_of_ne _ _ hj).trans ((slot_post j).trans (if_neg hj))
  · have marked : ((s.exch.post q kind args).slot q.slot).mark = true := by rw [slot_post, if_pos rfl]
    have byte : readByte m (slotAddress q.slot) = 1 :=
      readByte_writeBlock_inside _ _ _ 0 (by rw [length_postedBytes]; omega)
    have table : examined ((s.exch.post q kind args).slot q.slot).copy (readByte m (slotAddress q.slot)) = .take := by
      rw [slot_post, if_pos rfl, byte]
      simp only [free]
      rfl
    have skipped : (s.withExch (s.exch.post q kind args)).readSlots (slotIds.take q.slot.val) =
        s.withExch (s.exch.post q kind args) := by
      refine State.readSlots_unmarked fun j hj => ?_
      have hlt : j < q.slot := (slotIds_split q.slot).2 j hj
      rw [State.withExch_exch, slot_post, if_neg (Fin.ne_of_lt hlt)]
      exact unmarked j (Fin.le_of_lt hlt)
    have step : (s.withExch (s.exch.post q kind args)).readSlots [q.slot] = (s.withExch z).takeRequest q.slot := by
      simp only [State.readSlots, List.foldl_cons, List.foldl_nil, State.withExch_exch, marked, if_true]
      exact congrArg (fun a => (s.withExch z).examineAs q.slot a) table
    rw [State.request, slotIds_upTo, State.readSlots, List.foldl_append]
    refine (congrArg (fun u => State.readSlots u [q.slot]) skipped).trans (step.trans ?_)
    rw [State.takeRequest, State.withExch_exch, reads]
    rfl

/-! ### Completion (R184) -/

section
variable {s t u : State} {q : Posting} {kind : Byte} {code : ResultCode} {data args : List Byte} {x y : Exchange} {k : Fin 8}
  {r : Request}

/-- A completion of a slot that holds the request of a posting. -/
theorem State.slotDone_complete (req : (u.exch.slot q.slot).req = postedRequest q kind args) :
    (u.complete q.slot code data).slotDone q kind code data := by
  refine ⟨?_, causes_set _ _, fun i hi => ?_, fun i hi => u.exch.readByte_complete_data q.slot code data i hi⟩
  · exact congrArg Slot.copy ((u.exch.slot_complete q.slot q.slot code data).trans (if_pos rfl))
  · cases i with
    | zero => exact u.exch.readByte_complete_state q.slot code data
    | succ i =>
      have head := u.exch.readByte_complete_head q.slot code data i (by omega)
      rw [req, Nat.add_assoc, Nat.add_comm 1 i] at head
      exact head.trans (by simp [postedRequest])

theorem State.slotTaken_of (took : x.Took (State.exch t) k r) : t.slotTaken k := ⟨took.copy, took.state⟩

/-- A completed slot that no request is in flight from stands as it is. -/
theorem State.slotDone.of_logs {pages : Bool} {time : Word} {held : Fin 8 → Prop} {l : List (Byte × Byte × List Byte)}
    (done : s.slotDone q kind code data) (logs : s.exch.Logs pages time held l t.exch) (free : ¬ held q.slot) :
    t.slotDone q kind code data := by
  obtain ⟨copy, attn, head, result⟩ := done
  refine ⟨(logs.slot free).symm ▸ copy, logs.attn attn, fun i hi => ?_, fun i hi => ?_⟩
  · rw [logs.readByte_slot free (by omega), head i hi]
  · rw [logs.readByte_slot free (by omega), result i hi]

theorem State.slotTaken.of_logs {pages : Bool} {time : Word} {held : Fin 8 → Prop} {l : List (Byte × Byte × List Byte)}
    (done : s.slotTaken k) (logs : s.exch.Logs pages time held l t.exch) (free : ¬ held k) : t.slotTaken k := by
  refine ⟨(logs.slot free).symm ▸ done.1, ?_⟩
  rw [logs.readByte_slot free (by omega), done.2]

/-- Outside its slot a taken and completed request leaves the Exchange Unit as it was. -/
theorem Exchange.Took.slotAlone_complete (took : s.exch.Took u.exch q.slot r) :
    s.slotAlone (u.complete q.slot code data) q.slot := by
  refine ⟨fun a ha => ?_, fun j hj => ?_, ?_⟩
  · exact (u.exch.readByte_complete_outside q.slot code data a ha).trans (took.bytes a ha)
  · exact ((u.exch.slot_complete j q.slot code data).trans (if_neg hj)).trans (took.slots j hj)
  · exact (congrArg (fun z : Exchange => { z with attn := s.exch.attn }) took.rest :)

theorem Exchange.Took.slotAlone (took : s.exch.Took t.exch k r) : s.slotAlone t k :=
  ⟨took.bytes, took.slots, (congrArg (fun z : Exchange => { z with attn := s.exch.attn }) took.rest :)⟩

/-- A request completed at once, nothing else changed (R183, R184). -/
theorem Exchange.Took.refused (took : s.exch.Took y q.slot (postedRequest q kind args)) :
    s.refused ((s.withExch y).complete q.slot code data) q kind code data :=
  ⟨State.slotDone_complete (u := s.withExch y) took.req, Exchange.Took.slotAlone_complete (u := s.withExch y) took, rfl⟩

/-- The attention causes, the journal and the pages are those before a request was taken. -/
theorem Exchange.Took.fields (took : x.Took y k r) :
    y.written = x.written ∧ y.released = x.released ∧ y.withheld = x.withheld ∧ y.attn = x.attn ∧ y.mask = x.mask ∧
      y.pageRev = x.pageRev ∧ y.telemetrySeq = x.telemetrySeq ∧ y.spiOut = x.spiOut := by
  rw [← took.rest]
  exact ⟨rfl, rfl, rfl, rfl, rfl, rfl, rfl, rfl⟩

end

/-! ### The arguments of a request (10.3.2) -/

theorem postedRequest_arg (q : Posting) (kind b : Byte) (args : List Byte) :
    (postedRequest q kind (b :: args)).arg 6 = b.toNat := rfl

theorem postedRequest_arg2 (q : Posting) (kind b c : Byte) (w : Half) (rest : List Byte) :
    (postedRequest q kind ([b, c] ++ le2 w.toNat ++ rest)).arg2 8 = w.toNat := getD_le2 w

theorem postedRequest_arg2_next (q : Posting) (kind b c : Byte) (v w : Half) :
    (postedRequest q kind ([b, c] ++ le2 v.toNat ++ le2 w.toNat)).arg2 10 = w.toNat := getD_le2 w

/-! ### The kinds and their port bytes (R183) -/

theorem State.checkRequest_of_kind (s : State) (k : Fin 8) {r : Request} {kind : RequestKind}
    (h : requestKind r.kind = some kind) (fits : kind.portFits r.port = true) (idle : s.busy r.port kind = false) :
    s.checkRequest k r = s.dispatch k r kind := by
  simp only [State.checkRequest, h, fits, idle, Bool.true_eq_false, Bool.false_eq_true, if_false]

end Sys2Proof.Machine
end

section
/-! The settings that events and port requests leave alone, and the requests that are answered at once. -/

namespace Sys2Proof.Machine

section
variable {s t u : State} {q : Posting} {kind : Byte} {y : Exchange} {r : Request} {k : Fin 8} {pages : Bool}
  {held : Fin 8 → Prop}

/-! ### The settings (O14) -/

theorem State.settingsKept.trans (h : s.settingsKept t) (k : t.settingsKept u) : s.settingsKept u := by
  obtain ⟨h1, h2, h3, h4, h5, h6, h7, h8, h9, h10, h11, h12, h13, h14, h15, h16, h17, h18, h19, hb⟩ := h
  obtain ⟨k1, k2, k3, k4, k5, k6, k7, k8, k9, k10, k11, k12, k13, k14, k15, k16, k17, k18, k19, kb⟩ := k
  exact ⟨k1.trans h1, k2.trans h2, k3.trans h3, k4.trans h4, k5.trans h5, k6.trans h6, k7.trans h7, k8.trans h8,
    k9.trans h9, k10.trans h10, k11.trans h11, k12.trans h12, k13.trans h13, k14.trans h14, k15.trans h15,
    k16.trans h16, k17.trans h17, k18.trans h18, k19.trans h19, fun a ha => (kb a ha).trans (hb a ha)⟩

/-- What the blocks make of a state leaves the settings alone. -/
theorem State.Goes.settingsKept (h : s.Goes pages held t) (hs : s.heldIn held) :
    s.settingsKept t ∧ t.trackers = s.trackers := by
  obtain ⟨l, follows⟩ := h
  have fixed := follows.fixed
  have logs := follows.logs hs
  obtain ⟨released, mask, seq, out⟩ := logs.keeps
  exact ⟨⟨State.presence_of_fixed fixed, State.policy_of_fixed fixed, State.origin_of_fixed fixed,
    State.time_of_fixed fixed, mask, released, State.table_of_fixed fixed, State.reload_of_fixed fixed,
    State.mode_of_fixed fixed, State.manualTarget_of_fixed fixed, State.lastPV_of_fixed fixed,
    State.saturation_of_fixed fixed, State.latestVD_of_fixed fixed, State.dead_of_fixed fixed,
    State.periodTimer_of_fixed fixed, State.singlePending_of_fixed fixed, State.converting_of_fixed fixed, seq, out,
    fun _ => logs.readByte_outside⟩, State.trackers_of_fixed fixed⟩

/-- Taking a request leaves the settings alone. -/
theorem Exchange.Took.settingsKept (took : s.exch.Took y k r) : s.settingsKept (s.withExch y) := by
  obtain ⟨-, released, -, -, mask, -, seq, out⟩ := took.fields
  refine ⟨rfl, rfl, rfl, rfl, mask, released, rfl, rfl, rfl, rfl, rfl, rfl, rfl, rfl, rfl, rfl, rfl, seq, out,
    fun a ha => took.bytes a ?_⟩
  have := slotAddress_bounds k
  omega

/-- The slots of the requests in flight, and one more. -/
def State.heldWith (s : State) (k : Fin 8) (j : Fin 8) : Prop := j = k ∨ ¬ s.unheld j

theorem State.heldIn_heldWith (s : State) (k : Fin 8) : s.heldIn (s.heldWith k) := fun _ h =>
  not_not.mp fun n => h (.inr n)

theorem State.not_heldWith {j : Fin 8} (ne : j ≠ k) (free : s.unheld j) : ¬ s.heldWith k j := fun h =>
  h.elim ne fun n => n free

/-- A routed request reaches its owner, or is refused at once. -/
theorem State.goes_checkRequest (hk : held k) (kinds : ∀ kind, requestKind r.kind = some kind → kind.routed = true) :
    ∃ pin, (s.withPath { s.path with pin := pin }).Goes true held (s.checkRequest k r) := by
  have refused : ∀ code, ∃ pin, (s.withPath { s.path with pin := pin }).Goes true held (s.complete k code []) :=
    fun code => ⟨s.path.pin, (State.follows_complete s code [] fun _ => hk).goes⟩
  unfold State.checkRequest
  split
  · exact refused _
  next kind named =>
    split
    · exact refused _
    · split
      · exact refused _
      · exact State.goes_dispatch s r (kinds kind named) hk

/-- The request rows that reach a line port, D or the Path Controller are those kinds. -/
theorem exec_routed {c : Instr} (routed : Machine.routed c = some q) (ready : s.slotReady q.slot) :
    ∃ kind args y, s.exch.Took y q.slot (postedRequest q kind args) ∧
      (∀ named, requestKind kind = some named → named.routed = true) ∧
      exec c s = .next ((s.withExch y).checkRequest q.slot (postedRequest q kind args)) := by
  have posted : ∀ kind args, (∀ named, requestKind kind = some named → named.routed = true) →
      exec c s = .next (s.request q kind args) →
      ∃ kind args y, s.exch.Took y q.slot (postedRequest q kind args) ∧
        (∀ named, requestKind kind = some named → named.routed = true) ∧
        exec c s = .next ((s.withExch y).checkRequest q.slot (postedRequest q kind args)) := fun kind args kinds e => by
    obtain ⟨y, took, req⟩ := State.request_ready ready kind args
    exact ⟨kind, args, y, took, kinds, e.trans (congrArg _ req)⟩
  have known : ∀ kind named, requestKind kind = some named → named.routed = true → ∀ other,
      requestKind kind = some other → other.routed = true := by
    intro kind named h ok other h'
    rw [h] at h'
    cases h'
    exact ok
  cases c with
  | refresh q => cases routed; exact posted kindRefresh _ (known _ .refresh rfl rfl) rfl
  | pin q level volts limit => cases routed; exact posted kindPin _ (known _ .pin rfl rfl) rfl
  | unpin q => cases routed; exact posted kindUnpin _ (known _ .unpin rfl rfl) rfl
  | hold q => cases routed; exact posted kindHold _ (known _ .hold rfl rfl) rfl
  | resume q => cases routed; exact posted kindResume _ (known _ .resume rfl rfl) rfl
  | release q => cases routed; exact posted kindRelease _ (known _ .release rfl rfl) rfl
  | primary q => cases routed; exact posted kindPrimary _ (known _ .primary rfl rfl) rfl
  | _ => cases routed

end

/-- Settles O14. -/
theorem eventsAndPortRequestsKeepSettings : Obligations.EventsAndPortRequestsKeepSettings := by
  unfold Obligations.EventsAndPortRequestsKeepSettings
  intro c s t h which
  rcases which with event | ⟨q, routed, ready⟩
  · obtain ⟨v, goes, still⟩ := exec_goes_of_eventOnly (held := fun _ => True) event h
    obtain ⟨kept, trackers⟩ := goes.settingsKept (State.heldIn_all _)
    exact ⟨kept, fun no => trackers.trans (still no)⟩
  · obtain ⟨kind, args, y, took, kinds, e⟩ := exec_routed routed ready
    rw [e] at h
    cases h
    obtain ⟨pin, goes⟩ := State.goes_checkRequest (s := s.withExch y) (k := q.slot) (held := fun _ => True)
      (r := postedRequest q kind args) trivial kinds
    obtain ⟨kept, trackers⟩ := goes.settingsKept (State.heldIn_all _)
    exact ⟨took.settingsKept.trans kept, fun _ => trackers⟩

/-! ### REGULATE, TELEMETRY and ABORT -/

section
variable {s t u : State} {q : Posting} {y : Exchange} {r : Request} {k : Fin 8}

/-- A row of a kind that names no port goes to its owner at once (R183). -/
theorem exec_unported {c : Instr} {kind : Byte} {args : List Byte} {named : RequestKind}
    (e : exec c s = .next (s.request q kind args)) (ready : s.slotReady q.slot) (h : requestKind kind = some named)
    (fits : ∀ b, named.portFits b = true := by intro; rfl)
    (idle : ∀ (u : State) b, u.busy b named = false := by intros; rfl) :
    ∃ y, s.exch.Took y q.slot (postedRequest q kind args) ∧
      exec c s = .next ((s.withExch y).dispatch q.slot (postedRequest q kind args) named) := by
  obtain ⟨y, took, req⟩ := State.request_ready ready kind args
  refine ⟨y, took, e.trans (congrArg _ (req.trans ?_))⟩
  exact State.checkRequest_of_kind _ _ h (fits _) (idle _ _)

/-- The regulator after REGULATE with a mode and a target (R150). -/
def State.regulated (s : State) (mode target : Nat) : Regulator :=
  match mode with
  | 0 => s.reg.toAuto s.policy s.pathClosed
  | 1 => s.reg.toManual s.policy target
  | 2 => s.reg.toOff
  | _ => s.reg

/-- The result code of REGULATE (R150). -/
def regulateCode (q : Policy) (mode target : Nat) : ResultCode :=
  if 2 < mode then .badArg else if mode = 1 ∧ clampCount q target ≠ target then .clamped else .ok

theorem State.reqRegulate_eq (s : State) (k : Fin 8) (mode target : Nat) :
    s.reqRegulate k mode target =
      (s.withReg (s.regulated mode target)).complete k (regulateCode s.policy mode target)
        (regulateData s.reg.output (s.regulated mode target)) := by
  match mode with
  | 0 => rfl
  | 1 =>
    have code : regulateCode s.policy 1 target = if clampCount s.policy target = target then .ok else .clamped := by
      by_cases e : clampCount s.policy target = target <;> simp [regulateCode, e]
    rw [code]
    rfl
  | 2 => rfl
  | n + 3 =>
    have code : regulateCode s.policy (n + 3) target = .badArg := if_pos (by omega)
    rw [code]
    rfl

/-- A byte is one of the modes, or greater. -/
theorem mode_cases (mode : Byte) : mode = 0 ∨ mode = 1 ∨ mode = 2 ∨ 2 < mode.toNat := by
  have eq_of : ∀ n : Byte, mode.toNat = n.toNat → mode = n := fun _ => BitVec.eq_of_toNat_eq
  by_cases h : 2 < mode.toNat
  · exact .inr (.inr (.inr h))
  · have : mode.toNat = 0 ∨ mode.toNat = 1 ∨ mode.toNat = 2 := by omega
    rcases this with e | e | e
    · exact .inl (eq_of 0 e)
    · exact .inr (.inl (eq_of 1 e))
    · exact .inr (.inr (.inl (eq_of 2 e)))

theorem State.regulated_of_large (s : State) {mode : Nat} (h : 2 < mode) (target : Nat) :
    s.regulated mode target = s.reg := by
  obtain ⟨n, rfl⟩ : ∃ n, mode = n + 3 := ⟨mode - 3, by omega⟩
  rfl

end

/-- Settles O56. -/
theorem regulateChangesMode : Obligations.RegulateChangesMode := by
  unfold Obligations.RegulateChangesMode
  intro s q mode target ready n lo r code
  obtain ⟨y, took, e⟩ := exec_unported (c := .regulate q mode target) (named := .regulate) rfl ready rfl
  have args : (postedRequest q kindRegulate ([mode, 0] ++ le2 target.toNat)).arg2 8 = target.toNat := getD_le2 target
  have done : State.dispatch (s.withExch y) q.slot (postedRequest q kindRegulate ([mode, 0] ++ le2 target.toNat)) .regulate =
      (s.withExch y).reqRegulate q.slot mode.toNat target.toNat :=
    congrArg ((s.withExch y).reqRegulate q.slot mode.toNat) args
  rw [done, State.reqRegulate_eq] at e
  have large : 2 < mode.toNat → mode ≠ 0 ∧ mode ≠ 1 ∧ mode ≠ 2 := fun h =>
    ⟨fun e => by subst e; exact absurd h (by decide), fun e => by subst e; exact absurd h (by decide),
      fun e => by subst e; exact absurd h (by decide)⟩
  have hr : (s.withExch y).regulated mode.toNat target.toNat = r := by
    rcases mode_cases mode with rfl | rfl | rfl | h
    · cases hm : s.reg.mode <;> simp [r, hm, State.regulated, Regulator.toAuto, Regulator.atSatLo, lo, State.pathClosed]
    · cases hm : s.reg.mode <;> simp [r, hm, State.regulated, Regulator.toManual, Regulator.atSatLo, lo, n, clampCount]
    · cases hm : s.reg.mode <;> simp [r, hm, State.regulated, Regulator.toOff]
    · obtain ⟨n0, n1, n2⟩ := large h
      exact (State.regulated_of_large _ h _).trans ((if_neg n0).trans ((if_neg n1).trans (if_neg n2))).symm
  have hcode : regulateCode s.policy mode.toNat target.toNat = code := by
    have one : mode.toNat = 1 ↔ mode = 1 := ⟨fun h => BitVec.eq_of_toNat_eq h, fun h => by rw [h]; rfl⟩
    simp only [regulateCode, code, one, n, clampCount]
  rw [hr] at e
  refine ⟨_, e, rfl, Exchange.Took.slotAlone_complete (u := (s.withExch y).withReg r) took, ?_⟩
  rw [← hcode]
  exact State.slotDone_complete (u := (s.withExch y).withReg r) took.req

/-- Settles O57. -/
theorem telemetrySetsPublishing : Obligations.TelemetrySetsPublishing := by
  unfold Obligations.TelemetrySetsPublishing
  intro s q mode period ready n
  obtain ⟨y, took, e⟩ := exec_unported (c := .telemetry q mode period) (named := .telemetry) rfl ready rfl
  have args : (postedRequest q kindTelemetry ([mode, 0] ++ le2 period.toNat)).arg2 8 = period.toNat := getD_le2 period
  have done : State.dispatch (s.withExch y) q.slot (postedRequest q kindTelemetry ([mode, 0] ++ le2 period.toNat))
      .telemetry = (s.withExch y).reqTelemetry q.slot mode.toNat period.toNat :=
    congrArg ((s.withExch y).reqTelemetry q.slot mode.toNat) args
  rw [done] at e
  have answered : ∀ (m : Measurement) (code : ResultCode),
      (s.withExch y).reqTelemetry q.slot mode.toNat period.toNat =
        ((s.withExch y).withMeas m).complete q.slot code (le2 m.reload) →
      ∃ t, exec (.telemetry q mode period) s = .next t ∧ t.withExch s.exch = s.withMeas m ∧
        s.slotAlone t q.slot ∧ t.slotDone q 0x0A code (le2 m.reload) := fun m code h => by
    rw [h] at e
    exact ⟨_, e, rfl, Exchange.Took.slotAlone_complete (u := (s.withExch y).withMeas m) took,
      State.slotDone_complete (u := (s.withExch y).withMeas m) took.req⟩
  rcases mode_cases mode with rfl | rfl | rfl | large
  · exact ⟨fun h => absurd h (by decide), fun _ => answered _ _ rfl⟩
  · exact ⟨fun _ => ⟨_, e, rfl, Exchange.Took.slotAlone
      (t := ((s.withExch y).withMeas { s.meas with singlePending := true, singles := s.meas.singles ++ [q.slot] })) took,
      State.slotTaken_of took⟩, fun h => absurd rfl h⟩
  · refine ⟨fun h => absurd h (by decide), fun _ => answered _ _ ?_⟩
    have code : (if n = period.toNat then ResultCode.ok else .clamped) =
        if 2 < (2 : Byte).toNat then .badArg else if (2 : Byte) = 2 ∧ n ≠ period.toNat then .clamped else .ok := by
      by_cases e : n = period.toNat <;> simp [e]
    exact congrArg (fun c => ((s.withExch y).withMeas (s.meas.repeating period.toNat)).complete q.slot c (le2 n)) code
  · have ne : ∀ m : Byte, m.toNat ≤ 2 → mode ≠ m := fun m hm e => by subst e; omega
    refine ⟨fun h => absurd h (ne 1 (by decide)), fun _ => ?_⟩
    simp only [ne 0 (by decide), ne 2 (by decide), large, if_true, if_false]
    refine answered s.meas .badArg ?_
    obtain ⟨m, hm⟩ : ∃ m, mode.toNat = m + 3 := ⟨mode.toNat - 3, by omega⟩
    rw [hm]
    rfl

end Sys2Proof.Machine
end

section
/-! ABORT (R186). -/

namespace Sys2Proof.Machine

section
variable {s t u : State} {q : Posting} {y : Exchange} {k j : Fin 8}

/-- The page rewrites at the end of an event write pages alone. -/
theorem State.logs_finish {held : Fin 8 → Prop} {time : Word} (s t : State) :
    t.exch.Logs true time held [] (s.finish t).exch :=
  State.finish_induction (fun u => t.exch.Logs true time held [] u.exch) s t .refl fun u x h => by
    rcases State.refreshPage_cases s u x with ⟨-, e⟩ | ⟨-, e⟩ <;> rw [e]
    · exact .page x _ rfl (length_pageOf u x) h
    · exact h

theorem PortRecord.forget_cases (r : PortRecord) (j : Fin 8) :
    (∀ q, (r.forget j).inFlight = some q → q.slot ≠ j) ∧
      { r.forget j with inFlight := none } = { r with inFlight := none } := by
  unfold PortRecord.forget
  split
  next => exact ⟨fun q h => (by cases h), rfl⟩
  next other => exact ⟨fun q h e => other (by rw [h, ← e]; rfl), rfl⟩

theorem Barrel.forget_cases (b : Barrel) (j : Fin 8) :
    (b.forget j).inFlight ≠ some j ∧ { b.forget j with inFlight := none } = { b with inFlight := none } := by
  unfold Barrel.forget
  split
  next => exact ⟨fun h => (by cases h), rfl⟩
  next other => exact ⟨other, rfl⟩

theorem Path.forget_cases (v : Path) (j : Fin 8) :
    (∀ q, (v.forget j).inFlight = some q → q.slot ≠ j) ∧
      { v.forget j with inFlight := none } = { v with inFlight := none } := by
  unfold Path.forget
  split
  next => exact ⟨fun q h => (by cases h), rfl⟩
  next other => exact ⟨fun q h e => other (by rw [h, ← e]; rfl), rfl⟩

theorem State.port_forget (s : State) (j : Fin 8) (p : LinePort) : (s.forget j).port p = (s.port p).forget j := by
  cases p <;> rfl

theorem State.unheld_forget (s : State) (j : Fin 8) : (s.forget j).unheld j := by
  refine ⟨fun p q h => ?_, (s.barrel.forget_cases j).1, (s.path.forget_cases j).1, fun h => ?_⟩
  · rw [State.port_forget] at h
    exact ((s.port p).forget_cases j).1 q h
  · have := (List.mem_filter.mp h).2
    simp at this

/-- A slot that no owner has a request from. -/
theorem State.unheld_congr (h : s.unheld k) (ports : t.ports = s.ports) (barrel : t.barrel = s.barrel)
    (path : t.path = s.path) (meas : t.meas = s.meas) : t.unheld k := by
  unfold State.unheld State.port at h ⊢
  rwa [ports, barrel, path, meas]

/-- A slot completed just now. -/
theorem Exchange.complete_bytes (x : Exchange) (k : Fin 8) (code : ResultCode) (data : List Byte) :
    ((x.complete k code data).slot k).copy = .done ∧ readByte (x.complete k code data).mem (slotAddress k) = 3 ∧
      readByte (x.complete k code data).mem (slotAddress k + 3) = code.code := by
  refine ⟨congrArg Slot.copy ((x.slot_complete k k code data).trans (if_pos rfl)), x.readByte_complete_state k code data, ?_⟩
  exact x.readByte_complete_head k code data 2 (by decide)

theorem getD_padTo_nil (n i : Nat) : (padTo n []).getD i 0 = 0 := by
  rw [padTo, List.getD_eq_getElem?_getD, List.nil_append, List.getElem?_take]
  split
  · rw [List.getElem?_replicate]
    split <;> rfl
  · rfl

/-- The state of an aborted request's end, before the page rewrites (R186). -/
def State.aborted (s : State) (k j : Fin 8) (kind : Byte) : State :=
  ((s.forget j).complete j .aborted []).complete k .ok [kind]

/-- What the end of an aborted request is (R186). -/
theorem State.exec_aborted (took : s.exch.Took y q.slot (postedRequest q kindAbort [b])) (ne : j ≠ q.slot) (kind : Byte) :
    ((s.withExch y).aborted q.slot j kind).slotDone q kindAbort .ok [kind] :=
  State.slotDone_complete (u := ((s.withExch y).forget j).complete j .aborted []) (args := [b]) (by
    refine (congrArg Slot.req ((y.slot_complete q.slot j .aborted []).trans (if_neg ne.symm))).trans took.req)

end

/-- Settles O58. -/
theorem abortEndsARequest : Obligations.AbortEndsARequest := by
  unfold Obligations.AbortEndsARequest
  intro s q target ready
  obtain ⟨y, took, e⟩ := exec_unported (c := .abort q target) (named := .abort) rfl ready rfl
  have done : State.dispatch (s.withExch y) q.slot (postedRequest q kindAbort [target]) .abort =
      (s.withExch y).reqAbort q.slot target.toNat := rfl
  rw [done] at e
  have refused : ∀ code, (s.withExch y).reqAbort q.slot target.toNat = (s.withExch y).complete q.slot code [] →
      ∃ t, exec (.abort q target) s = .next t ∧ t.slotDone q 0x0B code [] ∧ s.slotAlone t q.slot ∧
        t.withExch s.exch = s := fun code h => by
    rw [h] at e
    exact ⟨_, e, took.refused⟩
  refine ⟨fun large => refused _ (dif_neg (by omega)), fun j hj => ⟨fun idle => refused _ ?_, fun ne taken => ?_⟩⟩
  · have fits : target.toNat < 8 := hj ▸ j.isLt
    have same : (⟨target.toNat, fits⟩ : Fin 8) = j := Fin.ext hj
    simp only [State.reqAbort, dif_pos fits, same]
    refine if_neg fun h => ?_
    rcases idle with rfl | free
    · exact h.1 rfl
    · exact free ((took.slots j h.1) ▸ h.2)
  · have fits : target.toNat < 8 := hj ▸ j.isLt
    have same : (⟨target.toNat, fits⟩ : Fin 8) = j := Fin.ext hj
    have slot : y.slot j = s.exch.slot j := took.slots j ne
    have aborts : (s.withExch y).reqAbort q.slot target.toNat =
        (s.withExch y).finish ((s.withExch y).aborted q.slot j (s.exch.slot j).req.kind) := by
      simp only [State.reqAbort, dif_pos fits, same]
      refine (if_pos ⟨ne, slot ▸ taken⟩).trans ?_
      rw [State.abortTarget, State.withExch_exch, slot]
      rfl
    rw [aborts] at e
    generalize hw : (s.withExch y).aborted q.slot j (s.exch.slot j).req.kind = w at e
    have logs : w.exch.Logs true s.time (fun _ => False) [] ((s.withExch y).finish w).exch := State.logs_finish _ _
    have wdone : w.slotDone q 0x0B .ok [(s.exch.slot j).req.kind] := hw ▸ State.exec_aborted took ne _
    have target : (w.exch.slot j).copy = .done ∧ readByte w.exch.mem (slotAddress j) = 3 ∧
        readByte w.exch.mem (slotAddress j + 3) = 11 ∧
        ∀ i, i < 16 → readByte w.exch.mem (slotAddress j + 16 + i) = 0 := by
      have apart := slotAddress_disjoint ne
      obtain ⟨copy, byte, code⟩ := y.complete_bytes j .aborted []
      have other : ∀ a, slotAddress j ≤ a → a < slotAddress j + 32 →
          readByte w.exch.mem a = readByte (y.complete j .aborted []).mem a := fun a lo hi => by
        rw [← hw]
        exact Exchange.readByte_complete_outside _ q.slot _ _ a (by omega)
      refine ⟨?_, (other _ (by omega) (by omega)).trans byte, (other _ (by omega) (by omega)).trans code, fun i hi => ?_⟩
      · rw [← hw]
        exact (congrArg Slot.copy ((Exchange.slot_complete _ j q.slot _ _).trans (if_neg ne))).trans copy
      · rw [other _ (by omega) (by omega), y.readByte_complete_data j .aborted [] i hi, getD_padTo_nil]
    obtain ⟨copy, byte, code, result⟩ := target
    have keep : ∀ a, slotAddress j ≤ a → a < slotAddress j + 32 →
        readByte ((s.withExch y).finish w).exch.mem a = readByte w.exch.mem a := fun a lo hi =>
      logs.readByte_slot (k := j) id ⟨lo, hi⟩
    have others : ∀ k, k ≠ j → k ≠ q.slot → w.exch.slot k = s.exch.slot k := fun k kj kq => by
      rw [← hw]
      exact ((Exchange.slot_complete _ k q.slot _ _).trans (if_neg kq)).trans
        (((Exchange.slot_complete y k j .aborted []).trans (if_neg kj)).trans (took.slots k kq))
    refine ⟨_, e, wdone.of_logs logs id, ?_, ?_, ?_, fun i hi => ?_, ?_, fun p => ?_, ?_, ?_, ?_, ?_, ?_, ?_, ?_, ?_, ?_, ?_,
      ?_, ?_, ?_, ?_, ?_, ?_, fun a ha => ?_⟩
    · rw [logs.slot (k := j) id, copy]
    · rw [keep _ (by omega) (by omega), byte]
    · rw [keep _ (by omega) (by omega), code]
    · rw [keep _ (by omega) (by omega), result i hi]
    · exact State.unheld_congr ((s.withExch y).unheld_forget j) (by rw [State.finish_ports, ← hw]; rfl)
        (by rw [State.finish_barrel, ← hw]; rfl) (by rw [State.finish_path, ← hw]; rfl) (by rw [State.finish_meas, ← hw]; rfl)
    · rw [State.port_finish, ← hw]
      exact (congrArg (fun r : PortRecord => { r with inFlight := none }) ((s.withExch y).port_forget j p)).trans
        ((s.port p).forget_cases j).2
    · rw [State.finish_barrel, ← hw]
      exact (s.barrel.forget_cases j).2
    · rw [State.finish_path, ← hw]
      exact (s.path.forget_cases j).2
    · rw [State.finish_meas, ← hw]
      rfl
    · rw [State.finish_reg, ← hw]
      rfl
    · exact fun k kj kq => (logs.slot (k := k) id).trans (others k kj kq)
    · have written := congrArg Exchange.written (State.finish_exch_rest (s.withExch y) w)
      refine written.trans ?_
      rw [← hw]
      exact took.fields.1
    · rw [State.finish_trackers, ← hw]
      rfl
    · rw [State.finish_lines, ← hw]
      rfl
    · rw [State.finish_engines, ← hw]
      rfl
    · rw [State.finish_queue, ← hw]
      rfl
    · rw [State.finish_prospect, ← hw]
      rfl
    · rw [State.finish_policy, ← hw]
      rfl
    · rw [State.finish_origin, ← hw]
      rfl
    · rw [State.finish_time, ← hw]
      rfl
    · rw [State.finish_presence, ← hw]
      rfl
    · rw [State.finish_latestVD, ← hw]
      rfl
    · rw [State.readByte_finish_outside _ _ a (by omega), ← hw]
      have := slotAddress_bounds j
      have := slotAddress_bounds q.slot
      refine (Exchange.readByte_complete_outside _ q.slot _ _ a (by omega)).trans ?_
      exact (Exchange.readByte_complete_outside y j .aborted [] a (by omega)).trans (took.bytes a (by omega))

end Sys2Proof.Machine
end

section
/-! The requests that are refused at once (R183, R80, R97). -/

namespace Sys2Proof.Machine

section
variable {s t u : State} {q : Posting} {kind b : Byte} {y : Exchange} {k : Fin 8} {r : Request} {named : RequestKind}
  {p : LinePort} {args : List Byte}

/-! ### The checks of R183, one outcome each -/

theorem State.checkRequest_badKind (s : State) (k : Fin 8) (h : requestKind r.kind = none) :
    s.checkRequest k r = s.complete k .badKind [] := by
  simp only [State.checkRequest, h]

theorem State.checkRequest_badPort (s : State) (k : Fin 8) (h : requestKind r.kind = some named)
    (outside : named.portFits r.port = false) : s.checkRequest k r = s.complete k .badPort [] := by
  simp only [State.checkRequest, h, outside, if_true]

theorem State.checkRequest_busy (s : State) (k : Fin 8) (h : requestKind r.kind = some named)
    (fits : named.portFits r.port = true) (busy : s.busy r.port named = true) :
    s.checkRequest k r = s.complete k .portBusy [] := by
  simp only [State.checkRequest, h, fits, busy, Bool.true_eq_false, if_true, if_false]

/-! ### The port bytes -/

theorem linePortOf_of_large (h : 2 < b.toNat) : linePortOf b = none := by
  unfold linePortOf
  split <;> first | omega | rfl

theorem toNat_of_linePortOf (h : linePortOf b = some p) : b.toNat ≤ 2 := by
  by_contra large
  rw [linePortOf_of_large (by omega)] at h
  cases h

theorem connectorOf_of_large (h : 3 < b.toNat) : connectorOf b.toNat = none := by
  unfold connectorOf
  split <;> first | omega | rfl

theorem isSome_connectorOf (h : b.toNat ≤ 3) : (connectorOf b.toNat).isSome = true := by
  have : b.toNat = 0 ∨ b.toNat = 1 ∨ b.toNat = 2 ∨ b.toNat = 3 := by omega
  rcases this with e | e | e | e <;> rw [e] <;> rfl

/-- A port byte of a line port is in the range of every kind that names a port. -/
theorem RequestKind.portFits_line (h : linePortOf b = some p) (named : RequestKind) : named.portFits b = true := by
  have small := toNat_of_linePortOf h
  have connector := isSome_connectorOf (b := b) (by omega)
  cases named <;> simp only [RequestKind.portFits, h, Option.isSome_some, connector, Bool.true_or]

theorem requestKind_of_toNat {n : Nat} (h : kind.toNat = n) : requestKind kind = requestKind (BitVec.ofNat 8 n) := by
  have : n < 256 := h ▸ kind.isLt
  unfold requestKind
  rw [h, BitVec.toNat_ofNat, Nat.mod_eq_of_lt (by omega)]

/-- The kinds that name a line port or D. -/
theorem requestKind_port (lo : 2 ≤ kind.toNat) (hi : kind.toNat ≤ 7) :
    (kind = 2 ∧ requestKind kind = some .refresh) ∨ (kind = 3 ∧ requestKind kind = some .pin) ∨
      (kind = 4 ∧ requestKind kind = some .unpin) ∨ (kind = 5 ∧ requestKind kind = some .hold) ∨
      (kind = 6 ∧ requestKind kind = some .resume) ∨ (kind = 7 ∧ requestKind kind = some .release) := by
  have : kind = 2 ∨ kind = 3 ∨ kind = 4 ∨ kind = 5 ∨ kind = 6 ∨ kind = 7 := by
    have eq_of : ∀ n : Byte, kind.toNat = n.toNat → kind = n := fun _ => BitVec.eq_of_toNat_eq
    have : kind.toNat = 2 ∨ kind.toNat = 3 ∨ kind.toNat = 4 ∨ kind.toNat = 5 ∨ kind.toNat = 6 ∨ kind.toNat = 7 := by omega
    rcases this with e | e | e | e | e | e
    · exact .inl (eq_of 2 e)
    · exact .inr (.inl (eq_of 3 e))
    · exact .inr (.inr (.inl (eq_of 4 e)))
    · exact .inr (.inr (.inr (.inl (eq_of 5 e))))
    · exact .inr (.inr (.inr (.inr (.inl (eq_of 6 e)))))
    · exact .inr (.inr (.inr (.inr (.inr (eq_of 7 e)))))
  rcases this with rfl | rfl | rfl | rfl | rfl | rfl <;> decide

/-- No request kind has a byte outside 0x01 to 0x0B (10.3.2). -/
theorem requestKind_unknown (h : kind = 0 ∨ 0x0B < kind.toNat) : requestKind kind = none := by
  rcases h with rfl | large
  · rfl
  · unfold requestKind
    split <;> first | omega | rfl

/-! ### Request rows and examinations -/

/-- A request row is the request of its kind (10.3.2). -/
theorem exec_requestOf {c : Instr} (h : requestOf c = some (q, kind)) (s : State) :
    ∃ args, exec c s = .next (s.request q kind args) := by
  cases c <;> cases h <;> exact ⟨_, rfl⟩

/-- A request row with a ready slot is taken and checked. -/
theorem exec_posted {c : Instr} (h : requestOf c = some (q, kind)) (ready : s.slotReady q.slot) :
    ∃ y args, s.exch.Took y q.slot (postedRequest q kind args) ∧
      exec c s = .next ((s.withExch y).checkRequest q.slot (postedRequest q kind args)) := by
  obtain ⟨args, e⟩ := exec_requestOf h s
  obtain ⟨y, took, req⟩ := State.request_ready ready kind args
  exact ⟨y, args, took, e.trans (congrArg _ req)⟩

/-- A request row that ends in a completion of its slot alone is refused. -/
theorem refused_of {c : Instr} {code : ResultCode} {data : List Byte} (took : s.exch.Took y q.slot (postedRequest q kind args))
    (e : exec c s = .next ((s.withExch y).checkRequest q.slot (postedRequest q kind args)))
    (h : (s.withExch y).checkRequest q.slot (postedRequest q kind args) = (s.withExch y).complete q.slot code data) :
    ∃ t, exec c s = .next t ∧ s.refused t q kind code data :=
  ⟨_, e.trans (congrArg _ h), took.refused⟩

/-- The request that stands in a slot is the posting of its bytes. -/
theorem readRequest_eq (m : List Host.Cell) (k : Fin 8) :
    readRequest m k = postedRequest ⟨k, readByte m (slotAddress k + 2),
      readByte m (slotAddress k + 5) ++ readByte m (slotAddress k + 4)⟩ (readByte m (slotAddress k + 1))
        ((List.range 10).map fun i => readByte m (slotAddress k + 6 + i)) := by
  have full : ∀ l : List Byte, l.length = 10 → padTo 10 l = l := fun l h => by
    rw [padTo, h, Nat.sub_self, List.replicate_zero, List.append_nil, ← h, List.take_length]
  rw [postedRequest, full _ (by simp), readRequest, ofNat_read2]

/-- The examination of the lowest marked slot, FREE with a posted request, takes the request (R182, R183). -/
theorem exec_slotExamination_take (marked : (s.exch.slot k).mark = true)
    (lowest : ∀ j, j < k → (s.exch.slot j).mark = false) (free : (s.exch.slot k).copy = .free)
    (posted : readByte s.exch.mem (slotAddress k) = 1) :
    ∃ y, s.exch.Took y k (readRequest s.exch.mem k) ∧
      exec .slotExamination s = .next ((s.withExch y).checkRequest k (readRequest s.exch.mem k)) := by
  refine ⟨(s.exch.clearMark k).take k, ?_, ?_⟩
  · exact Exchange.Took.trans (y := s.exch.clearMark k) (fun _ _ => rfl) (fun j hj => Exchange.slot_setSlot_of_ne _ _ hj) rfl
      (Exchange.took_take _ k)
  · rw [exec_slotExamination marked lowest, State.examine, free, posted]
    rfl

/-! ### PIN's refusals (R80, R97) -/

theorem clampPin_error {p : LinePort} {i : Image} {index volts limit : Nat} {pol : Policy} :
    (index = 0 ∨ i.levels.length < index → clampPin pol p i index volts limit = .error .badArg) ∧
      ∀ l, index ≠ 0 → i.levels[index - 1]? = some l →
        (l.usable = false → clampPin pol p i index volts limit = .error .badArg) ∧
        (l.usable = true → min l.hi pol.windowHi < max l.lo pol.windowLo →
          clampPin pol p i index volts limit = .error .notEligible) := by
  refine ⟨fun out => ?_, fun l inside level => ⟨fun unusable => ?_, fun usable misses => ?_⟩⟩
  · have none : i.level index = none := by
      unfold Image.level
      split
      · rfl
      · exact List.getElem?_eq_none (by omega)
    simp only [clampPin, none]
  · have level : i.level index = some l := (if_neg inside).trans level
    simp only [clampPin, level, unusable, if_true]
  · have level : i.level index = some l := (if_neg inside).trans level
    simp only [clampPin, level, usable, misses, Bool.true_eq_false, if_true, if_false]

end

/-- Settles O48. -/
theorem requestsRefusedAtOnce : Obligations.RequestsRefusedAtOnce := by
  unfold Obligations.RequestsRefusedAtOnce
  refine ⟨?_, ?_, ?_⟩
  · intro s k marked lowest free posted kind q unknown
    obtain ⟨y, took, e⟩ := exec_slotExamination_take marked lowest free posted
    rw [readRequest_eq] at took e
    exact refused_of (q := q) took e (State.checkRequest_badKind _ _ (requestKind_unknown unknown))
  · intro c q kind s row ready
    obtain ⟨y, args, took, e⟩ := exec_posted row ready
    refine ⟨fun outside => ?_, fun busy => ?_, fun p line empty idle lo hi => ?_, fun port empty idle which => ?_⟩
    · have fails : ∃ named, requestKind kind = some named ∧ named.portFits q.port = false := by
        rcases outside with ⟨rfl | rfl, large⟩ | ⟨lo, hi, large⟩ | ⟨rfl, large, other⟩
        · exact ⟨.refresh, rfl, by simp only [RequestKind.portFits, connectorOf_of_large large]; rfl⟩
        · exact ⟨.release, rfl, by simp only [RequestKind.portFits, connectorOf_of_large large]; rfl⟩
        · have no : (linePortOf q.port).isSome = false := by rw [linePortOf_of_large large]; rfl
          rcases requestKind_port (by omega : 2 ≤ kind.toNat) (by omega) with
            ⟨rfl, h⟩ | ⟨rfl, h⟩ | ⟨rfl, h⟩ | ⟨rfl, h⟩ | ⟨rfl, h⟩ | ⟨rfl, h⟩
          · exact absurd lo (by decide)
          · exact ⟨.pin, h, no⟩
          · exact ⟨.unpin, h, no⟩
          · exact ⟨.hold, h, no⟩
          · exact ⟨.resume, h, no⟩
          · exact absurd hi (by decide)
        · refine ⟨.primary, rfl, ?_⟩
          simp only [RequestKind.portFits, connectorOf_of_large large, Option.isSome_none, Bool.false_or,
            decide_eq_false_iff_not]
          exact other
      obtain ⟨named, h, outside⟩ := fails
      exact refused_of took e (State.checkRequest_badPort _ _ h outside)
    · have holds : ∃ named, requestKind kind = some named ∧ named.portFits q.port = true ∧
          (s.withExch y).busy q.port named = true := by
        rcases busy with ⟨which, p, line, flight⟩ | ⟨which, port, flight⟩ | ⟨rfl, range, flight⟩
        · have portBusy : (s.withExch y).portBusy q.port = true := by
            simp only [State.portBusy, line]
            exact Option.isSome_iff_ne_none.mpr flight
          rcases which with rfl | rfl | rfl
          · exact ⟨.refresh, rfl, RequestKind.portFits_line line _, portBusy⟩
          · exact ⟨.pin, rfl, RequestKind.portFits_line line _, portBusy⟩
          · exact ⟨.release, rfl, RequestKind.portFits_line line _, portBusy⟩
        · have portBusy : (s.withExch y).portBusy q.port = true := by
            rw [port]
            exact Option.isSome_iff_ne_none.mpr flight
          rcases which with rfl | rfl
          · exact ⟨.refresh, rfl, by rw [port]; rfl, portBusy⟩
          · exact ⟨.release, rfl, by rw [port]; rfl, portBusy⟩
        · refine ⟨.primary, rfl, ?_, Option.isSome_iff_ne_none.mpr flight⟩
          rcases range with small | all
          · simp only [RequestKind.portFits, isSome_connectorOf small, Bool.true_or]
          · rw [all]
            rfl
      obtain ⟨named, h, fits, busy⟩ := holds
      exact refused_of took e (State.checkRequest_busy _ _ h fits busy)
    · have absent : (s.port p).negotiating = false := by
        rcases empty with e | e <;> rw [PortRecord.negotiating, e] <;> rfl
      have free : (s.withExch y).portBusy q.port = false := by
        simp only [State.portBusy, line]
        exact Option.isSome_eq_false_iff.mpr (Option.isNone_iff_eq_none.mpr idle)
      have dispatched := fun {named : RequestKind} (h : requestKind kind = some named)
          (nb : (s.withExch y).busy q.port named = false) =>
        State.checkRequest_of_kind (s.withExch y) q.slot (r := postedRequest q kind args) h
          (RequestKind.portFits_line line named) nb
      refine refused_of took e ?_
      rcases requestKind_port lo hi with ⟨rfl, h⟩ | ⟨rfl, h⟩ | ⟨rfl, h⟩ | ⟨rfl, h⟩ | ⟨rfl, h⟩ | ⟨rfl, h⟩
      · rw [dispatched h free]
        simp [State.dispatch, postedRequest, State.reqRefresh, line, State.reqRefreshPort, absent]
      · rw [dispatched h free]
        simp [State.dispatch, postedRequest, State.reqPin, line, State.reqPinPort, absent]
      · rw [dispatched h rfl]
        simp [State.dispatch, postedRequest, State.reqUnpin, line, State.reqUnpinPort, absent]
      · rw [dispatched h rfl]
        simp [State.dispatch, postedRequest, State.reqHold, line, State.reqHoldPort, absent]
      · rw [dispatched h rfl]
        simp [State.dispatch, postedRequest, State.reqResume, line, State.reqResumePort, absent]
      · rw [dispatched h free]
        simp [State.dispatch, postedRequest, State.reqRelease, line, State.reqReleasePort, absent]
    · have absent : s.barrel.present = false := by
        rcases empty with e | e <;> simp [Barrel.present, e]
      have line : linePortOf q.port = none := by rw [port]; rfl
      have free : (s.withExch y).portBusy q.port = false := by
        simp only [State.portBusy, line]
        exact Option.isSome_eq_false_iff.mpr (Option.isNone_iff_eq_none.mpr idle)
      refine refused_of took e ?_
      rcases which with rfl | rfl
      · rw [State.checkRequest_of_kind (kind := .refresh) (r := postedRequest q 2 args) _ _ rfl
          (by rw [postedRequest, port]; rfl) free]
        simp [State.dispatch, postedRequest, State.reqRefresh, line, State.reqRefreshBarrel, absent]
      · rw [State.checkRequest_of_kind (kind := .release) (r := postedRequest q 7 args) _ _ rfl
          (by rw [postedRequest, port]; rfl) free]
        simp [State.dispatch, postedRequest, State.reqRelease, line, State.reqReleaseBarrel, absent]
  · intro s q level volts limit p ready line negotiating idle out answers
    obtain ⟨y, took, req⟩ := State.request_ready ready kindPin ([level, 0] ++ le2 volts.toNat ++ le2 limit.toNat)
    have e : exec (.pin q level volts limit) s = .next _ := congrArg Host.Outcome.next req
    have free : (s.withExch y).portBusy q.port = false := by
      simp only [State.portBusy, line]
      exact Option.isSome_eq_false_iff.mpr (Option.isNone_iff_eq_none.mpr idle)
    have dispatched := State.checkRequest_of_kind (s.withExch y) q.slot
      (r := postedRequest q kindPin ([level, 0] ++ le2 volts.toNat ++ le2 limit.toNat)) (kind := .pin) rfl
      (RequestKind.portFits_line line .pin) free
    generalize hr : postedRequest q kindPin ([level, 0] ++ le2 volts.toNat ++ le2 limit.toNat) = r at took e dispatched
    have arg : r.arg 6 = level.toNat := hr ▸ rfl
    have pins : ∀ code, (s.withExch y).reqPinPort q.slot p r = (s.withExch y).complete q.slot code (s.port p).pinData →
        answers code := fun code h => by
      refine refused_of (hr.symm ▸ took) (hr.symm ▸ e) ((hr ▸ dispatched).trans ?_)
      rw [← h]
      simp only [State.dispatch, State.reqPin, hr]
      rw [← hr]
      simp only [postedRequest, line]
    have present : ((s.withExch y).port p).negotiating = true := negotiating
    refine ⟨fun barred => pins _ ?_, fun usable absent => pins _ ?_, fun i usable image => ?_⟩
    · rw [State.reqPinPort, if_neg (by rw [present]; decide)]
      exact if_pos barred
    · have absent : ((s.withExch y).port p).image = none := absent
      have skip : ¬ (((s.withExch y).port p).state = .faulted ∨ ((s.withExch y).port p).released = true) := usable
      rw [State.reqPinPort, if_neg (by rw [present]; decide), if_neg skip, absent]
      rfl
    · have skip : ¬ (((s.withExch y).port p).state = .faulted ∨ ((s.withExch y).port p).released = true) := usable
      have stored : ((s.withExch y).port p).image = some i := image
      have errs : ∀ code, clampPin s.policy p i level.toNat (r.arg2 8) (r.arg2 10) = .error code → answers code :=
        fun code h => pins _ (by
          rw [State.reqPinPort, if_neg (by rw [present]; decide), if_neg skip, stored]
          simp only [arg, State.withExch_policy, h]
          rfl)
      obtain ⟨absent, atLevel⟩ := clampPin_error (p := p) (i := i) (index := level.toNat) (volts := r.arg2 8)
        (limit := r.arg2 10) (pol := s.policy)
      refine ⟨fun h => errs _ (absent h), fun l inside found => ?_⟩
      obtain ⟨unusable, misses⟩ := atLevel l inside found
      exact ⟨fun h => errs _ (unusable h), fun h m => errs _ (misses h m)⟩

end Sys2Proof.Machine
end

section
/-! The draft as the tables of 9.1 and 10.3.1 give it, and the refusal of a contradictory ADOPT (R165 to R169). -/

namespace Sys2Proof.Machine

/-! ### The proposal against the tables -/

section
variable {m n : List Host.Cell}

/-- The part reads the draft area alone (R165). -/
theorem readDraft_congr (same : ∀ a, a < 0x64 → readByte m a = readByte n a) : readDraft m = readDraft n := by
  have one : ∀ a, a < 0x64 → read1 m a = read1 n a := fun a h => by rw [read1, read1, same a h]
  have two : ∀ a, a < 0x63 → read2 m a = read2 n a := fun a h => by
    rw [read2, read2, same a (by omega), same (a + 1) (by omega)]
  have four : ∀ a, a < 0x61 → read4 m a = read4 n a := fun a h => by
    rw [read4, read4, two a (by omega), two (a + 2) (by omega)]
  have fields : readFields m = readFields n := by
    simp only [readFields, Policy.mk.injEq, PerConn.mk.injEq, and_true]
    repeat' constructor
    all_goals first | exact two _ (by omega) | exact one _ (by omega) | exact four _ (by omega)
  have entries : (List.range 8).map (readEntry m) = (List.range 8).map (readEntry n) := by
    refine List.map_congr_left fun k hk => ?_
    have := List.mem_range.mp hk
    simp only [readEntry, two _ (by omega : 0x34 + 6 * k < 0x63), two _ (by omega : 0x36 + 6 * k < 0x63),
      two _ (by omega : 0x38 + 6 * k < 0x63)]
  simp only [readDraft, fields, one 0x33 (by omega), entries]

/-- The numbers of the places where two readings of a table differ. -/
theorem differing_map {α : Type} (f g : α → Nat) (l : List α) (n : Nat) :
    differing n (l.map f) (l.map g) =
      ((l.zip (List.range' n l.length)).filter fun e => decide (g e.1 ≠ f e.1)).map Prod.snd := by
  induction l generalizing n with
  | nil => rfl
  | cons x l ih =>
    simp only [List.map_cons, differing, List.length_cons, List.range'_succ, List.zip_cons_cons, List.filter_cons, ih]
    by_cases e : f x = g x <;> simp [e, eq_comm]

theorem clampEntry_eq (e : IdEntry) : clampEntry e = entryClamped e := by
  simp only [clampEntry, entryClamped, Nat.min_comm]

/-- The numbers of the entries that clamping replaces, counted by as many numbers as there are or more. -/
theorem clampedEntries_eq (l : List IdEntry) (n k : Nat) (fits : l.length ≤ k) :
    clampedEntries n l =
      ((l.zip (List.range' n k)).filter fun e => decide (entryClamped e.1 ≠ e.1)).map Prod.snd := by
  induction l generalizing n k with
  | nil => rfl
  | cons e l ih =>
    obtain ⟨k, rfl⟩ : ∃ j, k = j + 1 := ⟨k - 1, by simp only [List.length_cons] at fits; omega⟩
    simp only [clampedEntries, List.range'_succ, List.zip_cons_cons, List.filter_cons, clampEntry_eq,
      ih (n + 1) k (by simpa using fits)]
    by_cases same : entryClamped e = e <;> simp [same]

/-- The first entry whose bounds are the wrong way round. -/
theorem badEntry_eq (l : List IdEntry) (n k : Nat) (fits : l.length ≤ k) :
    badEntry n (l.map clampEntry) =
      ((l.zip (List.range' n k)).find? fun e => decide ((entryClamped e.1).hi < (entryClamped e.1).lo)).map Prod.snd := by
  induction l generalizing n k with
  | nil => rfl
  | cons e l ih =>
    obtain ⟨k, rfl⟩ : ∃ j, k = j + 1 := ⟨k - 1, by simp only [List.length_cons] at fits; omega⟩
    simp only [List.map_cons, badEntry, List.range'_succ, List.zip_cons_cons, List.find?_cons, clampEntry_eq,
      ih (n + 1) k (by simpa using fits)]
    by_cases wrong : (entryClamped e).hi < (entryClamped e).lo <;> simp [wrong]

theorem draftNumber_one (m : List Host.Cell) (a : Nat) : draftNumber m a 1 = read1 m a := rfl

theorem draftNumber_two (m : List Host.Cell) (a : Nat) : draftNumber m a 2 = read2 m a := rfl

theorem draftNumber_four (m : List Host.Cell) (a : Nat) : draftNumber m a 4 = read4 m a := by
  simp only [draftNumber, read4, read2, Nat.add_assoc, Nat.reduceAdd]
  omega

/-- The considered entries, from the draft (R166). -/
theorem considered_readDraft (m : List Host.Cell) : (readDraft m).considered = draftEntries m := by
  have count : (readDraft m).count = draftCount m := rfl
  unfold Proposal.considered draftEntries
  rw [count]
  split
  next small =>
    have entries : (readDraft m).entries = (List.range 8).map (draftEntry m) := rfl
    rw [entries, ← List.map_take, List.take_range, Nat.min_eq_left small]
  next => rfl

theorem length_draftEntries (m : List Host.Cell) : (draftEntries m).length ≤ 8 := by
  unfold draftEntries
  split
  next small => rwa [List.length_map, List.length_range]
  next => exact Nat.zero_le 8

/-- Fields 1 to 29 as the table gives them, read. -/
theorem numbers_readDraft (m : List Host.Cell) :
    (readDraft m).fields.numbers = draftTable.map fun f => draftNumber m f.offset f.size := by
  simp only [draftTable, List.map_cons, List.map_nil, draftNumber_one, draftNumber_two, draftNumber_four]
  rfl

/-- Fields 1 to 29 as the table gives them, clamped. -/
theorem numbers_clamped (m : List Host.Cell) :
    (readDraft m).clamped.numbers = draftTable.map fun f => f.clamped m := by
  have clamped : ∀ (o z lo hi : Nat), o ≠ 0x20 →
      DraftField.clamped ⟨o, z, lo, hi⟩ m = clampNat lo hi (draftNumber m o z) := fun o z lo hi h =>
    if_neg fun e => h e.1
  have dead : DraftField.clamped ⟨0x20, 2, 2500, 20000⟩ m = clampDead (read2 m 0x20) := by
    rw [← draftNumber_two]
    unfold DraftField.clamped clampDead
    simp only [true_and]
    rfl
  simp (disch := decide) only [draftTable, List.map_cons, List.map_nil, dead, clamped, draftNumber_one, draftNumber_two,
    draftNumber_four]
  rfl

/-- The clamped fields (R167). -/
theorem clampedFields_readDraft (m : List Host.Cell) : (readDraft m).clampedFields = draftReplaced m := by
  have length : draftTable.length = 29 := rfl
  rw [Proposal.clampedFields, numbers_readDraft, numbers_clamped, differing_map, considered_readDraft,
    clampedEntries_eq _ 31 8 (length_draftEntries m), length]
  rfl

/-- The first contradiction (R168). -/
theorem contradiction_readDraft (m : List Host.Cell) :
    (readDraft m).contradiction.map (fun c => (c.1, c.2.code)) = draftContradiction m := by
  have entries := badEntry_eq (draftEntries m) 31 8 (length_draftEntries m)
  have ids : (readDraft m).clamped.ids = (draftEntries m).map clampEntry := by
    rw [← considered_readDraft]
    rfl
  have fields := numbers_clamped m
  have vinMin : (readDraft m).clamped.vinMin = (draftTable[0]?.map fun f => f.clamped m).getD 0 := rfl
  have vinMax : (readDraft m).clamped.vinMax = (draftTable[1]?.map fun f => f.clamped m).getD 0 := rfl
  have satLo : (readDraft m).clamped.satLo = (draftTable[22]?.map fun f => f.clamped m).getD 0 := rfl
  have satHi : (readDraft m).clamped.satHi = (draftTable[23]?.map fun f => f.clamped m).getD 0 := rfl
  have count : (readDraft m).count = draftCount m := rfl
  simp only [Proposal.contradiction, draftContradiction, ids, entries, vinMin, vinMax, satLo, satHi, count]
  split
  · rfl
  · split
    · rfl
    · split
      · rfl
      · simp only [Option.map_map]
        rfl

end

/-- Settles O49: the checks of R168 read the draft as the tables give it. -/
theorem adoptRefusesContradictions : Obligations.AdoptRefusesContradictions := by
  unfold Obligations.AdoptRefusesContradictions
  intro s q ready m field why contradicts
  obtain ⟨y, took, e⟩ := exec_unported (c := .adopt q) (named := .adopt) rfl ready rfl
  have below := slotAddress_bounds q.slot
  have draft : readDraft y.mem = readDraft m := readDraft_congr fun a ha => took.bytes a (by omega)
  have first := (contradiction_readDraft m).trans contradicts
  obtain ⟨⟨field, reason⟩, found, same⟩ := Option.map_eq_some_iff.mp first
  cases same
  have refuses : (s.withExch y).reqAdopt q.slot =
      (s.withExch y).complete q.slot .refusedPolicy ((readDraft m).data field reason.code) := by
    simp only [State.reqAdopt, State.withExch_exch, draft, found]
  rw [show State.dispatch (s.withExch y) q.slot _ .adopt = (s.withExch y).reqAdopt q.slot from rfl, refuses,
    Proposal.data, clampedFields_readDraft] at e
  exact ⟨_, e, took.refused⟩

end Sys2Proof.Machine
end

section
/-! The state after reset, the budget, and the commands of the presence and measurement families that touch one block. -/

namespace Sys2Proof.Machine

/-- Settles O4. -/
theorem resetIsSafe : Obligations.ResetIsSafe := by
  unfold Obligations.ResetIsSafe
  have free : ∀ e, State.reset.engine e = Engine.freed := fun e => by cases e <;> rfl
  have lines : ∀ p, State.reset.line p = Line.cleared := fun p => by cases p <;> rfl
  have ports : ∀ p, State.reset.port p = PortRecord.cleared := fun p => by cases p <;> rfl
  have unleased : ∀ p, State.reset.engineOf p = none := fun p => by cases p <;> rfl
  refine ⟨Memory.wf_reset, by unfold State.journalOk; decide, fun x => ?_, ?_, ?_, fun _ => ?_, ⟨fun p => ?_, ?_⟩, ?_, ?_,
    by unfold State.prospectOk; decide, by unfold State.budgetOk; decide⟩
  · rcases x with p | _
    · cases p <;> rfl
    · rfl
  · exact ⟨by decide, by decide, by decide, by decide, by decide, by decide⟩
  · exact ⟨by decide, ⟨by decide, by decide⟩, by decide, by decide, by decide, by decide⟩
  · exact ⟨fun _ => ⟨rfl, by decide⟩, rfl, rfl⟩
  · rw [ports]
    refine ⟨?_, ?_⟩
    · cases p <;> rfl
    · unfold PortRecord.consistent
      refine ⟨by decide, by decide, ?_, by decide, by decide⟩
      exact fun h => by cases h
  · exact ⟨rfl, (fun h => by cases h), (fun h => by cases h)⟩
  · refine ⟨fun e => ?_, fun l m h => (by cases h), List.nodup_nil, fun p h => (by cases h),
      fun p h => ?_⟩
    · rw [free]
      exact ⟨fun _ => rfl, fun _ => rfl⟩
    · rw [unleased] at h
      rcases h with h | h <;> cases h
  · refine ⟨fun h => absurd rfl h, fun p h => ?_, .nil, fun e l h => ?_, fun p => ⟨fun _ => ?_, ?_⟩⟩
    · cases p <;> cases h
    · rw [free] at h
      cases h
    · rw [lines]
      exact .inl rfl
    · rw [lines, unleased]
      exact ⟨fun h => (by cases h), fun h => h.elim (fun h => by cases h) fun ⟨e, h, _⟩ => by cases h⟩

/-! ### The budget -/

section
variable {s : State}

theorem State.budget_closed {x : Connector} {k : Contract} (path : s.path.state = .closed x) (live : s.live x = some k) :
    s.budget = budgetOf s.policy x k (s.shifting x) := by
  simp only [State.budget, path, live]

theorem State.pathClosed_iff : s.pathClosed = true ↔ ∃ x, s.path.state = .closed x := by
  unfold State.pathClosed
  cases h : s.path.state <;> simp [PathState.primary]

theorem State.budget_open (h : s.pathClosed = false) : s.budget = 0 := by
  unfold State.budget
  split
  next x closed => exact absurd (State.pathClosed_iff.mpr ⟨x, closed⟩) (by rw [h]; decide)
  next => rfl

theorem State.shifting_iff {x : Connector} :
    s.shifting x = true ↔ ∃ p, x = .line p ∧ (s.port p).state = .shifting := by
  cases x with
  | line p => simp [State.shifting]
  | barrel => simp [State.shifting]

end

/-- A figure derated by at most 256/256 is no greater. -/
theorem derate_le {raw d : Nat} (h : d ≤ 256) : raw * d / 256 ≤ raw :=
  (Nat.div_le_div_right (Nat.mul_le_mul_left raw h)).trans (by omega)

/-- Settles O60. -/
theorem budgetIsDerated : Obligations.BudgetIsDerated := by
  unfold Obligations.BudgetIsDerated
  intro s ok
  refine ⟨fun h => ok.trans (State.budget_open h), ?_⟩
  intro x k path live ceiling raw shifting
  have target : s.reg.spTarget = budgetOf s.policy x k (s.shifting x) := ok.trans (State.budget_closed path live)
  have raw_eq : budgetRaw s.policy x k = raw := by
    simp only [budgetRaw, raw, List.foldl_cons, List.foldl_nil, Policy.ceilingCurrent, ceiling]
    omega
  have least : raw ≤ k.limit ∧ raw ≤ s.policy.pathMax.get x ∧ raw ≤ ceiling := by
    simp only [raw, List.foldl_cons, List.foldl_nil]
    omega
  obtain ⟨limit, pathMax, top⟩ := least
  have still : ¬ shifting → s.reg.spTarget = raw * s.policy.derate / 256 := fun h => by
    rw [target, budgetOf, raw_eq, if_neg fun t => h (State.shifting_iff.mp t)]
  have moving : shifting → s.reg.spTarget = min (raw * s.policy.derate / 256) s.policy.shift := fun h => by
    rw [target, budgetOf, raw_eq, if_pos (State.shifting_iff.mpr h)]
  have derated : s.reg.spTarget ≤ raw * s.policy.derate / 256 := by
    by_cases h : shifting
    · exact (moving h).trans_le (Nat.min_le_left _ _)
    · exact (still h).le
  refine ⟨still, moving, fun h => ?_, fun h => ?_, fun h no => ?_⟩
  · have := derated.trans (derate_le h)
    omega
  · have zero : raw = 0 := by omega
    rw [zero] at derated
    omega
  · rw [still no, h]
    omega

/-! ### Presence (R1, R2, R4) -/

theorem PerConn.set_get {α : Type} (v : PerConn α) (x : Connector) : v.set x (v.get x) = v := by
  rcases x with p | _
  · cases p <;> rfl
  · rfl

/-- Settles O15: a presence edge moves the tracker by its state, and the owner with it. -/
theorem presenceMovesTheTracker : Obligations.PresenceMovesTheTracker := by
  unfold Obligations.PresenceMovesTheTracker
  intro s x
  have asserted : ∀ u, s.assertPresence x = u → leads (.presenceAsserted x) s u := fun u h => h ▸ leads_of_finish rfl
  have removed : ∀ u, s.removePresence x = u → leads (.presenceRemoved x) s u := fun u h => h ▸ leads_of_finish rfl
  refine ⟨⟨fun on state => asserted _ ?_, fun on state => asserted _ ?_, fun h => asserted _ ?_⟩,
    ⟨fun on state => removed _ ?_, fun on state => removed _ ?_, fun h => removed _ ?_⟩⟩
  · simp only [State.assertPresence, State.setPresence, State.withPresence_policy, State.tracker_withPresence, on, state, if_true]
    cases x <;> rfl
  · simp only [State.assertPresence, State.setPresence, State.withPresence_policy, State.tracker_withPresence, on, state, if_true]
    rfl
  · simp only [State.assertPresence, State.setPresence, State.withPresence_policy, State.tracker_withPresence]
    rcases h with off | settling
    · simp only [off, Bool.false_eq_true, if_false]
    · simp only [settling, ite_self]
  · simp only [State.removePresence, State.setPresence, State.withPresence_policy, State.tracker_withPresence, on, state, if_true]
    cases x <;> rfl
  · simp only [State.removePresence, State.setPresence, State.withPresence_policy, State.tracker_withPresence, on, state, if_true]
    cases interval : (s.tracker x).detachInterval with
    | none => rfl
    | some n =>
      have same : (⟨.attached, (s.tracker x).attachInterval, some n⟩ : Tracker) = s.tracker x := by rw [← interval, ← state]
      simp only [Option.isNone_some, Bool.false_eq_true, if_false, Option.getD_some]
      rw [same]
      exact (congrArg (s.withPresence (s.presence.set x false)).withTrackers (PerConn.set_get s.trackers x)).symm
  · simp only [State.removePresence, State.setPresence, State.withPresence_policy, State.tracker_withPresence]
    rcases h with off | empty
    · simp only [off, Bool.false_eq_true, if_false]
    · simp only [empty, ite_self]

end Sys2Proof.Machine
end

section
/-! Measurement and the regulator step: the sequence, the bumpless step, the overdraw guard, the dead-battery flag and
publishing (R124 to R136, R152, R157). -/

namespace Sys2Proof.Machine

section
variable {s t : State} {x : Connector} {k : Contract}

/-! ### Results entered alone (R124, R125) -/

theorem State.enterResult_vsys (s : State) (v : Nat) :
    s.enterResult .vsys v = s.entered { s.meas.table with vsys := rowAfter s.meas.table.vsys v } (some .idd) := by
  simp only [State.enterResult, State.entered, ResultTable.get, ResultTable.set, Channel.following, enter_eq_rowAfter]

theorem State.enterResult_vbat (s : State) (v : Nat) :
    s.enterResult .vbat v = s.entered { s.meas.table with vbat := rowAfter s.meas.table.vbat v } (some .vsys) := by
  simp only [State.enterResult, State.entered, ResultTable.get, ResultTable.set, Channel.following, enter_eq_rowAfter]

theorem State.enterResult_idd (s : State) (v : Nat) :
    s.enterResult .idd v = s.entered { s.meas.table with idd := rowAfter s.meas.table.idd v } none := by
  simp only [State.enterResult, State.entered, ResultTable.get, ResultTable.set, Channel.following, enter_eq_rowAfter]

theorem exec_iinCompletion_open (r : Int) (h : s.pathClosed = false) :
    exec (.iinCompletion r) s = .next (s.enterResult .iin (min 10000 r.toNat)) := by
  have still : ∀ x, s.path.state ≠ .closed x := fun x e => by
    rw [State.pathClosed_iff.mpr ⟨x, e⟩] at h
    cases h
  show execIinCompletion r s = _
  simp only [execIinCompletion]
  split
  next x closed => exact absurd closed (still x)
  next => rfl

end

/-- Settles O18. -/
theorem conversionsOutsideTheRegulator : Obligations.ConversionsOutsideTheRegulator := by
  unfold Obligations.ConversionsOutsideTheRegulator
  refine ⟨fun s => leads_of_records_kept rfl rfl rfl, fun s r => ?_, ?_⟩
  · exact leads_of_records_kept (congrArg _ (s.enterResult_vsys _)) rfl rfl
  · intro s r v u
    refine ⟨fun still => ?_, fun closed off => ?_⟩
    · exact leads_of_records_kept ((exec_iinCompletion_open r still).trans (congrArg _ (s.enterResult_iin v))) rfl rfl
    · obtain ⟨x, path⟩ := State.pathClosed_iff.mp closed
      refine leads_of_records_kept ((exec_iinCompletion_closed r path).trans (congrArg _ ?_)) rfl rfl
      exact if_pos off

/-! ### The bumpless step (R152) -/

theorem Regulator.advance_transfer {g : Regulator} (q : Policy) (pv : Nat) (hm : g.mode = .auto) (ht : g.transfer = true) :
    g.advance q pv = Regulator.transferStep { g with spf := advanceFilter q g.spf g.spTarget } q pv := by
  simp [Regulator.advance, Regulator.compute, hm, ht]

/-- The transfer step where the guard does not trip (R152, R157, R158). -/
theorem Regulator.step_transfer {g : Regulator} {q : Policy} {limit pv : Nat} (hm : g.mode = .auto) (ht : g.transfer = true)
    (quiet : overdrawThreshold q limit < pv → g.overdraw + 1 < 10) :
    g.step q limit pv =
      let spf := advanceFilter q g.spf g.spTarget
      let e : Int := (spf : Int) - pv
      let acc := clampAcc q ((g.output : Int) * 256 - q.kp * e)
      { g with
        spf := spf, iacc := acc, output := piOutput q e acc, transfer := false
        overdraw := if overdrawThreshold q limit < pv then g.overdraw + 1 else 0
        saturation := if piOutput q e acc = q.satHi then counted g.saturation else g.saturation } := by
  rw [Regulator.step_of_not_trips quiet, Regulator.countSaturation_auto q (by simp [hm]),
    Regulator.advance_transfer q pv hm ht]
  rfl

theorem clampInt_of_mem {lo hi v : Int} (h : lo ≤ v ∧ v ≤ hi) : clampInt lo hi v = v := by
  unfold clampInt
  omega

/-- An output that the formula reproduces stays (R152). -/
theorem piOutput_of_mem {q : Policy} {e acc : Int} {out : Nat} (h : q.satLo ≤ out ∧ out ≤ q.satHi)
    (sum : q.kp * e + acc = (out : Int) * 256) : piOutput q e acc = out := by
  rw [piOutput, sum, Int.mul_tdiv_cancel _ (by decide), clampOutput, clampInt_of_mem (by omega), Int.toNat_natCast]

/-- Settles O20: the integral that the transfer step chooses makes the formula give the output there is. -/
theorem iinTransferStepIsBumpless : Obligations.IinTransferStepIsBumpless := by
  unfold Obligations.IinTransferStepIsBumpless
  intro s r x k path live mode transfer range _ v quiet spf acc within
  have on : s.reg.mode ≠ .off := by simp [mode]
  have below : ¬ overdrawThreshold s.policy k.limit < v := Nat.not_lt.mpr quiet
  obtain ⟨-, output⟩ := range
  rw [mode] at output
  obtain ⟨lo, hi, -, -⟩ := output
  have clamped : clampAcc s.policy ((s.reg.output : Int) * 256 - s.policy.kp * ((spf : Int) - v)) = acc :=
    clampInt_of_mem within
  have same : piOutput s.policy ((spf : Int) - v) acc = s.reg.output :=
    piOutput_of_mem ⟨lo, hi⟩ (by simp only [acc]; omega)
  have quietly : overdrawThreshold s.policy k.limit < v → s.reg.overdraw + 1 < 10 := fun h => absurd h below
  have step := Regulator.step_transfer (g := { s.reg with lastPV := v }) (q := s.policy) (limit := k.limit) (pv := v)
    mode transfer quietly
  have filter : advanceFilter s.policy s.reg.spf s.reg.spTarget = spf := rfl
  simp only [filter, clamped, same, if_neg below] at step
  refine ⟨_, (exec_iinCompletion_closed r path).trans (congrArg _ (State.deliverIin_of_not_trips live on quietly)), ?_⟩
  generalize hg : Regulator.step _ _ _ _ = g
  have reg := hg.symm.trans step
  subst reg
  exact ⟨rfl, rfl, rfl, rfl, rfl, rfl, mode, rfl, rfl, rfl, rfl⟩

end Sys2Proof.Machine
end

section
/-! The overdraw guard's trip, the dead-battery flag and the periodic publish (R157, R131, R135, R136). -/

namespace Sys2Proof.Machine

section
variable {s t : State} {x : Connector} {k : Contract}

/-! ### The trip (R157) -/

theorem Regulator.countSaturation_only (g : Regulator) (q : Policy) :
    ∃ sat, g.countSaturation q = { g with saturation := sat } := by
  unfold Regulator.countSaturation
  split
  · exact ⟨_, rfl⟩
  · exact ⟨_, rfl⟩

/-- The step in which the guard trips: the output falls to SATLO (R157). -/
theorem Regulator.step_of_trips {g : Regulator} {q : Policy} {limit pv : Nat} (above : overdrawThreshold q limit < pv)
    (tenth : g.overdraw = 9) :
    ∃ sat, g.step q limit pv =
      { (g.advance q pv).atSatLo q with
        manualTarget := if g.mode = .manual then q.satLo else (g.advance q pv).manualTarget, overdraw := 0
        saturation := sat } := by
  have trips : (g.advance q pv).trips q limit pv = true := by simp [Regulator.trips_iff, above, tenth]
  rw [Regulator.step, Regulator.guard_of_trips trips, Regulator.advance_mode]
  obtain ⟨sat, e⟩ := Regulator.countSaturation_only
    { (g.advance q pv).atSatLo q with
      manualTarget := if g.mode = .manual then q.satLo else (g.advance q pv).manualTarget, overdraw := 0 } q
  exact ⟨sat, e⟩

theorem Regulator.advance_kept (g : Regulator) (q : Policy) (pv : Nat) :
    (g.advance q pv).manualTarget = g.manualTarget ∧ (g.advance q pv).lastPV = g.lastPV := by
  unfold Regulator.advance Regulator.compute
  split
  · split <;> exact ⟨rfl, rfl⟩
  · exact ⟨rfl, rfl⟩
  · exact ⟨rfl, rfl⟩

/-- A record that is written: its entry, the write number, and nothing else of memory (R187). -/
theorem Exchange.putRecord_bytes (x : Exchange) (time : Word) (kind port : Byte) (data : List Byte) :
    (∀ j, j < 16 → readByte (x.putRecord time kind port data).mem (recordAddress (x.written + 1) + j) =
      (recordBytes (x.written + 1) kind port time data).getD j 0) ∧
    readByte (x.putRecord time kind port data).mem 0x400 = byte (x.written + 1).toNat ∧
    readByte (x.putRecord time kind port data).mem 0x401 = byte ((x.written + 1).toNat / 256) ∧
    ∀ a, a < 0x400 ∨ 0x402 ≤ a → (a < recordAddress (x.written + 1) ∨ recordAddress (x.written + 1) + 16 ≤ a) →
      readByte (x.putRecord time kind port data).mem a = readByte x.mem a := by
  refine ⟨x.recordAt_putRecord time kind port data, readByte_writeBlock_inside _ _ (le2 _) 0 (by rw [length_le2]; decide),
    readByte_writeBlock_inside _ _ (le2 _) 1 (by rw [length_le2]; decide), fun a counts entry => ?_⟩
  refine (readByte_writeBlock_outside _ _ _ _ ?_).trans (readByte_writeBlock_outside _ _ _ _ ?_)
  · rw [length_le2, Config.writeNumberAt]
    omega
  · rwa [length_recordBytes]

/-- A record that is withheld: the count and its word (R189). -/
theorem Exchange.withhold_bytes (x : Exchange) :
    readByte x.withhold.mem 0x402 = byte (counted x.withheld) ∧
    readByte x.withhold.mem 0x403 = byte (counted x.withheld / 256) ∧
    ∀ a, a < 0x402 ∨ 0x404 ≤ a → readByte x.withhold.mem a = readByte x.mem a := by
  refine ⟨readByte_writeBlock_inside _ _ (le2 _) 0 (by rw [length_le2]; decide), readByte_writeBlock_inside _ _ (le2 _) 1 (by rw [length_le2]; decide),
    fun a ha => readByte_writeBlock_outside _ _ _ _ ?_⟩
  rw [length_le2, Config.withheldAt]
  omega

/-- The delivery of a sample that trips the guard journals OVERDRAW (R157). -/
theorem State.deliverIin_of_trips {v : Nat} (live : s.live x = some k) (on : s.reg.mode ≠ .off)
    (above : overdrawThreshold s.policy k.limit < v) (tenth : s.reg.overdraw = 9) :
    s.deliverIin x v = (s.withReg (Regulator.step { s.reg with lastPV := v } s.policy k.limit v)).journal 0x0F
      (connectorByteOf x) ([s.reg.mode.code, 0] ++ le2 v ++ le2 (overdrawThreshold s.policy k.limit)) := by
  have trips : (Regulator.advance { s.reg with lastPV := v } s.policy v).trips s.policy k.limit v = true := by
    simp [Regulator.trips_iff, above, tenth]
  unfold State.deliverIin
  rw [if_neg on, State.pathLimit_eq live]
  exact if_pos trips

end

/-- Settles O22. -/
theorem overdrawGuardTrips : Obligations.OverdrawGuardTrips := by
  unfold Obligations.OverdrawGuardTrips
  intro s r x k path live on tenth v thr above n entry data
  obtain ⟨sat, step⟩ := Regulator.step_of_trips (g := { s.reg with lastPV := v }) (q := s.policy) (limit := k.limit)
    (pv := v) above tenth
  obtain ⟨target, last⟩ := Regulator.advance_kept { s.reg with lastPV := v } s.policy v
  refine ⟨_, (exec_iinCompletion_closed r path).trans (congrArg _ (State.deliverIin_of_trips live on above tenth)), ?_⟩
  generalize hg : Regulator.step _ _ _ _ = g
  have reg := hg.symm.trans step
  subst reg
  refine ⟨rfl, rfl, rfl, ?_, ?_, ?_, rfl, fun room => ?_, fun full => ?_, rfl, rfl⟩
  · by_cases m : s.reg.mode = .manual
    · exact (if_pos m).trans (if_pos m).symm
    · exact (if_neg m).trans (target.trans (if_neg m).symm)
  · exact Regulator.advance_mode _ _ _
  · exact last
  · have written : s.exch.submit s.time 0x0F (connectorByteOf x) data = s.exch.putRecord s.time 0x0F (connectorByteOf x) data :=
      if_pos room
    obtain ⟨record, low, high, rest⟩ := s.exch.putRecord_bytes s.time 0x0F (connectorByteOf x) data
    rw [← written] at record low high rest
    refine ⟨?_, record, low, high, rest⟩
    exact written.trans (congrArg (fun m => { s.exch with mem := m, written := n, attn := s.exch.attn ||| causeJournal })
      (congrArg Exchange.mem written).symm)
  · have withheld : s.exch.submit s.time 0x0F (connectorByteOf x) data = s.exch.withhold := if_neg (Nat.not_lt.mpr full)
    obtain ⟨low, high, rest⟩ := s.exch.withhold_bytes
    rw [← withheld] at low high rest
    refine ⟨?_, low, high, rest⟩
    exact withheld.trans (congrArg (fun m => { s.exch with
      mem := m, withheld := counted s.exch.withheld, attn := s.exch.attn ||| causeJournalFull })
      (congrArg Exchange.mem withheld).symm)

/-! ### The dead-battery flag (R131) -/

theorem deadAfter_eq (deadMv : Nat) (dead : Bool) (v : Nat) :
    deadAfter deadMv dead v = decide (deadMv ≠ 0 ∧ if dead = true then v < deadMv + 500 else v < deadMv) := by
  unfold deadAfter
  by_cases none : deadMv = 0
  · simp [none]
  · cases dead <;> simp [none]

/-- Settles O25. -/
theorem vbatDecidesDeadFlag : Obligations.VbatDecidesDeadFlag := by
  unfold Obligations.VbatDecidesDeadFlag
  intro s r v dead table
  have entered : exec (.vbatCompletion r) s = .next ((s.entered table (some .vsys)).setDead dead v) := by
    show execVbatCompletion r s = _
    have flag : deadAfter s.policy.deadMv s.meas.dead v = dead := deadAfter_eq _ _ _
    rw [← flag, ← State.enterResult_vbat]
    rfl
  by_cases same : dead = s.meas.dead
  · have unchanged : (s.entered table (some .vsys)).setDead dead v = s.entered table (some .vsys) := if_pos same.symm
    rw [unchanged] at entered
    exact ⟨⟨_, entered, same.symm, rfl, rfl, rfl, rfl, rfl, fun ne => absurd same ne⟩,
      fun _ => leads_of_records_kept entered rfl rfl⟩
  · have changed : (s.entered table (some .vsys)).setDead dead v = _ := if_neg (Ne.symm same)
    rw [changed] at entered
    obtain ⟨l, follows⟩ := State.goes_settles (held := fun _ => True) (s.entered table (some .vsys))
      ((s.entered table (some .vsys)).deadChange dead v)
    have fixed := follows.fixed
    refine ⟨⟨_, entered, State.dead_of_fixed fixed, State.table_of_fixed fixed, ?_, State.settles_presence _ _,
      State.settles_trackers _ _, State.settles_policy _ _, fun _ => ?_⟩, fun e => absurd e same⟩
    · exact State.settles_barrel _ _
    · have journalled : ((s.entered table (some .vsys)).withMeas { (s.entered table (some .vsys)).meas with dead := dead }).Follows
          true (fun _ => True) _ ((s.entered table (some .vsys)).deadChange dead v) := State.follows_journal _ _ _ _
      exact journalled.journals_of_goes ⟨l, follows⟩ (State.heldIn_all _)

/-! ### Publishing (R135, R136) -/

section
variable {s : State}

/-- The telemetry page after a publish (R190, R192). -/
theorem State.writeTelemetry_bytes (s : State) :
    (∀ i, i < 128 → readByte s.writeTelemetry.exch.mem (0x380 + i) =
      (le2 (s.exch.telemetrySeq + 2).toNat ++ s.telemetryPage).getD i 0) ∧
    ∀ a, a < 0x380 ∨ 0x400 ≤ a → readByte s.writeTelemetry.exch.mem a = readByte s.exch.mem a := by
  refine ⟨fun i hi => readByte_writeBlock_inside _ _ _ i ?_, fun a ha => readByte_writePage_outside _ _ _
    (length_telemetryPage s) (by rw [Config.telemetryBase]; omega)⟩
  rw [List.length_append, length_le2, length_telemetryPage]
  omega

theorem ResultTable.get_emptied (t : ResultTable) (c : Channel) : t.emptied.get c = (t.get c).emptied := by
  cases c with
  | volts x =>
    rcases x with p | _
    · cases p <;> rfl
    · rfl
  | _ => rfl

/-- A publish, field by field (R136, R158). -/
theorem State.publish_eq (s : State) :
    s.publish = { s with
      exch := { s.writeTelemetry.exch with attn := s.exch.attn ||| causeTelemetry }
      meas := { s.meas with table := s.meas.table.emptied }, reg := { s.reg with saturation := 0 } } := by
  cases s
  rfl

theorem exec_periodTimerExpiry {n : Nat} (h : s.meas.periodTimer = some n) :
    exec .periodTimerExpiry s =
      .next (s.publish.withMeas { s.publish.meas with periodTimer := some s.publish.meas.reload }) := by
  show execPeriodTimerExpiry s = _
  simp only [execPeriodTimerExpiry, h]

end

/-- Settles O28. -/
theorem periodExpiryPublishes : Obligations.PeriodExpiryPublishes := by
  unfold Obligations.PeriodExpiryPublishes
  intro s n h
  obtain ⟨page, rest⟩ := s.writeTelemetry_bytes
  refine ⟨_, exec_periodTimerExpiry h, ?_⟩
  rw [State.publish_eq]
  exact ⟨page, rest, rfl, rfl, rfl, rfl, s.meas.table.get_emptied, rfl, rfl, rfl, rfl, rfl⟩

end Sys2Proof.Machine
end

section
/-! The host's reads and writes of memory and of the registers (R176 to R178, R180), and the bits on the wire (10.1). -/

namespace Sys2Proof.Machine

section
variable {s : State}

/-! ### Memory (R176, R180) -/

theorem readOut_eq (m : List Host.Cell) (addr : Half) (n : Nat) :
    readOut m addr n = [0, 0, 0, 0] ++ (List.range n).map fun i => readByte m ((addr.toNat + i) % 2048) := by
  rw [readOut, (fetchBytes_eq m addr 0 n).1]
  simp only [Nat.zero_add]
  rfl

/-- A MEM_WRITE that stores no byte of the release word stores its bytes and marks slots (R176, R180). -/
theorem Exchange.memWrite_of_no_release (x : Exchange) {addr : Half} {data : List Byte} (time : Word)
    (fits : data.length ≤ 2048)
    (misses : ∀ i, i < data.length → (addr.toNat + i) % 2048 ≠ 0x404 ∧ (addr.toNat + i) % 2048 ≠ 0x405) :
    ∃ slots : Vector Slot 8,
      (∀ k : Fin 8, slots[k.val] =
        { x.slot k with mark := (x.slot k).mark || storedAt addr data.length (slotAddress k) }) ∧
      x.memWrite addr data time = { x with mem := storeBytes x.mem addr 0 data, slots := slots } := by
  have away : ¬ (storedAt addr data.length Config.releaseAt || storedAt addr data.length (Config.releaseAt + 1)) = true := by
    rw [Bool.or_eq_true, storedAt_iff addr fits (by decide), storedAt_iff addr fits (by decide)]
    rintro (⟨i, hi, e⟩ | ⟨i, hi, e⟩)
    · exact (misses i hi).1 e
    · exact (misses i hi).2 e
  have rest := Exchange.markStored_rest { x with mem := storeBytes x.mem addr 0 data } addr data.length
  refine ⟨_, Exchange.slot_markStored { x with mem := storeBytes x.mem addr 0 data } addr data.length, ?_⟩
  exact (if_neg away).trans rest

theorem append_eq_of_bytes (high low : Byte) :
    byte ((high ++ low : Half).toNat / 256) = high ∧ byte (high ++ low : Half).toNat = low := by
  have sum : (high ++ low : Half).toNat = high.toNat * 256 + low.toNat := by
    rw [BitVec.toNat_append, ← Nat.shiftLeft_add_eq_or_of_lt low.isLt, Nat.shiftLeft_eq]
  have := low.isLt
  have := high.isLt
  refine ⟨BitVec.eq_of_toNat_eq ?_, BitVec.eq_of_toNat_eq ?_⟩ <;> rw [byte, BitVec.toNat_ofNat, sum] <;> omega

end

/-- Settles O43. -/
theorem memoryReadsAndWrites : Obligations.MemoryReadsAndWrites := by
  unfold Obligations.MemoryReadsAndWrites
  refine ⟨fun s addr n => ?_, fun s addr data fits misses => ?_, fun s high low host data v => ?_⟩
  · exact ⟨_, (exec_spi s).1 addr n, readOut_eq _ _ _, rfl⟩
  · obtain ⟨slots, marks, write⟩ := s.exch.memWrite_of_no_release s.time fits misses
    refine ⟨_, ((exec_spi s).2.1 addr data).trans (by rw [write]), fun i hi => ?_, fun a away => ?_, fun k => ?_, fun k => ?_,
      rfl⟩
    · have inside := readByte_storeBytes_inside s.exch.mem addr 0 data fits i hi
      rwa [Nat.zero_add] at inside
    · exact readByte_storeBytes_outside _ _ 0 data a fun i hi => by rw [Nat.zero_add]; exact away i hi
    · have inside := (slotAddress_bounds k).2
      show slots[k.val].mark = true ↔ _
      rw [marks, Bool.or_eq_true, storedAt_iff addr fits (by omega)]
      rfl
    · show slots[k.val].copy = _ ∧ slots[k.val].req = _
      rw [marks]
      exact ⟨rfl, rfl⟩
  · obtain ⟨hi, lo⟩ := append_eq_of_bytes high low
    refine ⟨?_, ?_, rfl, rfl, rfl⟩
    · rw [(exec_spi s).1, State.transact]
      have read : readTransaction ([0xA1, high, low, 0] ++ host) = .memRead (high ++ low) := rfl
      have out : s.shiftedOut ([0xA1, high, low, 0] ++ host) = readOut s.exch.mem (high ++ low) host.length := by
        simp only [State.shiftedOut, read, List.length_append, List.length_cons, List.length_nil]
        rw [List.take_of_length_le]
        · congr 1
          omega
        · simp only [readOut, List.length_append, List.length_replicate, length_fetchBytes]
          omega
      rw [read, out]
    · show Host.Outcome.next (s.transact (memWriteBytes (high ++ low) data)) = _
      rw [memWriteBytes, hi, lo]
      rfl

/-! ### Registers (R176, R177, R178) -/

/-- Two paddings that are both long enough show the same bytes. -/
theorem take_padding (l : List Byte) {a b n : Nat} (ha : n ≤ l.length + a) (hb : n ≤ l.length + b) :
    (l ++ List.replicate a 0).take n = (l ++ List.replicate b 0).take n := by
  rw [List.take_append, List.take_append, List.take_replicate, List.take_replicate, Nat.min_eq_left (by omega),
    Nat.min_eq_left (by omega)]

theorem le4_wordOf (b0 b1 b2 b3 : Byte) : le4 (wordOf b0 b1 b2 b3).toNat = [b0, b1, b2, b3] := by
  have sum : (wordOf b0 b1 b2 b3).toNat = ((b3.toNat * 256 + b2.toNat) * 256 + b1.toNat) * 256 + b0.toNat := by
    have step : ∀ {w : Nat} (x : BitVec w) (b : Byte), (x ++ b).toNat = x.toNat * 256 + b.toNat := fun x b => by
      rw [BitVec.toNat_append, ← Nat.shiftLeft_add_eq_or_of_lt b.isLt, Nat.shiftLeft_eq]
    simp only [wordOf, step]
  have := b0.isLt
  have := b1.isLt
  have := b2.isLt
  have := b3.isLt
  have bytes : ∀ n (b : Byte), n % 256 = b.toNat → byte n = b := fun n b h =>
    BitVec.eq_of_toNat_eq (by rwa [byte, BitVec.toNat_ofNat])
  simp only [le4, le2, List.cons_append, List.nil_append, sum]
  rw [bytes _ b0 (by omega), bytes _ b1 (by omega), bytes _ b2 (by omega), bytes _ b3 (by omega)]

theorem le4_small {n : Nat} (h : n < 256) : le4 n = [byte n, 0, 0, 0] := by
  have zero : ∀ d, 0 < d → byte (n / 256 / d) = 0 := fun d _ => by rw [Nat.div_eq_of_lt h, Nat.zero_div]; rfl
  simp only [le4, le2, List.cons_append, List.nil_append, Nat.div_eq_of_lt h, Nat.div_eq_of_lt (show n < 65536 by omega)]
  rfl

/-- What a REG_READ shifts out: the register's four bytes after the turnaround, then 0x00 (R176). -/
theorem State.shiftedOut_regRead (s : State) (reg turn : Byte) (host : List Byte) :
    s.shiftedOut ([0xB1, reg, turn] ++ host) =
      (([0, 0, 0] ++ le4 (s.readRegister reg).toNat ++ List.replicate host.length 0).take (3 + host.length)) := by
  have read : readTransaction ([0xB1, reg, turn] ++ host) = .regRead reg := rfl
  have len : ([0xB1, reg, turn] ++ host).length = 3 + host.length := by
    simp only [List.length_append, List.length_cons, List.length_nil]
  simp only [State.shiftedOut, read, len]
  have seven : (List.replicate 3 (0 : Byte) ++ le4 (s.readRegister reg).toNat).length = 7 := by
    rw [List.length_append, length_le4]
    rfl
  exact take_padding _ (by omega) (by omega)

theorem State.readRegister_of_large (s : State) {reg : Byte} (h : 4 ≤ reg.toNat) : s.readRegister reg = 0 := by
  unfold State.readRegister
  split <;> first | omega | rfl

/-- A register write that the part ignores changes nothing (R177). -/
theorem State.writeRegister_of_ignored (s : State) {reg : Byte} {v : Word} (h : ignoredWrite reg v = true) :
    s.writeRegister reg v = s := by
  unfold ignoredWrite at h
  simp only [Bool.or_eq_true, Bool.and_eq_true, decide_eq_true_eq] at h
  unfold State.writeRegister
  split
  next e => omega
  next e => omega
  next e => exact if_neg (by rcases h with (h | h) | h <;> [omega; omega; exact h.2])
  next => rfl

/-- 0x00 is shifted out under the operation and the number of a REG_WRITE (R176). -/
theorem State.shiftedOut_regWrite (s : State) (reg : Byte) (data : List Byte) :
    (s.shiftedOut ([0xB2, reg] ++ data)).take 2 = [0, 0] := by
  match data with
  | [] => rfl
  | [_] => rfl
  | [_, _] => rfl
  | [_, _, _] => rfl
  | _ :: _ :: _ :: _ :: _ => rfl

/-- STATUS's first byte (R177). -/
theorem State.status_flags (s : State) :
    byte (s.origin.code.toNat + bit s.meas.dead 1 + 4 * s.meas.mode.code) =
      BitVec.ofNat 8 ((if s.origin = .adopted then 1 else 0) + (if s.meas.dead = true then 2 else 0) +
        (if s.meas.periodTimer ≠ none then 8 else if s.meas.singlePending = true then 4 else 0)) := by
  have origin : s.origin.code.toNat = if s.origin = .adopted then 1 else 0 := by cases s.origin <;> rfl
  have dead : bit s.meas.dead 1 = if s.meas.dead = true then 2 else 0 := rfl
  have mode : 4 * s.meas.mode.code =
      if s.meas.periodTimer ≠ none then 8 else if s.meas.singlePending = true then 4 else 0 := by
    unfold Measurement.mode
    cases s.meas.periodTimer <;> cases s.meas.singlePending <;> rfl
  rw [origin, dead, mode, byte]

/-! ### The wire (10.1) -/

theorem wireBytes_short {cut : List Bool} (h : cut.length < 8) : wireBytes cut = [] := by
  unfold wireBytes
  split
  next => simp only [List.length_cons] at h; omega
  next => rfl

/-- Eight bits of a byte, least significant first, are the byte. -/
theorem byte_bitsByte (b : Byte) :
    byte (bitsByte [b.getLsbD 0, b.getLsbD 1, b.getLsbD 2, b.getLsbD 3, b.getLsbD 4, b.getLsbD 5, b.getLsbD 6,
      b.getLsbD 7]) = b := by
  have digit : ∀ i, (if b.getLsbD i = true then 1 else 0) = b.toNat / 2 ^ i % 2 := fun i => by
    simp only [BitVec.getLsbD, Nat.testBit_eq_decide_div_mod_eq, decide_eq_true_eq]
    split <;> omega
  have := b.isLt
  refine BitVec.eq_of_toNat_eq ?_
  simp only [bitsByte, digit, byte, BitVec.toNat_ofNat]
  omega

theorem wireBytes_bits (bytes : List Byte) {cut : List Bool} (h : cut.length < 8) :
    wireBytes ((bytes.flatMap fun b => (List.range 8).map fun i => b.getLsbD (7 - i)) ++ cut) = bytes := by
  induction bytes with
  | nil => exact wireBytes_short h
  | cons b bytes ih =>
    rw [List.flatMap_cons, List.append_assoc]
    exact congrArg₂ List.cons (byte_bitsByte b) ih

/-- A transaction that is not one of the four, or ends before its address, number or value, is ignored (R176). -/
theorem readTransaction_ignored {bytes : List Byte}
    (h : ∀ op, bytes.head? = some op → op ≠ 0xA1 ∧ op ≠ 0xA2 ∧ op ≠ 0xB1 ∧ op ≠ 0xB2 ∨ bytes.length < 2 ∨
      bytes.length < 3 ∧ op ≠ 0xB1 ∨ bytes.length < 6 ∧ op = 0xB2) : readTransaction bytes = .ignored := by
  match bytes with
  | [] => rfl
  | [op] => rfl
  | op :: x :: rest =>
    have h := h op rfl
    simp only [List.length_cons] at h
    have noRead : op ≠ opRegRead := fun e => by
      subst e
      rcases h with h | h | h | h
      · exact h.2.2.1 rfl
      · omega
      · exact h.2 rfl
      · exact absurd h.2 (by decide)
    simp only [readTransaction, if_neg noRead]
    split
    next write =>
      match rest with
      | [] => rfl
      | [_] => rfl
      | [_, _] => rfl
      | [_, _, _] => rfl
      | _ :: _ :: _ :: _ :: _ =>
        subst write
        simp only [List.length_cons] at h
        rcases h with h | h | h | h
        · exact absurd rfl h.2.2.2
        all_goals omega
    next other =>
      match rest with
      | [] => rfl
      | low :: data =>
        simp only [List.length_cons] at h
        rcases h with h | h | h | h
        · simp only [if_neg (show op ≠ opMemRead from h.1), if_neg (show op ≠ opMemWrite from h.2.1)]
        · omega
        · omega
        · exact absurd h.2 other

/-- Settles O45. -/
theorem registerWrites : Obligations.RegisterWrites := by
  unfold Obligations.RegisterWrites
  refine ⟨fun s v => ?_, fun s v => ?_, fun s reg v fine => ?_, ?_, fun s bytes h => ?_, fun s high low reg data => ?_,
    fun s bytes cut h => ?_⟩
  · refine ⟨_, (exec_spi s).2.2.1 v, rfl, fun i hi => ?_⟩
    show (clearCauses s.exch.attn v).getLsbD i = _
    simp [clearCauses, hi]
  · refine ⟨_, (exec_spi s).2.2.2.1 v, rfl, fun i hi => ?_, ?_⟩
    · show (v.truncate 7).getLsbD i = _
      simp [hi]
    · show decide (s.exch.attn &&& v.truncate 7 = 0) = false ↔ _
      rw [decide_eq_false_iff_not]
      constructor
      · intro some
        by_contra none
        refine some (BitVec.eq_of_getLsbD_eq fun i hi => ?_)
        by_contra bit
        refine none ⟨i, hi, ?_⟩
        simpa [hi] using bit
      · rintro ⟨i, hi, attn, mask⟩ zero
        have bit : (s.exch.attn &&& v.truncate 7).getLsbD i = true := by
          rw [BitVec.getLsbD_and, attn, BitVec.getLsbD_setWidth, mask, decide_eq_true hi]
          rfl
        exact Bool.false_ne_true (BitVec.getLsbD_zero.symm.trans (zero ▸ bit))
  · rw [(exec_spi s).2.2.2.2.2, s.writeRegister_of_ignored fine]
  · intro s reg turn host value
    have shows : ∀ bytes, le4 (s.readRegister reg).toNat = bytes → value bytes := fun bytes h =>
      (s.shiftedOut_regRead reg turn host).trans (by rw [h])
    refine ⟨fun h => shows _ ?_, fun h => shows _ ?_, fun h => shows _ ?_, fun h => shows _ ?_, fun h => shows _ ?_, ?_⟩
    · subst h
      exact le4_wordOf _ _ _ _
    · subst h
      exact (le4_wordOf _ _ _ _).trans (by rw [State.status_flags])
    · subst h
      have small := s.exch.attn.isLt
      have same : (s.readRegister 2).toNat = s.exch.attn.toNat := by
        show (s.exch.attn.zeroExtend 32).toNat = _
        rw [BitVec.toNat_setWidth, Nat.mod_eq_of_lt (by omega)]
      rw [same, le4_small (by omega)]
      rfl
    · subst h
      have small := s.exch.mask.isLt
      have same : (s.readRegister 3).toNat = s.exch.mask.toNat := by
        show (s.exch.mask.zeroExtend 32).toNat = _
        rw [BitVec.toNat_setWidth, Nat.mod_eq_of_lt (by omega)]
      rw [same, le4_small (by omega)]
      rfl
    · rw [State.readRegister_of_large s h]
      rfl
    · rfl
  · have ignored := readTransaction_ignored h
    simp only [State.transact, State.shiftedOut, ignored, and_self]
  · exact ⟨rfl, s.shiftedOut_regWrite reg data⟩
  · rw [State.transfer, wireBytes_bits bytes h]

end Sys2Proof.Machine
end

section
/-! How an invariant of the whole machine is proved: the events a command can be, one by one. -/

namespace Sys2Proof.Machine

/-! ### Predicates that do not look at the Exchange Unit -/

/-- A predicate that any change of the Exchange Unit keeps. -/
def Blind (P : State → Prop) : Prop := ∀ (s : State) (x : Exchange), P s → P (s.withExch x)

section
variable {P : State → Prop} (blind : Blind P) {s t : State}
include blind

theorem Blind.rewritePage {x : Connector} (h : P s) : P (s.rewritePage x) := blind s _ h

theorem Blind.finish (h : P t) : P (s.finish t) :=
  State.finish_induction P s t h fun u x hu => by
    rcases State.refreshPage_cases s u x with ⟨-, e⟩ | ⟨-, e⟩ <;> rw [e]
    · exact blind u _ hu
    · exact hu

theorem Blind.journal {k b : Byte} {d : List Byte} (h : P s) : P (s.journal k b d) := blind s _ h

theorem Blind.raise {c : BitVec 7} (h : P s) : P (s.raise c) := blind s _ h

theorem Blind.complete {k : Fin 8} {c : ResultCode} {d : List Byte} (h : P s) : P (s.complete k c d) := blind s _ h

theorem Blind.writeTelemetry (h : P s) : P s.writeTelemetry := blind s _ h

theorem Blind.writeDraft (h : P s) : P s.writeDraft := blind s _ h

/-- The page rewrites that end an event do not matter. -/
theorem Blind.concludes {pages : Bool} (h : P (s.report t)) : P (s.concludes pages t) := by
  rcases State.concludes_cases pages s t with ⟨-, e⟩ | ⟨-, e⟩ <;> rw [e]
  · exact blind.finish h
  · exact h

/-- A predicate that every dispatched request keeps is kept by the checks before it. -/
theorem Blind.checkRequest {k : Fin 8} {r : Request} (dispatch : ∀ (u : State) kind, P u → P (u.dispatch k r kind)) (h : P s) :
    P (s.checkRequest k r) := by
  unfold State.checkRequest
  split
  · exact blind.complete h
  · split
    · exact blind.complete h
    · split
      · exact blind.complete h
      · exact dispatch s _ h

/-- A predicate that every dispatched request keeps is kept by an examination. -/
theorem Blind.examine {k : Fin 8} (dispatch : ∀ (u : State) r kind, P u → P (u.dispatch k r kind)) (h : P s) :
    P (s.examine k) := by
  have cleared : P (s.withExch (s.exch.clearMark k)) := blind s _ h
  unfold State.examine
  generalize s.withExch (s.exch.clearMark k) = v at cleared
  cases examined (s.exch.slot k).copy (readByte s.exch.mem (slotAddress k)) with
  | nothing => exact cleared
  | take => exact blind.checkRequest (fun u kind => dispatch u _ kind) (blind v _ cleared)
  | giveBack => exact blind v _ cleared
  | misuse => exact blind v _ cleared

theorem Blind.readerStep (dispatch : ∀ (u : State) k r kind, P u → P (u.dispatch k r kind)) (h : P s) : P s.readerStep := by
  unfold State.readerStep
  split
  · exact blind.examine (fun u => dispatch u _) h
  · exact h

theorem Blind.request (dispatch : ∀ (u : State) k r kind, P u → P (u.dispatch k r kind)) {q : Posting} {kind : Byte}
    {args : List Byte} (h : P s) : P (s.request q kind args) := by
  have posted : P (s.withExch (s.exch.post q kind args)) := blind s _ h
  unfold State.request State.readSlots
  generalize s.withExch (s.exch.post q kind args) = v at posted
  generalize slotIds.filter (fun k => decide (k ≤ q.slot)) = l
  induction l generalizing v with
  | nil => exact posted
  | cons k l ih =>
    refine ih _ ?_
    dsimp only
    split
    · exact blind.examine (fun u => dispatch u k) posted
    · exact posted

/-- The host's transactions act on the Exchange Unit alone, but for a restart. -/
theorem Blind.regWrite (restart : P s → P s.restart) {reg : Byte} {v : Word} (h : P s) :
    P (s.transact (regWriteBytes reg v)) := by
  rw [State.transact_regWrite]
  unfold State.writeRegister
  split
  · exact blind s _ h
  · exact blind s _ h
  · split
    · exact restart h
    · exact h
  · exact h

theorem Blind.memRead {addr : Half} {n : Nat} (h : P s) : P (s.transact (memReadBytes addr n)) := by
  rw [State.transact_memRead]
  exact blind s _ h

theorem Blind.memWrite {addr : Half} {data : List Byte} (h : P s) : P (s.transact (memWriteBytes addr data)) := by
  rw [State.transact_memWrite]
  exact blind s _ h

/-- The steps of a restart: the blocks, the evaluation, the calls for selection; the rest is the Exchange Unit's. -/
theorem Blind.restart (evaluated : P (s.settlesWithin s.restartBlocks.evaluate))
    (call : ∀ (u : State) p, P u → P (u.portEventWithin p (u.callSelection p))) : P s.restart := by
  have called : ∀ (l : List LinePort) (u : State), P u → P (l.foldl s.restartCall u) := by
    intro l
    induction l with
    | nil => exact fun u h => h
    | cons p l ih =>
      intro u h
      refine ih _ ?_
      unfold State.restartCall
      split
      · exact call u p h
      · exact h
  have rewritten : ∀ (l : List Connector) (u : State), P u → P (l.foldl (fun v x => v.rewritePage x) u) := by
    intro l
    induction l with
    | nil => exact fun u h => h
    | cons x l ih => exact fun u h => ih _ (blind u _ h)
  exact blind.writeTelemetry (rewritten connectors _ (blind.writeDraft (called linePorts _ evaluated)))

/-- The publish that single pending causes, with the completions of every waiting SINGLE. -/
theorem Blind.publishSingle (publish : P s → P s.publish)
    (ended : ∀ u : State, P u → P (u.withMeas { u.meas with singlePending := false, singles := [] }))
    (h : P s) : P s.publishSingle := by
  have completed : ∀ (l : List (Fin 8)) (u : State), P u → P (l.foldl (fun u k => u.complete k .ok u.meas.data) u) := by
    intro l
    induction l with
    | nil => exact fun u h => h
    | cons k l ih => exact fun u h => ih _ (blind u _ h)
  unfold State.publishSingle
  split
  · exact completed _ _ (ended _ (publish h))
  · exact h

end

/-! ### The work of the terms line -/

section
variable {s t u : State}

/-- The part of a port record that the terms line and the engines leave alone. -/
def PortRecord.sansLine (r : PortRecord) : PortRecord := { r with slot := none, tagCounter := 0, missedHail := 0, badFrame := 0 }

/-- What the terms line and the engines make of a state: lines, engines and queue; of each port record only that its frame
leaves the slot, the tag counter moves on within its range, and missed hails and bad frames are counted. -/
structure State.Lined (s t : State) : Prop where
  rest : ((((t.withLines s.lines).withEngines s.engines).withQueue s.queue).withPorts s.ports) = s
  port : ∀ p, (t.port p).sansLine = (s.port p).sansLine
  slot : ∀ p, (t.port p).slot = (s.port p).slot ∨ (t.port p).slot = none
  counter : ∀ p, (s.port p).tagCounter < 7 → (t.port p).tagCounter < 7

theorem State.Lined.refl (s : State) : s.Lined s := ⟨rfl, fun _ => rfl, fun _ => .inl rfl, fun _ => id⟩

theorem State.Lined.trans (h : s.Lined t) (k : t.Lined u) : s.Lined u where
  rest := by
    have hr := h.rest
    have kr := k.rest
    rw [← hr, ← kr]
    rfl
  port p := (k.port p).trans (h.port p)
  slot p := by
    rcases k.slot p with e | e
    · exact e ▸ h.slot p
    · exact .inr e
  counter p hp := k.counter p (h.counter p hp)

theorem State.Served.lined (h : s.Served t) : s.Lined t where
  rest := h.rest
  port p := by
    have := congrArg PortRecord.sansLine (h.port p)
    exact this
  slot := h.slot
  counter := h.counter

theorem State.Lined.barrel (h : s.Lined t) : t.barrel = s.barrel := (congrArg State.barrel h.rest :)
theorem State.Lined.path (h : s.Lined t) : t.path = s.path := (congrArg State.path h.rest :)
theorem State.Lined.meas (h : s.Lined t) : t.meas = s.meas := (congrArg State.meas h.rest :)
theorem State.Lined.reg (h : s.Lined t) : t.reg = s.reg := (congrArg State.reg h.rest :)
theorem State.Lined.policy (h : s.Lined t) : t.policy = s.policy := (congrArg State.policy h.rest :)
theorem State.Lined.trackers (h : s.Lined t) : t.trackers = s.trackers := (congrArg State.trackers h.rest :)
theorem State.Lined.prospect (h : s.Lined t) : t.prospect = s.prospect := (congrArg State.prospect h.rest :)

/-- A field of a port record that the terms line leaves alone. -/
theorem State.Lined.field {α : Type} (h : s.Lined t) (p : LinePort) (f : PortRecord → α)
    (keeps : ∀ r, f r = f r.sansLine) : f (t.port p) = f (s.port p) := by
  rw [keeps, h.port, ← keeps]

theorem State.lined_countBadFrame (s : State) (p : LinePort) : s.Lined (s.countBadFrame p) := by
  refine ⟨rfl, fun q => ?_, fun q => ?_, fun q => ?_⟩ <;>
  · by_cases e : q = p
    · subst e
      simp only [State.countBadFrame, State.port_setPort_self, PortRecord.sansLine, true_or, imp_self]
    · simp only [State.countBadFrame, State.port_setPort_of_ne _ _ e, true_or, imp_self]

theorem State.lined_setLine (s : State) (p : LinePort) (l : Line) : s.Lined (s.setLine p l) := (State.served_setLine s p l).lined

theorem State.lined_setEngine (s : State) (e : EngineId) (g : Engine) : s.Lined (s.setEngine e g) :=
  (State.served_setEngine s e g).lined

theorem State.lined_breakFrame (s : State) (p : LinePort) : s.Lined (s.breakFrame p) :=
  ((State.lined_setLine s p _).trans (State.lined_countBadFrame _ p)).trans (State.served_endLeaseOf _ p).lined

theorem State.lined_endStray (s : State) (p : LinePort) : s.Lined (s.endStray p) := by
  unfold State.endStray
  dsimp only
  have ended := State.lined_setLine s p ((s.line p).enter .idle)
  split
  · exact ended.trans (State.served_lineFreed _ p).lined
  · exact (ended.trans (State.lined_countBadFrame _ p)).trans (State.served_lineFreed _ p).lined

theorem State.lined_takePulse (s : State) (p : LinePort) (time : Nat) : s.Lined (s.takePulse p time) := by
  have noted := (State.served_notePulse s p time).lined
  unfold State.takePulse
  dsimp only
  split
  · split
    · exact (State.served_hailSeen s p time).lined
    · exact State.lined_setLine s p _
  · exact noted
  · exact .refl s
  · exact ((noted.trans (State.lined_setLine _ p _)).trans (State.served_countMissedHail _ p).lined).trans
      (State.served_endLeaseOf _ p).lined
  · exact noted.trans (State.lined_breakFrame _ p)
  · exact noted.trans (State.lined_endStray _ p)

theorem State.lined_takeStart (s : State) (p : LinePort) : s.Lined (s.takeStart p) := by
  unfold State.takeStart
  split
  · split
    · exact (State.lined_setEngine s _ _).trans (State.lined_setLine _ p _)
    · exact .refl s
  · exact State.lined_breakFrame s p
  · exact State.lined_setLine s p _
  · exact State.lined_setLine s p _
  · exact .refl s
  · exact .refl s

theorem State.lined_takeData (s : State) (p : LinePort) (v : Byte) : s.Lined (s.takeData p v) := by
  unfold State.takeData
  dsimp only
  split
  · split
    · split
      · exact State.lined_setEngine s _ _
      · exact ((State.lined_setLine s p _).trans (State.lined_countBadFrame _ p)).trans (State.served_endLease _ _ p).lined
    · exact .refl s
  · exact State.lined_breakFrame s p
  · split
    · exact .refl s
    · split
      · exact State.lined_endStray s p
      · exact State.lined_setLine s p _
  · exact .refl s
  · exact .refl s
  · exact .refl s

theorem State.lined_takeError (s : State) (p : LinePort) : s.Lined (s.takeError p) := by
  unfold State.takeError
  split
  · exact State.lined_breakFrame s p
  · exact State.lined_breakFrame s p
  · exact .refl s

theorem State.lined_takeSilence (s : State) (p : LinePort) : s.Lined (s.takeSilence p) := by
  unfold State.takeSilence
  split
  · exact State.lined_breakFrame s p
  · exact .refl s

theorem State.lined_takeStraySilence (s : State) (p : LinePort) : s.Lined (s.takeStraySilence p) := by
  unfold State.takeStraySilence
  split
  · exact State.lined_endStray s p
  · exact .refl s

/-! ### The events of the blocks -/

/-- An event of the Negotiation Unit on a port, but for an attach, a detach and what the line brings. -/
inductive State.PortWork (s : State) (p : LinePort) : State → Prop
  | tenderTimeout (asking : (s.port p).state = .asking) : PortWork s p (s.tenderTimeout p)
  | claimTimeout (claimed : (s.port p).state = .claimed) : PortWork s p (s.claimTimeout p)
  | settleTimeout (shifting : (s.port p).state = .shifting) : PortWork s p (s.enterFaulted p .noSettle)
  | lapse (running : (s.port p).lapseTimer = true) : PortWork s p (s.lapse p)
  | droop : PortWork s p (s.portDroop p)
  | refresh (k : Fin 8) (there : (s.port p).negotiating = true) : PortWork s p (s.portRefresh p k)
  | pin (k : Fin 8) (n : Pin) (there : (s.port p).negotiating = true) : PortWork s p (s.portPin p k n)
  | unpin (k : Fin 8) (there : (s.port p).negotiating = true) : PortWork s p (s.portUnpin p k)
  | hold (k : Fin 8) (there : (s.port p).negotiating = true) :
    PortWork s p ((s.setPort p { s.port p with held := true }).complete k .ok [])
  | resume (k : Fin 8) (there : (s.port p).negotiating = true) :
    PortWork s p (((s.setPort p { s.port p with held := false }).complete k .ok []).callSelection p)
  | releaseFaulted (k : Fin 8) (faulted : (s.port p).state = .faulted) : PortWork s p (s.releaseFaulted k p)
  | release (k : Fin 8) (there : (s.port p).negotiating = true) (sound : (s.port p).state ≠ .faulted) :
    PortWork s p (s.portRelease p k)

/-- An event of the barrel machine, but for an attach and a detach. -/
inductive State.BarrelWork (s : State) : State → Prop
  | sample (v : Nat) (identifying : s.barrel.state = .identifying) : BarrelWork s (s.barrelSample v)
  | droop : BarrelWork s s.barrelDroop
  | refresh (k : Fin 8) (there : s.barrel.present = true) : BarrelWork s (s.barrelRefresh k)
  | release (k : Fin 8) (there : s.barrel.present = true) : BarrelWork s (s.barrelRelease k)

/-- An event of the Path Controller. -/
inductive State.PathWork (s : State) : State → Prop
  | softStart (y : Connector) (closing : s.path.state = .closing y) : PathWork s (s.softStartEnds y)
  | check (y : Connector) (v : Nat) (closing : s.path.state = .closing y) : PathWork s (s.closeCheck y v)
  | breakEnds (y : Connector) (opening : s.path.state = .opening y) : PathWork s s.breakEnds
  | primary (k : Fin 8) (x : Option Connector) : PathWork s (s.takePrimary k x).evaluate

/-- The commands of the terms line that do not reach the Negotiation Unit. -/
def lineWork : Instr → Bool
  | .hailPulse _ _ => true
  | .hailWithdrawn _ => true
  | .heedEnd _ => true
  | .heedWaitExpiry _ => true
  | .startDelimiter _ => true
  | .dataSymbol _ _ => true
  | .lineError _ => true
  | .lineSilence _ => true
  | .straySilence _ => true
  | _ => false

/-- Such a command is work of the terms line, ended by the page rewrites. -/
theorem exec_lined {c : Instr} (hc : lineWork c = true) (h : exec c s = .next t) : ∃ u, s.Lined u ∧ t = s.finish u := by
  have attached : ∀ p u, s.Lined u → s.Lined (s.ifAttached p u) := fun p u hu => by
    unfold State.ifAttached
    split
    · exact hu
    · exact .refl s
  cases c with
  | hailPulse p time => cases h; exact ⟨_, attached p _ (State.lined_takePulse s p time), rfl⟩
  | hailWithdrawn p => cases h; exact ⟨_, attached p _ (State.served_withdrawHail s p).lined, rfl⟩
  | heedEnd p => cases h; exact ⟨_, (State.served_endHeed s p).lined, rfl⟩
  | heedWaitExpiry p => cases h; exact ⟨_, (State.served_endHeedWait s p).lined, rfl⟩
  | startDelimiter p => cases h; exact ⟨_, attached p _ (State.lined_takeStart s p), rfl⟩
  | dataSymbol p v => cases h; exact ⟨_, attached p _ (State.lined_takeData s p v), rfl⟩
  | lineError p => cases h; exact ⟨_, attached p _ (State.lined_takeError s p), rfl⟩
  | lineSilence p => cases h; exact ⟨_, attached p _ (State.lined_takeSilence s p), rfl⟩
  | straySilence p => cases h; exact ⟨_, attached p _ (State.lined_takeStraySilence s p), rfl⟩
  | _ => cases hc

end

/-! ### An invariant of the machine -/

/-- A predicate that the events keep, one field for each kind of event. -/
structure Invariant (P : State → Prop) : Prop where
  blind : Blind P
  pending : ∀ s l, P s → P (s.withPending l)
  meas : ∀ (s : State) m, m.dead = s.meas.dead → P s → P (s.withMeas m)
  presence : ∀ s v, P s → P (s.withPresence v)
  time : ∀ s v, P s → P (s.withTime v)
  latestVD : ∀ s v, P s → P (s.withLatestVD v)
  saturation : ∀ (s : State) n, P s → P (s.withReg { s.reg with saturation := n })
  line : ∀ c s t, lineWork c = true → exec c s = .next t → P s → P t
  badFrame : ∀ s p, s.attached (.line p) = true → (s.line p).cond = .heeded ∨ (s.line p).cond = .receiving → P s →
    P (s.breakFrame p)
  stray : ∀ s p, s.attached (.line p) = true → (s.line p).cond = .stray → P s → P (s.endStray p)
  received : ∀ s p e tag f, s.attached (.line p) = true → (s.line p).cond = .receiving → s.engineOf p = some e → P s →
    P (s.settles (((s.setLine p ((s.line p).enter .idle)).deliver p tag f).endLeaseOf p))
  sent : ∀ s p e f tag, s.engineOf p = some e → (s.engine e).state = .sending → P s →
    P (s.settles (((s.setLine p ((s.line p).enter .idle)).txReport p f tag).endLeaseOf p))
  port : ∀ s p t, s.PortWork p t → P s → P (s.portEvent p t)
  barrel : ∀ s t, s.BarrelWork t → P s → P (s.settles t)
  path : ∀ s t, s.PathWork t → P s → P (s.settles t)
  dead : ∀ s v, P s → P (s.settles (s.deadChange (!s.meas.dead) v))
  starts : ∀ s x, (s.tracker x).state = .empty → P s → P (s.startSettling x)
  abandons : ∀ s x, (s.tracker x).state = .settling → P s → P (s.abandonSettling x)
  detachTimer : ∀ (s : State) x v, P s → P (s.setTracker x { s.tracker x with detachInterval := v })
  attach : ∀ s x, (s.tracker x).state = .settling → P s → P (s.attachEvent x)
  detach : ∀ s x, (s.tracker x).state = .attached → P s → P (s.detachEvent x)
  iin : ∀ s x v, s.path.state = .closed x → P s → P (s.deliverIin x v)
  regulate : ∀ s k mode target, P s → P (s.reqRegulate k mode target)
  forget : ∀ s j, P s → P (s.forget j)
  adopt : ∀ s k, P s → P (s.reqAdopt k)
  restart : ∀ s, P s → P s.restart
  reset : P State.reset

section
variable {P : State → Prop} (inv : Invariant P) {s t : State}
include inv

theorem Invariant.assertPresence {x : Connector} (h : P s) : P (s.assertPresence x) := by
  have seen : P (s.setPresence x true) := inv.presence s _ h
  unfold State.assertPresence
  dsimp only
  split
  · split
    next empty => exact inv.starts _ x empty seen
    · exact seen
    · exact inv.detachTimer _ x none seen
  · exact seen

theorem Invariant.removePresence {x : Connector} (h : P s) : P (s.removePresence x) := by
  have seen : P (s.setPresence x false) := inv.presence s _ h
  unfold State.removePresence
  dsimp only
  split
  · split
    · exact seen
    next settling => exact inv.abandons _ x settling seen
    · split
      · exact inv.detachTimer _ x _ seen
      · exact seen
  · exact seen

theorem Invariant.enterResult {c : Channel} {v : Nat} (h : P s) : P (s.enterResult c v) := inv.meas s _ rfl h

theorem Invariant.clearDroop {x : Connector} (h : P s) : P (s.clearDroop x) := inv.meas s _ rfl h

theorem Invariant.checkDroop {x : Connector} {v : Nat} (h : P s) : P (s.checkDroop x v) := by
  unfold State.checkDroop
  split
  · split
    · have cleared := inv.blind.journal (k := 0x15) (b := connectorByteOf x) (d := le2 v ++ le2 (s.droopThreshold x))
        (inv.clearDroop (x := x) h)
      cases x with
      | line p => exact inv.port _ p _ .droop cleared
      | barrel => exact inv.barrel _ _ .droop cleared
    · exact inv.meas s _ rfl h
  · exact inv.clearDroop h

theorem Invariant.deferredCheck {x : Connector} {v : Nat} (h : P s) : P (s.deferredCheck x v) := by
  unfold State.deferredCheck
  split
  next due => exact inv.path s _ (.check x v due.1) h
  · exact h

theorem Invariant.setDead {dead : Bool} {v : Nat} (h : P s) : P (s.setDead dead v) := by
  unfold State.setDead
  split
  · exact h
  next other =>
    have : dead = !s.meas.dead := by cases dead <;> cases e : s.meas.dead <;> simp_all
    exact this ▸ inv.dead s v h

theorem Invariant.publish (h : P s) : P s.publish :=
  inv.saturation _ 0 (inv.meas _ _ rfl (inv.blind.raise (c := causeTelemetry) (inv.blind.writeTelemetry h)))

theorem Invariant.publishSingle (h : P s) : P s.publishSingle :=
  inv.blind.publishSingle inv.publish (fun u hu => inv.meas u _ rfl hu) h

theorem Invariant.telemetry {k : Fin 8} {mode period : Nat} (h : P s) : P (s.reqTelemetry k mode period) := by
  unfold State.reqTelemetry
  split
  · exact inv.blind.complete (inv.meas s _ rfl h)
  · exact inv.meas s _ rfl h
  · exact inv.blind.complete (inv.meas s _ rfl h)
  · exact inv.blind.complete h

theorem Invariant.refresh {k : Fin 8} {b : Byte} (h : P s) : P (s.reqRefresh k b) := by
  unfold State.reqRefresh
  split
  · unfold State.reqRefreshPort
    split
    next there => exact inv.port s _ _ (.refresh k there) h
    · exact inv.blind.complete h
  · unfold State.reqRefreshBarrel
    split
    next there => exact inv.barrel s _ (.refresh k there) h
    · exact inv.blind.complete h

theorem Invariant.pin {k : Fin 8} {r : Request} (h : P s) : P (s.reqPin k r) := by
  unfold State.reqPin
  split
  next p _ =>
    unfold State.reqPinPort
    cases there : (s.port p).negotiating with
    | false => exact inv.blind.complete h
    | true =>
      rw [if_neg (by simp)]
      split
      · exact inv.blind.complete h
      · split
        · exact inv.blind.complete h
        · split
          · exact inv.blind.complete h
          · exact inv.port s p _ (.pin k _ there) h
  · exact h

theorem Invariant.unpin {k : Fin 8} {b : Byte} (h : P s) : P (s.reqUnpin k b) := by
  unfold State.reqUnpin
  split
  next p _ =>
    unfold State.reqUnpinPort
    cases there : (s.port p).negotiating with
    | false => exact inv.blind.complete h
    | true =>
      rw [if_neg (by simp)]
      split
      · exact inv.port s p _ (.unpin k there) h
      · exact inv.blind.complete h
  · exact h

theorem Invariant.hold {k : Fin 8} {b : Byte} (h : P s) : P (s.reqHold k b) := by
  unfold State.reqHold
  split
  next p _ =>
    unfold State.reqHoldPort
    split
    next there => exact inv.port s p _ (.hold k there) h
    · exact inv.blind.complete h
  · exact h

theorem Invariant.resume {k : Fin 8} {b : Byte} (h : P s) : P (s.reqResume k b) := by
  unfold State.reqResume
  split
  next p _ =>
    unfold State.reqResumePort
    cases there : (s.port p).negotiating with
    | false => exact inv.blind.complete h
    | true =>
      rw [if_neg (by simp)]
      split
      · exact inv.port s p _ (.resume k there) h
      · exact inv.blind.complete h
  · exact h

theorem Invariant.release {k : Fin 8} {b : Byte} (h : P s) : P (s.reqRelease k b) := by
  unfold State.reqRelease
  split
  next p _ =>
    unfold State.reqReleasePort
    cases there : (s.port p).negotiating with
    | false => exact inv.blind.complete h
    | true =>
      rw [if_neg (by simp)]
      split
      next faulted => exact inv.port s p _ (.releaseFaulted k faulted) h
      next sound => exact inv.port s p _ (.release k there sound) h
  · unfold State.reqReleaseBarrel
    split
    next there => exact inv.barrel s _ (.release k there) h
    · exact inv.blind.complete h

theorem Invariant.abort {k : Fin 8} {target : Nat} (h : P s) : P (s.reqAbort k target) := by
  unfold State.reqAbort
  split
  · dsimp only
    split
    · exact inv.blind.finish (inv.blind.complete (inv.blind.complete (inv.forget s _ h)))
    · exact inv.blind.complete h
  · exact inv.blind.complete h

theorem Invariant.dispatch {k : Fin 8} {r : Request} {kind : RequestKind} (h : P s) : P (s.dispatch k r kind) := by
  cases kind with
  | adopt => exact inv.adopt s k h
  | refresh => exact inv.refresh h
  | pin => exact inv.pin h
  | unpin => exact inv.unpin h
  | hold => exact inv.hold h
  | resume => exact inv.resume h
  | release => exact inv.release h
  | primary => exact inv.path s _ (.primary k _) h
  | regulate => exact inv.regulate s k _ _ h
  | telemetry => exact inv.telemetry h
  | abort => exact inv.abort h

theorem Invariant.request {q : Posting} {kind : Byte} {args : List Byte} (h : P s) : P (s.request q kind args) :=
  inv.blind.request (fun _ _ _ _ => inv.dispatch) h

theorem Invariant.takeEnd {p : LinePort} (here : s.attached (.line p) = true) (h : P s) : P (s.takeEnd p) := by
  unfold State.takeEnd
  split
  next receiving =>
    split
    next e leased =>
      unfold State.receive
      dsimp only
      split
      · exact inv.received s p e _ _ here receiving leased h
      · exact inv.blind.finish (inv.badFrame s p here (.inr receiving) h)
    · exact h
  next heeded => exact inv.blind.finish (inv.badFrame s p here (.inl heeded) h)
  next stray =>
    split
    · exact h
    · exact inv.blind.finish (inv.stray s p here stray h)
  · exact h
  · exact h
  · exact h

theorem Invariant.endSending {p : LinePort} (h : P s) : P (s.endSending p) := by
  unfold State.endSending
  split
  next e leased =>
    split
    next sending _ => exact inv.sent s p e _ _ leased sending h
    · exact h
  · exact h

theorem Invariant.powerOn {a b c d : Bool} : P ((State.reset.withPending s.pending).finish
    ((powerOnLevels a b c d).foldl State.assertPresence (State.reset.withPending s.pending))) := by
  refine inv.blind.finish ?_
  generalize powerOnLevels a b c d = l
  have start := inv.pending _ s.pending inv.reset
  generalize State.reset.withPending s.pending = u at start
  induction l generalizing u with
  | nil => exact start
  | cons x l ih => exact ih _ (inv.assertPresence start)

/-- Every command keeps an invariant. -/
theorem Invariant.exec {c : Instr} (h : exec c s = .next t) (hs : P s) : P t := by
  have timed : ∀ (cond : Prop) [Decidable cond] p u, (cond → s.PortWork p u) →
      P (if cond then s.portEvent p u else s) := fun cond _ p u work => by
    split
    next due => exact inv.port s p u (work due) hs
    · exact hs
  cases line : lineWork c with
  | true => exact inv.line c s t line h hs
  | false =>
    cases c with
    | powerOn a b c d => cases h; exact inv.powerOn
    | presenceAsserted x => cases h; exact inv.blind.finish (inv.assertPresence hs)
    | presenceRemoved x => cases h; exact inv.blind.finish (inv.removePresence hs)
    | attachIntervalExpiry x =>
      cases h
      unfold State.attachExpires
      split
      next due => exact inv.attach s x due.1 hs
      · exact hs
    | detachIntervalExpiry x =>
      cases h
      unfold State.detachExpires
      split
      next due => exact inv.detach s x due.1 hs
      · exact hs
    | coreSequenceStart => cases h; exact inv.meas _ _ rfl (inv.time s _ hs)
    | iinCompletion r =>
      cases h
      have entered := inv.enterResult (c := .iin) (v := Channel.iin.result r) hs
      split
      next closed => exact inv.iin _ _ _ closed entered
      · exact entered
    | voltageCompletion x r =>
      cases h
      refine inv.deferredCheck (inv.checkDroop ?_)
      have entered := inv.enterResult (c := .volts x) (v := (Channel.volts x).result r) hs
      cases x with
      | line p => exact entered
      | barrel => exact inv.latestVD _ _ entered
    | vbatCompletion r => cases h; exact inv.setDead (inv.enterResult hs)
    | vsysCompletion r => cases h; exact inv.enterResult hs
    | iddCompletion r =>
      cases h
      refine inv.publishSingle ?_
      have entered := inv.enterResult (c := .idd) (v := Channel.idd.result r) hs
      split
      next identifying => exact inv.barrel _ _ (.sample _ identifying) entered
      · exact entered
    | periodTimerExpiry =>
      cases h
      split
      · exact inv.meas _ _ rfl (inv.publish hs)
      · exact hs
    | endDelimiter p =>
      cases h
      unfold State.ifAttached
      split
      next here => exact inv.takeEnd here hs
      · exact hs
    | frameTransmitted p => cases h; exact inv.endSending hs
    | tenderWaitExpiry p => cases h; exact timed _ p _ fun due => .tenderTimeout due.1
    | claimWaitExpiry p => cases h; exact timed _ p _ fun due => .claimTimeout due.1
    | settleWaitExpiry p => cases h; exact timed _ p _ fun due => .settleTimeout due.1
    | lapseExpiry p => cases h; exact timed _ p _ fun due => .lapse due
    | softStartExpiry =>
      cases h
      unfold State.softStartExpires
      split
      next y _ closing _ => exact inv.path s _ (.softStart y closing) hs
      · exact hs
    | breakExpiry =>
      cases h
      unfold State.breakExpires
      split
      next y _ opening _ => exact inv.path s _ (.breakEnds y opening) hs
      · exact hs
    | memRead addr n => cases h; exact inv.blind.memRead hs
    | memWrite addr data => cases h; exact inv.blind.memWrite hs
    | attnWrite v => cases h; exact inv.blind.regWrite (inv.restart s) hs
    | attnMaskWrite v => cases h; exact inv.blind.regWrite (inv.restart s) hs
    | restart => cases h; exact inv.blind.regWrite (inv.restart s) hs
    | registerWriteIgnored reg v => cases h; exact inv.blind.regWrite (inv.restart s) hs
    | slotExamination => cases h; exact inv.blind.readerStep (fun _ _ _ _ => inv.dispatch) hs
    | adopt q => cases h; exact inv.request hs
    | refresh q => cases h; exact inv.request hs
    | pin q level volts limit => cases h; exact inv.request hs
    | unpin q => cases h; exact inv.request hs
    | hold q => cases h; exact inv.request hs
    | resume q => cases h; exact inv.request hs
    | release q => cases h; exact inv.request hs
    | primary q => cases h; exact inv.request hs
    | regulate q mode target => cases h; exact inv.request hs
    | telemetry q mode period => cases h; exact inv.request hs
    | abort q target => cases h; exact inv.request hs
    | _ => cases line

/-- Every step keeps an invariant. -/
theorem Invariant.step (h : step s = .next t) (hs : P s) : P t := by
  rcases step_cases h with rfl | ⟨c, rest, h⟩
  · exact hs
  · exact inv.exec h (inv.pending s rest hs)

end

/-! ### Adoptions -/

/-- What each step of an adoption up to the regulator's keeps, holds when the regulator takes its turn (R171). -/
theorem State.adoptEffects_reaches {P : State → Prop} {old : Policy}
    (enable : ∀ (u : State) x, P u → P (u.enableChange old x)) (measurement : ∀ u : State, P u → P u.adoptMeasurement)
    (barrel : ∀ u : State, P u → P u.adoptBarrel) (selector : ∀ u : State, P u → P u.adoptSelector)
    (call : ∀ (u : State) p, P u → P (u.adoptCall p)) (path : ∀ u : State, P u → P u.adoptPath) (s : State) (h : P s) :
    ∃ u, P u ∧ s.adoptEffects old = u.adoptRegulator := by
  have tracked : ∀ (l : List Connector) (u : State), P u → P (l.foldl (fun u x => u.enableChange old x) u) := by
    intro l
    induction l with
    | nil => exact fun u h => h
    | cons x l ih => exact fun u h => ih _ (enable u x h)
  have called : ∀ (l : List LinePort) (u : State), P u → P (l.foldl (fun u p => u.adoptCall p) u) := by
    intro l
    induction l with
    | nil => exact fun u h => h
    | cons p l ih => exact fun u h => ih _ (call u p h)
  exact ⟨_, path _ (called linePorts _ (selector _ (barrel _ (measurement _ (tracked connectors s h))))), rfl⟩

/-- What each step of an adoption keeps, the whole of it keeps (R171). -/
theorem State.adoptEffects_keeps {P : State → Prop} {old : Policy}
    (enable : ∀ (u : State) x, P u → P (u.enableChange old x)) (measurement : ∀ u : State, P u → P u.adoptMeasurement)
    (barrel : ∀ u : State, P u → P u.adoptBarrel) (selector : ∀ u : State, P u → P u.adoptSelector)
    (call : ∀ (u : State) p, P u → P (u.adoptCall p)) (path : ∀ u : State, P u → P u.adoptPath)
    (regulator : ∀ u : State, P u → P u.adoptRegulator) (s : State) (h : P s) : P (s.adoptEffects old) := by
  obtain ⟨u, hu, e⟩ := State.adoptEffects_reaches enable measurement barrel selector call path s h
  exact e ▸ regulator u hu

/-- The adoption itself: the installation, then its effects, completion and page rewrites (R165 to R171). -/
theorem Blind.reqAdopt {P : State → Prop} (blind : Blind P) {s : State} {k : Fin 8}
    (effects : ∀ p : Proposal, p.contradiction = none → P ((s.install p).adoptEffects s.policy)) (h : P s) :
    P (s.reqAdopt k) := by
  unfold State.reqAdopt
  dsimp only
  split
  · exact blind.complete h
  next sound => exact blind.finish (blind.complete (effects _ sound))

/-! ### The reports -/

/-- The droop counters are all that the live contracts' reports clear (R130). -/
theorem State.reportDroop_all (s t : State) :
    ∃ d, connectors.foldl (fun u x => s.reportDroop u x) t = t.withMeas { t.meas with droop := d } := by
  generalize connectors = l
  induction l generalizing t with
  | nil => exact ⟨_, rfl⟩
  | cons x l ih =>
    obtain ⟨d, e⟩ : ∃ d, s.reportDroop t x = t.withMeas { t.meas with droop := d } := by
      unfold State.reportDroop
      split
      · exact ⟨_, rfl⟩
      · exact ⟨_, rfl⟩
    obtain ⟨d', e'⟩ := ih (s.reportDroop t x)
    exact ⟨d', by rw [List.foldl_cons, e', e]; rfl⟩

/-- What the end of an event brings about from a relation of its two states, and every following call for selection gives
again, holds after all that follows the event. -/
theorem settle_relates {P : State → Prop} {Q : State → State → Prop} {pages : Bool}
    (conclude : ∀ s t, Q s t → P (s.concludes pages t)) (call : ∀ u p, P u → Q u ((u.callSelection p).apply p)) (n : Nat)
    {s t : State} (h : Q s t) : P (settle pages n s t) := by
  induction n generalizing s t with
  | zero => exact conclude s t h
  | succ n ih =>
    simp only [settle]
    have start : P (s.concludes pages t) := conclude s t h
    generalize roleChanges s (s.concludes pages t) = l
    generalize s.concludes pages t = v at start
    induction l generalizing v with
    | nil => exact start
    | cons p l ihl => exact ihl _ (ih (call v p start))

end Sys2Proof.Machine
end

section
/-! The switches of the path (R105). -/

namespace Sys2Proof.Machine

/-! ### The switches (R105) -/

section
variable {s t u : State}

theorem State.switchesOk.of_path (h : s.switchesOk) (state : t.path.state = s.path.state)
    (switches : t.path.switches = s.path.switches) : t.switchesOk := fun x => by rw [state, switches]; exact h x

theorem blind_switchesOk : Blind State.switchesOk := fun _ _ h => h.of_path rfl rfl

theorem PathState.holds_closing (x y : Connector) : (PathState.closing y).holds x = decide (x = y) := by
  simp [PathState.holds, eq_comm]

theorem PathState.holds_closed (x y : Connector) : (PathState.closed y).holds x = decide (x = y) := by
  simp [PathState.holds, eq_comm]

theorem PathState.holds_opening (x y : Connector) : (PathState.opening y).holds x = false := by simp [PathState.holds]

theorem PathState.holds_idle (x : Connector) : PathState.idle.holds x = false := by simp [PathState.holds]

theorem State.switchesOk_enterClosing (h : s.switchesOk) (none : ∀ x, s.path.state.holds x = false) (y : Connector) :
    (s.enterClosing y).switchesOk := fun x => by
  show (s.path.switches.set y true).get x = (PathState.closing y).holds x
  rw [PerConn.get_set, PathState.holds_closing, h x, none x]
  split <;> simp_all

theorem State.switchesOk_openPath {y : Connector} (h : s.switchesOk)
    (held : s.path.state = .closing y ∨ s.path.state = .closed y) : (s.openPath y).switchesOk := fun x => by
  show (s.path.switches.set y false).get x = (PathState.opening y).holds x
  rw [PerConn.get_set, PathState.holds_opening, h x]
  split
  · rfl
  next other => rcases held with e | e <;> simp [e, PathState.holds_closing, PathState.holds_closed, other]

theorem State.switchesOk_completePrimary (h : s.switchesOk) (y : Connector) (code : ResultCode) :
    (s.completePrimary y code).switchesOk := by
  unfold State.completePrimary
  split
  · split
    · exact h.of_path rfl rfl
    · exact h
  · exact h

theorem State.switchesOk_losePath {y : Connector} (h : s.switchesOk)
    (held : s.path.state = .closing y ∨ s.path.state = .closed y) : (s.losePath y).switchesOk := by
  unfold State.losePath
  dsimp only
  refine State.switchesOk_completePrimary ?_ _ _
  split <;> exact (State.switchesOk_openPath h held).of_path rfl rfl

theorem State.switchesOk_evaluate (h : s.switchesOk) : s.evaluate.switchesOk := by
  have path : s.evaluatePath.switchesOk := by
    unfold State.evaluatePath
    split
    next idle =>
      split
      · exact State.switchesOk_enterClosing h (fun x => by rw [idle, PathState.holds_idle]) _
      · exact h
    next closing =>
      split
      · exact h
      · exact State.switchesOk_losePath h (.inl closing)
    next closed =>
      split
      · unfold State.improve
        split
        · split
          · exact State.switchesOk_openPath h (.inr closed)
          · exact h
        · exact h
      · exact State.switchesOk_losePath h (.inr closed)
    · exact h
  unfold State.evaluate State.dropLostPrimary
  split
  · split
    · exact State.switchesOk_completePrimary path _ _
    · exact path
  · exact path

theorem State.switchesOk_closeCheck {y : Connector} (h : s.switchesOk) (closing : s.path.state = .closing y) (v : Nat) :
    (s.closeCheck y v).switchesOk := by
  unfold State.closeCheck
  split
  · refine State.switchesOk_evaluate (State.switchesOk_completePrimary (fun x => ?_) _ _)
    show s.path.switches.get x = (PathState.closed y).holds x
    rw [h x, closing, PathState.holds_closing, PathState.holds_closed]
  · refine State.switchesOk_completePrimary (State.switchesOk.of_path (State.switchesOk_openPath h (.inl closing)) ?_ ?_) _ _ <;>
      cases y <;> rfl

theorem State.switchesOk_softStartEnds {y : Connector} (h : s.switchesOk) (closing : s.path.state = .closing y) :
    (s.softStartEnds y).switchesOk := by
  have stopped : (s.withPath { s.path with softStart := none }).switchesOk := h.of_path rfl rfl
  unfold State.softStartEnds
  dsimp only
  split
  · exact stopped.of_path rfl rfl
  · exact State.switchesOk_closeCheck stopped closing _

theorem State.switchesOk_breakEnds {y : Connector} (h : s.switchesOk) (opening : s.path.state = .opening y) :
    s.breakEnds.switchesOk := by
  have none : ∀ x, s.path.state.holds x = false := fun x => by rw [opening, PathState.holds_opening]
  unfold State.breakEnds
  dsimp only
  split
  · exact State.switchesOk_enterClosing (h.of_path rfl rfl) none _
  · exact fun x => (h x).trans ((none x).trans (PathState.holds_idle x).symm)

theorem State.switchesOk_report (h : t.switchesOk) : (s.report t).switchesOk := by
  have owners : (s.reportOwners t).switchesOk := by
    unfold State.reportOwners
    split
    · exact State.switchesOk_evaluate h
    · exact h
  obtain ⟨droop, e⟩ := s.reportDroop_all (s.reportOwners t)
  exact owners.of_path (by simp [State.report, e]) (by simp [State.report, e])

/-- What follows an event keeps the switches. -/
theorem switchesOk_settle (pages : Bool) (n : Nat) (h : t.switchesOk) : (settle pages n s t).switchesOk :=
  settle_induction State.switchesOk pages (fun _ _ hu => blind_switchesOk.concludes (State.switchesOk_report hu))
    (fun _ _ hu => hu.of_path (by simp) (by simp)) n s t h

/-- An event that leaves the path alone keeps the switches. -/
theorem State.switchesOk.settles_of_path (h : s.switchesOk) (path : t.path = s.path) : (s.settles t).switchesOk :=
  switchesOk_settle _ _ (h.of_path (by rw [path]) (by rw [path]))

theorem State.deliverIin_path (s : State) (x : Connector) (v : Nat) : (s.deliverIin x v).path = s.path := by
  unfold State.deliverIin
  dsimp only
  split
  · rfl
  · split <;> rfl

theorem State.forget_path (s : State) (j : Fin 8) : (s.forget j).path = s.path.forget j := rfl

theorem Path.forget_rest (p : Path) (j : Fin 8) : { p.forget j with inFlight := p.inFlight } = p := by
  unfold Path.forget
  split <;> rfl

theorem State.PortWork.path {p : LinePort} (h : s.PortWork p t) : t.path = s.path := by
  cases h <;> simp [State.releaseFaulted]

theorem State.BarrelWork.path (h : s.BarrelWork t) : t.path = s.path := by
  cases h <;> simp

theorem State.switchesOk_pathWork (work : s.PathWork t) (h : s.switchesOk) : t.switchesOk := by
  cases work with
  | softStart y closing => exact State.switchesOk_softStartEnds h closing
  | check y v closing => exact State.switchesOk_closeCheck h closing v
  | breakEnds y opening => exact State.switchesOk_breakEnds h opening
  | primary k x =>
    refine State.switchesOk_evaluate ?_
    unfold State.takePrimary
    split
    · exact h.of_path rfl rfl
    · split
      · exact h
      · split <;> exact h.of_path rfl rfl

theorem State.switchesOk_settlesWithin_of_path (h : s.switchesOk) (path : t.path = s.path) :
    (u.settlesWithin t).switchesOk :=
  switchesOk_settle _ _ (h.of_path (by rw [path]) (by rw [path]))

theorem State.switchesOk_enableChange {old : Policy} {x : Connector} (h : s.switchesOk) : (s.enableChange old x).switchesOk := by
  unfold State.enableChange
  split
  · cases x <;> exact h.of_path rfl rfl
  · exact State.switchesOk_settlesWithin_of_path h (by cases x <;> simp [State.detached])
  · split
    · cases x <;> exact h.of_path rfl rfl
    · exact h
  · exact h

theorem State.switchesOk_adoptMeasurement (h : s.switchesOk) : s.adoptMeasurement.switchesOk := by
  unfold State.adoptMeasurement
  dsimp only
  split
  · exact State.switchesOk_settlesWithin_of_path h rfl
  · exact h.of_path rfl rfl

theorem State.switchesOk_adoptBarrel (h : s.switchesOk) : s.adoptBarrel.switchesOk := by
  unfold State.adoptBarrel
  split
  · exact h
  · exact State.switchesOk_settlesWithin_of_path h (by simp)

theorem State.adoptImages_path (s : State) : s.adoptImages.path = s.path := by simp [State.adoptImages, linePorts]

theorem State.switchesOk_adoptEffects {old : Policy} (h : s.switchesOk) : (s.adoptEffects old).switchesOk :=
  State.adoptEffects_keeps (fun _ _ hu => State.switchesOk_enableChange hu) (fun _ hu => State.switchesOk_adoptMeasurement hu)
    (fun _ hu => State.switchesOk_adoptBarrel hu)
    (fun u hu => State.switchesOk_settlesWithin_of_path hu u.adoptImages_path)
    (fun _ _ hu => State.switchesOk_settlesWithin_of_path hu (by simp))
    (fun _ hu => switchesOk_settle _ _ (State.switchesOk_evaluate hu)) (fun _ hu => hu.of_path rfl rfl) s h

theorem invariant_switchesOk : Invariant State.switchesOk where
  blind := blind_switchesOk
  pending _ _ h := h.of_path rfl rfl
  meas _ _ _ h := h.of_path rfl rfl
  presence _ _ h := h.of_path rfl rfl
  time _ _ h := h.of_path rfl rfl
  latestVD _ _ h := h.of_path rfl rfl
  saturation _ _ h := h.of_path rfl rfl
  line c s t hc h hs := by
    obtain ⟨u, lined, rfl⟩ := exec_lined hc h
    exact blind_switchesOk.finish (hs.of_path (by rw [lined.path]) (by rw [lined.path]))
  badFrame s p _ _ h := h.of_path (by rw [(State.lined_breakFrame s p).path]) (by rw [(State.lined_breakFrame s p).path])
  stray s p _ _ h := h.of_path (by rw [(State.lined_endStray s p).path]) (by rw [(State.lined_endStray s p).path])
  received s p e tag f _ _ _ h := h.settles_of_path (by simp)
  sent s p e f tag _ _ h := h.settles_of_path (by simp)
  port s p t work h := h.settles_of_path (by simp [work.path])
  barrel s t work h := h.settles_of_path work.path
  path s t work h := switchesOk_settle _ _ (State.switchesOk_pathWork work h)
  dead s v h := h.settles_of_path rfl
  starts s x _ h := by cases x <;> exact h.of_path rfl rfl
  abandons s x _ h := by cases x <;> exact h.of_path rfl rfl
  detachTimer _ _ _ h := h.of_path rfl rfl
  attach s x _ h := by
    cases x with
    | line p => exact h.settles_of_path (by simp)
    | barrel => exact h.settles_of_path rfl
  detach s x _ h := h.settles_of_path (by cases x <;> simp [State.detached])
  iin s x v _ h := h.of_path (by rw [State.deliverIin_path]) (by rw [State.deliverIin_path])
  regulate s k mode target h := by
    unfold State.reqRegulate
    split <;> exact h.of_path rfl rfl
  forget s j h := h.of_path (congrArg Path.state (s.path.forget_rest j) :)
    (congrArg Path.switches (s.path.forget_rest j) :)
  adopt s k h := blind_switchesOk.reqAdopt (fun p _ => State.switchesOk_adoptEffects (h.of_path (t := s.install p) rfl rfl)) h
  restart s h := by
    refine blind_switchesOk.restart ?_ fun u p hu => State.switchesOk_settlesWithin_of_path hu (by simp)
    exact switchesOk_settle _ _ (State.switchesOk_evaluate (h.of_path rfl rfl))
  reset x := by cases x with
    | line p => cases p <;> rfl
    | barrel => rfl

/-- The path names one connector at most, so one switch at most is closed. -/
theorem State.switchesOk.unique (h : s.switchesOk) {x y : Connector} (hx : s.path.switches.get x = true)
    (hy : s.path.switches.get y = true) : x = y := by
  rw [h] at hx hy
  cases e : s.path.state <;> simp_all [PathState.holds]

end

/-- Settles O6. -/
theorem stepKeepsSwitches : Obligations.StepKeepsSwitches := by
  unfold Obligations.StepKeepsSwitches
  intro s t hs h
  have ht := invariant_switchesOk.step h hs
  exact ⟨ht, fun x y => ht.unique⟩

end Sys2Proof.Machine
end

section
/-! The live policy in its ranges and without contradiction (R166, R168, R170). -/

namespace Sys2Proof.Machine

/-! ### A clamped proposal without contradiction -/

theorem clampNat_clampNat {lo hi : Nat} (h : lo ≤ hi) (n : Nat) : clampNat lo hi (clampNat lo hi n) = clampNat lo hi n := by
  unfold clampNat
  omega

theorem clampDead_clampDead (n : Nat) : clampDead (clampDead n) = clampDead n := by
  unfold clampDead clampNat
  split
  · rfl
  · rw [if_neg (by omega)]
    omega

theorem clampEntry_clampEntry (e : IdEntry) : clampEntry (clampEntry e) = clampEntry e := by
  simp only [clampEntry, IdEntry.mk.injEq]
  omega

theorem clampFields_clampFields (q : Policy) : clampFields (clampFields q) = clampFields q := by
  simp only [clampFields, clampDead_clampDead,
    clampNat_clampNat (by decide : 5000 ≤ 24000), clampNat_clampNat (by decide : 5000 ≤ 240000),
    clampNat_clampNat (by decide : 500 ≤ 8000), clampNat_clampNat (by decide : 128 ≤ 256), clampNat_clampNat (by decide : 0 ≤ 256),
    clampNat_clampNat (by decide : 50 ≤ 1000), clampNat_clampNat (by decide : 0 ≤ 3000),
    clampNat_clampNat (by decide : 0 ≤ 65535), clampNat_clampNat (by decide : 50 ≤ 95), clampNat_clampNat (by decide : 1 ≤ 15),
    clampNat_clampNat (by decide : 1 ≤ 50), clampNat_clampNat (by decide : 1 ≤ 20), clampNat_clampNat (by decide : 5 ≤ 25),
    clampNat_clampNat (by decide : 100 ≤ 150), clampNat_clampNat (by decide : 1 ≤ 65535),
    clampNat_clampNat (by decide : 0 ≤ 10000), clampNat_clampNat (by decide : 1 ≤ 10000),
    clampNat_clampNat (by decide : 0 ≤ 8000), clampNat_clampNat (by decide : 1 ≤ 255), clampNat_clampNat (by decide : 0 ≤ 15)]

theorem badEntry_none {l : List IdEntry} {n : Nat} (h : badEntry n l = none) : ∀ e ∈ l, e.lo ≤ e.hi := by
  induction l generalizing n with
  | nil => simp
  | cons a l ih =>
    unfold badEntry at h
    split at h
    · cases h
    next fine =>
      intro e he
      rcases List.mem_cons.mp he with rfl | he
      · omega
      · exact ih h e he

theorem Proposal.length_considered (p : Proposal) : p.considered.length ≤ 8 := by
  unfold Proposal.considered
  split
  · rw [List.length_take]
    omega
  · simp

/-- What an adoption installs is a policy in force (R166, R168). -/
theorem Proposal.inForce_clamped {p : Proposal} (h : p.contradiction = none) : p.clamped.inForce := by
  unfold Proposal.contradiction at h
  split at h
  · cases h
  next volts =>
    split at h
    · cases h
    next sat =>
      split at h
      · cases h
      · refine ⟨?_, ?_, ?_, by omega, by omega, badEntry_none (Option.map_eq_none_iff.mp h)⟩
        · exact congrArg (fun q => { q with ids := p.considered.map clampEntry }) (clampFields_clampFields p.fields)
        · show (p.considered.map clampEntry).map clampEntry = p.considered.map clampEntry
          rw [List.map_map]
          exact List.map_congr_left fun e _ => clampEntry_clampEntry e
        · show (p.considered.map clampEntry).length ≤ 8
          rw [List.length_map]
          exact p.length_considered

theorem inForce_initial : Policy.initial.inForce := by
  unfold Policy.inForce
  decide

/-! ### The policy under the requests -/

section
variable {s t u : State}

theorem State.detached_policy (s : State) (x : Connector) : (s.detached x).policy = s.policy := by
  cases x <;> simp [State.detached]

theorem State.enableChange_policy (s : State) (old : Policy) (x : Connector) : (s.enableChange old x).policy = s.policy := by
  unfold State.enableChange
  split
  · cases x <;> rfl
  · rw [State.settlesWithin_policy, State.detached_policy]
  · split
    · cases x <;> rfl
    · rfl
  · rfl

theorem State.adoptMeasurement_policy (s : State) : s.adoptMeasurement.policy = s.policy := by
  unfold State.adoptMeasurement
  dsimp only
  split
  · rw [State.settlesWithin_policy]
    rfl
  · rfl

theorem State.adoptBarrel_policy (s : State) : s.adoptBarrel.policy = s.policy := by
  unfold State.adoptBarrel
  split
  · rfl
  · rw [State.settlesWithin_policy, State.barrelAdopt_policy]

/-- The effects of an adoption leave the policy that was installed. -/
theorem State.adoptEffects_policy (s : State) (old : Policy) : (s.adoptEffects old).policy = s.policy :=
  State.adoptEffects_keeps (P := fun u => u.policy = s.policy) (fun u x h => (u.enableChange_policy old x).trans h)
    (fun u h => u.adoptMeasurement_policy.trans h) (fun u h => u.adoptBarrel_policy.trans h)
    (fun u h => ((State.goes_adoptSelector (held := fun _ => True) u).policyKept.1).trans h)
    (fun u p h => ((State.goes_adoptCall (held := fun _ => True) u p).policyKept.1).trans h)
    (fun u h => ((State.goes_adoptPath (held := fun _ => True) u).policyKept.1).trans h) (fun _ h => h) s rfl

theorem blind_inForce : Blind fun s => s.policy.inForce := fun _ _ h => h

theorem State.inForce_dispatch {k : Fin 8} {r : Request} {kind : RequestKind} (h : s.policy.inForce) :
    (s.dispatch k r kind).policy.inForce := by
  cases routed : kind.routed with
  | true =>
    obtain ⟨pin, goes⟩ := State.goes_dispatch (held := fun _ => True) s r routed (trivial : _)
    rw [goes.policyKept.1]
    exact h
  | false =>
    cases kind with
    | adopt =>
      refine blind_inForce.reqAdopt (fun p sound => ?_) h
      rw [State.adoptEffects_policy]
      exact Proposal.inForce_clamped sound
    | regulate =>
      show (s.reqRegulate k _ _).policy.inForce
      unfold State.reqRegulate
      split <;> exact h
    | telemetry =>
      show (s.reqTelemetry k _ _).policy.inForce
      unfold State.reqTelemetry
      split <;> exact h
    | abort =>
      show (s.reqAbort k _).policy.inForce
      unfold State.reqAbort
      split
      · dsimp only
        split
        · exact blind_inForce.finish h
        · exact h
      · exact h
    | _ => cases routed

theorem State.inForce_powerOn {a b c d : Bool} (h : exec (.powerOn a b c d) s = .next t) : t.policy.inForce := by
  cases h
  refine blind_inForce.finish ?_
  rw [(State.policyKept_foldl _ State.policyKept_assertPresence _ _).1]
  exact inForce_initial

/-- The slot reader's commands are a request row or an examination. -/
theorem inForce_exec {c : Instr} (h : exec c s = .next t) (hs : s.policy.inForce) : t.policy.inForce := by
  have request : ∀ q kind args, (s.request q kind args).policy.inForce := fun _ _ _ =>
    blind_inForce.request (fun _ _ _ _ => State.inForce_dispatch) hs
  by_cases power : ∃ a b d e, c = .powerOn a b d e
  · obtain ⟨a, b, d, e, rfl⟩ := power
    exact State.inForce_powerOn h
  · cases reads : examines c with
    | false =>
      rw [(exec_policyKept (fun a b d e hc => power ⟨a, b, d, e, hc⟩) reads h).1]
      exact hs
    | true =>
      cases c with
      | slotExamination => cases h; exact blind_inForce.readerStep (fun _ _ _ _ => State.inForce_dispatch) hs
      | adopt q => cases h; exact request q _ _
      | refresh q => cases h; exact request q _ _
      | pin q level volts limit => cases h; exact request q _ _
      | unpin q => cases h; exact request q _ _
      | hold q => cases h; exact request q _ _
      | resume q => cases h; exact request q _ _
      | release q => cases h; exact request q _ _
      | primary q => cases h; exact request q _ _
      | regulate q mode target => cases h; exact request q _ _
      | telemetry q mode period => cases h; exact request q _ _
      | abort q target => cases h; exact request q _ _
      | _ => cases reads

end

/-- Settles O7. -/
theorem stepKeepsPolicyInForce : Obligations.StepKeepsPolicyInForce := by
  unfold Obligations.StepKeepsPolicyInForce
  intro s t hs h
  rcases step_cases h with rfl | ⟨c, rest, h⟩
  · exact hs
  · exact inForce_exec h hs

end Sys2Proof.Machine
end

section
/-! The regulator's ranges, and its state while the path is not CLOSED (R144, R148, R149, R155, R156). -/

namespace Sys2Proof.Machine

/-! ### Ranges (R147 to R149) -/

section
variable {r : Regulator} {q : Policy}

theorem clampOutput_mem (h : q.satLo ≤ q.satHi) (v : Int) : q.satLo ≤ clampOutput q v ∧ clampOutput q v ≤ q.satHi := by
  unfold clampOutput clampInt
  omega

theorem clampCount_mem (h : q.satLo ≤ q.satHi) (n : Nat) : q.satLo ≤ clampCount q n ∧ clampCount q n ≤ q.satHi := by
  unfold clampCount
  omega

theorem clampAcc_mem (h : q.satLo ≤ q.satHi) (v : Int) :
    (q.satLo : Int) * 256 ≤ clampAcc q v ∧ clampAcc q v ≤ (q.satHi : Int) * 256 := by
  unfold clampAcc clampInt
  omega

theorem rampOutput_mem {rate output target lo hi : Nat} (ho : lo ≤ output ∧ output ≤ hi) (ht : lo ≤ target ∧ target ≤ hi) :
    lo ≤ rampOutput rate output target ∧ rampOutput rate output target ≤ hi := by
  unfold rampOutput
  split <;> split <;> omega

theorem advanceFilter_le {spf target : Nat} (alpha : q.alpha ≤ 65535) (h : spf ≤ target) : advanceFilter q spf target ≤ target := by
  unfold advanceFilter
  split
  next below =>
    have share : q.alpha * (target - spf) / 65536 ≤ target - spf := by
      rw [Nat.div_le_iff_le_mul_add_pred (by decide)]
      have := Nat.mul_le_mul_right (target - spf) alpha
      omega
    omega
  · exact h

theorem Policy.inForce.alpha (h : q.inForce) : q.alpha ≤ 65535 := by
  obtain ⟨fields, -⟩ := h
  have e : clampNat 1 65535 q.alpha = q.alpha := congrArg Policy.alpha fields
  rw [← e, clampNat]
  omega

theorem Policy.inForce.order (h : q.inForce) : q.satLo < q.satHi := by
  obtain ⟨-, -, -, -, order, -⟩ := h
  exact order

/-- The range of the manual target, and of output and I_acc where the mode is not OFF. -/
theorem Regulator.inRange_iff : r.inRange q ↔ (q.satLo ≤ r.manualTarget ∧ r.manualTarget ≤ q.satHi) ∧
    if r.mode = .off then r.output = 0 ∧ r.iacc = 0
    else q.satLo ≤ r.output ∧ r.output ≤ q.satHi ∧ (q.satLo : Int) * 256 ≤ r.iacc ∧ r.iacc ≤ (q.satHi : Int) * 256 := by
  unfold Regulator.inRange
  cases e : r.mode <;> simp

theorem Regulator.inRange_advance (h : r.inRange q) (on : r.mode ≠ .off) (order : q.satLo ≤ q.satHi) (pv : Nat) :
    (r.advance q pv).inRange q := by
  rw [Regulator.inRange_iff, if_neg on] at h
  obtain ⟨target, lo, hi, -, -⟩ := h
  unfold Regulator.advance Regulator.compute
  rw [Regulator.inRange_iff]
  cases mode : r.mode with
  | auto =>
    dsimp only
    split
    · exact ⟨target, by
        simp only [Regulator.transferStep, reduceCtorEq, if_false]
        exact ⟨(clampOutput_mem order _).1, (clampOutput_mem order _).2, clampAcc_mem order _⟩⟩
    · exact ⟨target, by
        simp only [Regulator.piStep, reduceCtorEq, if_false]
        exact ⟨(clampOutput_mem order _).1, (clampOutput_mem order _).2, clampAcc_mem order _⟩⟩
  | manual =>
    have ramp := rampOutput_mem (rate := q.manualRate) ⟨lo, hi⟩ target
    refine ⟨target, ?_⟩
    simp only [Regulator.manualStep, reduceCtorEq, if_false]
    omega
  | off => exact absurd mode on

theorem Regulator.inRange_guard (h : r.inRange q) (on : r.mode ≠ .off) (order : q.satLo ≤ q.satHi) (limit pv : Nat) :
    (r.guard q limit pv).inRange q := by
  unfold Regulator.guard
  split
  · rw [Regulator.inRange_iff] at h ⊢
    obtain ⟨target, -⟩ := h
    refine ⟨?_, ?_⟩
    · dsimp only
      split
      · omega
      · exact target
    · simp only [Regulator.atSatLo, on, if_false]
      omega
  · split <;> exact h

theorem Regulator.inRange_step (h : r.inRange q) (on : r.mode ≠ .off) (order : q.satLo ≤ q.satHi) (limit pv : Nat) :
    (r.step q limit pv).inRange q := by
  have guarded := Regulator.inRange_guard (Regulator.inRange_advance h on order pv) (by rw [Regulator.advance_mode]; exact on)
    order limit pv
  unfold Regulator.step Regulator.countSaturation
  split <;> exact guarded

/-- The filter's figures after a step (R145). -/
theorem Regulator.step_filter (r : Regulator) (q : Policy) (limit pv : Nat) :
    (r.step q limit pv).spf = advanceFilter q r.spf r.spTarget ∧ (r.step q limit pv).spTarget = r.spTarget := by
  have advanced : (r.advance q pv).spf = advanceFilter q r.spf r.spTarget ∧ (r.advance q pv).spTarget = r.spTarget := by
    unfold Regulator.advance Regulator.compute
    split
    · split <;> exact ⟨rfl, rfl⟩
    · exact ⟨rfl, rfl⟩
    · exact ⟨rfl, rfl⟩
  have guarded : ∀ g : Regulator, (g.guard q limit pv).spf = g.spf ∧ (g.guard q limit pv).spTarget = g.spTarget := fun g => by
    unfold Regulator.guard
    split
    · exact ⟨rfl, rfl⟩
    · split <;> exact ⟨rfl, rfl⟩
  unfold Regulator.step Regulator.countSaturation
  obtain ⟨spf, target⟩ := guarded (r.advance q pv)
  split <;> exact ⟨spf.trans advanced.1, target.trans advanced.2⟩

theorem Regulator.inRange_atSatLo (h : r.inRange q) (on : r.mode ≠ .off) (order : q.satLo ≤ q.satHi) :
    (r.atSatLo q).inRange q := by
  rw [Regulator.inRange_iff] at h ⊢
  refine ⟨h.1, ?_⟩
  simp only [Regulator.atSatLo, on, if_false]
  omega

theorem Regulator.pathLeft_eq (r : Regulator) (q : Policy) :
    r.pathLeft q = if r.mode = .off then { r with overdraw := 0, transfer := false, output := 0, iacc := 0 }
      else Regulator.atSatLo { r with overdraw := 0, transfer := false } q := by
  rcases r with ⟨_, _, _, _, mode, _, _, _, _, _⟩
  cases mode <;> rfl

theorem Regulator.inRange_pathLeft (h : r.inRange q) (order : q.satLo ≤ q.satHi) : (r.pathLeft q).inRange q := by
  rw [Regulator.pathLeft_eq]
  split
  next off =>
    rw [Regulator.inRange_iff] at h ⊢
    refine ⟨h.1, ?_⟩
    rw [if_pos off]
    exact ⟨rfl, rfl⟩
  next on => exact Regulator.inRange_atSatLo (r := { r with overdraw := 0, transfer := false }) h on order

/-- The output and I_acc stand at SATLO, in the range of any mode but OFF. -/
theorem Regulator.inRange_atSatLo_as (target : q.satLo ≤ r.manualTarget ∧ r.manualTarget ≤ q.satHi) {m : RegMode}
    (on : m ≠ .off) (order : q.satLo ≤ q.satHi) (b : Bool) :
    Regulator.inRange { r.atSatLo q with mode := m, transfer := b } q := by
  rw [Regulator.inRange_iff]
  refine ⟨target, ?_⟩
  simp only [Regulator.atSatLo, on, if_false]
  omega

theorem Regulator.inRange_toAuto (h : r.inRange q) (order : q.satLo ≤ q.satHi) (closed : Bool) :
    (r.toAuto q closed).inRange q := by
  unfold Regulator.toAuto
  cases mode : r.mode with
  | auto => exact h
  | manual =>
    rw [Regulator.inRange_iff, if_neg (by simp [mode])] at h
    rw [Regulator.inRange_iff]
    exact h
  | off => exact Regulator.inRange_atSatLo_as (Regulator.inRange_iff.mp h).1 (by simp) order false

theorem Regulator.inRange_toManual (h : r.inRange q) (order : q.satLo ≤ q.satHi) (n : Nat) : (r.toManual q n).inRange q := by
  have target := clampCount_mem order n
  rcases r with ⟨_, _, _, output, mode, _, _, _, _, _⟩
  cases mode with
  | auto =>
    obtain ⟨-, lo, hi, -, -⟩ := h
    exact ⟨target, lo, hi, Int.mul_le_mul_of_nonneg_right (by exact_mod_cast lo) (by decide),
      Int.mul_le_mul_of_nonneg_right (by exact_mod_cast hi) (by decide)⟩
  | manual => exact ⟨target, h.2⟩
  | off => exact ⟨target, Nat.le_refl _, order, Int.le_refl _,
      Int.mul_le_mul_of_nonneg_right (by exact_mod_cast order) (by decide)⟩

theorem Regulator.inRange_toOff (h : r.inRange q) : r.toOff.inRange q := by
  have off : Regulator.inRange { r with mode := .off, output := 0, iacc := 0, overdraw := 0, transfer := false } q := by
    rw [Regulator.inRange_iff]
    exact ⟨(Regulator.inRange_iff.mp h).1, rfl, rfl⟩
  unfold Regulator.toOff
  split
  · exact h
  · exact off

/-- The re-clamp of an adoption puts all in the new range (R160). -/
theorem Regulator.inRange_adopt (r : Regulator) (order : q.satLo ≤ q.satHi) (closed : Bool) : (r.adopt q closed).inRange q := by
  have target := clampCount_mem order r.manualTarget
  have waiting : q.satLo ≤ q.satLo ∧ q.satLo ≤ q.satHi ∧ (q.satLo : Int) * 256 ≤ (q.satLo : Int) * 256 ∧
      (q.satLo : Int) * 256 ≤ (q.satHi : Int) * 256 := by omega
  have driven : ∀ (n : Nat) (acc : Int), q.satLo ≤ clampCount q n ∧ clampCount q n ≤ q.satHi ∧
      (q.satLo : Int) * 256 ≤ clampAcc q acc ∧ clampAcc q acc ≤ (q.satHi : Int) * 256 := fun n acc =>
    ⟨(clampCount_mem order n).1, (clampCount_mem order n).2, clampAcc_mem order acc⟩
  rcases r with ⟨_, _, _, _, mode, _, _, _, _, _⟩
  cases mode with
  | off => exact ⟨target, rfl, rfl⟩
  | auto =>
    cases closed with
    | true => exact ⟨target, driven _ _⟩
    | false => exact ⟨target, waiting⟩
  | manual =>
    cases closed with
    | true => exact ⟨target, driven _ _⟩
    | false => exact ⟨target, waiting⟩

/-- The state of R155, in which the block waits while the path is not CLOSED. -/
def Regulator.waits (r : Regulator) (q : Policy) : Prop :=
  (r.mode ≠ .off → r.output = q.satLo ∧ r.iacc = (q.satLo : Int) * 256) ∧ r.overdraw = 0 ∧ r.transfer = false

theorem Regulator.waits_pathLeft (r : Regulator) (q : Policy) : (r.pathLeft q).waits q := by
  rw [Regulator.pathLeft_eq]
  split
  next off => exact ⟨fun on => absurd off on, rfl, rfl⟩
  next => exact ⟨fun _ => ⟨rfl, rfl⟩, rfl, rfl⟩

theorem Regulator.waits_toAuto (h : r.waits q) : (r.toAuto q false).waits q := by
  rcases r with ⟨_, _, _, _, mode, _, _, _, _, _⟩
  obtain ⟨rest, count, transfer⟩ := h
  cases mode with
  | auto => exact ⟨rest, count, transfer⟩
  | manual => exact ⟨fun _ => rest (by simp), count, rfl⟩
  | off => exact ⟨fun _ => ⟨rfl, rfl⟩, count, rfl⟩

theorem Regulator.waits_toManual (h : r.waits q) (n : Nat) : (r.toManual q n).waits q := by
  rcases r with ⟨_, _, _, _, mode, _, _, _, _, _⟩
  obtain ⟨rest, count, transfer⟩ := h
  cases mode with
  | auto =>
    obtain ⟨output, -⟩ := rest (by simp)
    exact ⟨fun _ => ⟨output, congrArg (fun n : Nat => (n : Int) * 256) output⟩, count, rfl⟩
  | manual => exact ⟨rest, count, transfer⟩
  | off => exact ⟨fun _ => ⟨rfl, rfl⟩, count, rfl⟩

theorem Regulator.waits_toOff (h : r.waits q) : r.toOff.waits q := by
  unfold Regulator.toOff
  split
  · exact h
  · exact ⟨fun on => absurd rfl on, rfl, rfl⟩

theorem Regulator.waits_adopt (count : r.overdraw = 0) (transfer : r.transfer = false) : (r.adopt q false).waits q := by
  rcases r with ⟨_, _, _, _, mode, _, _, _, _, _⟩
  cases mode with
  | off => exact ⟨fun on => absurd rfl on, count, transfer⟩
  | auto => exact ⟨fun _ => ⟨rfl, rfl⟩, count, transfer⟩
  | manual => exact ⟨fun _ => ⟨rfl, rfl⟩, count, transfer⟩

end

/-! ### The reports (R142, R155) -/

section
variable {s t u : State}

/-- The reports leave the path as the evaluation has it (R142, R95). -/
theorem State.report_path (s t : State) : (s.report t).path = (s.reportOwners t).path := by
  obtain ⟨d, e⟩ := s.reportDroop_all (s.reportOwners t)
  simp [State.report, e]

/-- The regulator after the reports: a recomputed target where they name an input of R141, and the state of R155 where the
path left CLOSED (R142, R155). -/
theorem State.report_reg (s t : State) :
    (s.report t).reg =
      if budgetReports s (s.reportOwners t) then
        if leftClosed s (s.reportOwners t) then (t.reg.setTarget (s.reportOwners t).budget).pathLeft t.policy
        else t.reg.setTarget (s.reportOwners t).budget
      else t.reg := by
  have reg : (s.reportOwners t).reg = t.reg := by simp
  have policy : (s.reportOwners t).policy = t.policy := by simp
  obtain ⟨d, e⟩ := s.reportDroop_all (s.reportOwners t)
  have reports : budgetReports s ((s.reportOwners t).withMeas { (s.reportOwners t).meas with droop := d }) =
    budgetReports s (s.reportOwners t) := rfl
  have left : leftClosed s ((s.reportOwners t).withMeas { (s.reportOwners t).meas with droop := d }) =
    leftClosed s (s.reportOwners t) := rfl
  have budget : State.budget ((s.reportOwners t).withMeas { (s.reportOwners t).meas with droop := d }) =
    (s.reportOwners t).budget := rfl
  rw [← reg, ← policy]
  unfold State.report
  dsimp only
  rw [e, State.recomputeProspect_reg, State.reportBudget, reports, left]
  split
  · split
    · exact congrArg (fun n => (Regulator.setTarget _ n).pathLeft _) budget
    · exact congrArg (fun n => Regulator.setTarget _ n) budget
  · rfl

theorem State.regulatorOk_report (order : t.policy.satLo ≤ t.policy.satHi) (h : t.regulatorOk) : (s.report t).regulatorOk := by
  obtain ⟨below, range⟩ := h
  have moved : ∀ n, (t.reg.setTarget n).spf ≤ (t.reg.setTarget n).spTarget ∧ (t.reg.setTarget n).inRange t.policy := fun n =>
    ⟨Nat.min_le_right _ _, range⟩
  rw [State.regulatorOk, State.report_reg, State.report_policy]
  split
  · split
    · refine ⟨?_, Regulator.inRange_pathLeft (moved _).2 order⟩
      rw [Regulator.pathLeft_eq]
      split <;> exact (moved _).1
    · exact moved _
  · exact ⟨below, range⟩

/-- The path is not CLOSED. -/
theorem State.pathClosed_congr (h : t.path.state = s.path.state) : t.pathClosed = s.pathClosed := by
  rw [State.pathClosed, State.pathClosed, h]

/-- What the regulator keeps to while the path is not CLOSED, it keeps to after the reports, if it did so before the event:
a path that left CLOSED brought it there (R155). -/
theorem State.report_waits {W : Regulator → Policy → Prop} (target : ∀ (r : Regulator) q n, W r q → W (r.setTarget n) q)
    (left : ∀ (r : Regulator) q, W (r.pathLeft q) q) (h : s.pathClosed = false → W t.reg t.policy) :
    (s.report t).pathClosed = false → W (s.report t).reg (s.report t).policy := by
  intro opened
  rw [State.pathClosed_congr (congrArg Path.state (State.report_path s t))] at opened
  rw [State.report_reg, State.report_policy]
  cases closed : s.pathClosed with
  | false =>
    have stays : leftClosed s (s.reportOwners t) = false := by rw [leftClosed, closed, Bool.false_and]
    rw [stays]
    split
    · exact target _ _ _ (h closed)
    · exact h closed
  | true =>
    have changed : s.path.state ≠ (s.reportOwners t).path.state := fun e => by
      rw [← State.pathClosed_congr e, closed] at opened
      cases opened
    rw [if_pos (by simp [budgetReports, changed]), if_pos (by simp [leftClosed, closed, changed])]
    exact left _ _

/-- What the regulator keeps to while the path is not CLOSED. -/
def State.keepsTo (W : Regulator → Policy → Prop) (s : State) : Prop := s.pathClosed = false → W s.reg s.policy

theorem State.keepsTo.of_rest {W : Regulator → Policy → Prop} (h : s.keepsTo W) (reg : t.reg = s.reg)
    (policy : t.policy = s.policy) (path : t.path.state = s.path.state) : t.keepsTo W := fun opened => by
  rw [reg, policy]
  exact h (State.pathClosed_congr path ▸ opened)

theorem blind_keepsTo (W : Regulator → Policy → Prop) : Blind (State.keepsTo W) := fun _ _ h => h

theorem keepsTo_settle {W : Regulator → Policy → Prop} (target : ∀ (r : Regulator) q n, W r q → W (r.setTarget n) q)
    (left : ∀ (r : Regulator) q, W (r.pathLeft q) q) (pages : Bool) (n : Nat)
    (h : s.pathClosed = false → W t.reg t.policy) : (settle pages n s t).keepsTo W :=
  settle_relates (P := State.keepsTo W) (Q := fun s t => s.pathClosed = false → W t.reg t.policy)
    (fun _ _ h => (blind_keepsTo W).concludes (State.report_waits target left h))
    (fun u p h => by simpa [State.keepsTo] using h) n h

/-- SPf stays at or below SP_target, and the outputs in range. -/
theorem regulatorOk_settle (pages : Bool) (n : Nat) (inForce : t.policy.inForce) (h : t.regulatorOk) :
    (settle pages n s t).regulatorOk := by
  have blind : Blind fun u => u.policy.inForce ∧ u.regulatorOk := fun _ _ h => h
  exact (settle_induction (fun u => u.policy.inForce ∧ u.regulatorOk) pages
    (fun a u hu => blind.concludes ⟨by rw [State.report_policy]; exact hu.1,
      State.regulatorOk_report (Nat.le_of_lt hu.1.order) hu.2⟩)
    (fun u p hu => by simpa [State.regulatorOk] using hu) n s t ⟨inForce, h⟩).2

/-! ### What every step keeps -/

theorem State.PortWork.reg {p : LinePort} (h : s.PortWork p t) : t.reg = s.reg := by
  cases h <;> simp [State.releaseFaulted]

theorem State.PortWork.policy {p : LinePort} (h : s.PortWork p t) : t.policy = s.policy := by
  cases h <;> simp [State.releaseFaulted]

theorem State.PortWork.trackers {p : LinePort} (h : s.PortWork p t) : t.trackers = s.trackers := by
  cases h <;> simp [State.releaseFaulted]

theorem State.PortWork.barrel {p : LinePort} (h : s.PortWork p t) : t.barrel = s.barrel := by
  cases h <;> simp [State.releaseFaulted]

theorem State.BarrelWork.reg (h : s.BarrelWork t) : t.reg = s.reg := by
  cases h <;> simp

theorem State.BarrelWork.policy (h : s.BarrelWork t) : t.policy = s.policy := by
  cases h <;> simp

theorem State.takePrimary_rest (s : State) (k : Fin 8) (x : Option Connector) :
    (s.takePrimary k x).reg = s.reg ∧ (s.takePrimary k x).policy = s.policy := by
  unfold State.takePrimary
  split
  · exact ⟨rfl, rfl⟩
  · split
    · exact ⟨rfl, rfl⟩
    · split <;> exact ⟨rfl, rfl⟩

theorem State.PathWork.reg (h : s.PathWork t) : t.reg = s.reg := by
  cases h <;> simp [State.takePrimary_rest]

theorem State.PathWork.policy (h : s.PathWork t) : t.policy = s.policy := by
  cases h <;> simp [State.takePrimary_rest]

theorem State.detached_reg (s : State) (x : Connector) : (s.detached x).reg = s.reg := by
  cases x <;> simp [State.detached]

theorem State.restartBlocks_policy (s : State) : s.restartBlocks.policy = s.policy := by simp [State.restartBlocks]

theorem State.restartBlocks_reg (s : State) : s.restartBlocks.reg = s.reg.toAuto s.policy s.pathClosed := by
  simp [State.restartBlocks, State.pathClosed, Path.restart]

/-- A predicate on policy, regulator and path that an event keeps which leaves policy and regulator alone, with what the other
events do to them. -/
theorem invariant_of_regulator {R : State → Prop}
    (congr : ∀ {s t : State}, t.reg = s.reg → t.policy = s.policy → t.path.state = s.path.state → R s → R t)
    (settles : ∀ {s t : State}, t.reg = s.reg → t.policy = s.policy → s.policy.inForce → R s → R (s.settles t))
    (saturation : ∀ (s : State) n, R s → R (s.withReg { s.reg with saturation := n }))
    (iin : ∀ (s : State) x v, s.path.state = .closed x → s.policy.inForce → R s → R (s.deliverIin x v))
    (regulate : ∀ (s : State) k mode target, s.policy.inForce → R s → R (s.reqRegulate k mode target))
    (adopt : ∀ (s : State) (p : Proposal), p.contradiction = none → R s → R ((s.install p).adoptEffects s.policy))
    (restart : ∀ s : State, s.policy.inForce → R s → R (s.settlesWithin s.restartBlocks.evaluate))
    (call : ∀ (u : State) p, u.policy.inForce → R u → R (u.portEventWithin p (u.callSelection p)))
    (reset : R State.reset) : Invariant fun s => s.policy.inForce ∧ R s := by
  have blind : Blind fun s => s.policy.inForce ∧ R s := fun s _ h => ⟨h.1, congr (s := s) rfl rfl rfl h.2⟩
  have kept : ∀ {s t : State}, t.reg = s.reg → t.policy = s.policy → t.path.state = s.path.state →
      s.policy.inForce ∧ R s → t.policy.inForce ∧ R t := fun reg policy path h =>
    ⟨policy ▸ h.1, congr reg policy path h.2⟩
  have event : ∀ {s t : State}, t.reg = s.reg → t.policy = s.policy → s.policy.inForce ∧ R s →
      (s.settles t).policy.inForce ∧ R (s.settles t) := fun {s t} reg policy h =>
    ⟨by rw [State.settles_policy, policy]; exact h.1, settles reg policy h.1 h.2⟩
  exact {
    blind := blind
    pending := fun _ _ => kept rfl rfl rfl
    meas := fun _ _ _ => kept rfl rfl rfl
    presence := fun _ _ => kept rfl rfl rfl
    time := fun _ _ => kept rfl rfl rfl
    latestVD := fun _ _ => kept rfl rfl rfl
    saturation := fun s n h => ⟨h.1, saturation s n h.2⟩
    line := fun c s t hc h hs => by
      obtain ⟨u, lined, rfl⟩ := exec_lined hc h
      exact blind.finish (kept lined.reg lined.policy (by rw [lined.path]) hs)
    badFrame := fun s p _ _ =>
      have lined := State.lined_breakFrame s p
      kept lined.reg lined.policy (by rw [lined.path])
    stray := fun s p _ _ =>
      have lined := State.lined_endStray s p
      kept lined.reg lined.policy (by rw [lined.path])
    received := fun s p e tag f _ _ _ => event (by simp) (by simp)
    sent := fun s p e f tag _ _ => event (by simp) (by simp)
    port := fun s p t work => event (by simp [work.reg]) (by simp [work.policy])
    barrel := fun s t work => event work.reg work.policy
    path := fun s t work => event work.reg work.policy
    dead := fun s v => event rfl rfl
    starts := fun s x _ => kept (by cases x <;> rfl) (by cases x <;> rfl) (by cases x <;> rfl)
    abandons := fun s x _ => kept (by cases x <;> rfl) (by cases x <;> rfl) (by cases x <;> rfl)
    detachTimer := fun _ _ _ => kept rfl rfl rfl
    attach := fun s x _ => by
      cases x with
      | line p => exact event (by simp) (by simp)
      | barrel => exact event rfl rfl
    detach := fun s x _ => event (s.detached_reg x) (s.detached_policy x)
    iin := fun s x v closed h => ⟨by
      rw [(State.policyKept_deliverIin s x v).1]
      exact h.1, iin s x v closed h.1 h.2⟩
    regulate := fun s k mode target h => ⟨by
      unfold State.reqRegulate
      split <;> exact h.1, regulate s k mode target h.1 h.2⟩
    forget := fun s j => kept rfl rfl (congrArg Path.state (s.path.forget_rest j) :)
    adopt := fun s k h => blind.reqAdopt (fun p sound => ⟨by
      rw [State.adoptEffects_policy]
      exact Proposal.inForce_clamped sound, adopt s p sound h.2⟩) h
    restart := fun s h => by
      refine blind.restart ⟨?_, restart s h.1 h.2⟩ fun u p hu => ⟨?_, call u p hu.1 hu.2⟩
      · rw [State.settlesWithin_policy, State.evaluate_policy, State.restartBlocks_policy]
        exact h.1
      · rw [State.portEventWithin_policy, State.callSelection_policy]
        exact hu.1
    reset := ⟨inForce_initial, reset⟩ }

/-! ### Adoption (R160) -/

/-- What the regulator keeps to, whatever the policy, while the path is not CLOSED. -/
def Regulator.uncounted (r : Regulator) (_ : Policy) : Prop := r.overdraw = 0 ∧ r.transfer = false

theorem Regulator.uncounted_pathLeft (r : Regulator) (q : Policy) : (r.pathLeft q).uncounted q :=
  (r.waits_pathLeft q).2

/-- A predicate on regulator and path that an event keeps which leaves the regulator alone holds when the regulator takes its
turn in an adoption. -/
theorem State.adoptEffects_regulator {K : State → Prop}
    (rest : ∀ {s t : State}, t.reg = s.reg → t.path.state = s.path.state → K s → K t)
    (within : ∀ {s t : State}, t.reg = s.reg → K s → K (s.settlesWithin t)) (old : Policy) (h : K s) :
    ∃ u : State, K u ∧ s.adoptEffects old = u.adoptRegulator := by
  refine State.adoptEffects_reaches (fun u x hu => ?_) (fun u hu => ?_) (fun u hu => ?_) (fun u hu => ?_) (fun u p hu => ?_)
    (fun u hu => ?_) s h
  · unfold State.enableChange
    split
    · cases x <;> exact rest (s := u) rfl rfl hu
    · exact within (u.detached_reg x) hu
    · split
      · cases x <;> exact rest (s := u) rfl rfl hu
      · exact hu
    · exact hu
  · have cleared : K (u.withMeas { u.meas with droop := ⟨0, 0, 0, 0⟩ }) := rest (s := u) rfl rfl hu
    unfold State.adoptMeasurement
    dsimp only
    split
    · exact within rfl cleared
    · exact cleared
  · unfold State.adoptBarrel
    split
    · exact hu
    · exact within (by simp) hu
  · exact within (by simp [State.adoptImages, linePorts]) hu
  · exact within (by simp) hu
  · exact within (by simp) hu

theorem State.below_report (h : t.reg.spf ≤ t.reg.spTarget) : (s.report t).reg.spf ≤ (s.report t).reg.spTarget := by
  rw [State.report_reg]
  split
  · split
    · rw [Regulator.pathLeft_eq]
      split <;> exact Nat.min_le_right _ _
    · exact Nat.min_le_right _ _
  · exact h

/-- SPf is still at or below SP_target when the regulator takes its turn in an adoption. -/
theorem State.below_adopted (old : Policy) (h : s.reg.spf ≤ s.reg.spTarget) :
    ∃ u : State, u.reg.spf ≤ u.reg.spTarget ∧ s.adoptEffects old = u.adoptRegulator := by
  have blind : Blind fun u : State => u.reg.spf ≤ u.reg.spTarget := fun _ _ h => h
  exact State.adoptEffects_regulator (K := fun u => u.reg.spf ≤ u.reg.spTarget) (fun reg _ h => by rw [reg]; exact h)
    (fun {s t} reg h => settle_induction (fun u : State => u.reg.spf ≤ u.reg.spTarget) false
      (fun a u hu => blind.concludes (State.below_report hu)) (fun u p hu => by simpa using hu) _ s t (by rw [reg]; exact h))
    old h

/-- Nothing is counted and no transfer is pending on an open path when the regulator takes its turn in an adoption. -/
theorem State.uncounted_adopted (old : Policy) (h : s.keepsTo Regulator.uncounted) :
    ∃ u : State, u.keepsTo Regulator.uncounted ∧ s.adoptEffects old = u.adoptRegulator :=
  State.adoptEffects_regulator (fun reg path h opened => by rw [reg]; exact h (State.pathClosed_congr path ▸ opened))
    (fun reg h => keepsTo_settle (fun _ _ _ h => h) Regulator.uncounted_pathLeft _ _ fun opened => by rw [reg]; exact h opened)
    old h

theorem Regulator.adopt_filter (r : Regulator) (q : Policy) (closed : Bool) :
    (r.adopt q closed).spf = r.spf ∧ (r.adopt q closed).spTarget = r.spTarget := by
  rcases r with ⟨_, _, _, _, mode, _, _, _, _, _⟩
  cases mode <;> cases closed <;> exact ⟨rfl, rfl⟩

theorem State.adoptRegulator_reg (s : State) :
    s.adoptRegulator.reg = (s.reg.setTarget s.budget).adopt s.policy s.pathClosed := rfl

/-! ### The two invariants -/

theorem State.regulatorOk_deliverIin {x : Connector} {v : Nat} (inForce : s.policy.inForce) (h : s.regulatorOk) :
    (s.deliverIin x v).regulatorOk := by
  obtain ⟨below, range⟩ := h
  unfold State.deliverIin
  dsimp only
  split
  · exact ⟨below, range⟩
  next on =>
    have stepped : ∀ limit, State.regulatorOk
        (s.withReg (Regulator.step { s.reg with lastPV := v } s.policy limit v)) := fun limit => by
      obtain ⟨spf, target⟩ := Regulator.step_filter { s.reg with lastPV := v } s.policy limit v
      refine ⟨?_, Regulator.inRange_step (r := { s.reg with lastPV := v }) range on (Nat.le_of_lt inForce.order) limit v⟩
      rw [State.withReg_reg, spf, target]
      exact advanceFilter_le inForce.alpha below
    split <;> exact stepped _

theorem State.reqRegulate_cases (s : State) (k : Fin 8) (mode target : Nat) :
    (s.reqRegulate k mode target).path = s.path ∧ (s.reqRegulate k mode target).policy = s.policy ∧
      ((s.reqRegulate k mode target).reg = s.reg.toAuto s.policy s.pathClosed ∨
        (s.reqRegulate k mode target).reg = s.reg.toManual s.policy target ∨
        (s.reqRegulate k mode target).reg = s.reg.toOff ∨ (s.reqRegulate k mode target).reg = s.reg) := by
  unfold State.reqRegulate
  split <;> simp

theorem Regulator.filter_toMode (r : Regulator) (q : Policy) (closed : Bool) (n : Nat) :
    (r.toAuto q closed).spf = r.spf ∧ (r.toAuto q closed).spTarget = r.spTarget ∧ (r.toManual q n).spf = r.spf ∧
      (r.toManual q n).spTarget = r.spTarget ∧ r.toOff.spf = r.spf ∧ r.toOff.spTarget = r.spTarget := by
  rcases r with ⟨_, _, _, _, mode, _, _, _, _, _⟩
  cases mode <;> exact ⟨rfl, rfl, rfl, rfl, rfl, rfl⟩

theorem invariant_regulatorOk : Invariant fun s => s.policy.inForce ∧ s.regulatorOk := by
  refine invariant_of_regulator (R := State.regulatorOk) ?_ ?_ ?_ ?_ ?_ ?_ ?_ ?_ ?_
  · intro s t reg policy _ h
    rw [State.regulatorOk, reg, policy]
    exact h
  · intro s t reg policy inForce h
    refine regulatorOk_settle _ _ (policy ▸ inForce) ?_
    rw [State.regulatorOk, reg, policy]
    exact h
  · exact fun s n h => h
  · exact fun s x v _ inForce h => State.regulatorOk_deliverIin inForce h
  · intro s k mode target inForce h
    obtain ⟨below, range⟩ := h
    have order := Nat.le_of_lt inForce.order
    obtain ⟨-, policy, regs⟩ := s.reqRegulate_cases k mode target
    obtain ⟨f1, f2, f3, f4, f5, f6⟩ := s.reg.filter_toMode s.policy s.pathClosed target
    rw [State.regulatorOk, policy]
    rcases regs with e | e | e | e <;> rw [e]
    · exact ⟨by rw [f1, f2]; exact below, Regulator.inRange_toAuto range order _⟩
    · exact ⟨by rw [f3, f4]; exact below, Regulator.inRange_toManual range order _⟩
    · exact ⟨by rw [f5, f6]; exact below, Regulator.inRange_toOff range⟩
    · exact ⟨below, range⟩
  · intro s p sound h
    have policy := (s.install p).adoptEffects_policy s.policy
    have order := Nat.le_of_lt (Proposal.inForce_clamped sound).order
    obtain ⟨u, -, e⟩ := State.below_adopted (s := s.install p) s.policy h.1
    rw [e] at policy ⊢
    have policy : u.policy = p.clamped := policy
    obtain ⟨spf, target⟩ := (u.reg.setTarget u.budget).adopt_filter u.policy u.pathClosed
    rw [State.regulatorOk, State.adoptRegulator_reg, spf, target]
    exact ⟨Nat.min_le_right _ _, Regulator.inRange_adopt _ (by rw [policy]; exact order) _⟩
  · intro s inForce h
    have policy := s.restartBlocks_policy
    refine regulatorOk_settle _ _ (by rw [State.evaluate_policy, policy]; exact inForce) ?_
    obtain ⟨f1, f2, -⟩ := s.reg.filter_toMode s.policy s.pathClosed 0
    rw [State.regulatorOk, State.evaluate_reg, State.evaluate_policy, policy, s.restartBlocks_reg, f1, f2]
    exact ⟨h.1, Regulator.inRange_toAuto h.2 (Nat.le_of_lt inForce.order) _⟩
  · intro u p inForce h
    refine regulatorOk_settle _ _ (by simpa using inForce) ?_
    simpa [State.regulatorOk] using h
  · exact ⟨Nat.le_refl _, Regulator.inRange_iff.mpr (by decide)⟩

theorem invariant_openPathOk : Invariant fun s => s.policy.inForce ∧ s.openPathOk := by
  have settles : ∀ {pages n} {s t : State}, (s.pathClosed = false → t.reg.waits t.policy) → (settle pages n s t).openPathOk :=
    fun {pages n s t} h => keepsTo_settle (W := Regulator.waits) (fun _ _ _ h => h) Regulator.waits_pathLeft pages n h
  refine invariant_of_regulator (R := State.openPathOk) ?_ ?_ ?_ ?_ ?_ ?_ ?_ ?_ ?_
  · intro s t reg policy path h
    exact State.keepsTo.of_rest (W := Regulator.waits) h reg policy path
  · intro s t reg policy _ h
    exact settles fun opened => by rw [reg, policy]; exact h opened
  · exact fun s n h => h
  · intro s x v closed _ _ opened
    rw [State.pathClosed_congr (congrArg Path.state (s.deliverIin_path x v)), State.pathClosed, closed] at opened
    cases opened
  · intro s k mode target _ h opened
    obtain ⟨path, policy, regs⟩ := s.reqRegulate_cases k mode target
    rw [State.pathClosed_congr (congrArg Path.state path)] at opened
    have waits : s.reg.waits s.policy := h opened
    show Regulator.waits _ _
    rw [policy]
    rcases regs with e | e | e | e <;> rw [e]
    · exact opened ▸ Regulator.waits_toAuto waits
    · exact Regulator.waits_toManual waits _
    · exact Regulator.waits_toOff waits
    · exact waits
  · intro s p _ h
    obtain ⟨u, held, e⟩ := State.uncounted_adopted (s := s.install p) s.policy fun opened => (h opened).2
    rw [e]
    intro opened
    have opened : u.pathClosed = false := opened
    obtain ⟨count, transfer⟩ := held opened
    show Regulator.waits _ _
    rw [State.adoptRegulator_reg, opened]
    exact Regulator.waits_adopt count transfer
  · intro s _ h
    refine settles fun opened => ?_
    rw [State.evaluate_reg, State.evaluate_policy, s.restartBlocks_reg, s.restartBlocks_policy, opened]
    exact Regulator.waits_toAuto (h opened)
  · intro u p _ h
    exact settles fun opened => by simpa [Regulator.waits] using h opened
  · exact fun _ => ⟨fun _ => ⟨rfl, rfl⟩, rfl, rfl⟩

end

/-- Settles O8. -/
theorem stepKeepsRegulator : Obligations.StepKeepsRegulator := by
  unfold Obligations.StepKeepsRegulator
  intro s t inForce h
  exact ⟨fun hs => (invariant_regulatorOk.step h ⟨inForce, hs⟩).2, fun hs => (invariant_openPathOk.step h ⟨inForce, hs⟩).2⟩

end Sys2Proof.Machine
end

section
/-! An operation on one line port leaves the other ports' records alone. -/

namespace Sys2Proof.Machine

section
variable {s t u : State} {p : LinePort}

/-- The records of the other line ports are kept. -/
def State.othersKept (p : LinePort) (s t : State) : Prop := ∀ q, q ≠ p → t.port q = s.port q

theorem State.othersKept.refl (s : State) : State.othersKept p s s := fun _ _ => rfl

theorem State.othersKept.trans (h : State.othersKept p s t) (k : State.othersKept p t u) : State.othersKept p s u :=
  fun q hq => (k q hq).trans (h q hq)

theorem State.othersKept_of_ports (h : t.ports = s.ports) : State.othersKept p s t := fun q _ => by
  rw [State.port, State.port, h]

theorem State.othersKept_setPort (s : State) (r : PortRecord) : State.othersKept p s (s.setPort p r) := fun _ hq =>
  s.port_setPort_of_ne r hq

theorem State.othersKept_journal (s : State) (k b : Byte) (d : List Byte) : State.othersKept p s (s.journal k b d) :=
  .refl s

theorem State.othersKept_complete (s : State) (k : Fin 8) (c : ResultCode) (d : List Byte) :
    State.othersKept p s (s.complete k c d) := .refl s

theorem State.othersKept_select (s : State) : State.othersKept p s (s.select p).1 := by
  rw [State.select_state]
  exact s.othersKept_setPort _

theorem State.othersKept_toRest (s : State) : State.othersKept p s (s.toRest p) := s.othersKept_setPort _

theorem State.othersKept_completePort (s : State) (kinds : List PortRequestKind) (c : ResultCode) :
    State.othersKept p s (s.completePort p kinds c) := by
  rcases s.completePort_cases p kinds c with ⟨q, -, -, e⟩ | ⟨-, e⟩ <;> rw [e]
  · exact s.othersKept_setPort _
  · exact .refl s

theorem State.othersKept_applyOutcome (s : State) (o : Outcome) : State.othersKept p s (s.applyOutcome p o) := by
  cases o with
  | claim c => exact s.othersKept_setPort _
  | noClaim shared =>
    have rested := ((s.othersKept_setPort (p := p) _).trans ((s.setPort p ((s.port p).setShared shared)).othersKept_toRest)).trans
      (State.othersKept_completePort _ [.refresh] .ok)
    unfold State.applyOutcome
    dsimp only
    split
    · exact rested.trans (State.othersKept_completePort _ _ _)
    · exact rested
  | noCandidate => exact (s.othersKept_toRest).trans (State.othersKept_completePort _ [.refresh] .noUsableLevel)

theorem State.othersKept_selectApply (s : State) : State.othersKept p s ((s.select p).1.applyOutcome p (s.select p).2) :=
  s.othersKept_select.trans (State.othersKept_applyOutcome _ _)

theorem State.othersKept_callSelection (s : State) : State.othersKept p s (s.callSelection p) := by
  have free : ∀ b : Bool, State.othersKept p s (if b then s else (s.select p).1.applyOutcome p (s.select p).2) := fun b => by
    cases b
    · exact s.othersKept_selectApply
    · exact .refl s
  have anew : ∀ o, State.othersKept p s (((s.select p).1.setPort p ((s.select p).1.port p).retire).applyOutcome p o) := fun o =>
    (s.othersKept_select.trans (State.othersKept_setPort _ _)).trans (State.othersKept_applyOutcome _ o)
  unfold State.callSelection
  dsimp only
  split
  · exact .refl s
  · split
    · exact s.othersKept_setPort _
    · exact free _
    · exact free _
    · split
      · exact .refl s
      · split
        · split
          · exact s.othersKept_select
          · exact anew _
        · exact anew _
    all_goals exact .refl s

theorem State.othersKept_captureSelection (s : State) : State.othersKept p s (s.captureSelection p) := by
  have retired : State.othersKept p s (if (s.port p).state = .claimed then s.setPort p (s.port p).retire else s) := by
    split
    · exact s.othersKept_setPort _
    · exact .refl s
  unfold State.captureSelection
  dsimp only
  split
  · exact .refl s
  · exact s.othersKept_setPort _
  · split
    · exact (retired.trans (State.othersKept_toRest _)).trans (State.othersKept_completePort _ _ _)
    · split
      · exact retired.trans (State.othersKept_toRest _)
      · exact retired.trans (State.othersKept_selectApply _)

theorem State.othersKept_voidPin (s : State) (n : Pin) (why : VoidReason) : State.othersKept p s (s.voidPin p n why) :=
  (s.othersKept_setPort _).trans (State.othersKept_completePort _ [.pin] .lost)

theorem State.othersKept_recheckPin (s : State) (i : Image) : State.othersKept p s (s.recheckPin p i) := by
  unfold State.recheckPin
  split
  · exact .refl s
  · split
    · exact s.othersKept_voidPin _ _
    · exact s.othersKept_setPort _

theorem State.othersKept_adoptPin (s : State) : State.othersKept p s (s.adoptPin p) := by
  unfold State.adoptPin
  split
  · split
    · exact s.othersKept_voidPin _ _
    · exact s.othersKept_setPort _
  · exact .refl s

theorem State.othersKept_coverContract (s : State) (i : Image) (t : LapseTarget) (c : Contract) :
    State.othersKept p s (s.coverContract p i t c) := by
  unfold State.coverContract
  dsimp only
  split
  · exact s.othersKept_setPort _
  · split <;> exact s.othersKept_setPort _

theorem State.coverage_cases (s : State) (p : LinePort) (i : Image) :
    s.coverage p i = s ∨
      (∃ c, ((s.port p).state = .asking ∨ (s.port p).state = .claimed ∨ (s.port p).state = .bound) ∧ (s.port p).live = some c ∧
        c.negotiated = true ∧ s.coverContract p i .live c = s.coverage p i) ∨
      ∃ c, (s.port p).state = .shifting ∧ (s.port p).staged = some c ∧ c.negotiated = true ∧
        s.coverContract p i .staged c = s.coverage p i := by
  unfold State.coverage
  cases state : (s.port p).state <;> simp only [reduceCtorEq, true_or, or_true, false_and, true_and, or_false]
  case shifting =>
    cases live : (s.port p).staged with
    | none => simp
    | some c => cases n : c.negotiated <;> simp [n]
  all_goals
    cases live : (s.port p).live with
    | none => simp
    | some c => cases n : c.negotiated <;> simp [n]

theorem State.othersKept_coverage (s : State) (i : Image) : State.othersKept p s (s.coverage p i) := by
  rcases s.coverage_cases p i with e | ⟨c, -, -, -, e⟩ | ⟨c, -, -, -, e⟩
  · rw [e]
    exact .refl s
  · exact e ▸ s.othersKept_coverContract i .live c
  · exact e ▸ s.othersKept_coverContract i .staged c

theorem State.othersKept_askEnded (s : State) : State.othersKept p s (s.askEnded p) := by
  unfold State.askEnded
  split
  · exact s.othersKept_setPort _
  · exact .refl s

theorem State.othersKept_capture (s : State) (i : Image) (answer : Bool) : State.othersKept p s (s.capture p i answer) := by
  have stored : State.othersKept p s (s.storeImage p i answer) := s.othersKept_setPort _
  rw [State.capture_eq]
  exact (((stored.trans (State.othersKept_askEnded _)).trans (State.othersKept_coverage _ i)).trans
    (State.othersKept_recheckPin _ i)).trans (State.othersKept_captureSelection _)

theorem State.othersKept_declined (s : State) (reason : Byte) : State.othersKept p s (s.declined p reason) :=
  (s.othersKept_setPort _).trans (State.othersKept_completePort _ [.refresh, .pin] .declined)

/-- SETTLED up to its completions: the claimed terms are live (R69). -/
def State.boundOn (s : State) (p : LinePort) : State :=
  let r := (s.port p).settleLapse
  (s.setPort p { r with
    live := r.staged, staged := none, timer := .stopped, claimTag := none, claimAttempts := 0, pathFault := false
    state := .bound }).journal 0x04 (lineByte p)
    ([byte ((r.staged.bind Contract.level).getD 0), 0] ++ le2 ((r.staged.map Contract.volts).getD 0) ++
      le2 ((r.staged.map Contract.limit).getD 0) ++ le2 ((r.staged.map Contract.operating).getD 0))

/-- The completion of a REFRESH at SETTLED. -/
def State.boundRefreshed (s : State) (p : LinePort) : State :=
  if (s.port p).settleLapse.refreshPending then s.boundOn p else (s.boundOn p).completePort p [.refresh] .ok

/-- SETTLED with its completions, before what was deferred (R69). -/
def State.boundDone (s : State) (p : LinePort) : State :=
  if (s.boundRefreshed p).matchesPin p then (s.boundRefreshed p).completePort p [.pin] .ok else s.boundRefreshed p

theorem State.settled_eq (s : State) (p : LinePort) :
    s.settled p =
      let t := s.boundDone p
      let u := t.port p
      if u.refreshPending then t.setPort p { u.clearBars.startAsk with refreshPending := false, deferred := false }
      else if u.deferred then (t.setPort p { u with deferred := false }).callSelection p
      else t := rfl

theorem State.othersKept_boundDone (s : State) : State.othersKept p s (s.boundDone p) := by
  have bound : State.othersKept p s (s.boundOn p) := s.othersKept_setPort _
  have refreshed : State.othersKept p s (s.boundRefreshed p) := by
    unfold State.boundRefreshed
    split
    · exact bound
    · exact bound.trans (State.othersKept_completePort _ _ _)
  unfold State.boundDone
  split
  · exact refreshed.trans (State.othersKept_completePort _ _ _)
  · exact refreshed

theorem State.othersKept_settled (s : State) : State.othersKept p s (s.settled p) := by
  rw [State.settled_eq]
  dsimp only
  split
  · exact s.othersKept_boundDone.trans (State.othersKept_setPort _ _)
  · split
    · exact (s.othersKept_boundDone.trans (State.othersKept_setPort _ _)).trans (State.othersKept_callSelection _)
    · exact s.othersKept_boundDone

theorem State.othersKept_takeCut (s : State) (volts amps : Nat) : State.othersKept p s (s.takeCut p volts amps) := by
  unfold State.takeCut
  dsimp only
  split <;> exact s.othersKept_setPort _

theorem State.othersKept_enterFaulted (s : State) (cause : FaultCause) : State.othersKept p s (s.enterFaulted p cause) :=
  (s.othersKept_setPort _).trans (State.othersKept_completePort _ [.refresh, .pin] _)

theorem State.othersKept_portDroop (s : State) : State.othersKept p s (s.portDroop p) := by
  unfold State.portDroop
  dsimp only
  split
  · exact .refl s
  · split
    · exact s.othersKept_enterFaulted _
    · exact s.othersKept_enterFaulted _
    · exact s.othersKept_enterFaulted _
    · exact s.othersKept_enterFaulted _
    · exact .refl s

theorem State.othersKept_silenced (s : State) : State.othersKept p s (s.silenced p) :=
  (s.othersKept_setPort _).trans (State.othersKept_completePort _ [.refresh, .pin] .timedOut)

theorem State.othersKept_tenderTimeout (s : State) : State.othersKept p s (s.tenderTimeout p) := by
  rw [State.tenderTimeout_eq]
  split
  · exact s.othersKept_setPort _
  · exact s.othersKept_silenced.trans (State.othersKept_callSelection _)

theorem State.othersKept_claimTimeout (s : State) : State.othersKept p s (s.claimTimeout p) := by
  unfold State.claimTimeout
  dsimp only
  split
  · exact (s.othersKept_setPort _).trans (State.othersKept_enterFaulted _ _)
  · split
    · exact (s.othersKept_setPort _).trans (State.othersKept_completePort _ _ _)
    · exact s.othersKept_setPort _

theorem State.othersKept_txReport (s : State) (f : OutFrame) (tag : Nat) : State.othersKept p s (s.txReport p f tag) := by
  unfold State.txReport
  dsimp only
  split
  · split
    · exact s.othersKept_setPort _
    · exact .refl s
  · split
    · exact s.othersKept_setPort _
    · exact .refl s
  · exact s.othersKept_completePort _ _

theorem State.othersKept_deliver (s : State) (tag : Nat) (f : FeederFrame) : State.othersKept p s (s.deliver p tag f) := by
  have stale : State.othersKept p s (s.countStaleFrame p) := s.othersKept_setPort _
  unfold State.deliver
  dsimp only
  split <;> split
  · exact s.othersKept_capture _ _
  · exact stale
  · exact s.othersKept_setPort _
  · exact stale
  · exact s.othersKept_declined _
  · exact stale
  · exact s.othersKept_settled
  · exact stale
  · exact s.othersKept_takeCut _ _
  · exact stale

theorem State.othersKept_portRefresh (s : State) (k : Fin 8) : State.othersKept p s (s.portRefresh p k) := by
  unfold State.portRefresh
  dsimp only
  split <;> exact s.othersKept_setPort _

theorem State.othersKept_portRelease (s : State) (k : Fin 8) : State.othersKept p s (s.portRelease p k) := by
  unfold State.portRelease
  dsimp only
  split <;> exact s.othersKept_setPort _

theorem State.othersKept_portPin (s : State) (k : Fin 8) (n : Pin) : State.othersKept p s (s.portPin p k n) :=
  (s.othersKept_setPort _).trans (State.othersKept_callSelection _)

theorem State.othersKept_portUnpin (s : State) (k : Fin 8) : State.othersKept p s (s.portUnpin p k) :=
  ((s.othersKept_setPort _).trans (State.othersKept_completePort _ [.pin] .lost)).trans
    ((State.othersKept_complete _ k .ok []).trans (State.othersKept_callSelection _))

theorem State.othersKept_portAttach (s : State) : State.othersKept p s (s.portAttach p) := s.othersKept_setPort _

/-- An event on a port leaves the other ports' records alone. -/
theorem State.PortWork.othersKept (h : s.PortWork p t) : State.othersKept p s t := by
  cases h with
  | tenderTimeout _ => exact s.othersKept_tenderTimeout
  | claimTimeout _ => exact s.othersKept_claimTimeout
  | settleTimeout _ => exact s.othersKept_enterFaulted _
  | lapse _ => exact s.othersKept_setPort _
  | droop => exact s.othersKept_portDroop
  | refresh k _ => exact s.othersKept_portRefresh k
  | pin k n _ => exact s.othersKept_portPin k n
  | unpin k _ => exact s.othersKept_portUnpin k
  | hold k _ => exact s.othersKept_setPort _
  | resume k _ => exact (s.othersKept_setPort _).trans (State.othersKept_callSelection _)
  | releaseFaulted k _ => exact s.othersKept_setPort _
  | release k _ _ => exact s.othersKept_portRelease k

end

end Sys2Proof.Machine
end

section
/-! Contracts, timers and states of the port records under the operations of the Negotiation Unit (4.2, R56). -/

namespace Sys2Proof.Machine

section
variable {s t u : State} {p : LinePort} {r : PortRecord}

/-- The record of an attached port whose contracts and timer agree with its state. -/
structure PortRecord.engaged (r : PortRecord) : Prop where
  there : r.negotiating = true
  live : r.live.isSome = true
  staged : r.staged.isSome = true ↔ r.state = .claimed ∨ r.state = .shifting
  timer : timerAgrees r.timer r.state
  counter : r.tagCounter < 7

/-- A record with no claim outstanding and no protocol timer running. -/
structure PortRecord.quiet (r : PortRecord) : Prop where
  live : r.live.isSome = true
  staged : r.staged = none
  timer : r.timer = .stopped
  counter : r.tagCounter < 7

theorem PortRecord.negotiating_iff : r.negotiating = true ↔ r.state ≠ .empty ∧ r.state ≠ .settling := by
  simp [PortRecord.negotiating]

theorem PortRecord.engaged_iff : r.engaged ↔ r.negotiating = true ∧ r.consistent := by
  rw [PortRecord.consistent]
  constructor
  · intro h
    have there := PortRecord.negotiating_iff.mp h.there
    exact ⟨h.there, h.staged, ⟨fun _ => there, fun _ => h.live⟩, h.timer, fun _ => there, h.counter⟩
  · rintro ⟨there, staged, live, timer, -, counter⟩
    exact ⟨there, live.mpr (PortRecord.negotiating_iff.mp there), staged, timer, counter⟩

/-- A quiet record agrees with a state that has neither a claim nor a shift. -/
theorem PortRecord.quiet.engaged (h : r.quiet)
    (state : r.state = .asking ∨ r.state = .base ∨ r.state = .bound ∨ r.state = .faulted) : r.engaged where
  there := by rcases state with e | e | e | e <;> simp [PortRecord.negotiating, e]
  live := h.live
  staged := by rcases state with e | e | e | e <;> simp [h.staged, e]
  timer := by rcases state with e | e | e | e <;> simp [h.timer, timerAgrees, e]
  counter := h.counter

theorem PortRecord.resting_cases (r : PortRecord) : r.resting = .base ∨ r.resting = .bound := by
  unfold PortRecord.resting
  split
  · split <;> simp
  · exact .inl rfl

/-- A quiet record agrees with its resting state. -/
theorem PortRecord.quiet.engaged_rest (h : r.quiet) (state : r.state = r.resting) : r.engaged :=
  h.engaged (by rcases r.resting_cases with e | e <;> simp [state, e])

/-- A port that is neither claiming nor shifting nor asking is quiet. -/
theorem PortRecord.engaged.quiet (h : r.engaged) (state : r.state = .base ∨ r.state = .bound ∨ r.state = .faulted) :
    r.quiet where
  live := h.live
  staged := by
    have := h.staged
    rcases state with e | e | e <;> simpa [e] using this
  timer := by
    have := h.timer
    rcases state with e | e | e <;> rw [e] at this <;> cases k : r.timer <;> simp_all [timerAgrees]
  counter := h.counter

theorem PortRecord.quiet_retire (h : r.engaged) : r.retire.quiet := by
  have withdrawn : r.withdrawClaim.live = r.live ∧ r.withdrawClaim.tagCounter = r.tagCounter := by
    unfold PortRecord.withdrawClaim
    split <;> exact ⟨rfl, rfl⟩
  exact ⟨withdrawn.1 ▸ h.live, rfl, rfl, withdrawn.2 ▸ h.counter⟩

theorem PortRecord.engaged_makeClaim (live : r.live.isSome = true) (counter : r.tagCounter < 7) (c : Claim) :
    (r.makeClaim c).engaged :=
  ⟨rfl, live, by simp [PortRecord.makeClaim], by simp [PortRecord.makeClaim, timerAgrees], counter⟩

/-! ### Operations on the record of a port -/

theorem State.engaged_completePort (kinds : List PortRequestKind) (c : ResultCode) (h : (s.port p).engaged) :
    ((s.completePort p kinds c).port p).engaged := by
  rcases s.completePort_cases p kinds c with ⟨q, -, -, e⟩ | ⟨-, e⟩ <;> rw [e]
  · rw [State.port_complete, State.port_setPort_self]
    exact ⟨h.there, h.live, h.staged, h.timer, h.counter⟩
  · exact h

theorem State.engaged_toRest (h : (s.port p).quiet) : ((s.toRest p).port p).engaged := by
  rw [State.toRest, State.port_setPort_self]
  exact PortRecord.quiet.engaged_rest (r := { s.port p with state := (s.port p).resting })
    ⟨h.live, h.staged, h.timer, h.counter⟩ rfl

/-- Whatever a selection comes to, the machine acts on it (R64). -/
theorem State.engaged_applyOutcome (h : (s.port p).quiet) (o : Outcome) : ((s.applyOutcome p o).port p).engaged := by
  cases o with
  | claim c =>
    show ((s.setPort p ((s.port p).makeClaim c)).port p).engaged
    rw [State.port_setPort_self]
    exact PortRecord.engaged_makeClaim h.live h.counter c
  | noClaim shared =>
    have shared : (((s.setPort p ((s.port p).setShared shared)).toRest p).port p).engaged := by
      refine State.engaged_toRest ?_
      rw [State.port_setPort_self]
      exact ⟨by simpa [PortRecord.setShared] using h.live, h.staged, h.timer, h.counter⟩
    have refreshed := State.engaged_completePort [.refresh] .ok shared
    unfold State.applyOutcome
    dsimp only
    split
    · exact State.engaged_completePort _ _ refreshed
    · exact refreshed
  | noCandidate => exact State.engaged_completePort [.refresh] .noUsableLevel (s := (s.toRest p).journal _ _ _) (State.engaged_toRest h)

theorem State.port_select (s : State) (p : LinePort) : (s.select p).1.port p = rescore s.policy p (s.port p) := by
  rw [State.select_state]
  exact s.port_setPort_self p _

theorem State.quiet_select (h : (s.port p).quiet) : ((s.select p).1.port p).quiet := by
  rw [State.port_select]
  exact ⟨h.live, h.staged, h.timer, h.counter⟩

theorem State.engaged_select (h : (s.port p).engaged) : ((s.select p).1.port p).engaged := by
  rw [State.port_select]
  exact ⟨h.there, h.live, h.staged, h.timer, h.counter⟩

theorem State.engaged_selectApply (h : (s.port p).quiet) : (((s.select p).1.applyOutcome p (s.select p).2).port p).engaged :=
  State.engaged_applyOutcome (State.quiet_select h) _

theorem State.engaged_callSelection (h : (s.port p).engaged) : ((s.callSelection p).port p).engaged := by
  have free : ∀ b : Bool, (s.port p).quiet →
      ((if b then s else (s.select p).1.applyOutcome p (s.select p).2).port p).engaged := fun b quiet => by
    cases b
    · exact State.engaged_selectApply quiet
    · exact h
  have anew : ∀ o, ((((s.select p).1.setPort p ((s.select p).1.port p).retire).applyOutcome p o).port p).engaged := fun o => by
    refine State.engaged_applyOutcome ?_ o
    rw [State.port_setPort_self]
    exact PortRecord.quiet_retire (State.engaged_select h)
  unfold State.callSelection
  dsimp only
  split
  · exact h
  · split
    · rw [State.port_setPort_self]
      exact ⟨h.there, h.live, h.staged, h.timer, h.counter⟩
    next base => exact free _ (h.quiet (.inl base))
    next bound => exact free _ (h.quiet (.inr (.inl bound)))
    · split
      · exact h
      · split
        · split
          · exact State.engaged_select h
          · exact anew _
        · exact anew _
    all_goals exact h

/-- The selection of a capture finds no TENDER_WAIT running (R61). -/
theorem State.engaged_captureSelection (h : (s.port p).engaged) (asked : (s.port p).state = .asking → (s.port p).timer = .stopped) :
    ((s.captureSelection p).port p).engaged := by
  have retired : (s.port p).state ≠ .faulted → (s.port p).state ≠ .shifting →
      ((if (s.port p).state = .claimed then s.setPort p (s.port p).retire else s).port p).quiet := fun sound still => by
    split
    · rw [State.port_setPort_self]
      exact PortRecord.quiet_retire h
    next unclaimed =>
      by_cases asking : (s.port p).state = .asking
      · exact ⟨h.live, by simpa [asking] using h.staged, asked asking, h.counter⟩
      · have there := PortRecord.negotiating_iff.mp h.there
        refine h.quiet ?_
        cases e : (s.port p).state <;> simp_all
  unfold State.captureSelection
  dsimp only
  split
  · exact h
  · rw [State.port_setPort_self]
    exact ⟨h.there, h.live, h.staged, h.timer, h.counter⟩
  next other sound still =>
    have quiet := retired sound still
    split
    · exact State.engaged_completePort _ _ (State.engaged_toRest quiet)
    · split
      · exact State.engaged_toRest quiet
      · exact State.engaged_selectApply quiet

theorem State.engaged_voidPin (h : (s.port p).engaged) (n : Pin) (why : VoidReason) : ((s.voidPin p n why).port p).engaged := by
  unfold State.voidPin
  refine State.engaged_completePort _ _ ?_
  rw [State.port_journal, State.port_setPort_self]
  exact ⟨h.there, h.live, h.staged, h.timer, h.counter⟩

theorem State.engaged_setPin (h : (s.port p).engaged) (n : Option Pin) :
    ((s.setPort p { s.port p with pin := n }).port p).engaged := by
  rw [State.port_setPort_self]
  exact ⟨h.there, h.live, h.staged, h.timer, h.counter⟩

theorem State.engaged_recheckPin (h : (s.port p).engaged) (i : Image) : ((s.recheckPin p i).port p).engaged := by
  unfold State.recheckPin
  split
  · exact h
  · split
    · exact State.engaged_voidPin h _ _
    · exact State.engaged_setPin h _

theorem State.engaged_adoptPin (h : (s.port p).engaged) : ((s.adoptPin p).port p).engaged := by
  unfold State.adoptPin
  split
  · split
    · exact State.engaged_voidPin h _ _
    · exact State.engaged_setPin h _
  · exact h

/-- The lapse flags do not bear on the contracts. -/
theorem PortRecord.engaged.cancelLapse (h : r.engaged) (t : LapseTarget) : (r.cancelLapse t).engaged := by
  unfold PortRecord.cancelLapse
  split
  · exact ⟨h.there, h.live, h.staged, h.timer, h.counter⟩
  · exact h

theorem State.engaged_coverContract (h : (s.port p).engaged) (i : Image) (t : LapseTarget) (c : Contract)
    (present : t = .staged → (s.port p).staged.isSome = true) : ((s.coverContract p i t c).port p).engaged := by
  have set : ∀ n, ((s.port p).setContract t n).engaged := fun n => by
    cases t with
    | live => exact ⟨h.there, rfl, h.staged, h.timer, h.counter⟩
    | staged => exact ⟨h.there, h.live, ⟨fun _ => h.staged.mp (present rfl), fun _ => rfl⟩, h.timer, h.counter⟩
  unfold State.coverContract
  dsimp only
  split
  · rw [State.port_journal, State.port_setPort_self]
    exact ⟨h.there, h.live, h.staged, h.timer, h.counter⟩
  · split
    · rw [State.port_setPort_self]
      exact h.cancelLapse t
    · rw [State.port_journal, State.port_setPort_self]
      exact (set _).cancelLapse t

theorem State.engaged_coverage (h : (s.port p).engaged) (i : Image) : ((s.coverage p i).port p).engaged := by
  rcases s.coverage_cases p i with e | ⟨c, -, -, -, e⟩ | ⟨c, -, staged, -, e⟩
  · rw [e]
    exact h
  · exact e ▸ State.engaged_coverContract h i .live c fun e => by cases e
  · exact e ▸ State.engaged_coverContract h i .staged c fun _ => by rw [staged]; rfl

/-- No TENDER_WAIT runs on an asking port. -/
def PortRecord.unasked (r : PortRecord) : Prop := r.state = .asking → r.timer = .stopped

theorem PortRecord.unasked.of_kept {v : PortRecord} (h : r.unasked) (state : v.state = r.state) (timer : v.timer = r.timer) :
    v.unasked := fun asking => timer.trans (h (state.symm.trans asking))

theorem PortRecord.cancelLapse_kept (r : PortRecord) (t : LapseTarget) :
    (r.cancelLapse t).state = r.state ∧ (r.cancelLapse t).timer = r.timer := by
  unfold PortRecord.cancelLapse
  split <;> exact ⟨rfl, rfl⟩

theorem PortRecord.setContract_kept (r : PortRecord) (t : LapseTarget) (c : Contract) :
    (r.setContract t c).state = r.state ∧ (r.setContract t c).timer = r.timer := by
  cases t <;> exact ⟨rfl, rfl⟩

theorem State.coverContract_kept (s : State) (p : LinePort) (i : Image) (t : LapseTarget) (c : Contract) :
    ((s.coverContract p i t c).port p).state = (s.port p).state ∧
      ((s.coverContract p i t c).port p).timer = (s.port p).timer := by
  unfold State.coverContract
  dsimp only
  split
  · rw [State.port_journal, State.port_setPort_self]
    exact ⟨rfl, rfl⟩
  · split
    · rw [State.port_setPort_self]
      exact (s.port p).cancelLapse_kept t
    · rw [State.port_journal, State.port_setPort_self]
      obtain ⟨state, timer⟩ := PortRecord.cancelLapse_kept ((s.port p).setContract t
        { c with limit := largest (containingAmps i c.volts),
                 operating := min c.operating (largest (containingAmps i c.volts)), narrowed := true }) t
      exact ⟨state.trans (PortRecord.setContract_kept _ t _).1, timer.trans (PortRecord.setContract_kept _ t _).2⟩

theorem State.coverage_kept (s : State) (p : LinePort) (i : Image) :
    ((s.coverage p i).port p).state = (s.port p).state ∧ ((s.coverage p i).port p).timer = (s.port p).timer := by
  rcases s.coverage_cases p i with e | ⟨c, -, -, -, e⟩ | ⟨c, -, -, -, e⟩
  · rw [e]
    exact ⟨rfl, rfl⟩
  · exact e ▸ s.coverContract_kept p i .live c
  · exact e ▸ s.coverContract_kept p i .staged c

theorem State.recheckPin_kept (s : State) (p : LinePort) (i : Image) :
    ((s.recheckPin p i).port p).state = (s.port p).state ∧ ((s.recheckPin p i).port p).timer = (s.port p).timer := by
  unfold State.recheckPin
  split
  · exact ⟨rfl, rfl⟩
  · split
    · unfold State.voidPin
      dsimp only
      rcases State.completePort_cases ((s.setPort p { s.port p with pin := none }).journal 0x10 (lineByte p) _) p [.pin] .lost
        with ⟨q, -, -, e⟩ | ⟨-, e⟩ <;> rw [e] <;>
        simp only [State.port_complete, State.port_setPort_self, State.port_journal, and_self]
    · rw [State.port_setPort_self]
      exact ⟨rfl, rfl⟩

theorem State.engaged_askEnded (h : (s.port p).engaged) :
    ((s.askEnded p).port p).engaged ∧ ((s.askEnded p).port p).unasked := by
  unfold State.askEnded
  split
  next asking =>
    rw [State.port_setPort_self]
    have withdrawn : (s.port p).withdrawAsk = { s.port p with slot := (s.port p).withdrawAsk.slot } := by
      unfold PortRecord.withdrawAsk
      split <;> rfl
    rw [PortRecord.endAsk, withdrawn]
    exact ⟨⟨h.there, h.live, h.staged, by simp [timerAgrees, asking], h.counter⟩, fun _ => rfl⟩
  next other => exact ⟨h, fun asking => absurd asking other⟩

theorem State.engaged_capture (h : (s.port p).engaged) (i : Image) (answer : Bool) :
    ((s.capture p i answer).port p).engaged := by
  have stored : ((s.storeImage p i answer).port p).engaged := by
    unfold State.storeImage
    rw [State.port_journal, State.port_setPort_self]
    exact ⟨h.there, h.live, h.staged, h.timer, h.counter⟩
  obtain ⟨ended, unasked⟩ := State.engaged_askEnded stored
  have covered := State.engaged_coverage ended i
  obtain ⟨state, timer⟩ := ((s.storeImage p i answer).askEnded p).coverage_kept p i
  obtain ⟨state', timer'⟩ := (((s.storeImage p i answer).askEnded p).coverage p i).recheckPin_kept p i
  rw [State.capture_eq]
  exact State.engaged_captureSelection (State.engaged_recheckPin covered i)
    ((unasked.of_kept state timer).of_kept state' timer')

theorem State.engaged_setPort (h : r.engaged) : ((s.setPort p r).port p).engaged := by
  rw [State.port_setPort_self]
  exact h

theorem State.engaged_declined (h : (s.port p).engaged) (reason : Byte) : ((s.declined p reason).port p).engaged := by
  refine State.engaged_completePort [.refresh, .pin] .declined (s := State.journal _ _ _ _) ?_
  rw [State.port_journal]
  exact State.engaged_setPort (PortRecord.quiet.engaged_rest ⟨h.live, rfl, rfl, h.counter⟩ rfl)

/-- SETTLED finds the staged contract of a shift (R69). -/
theorem State.engaged_boundDone (h : (s.port p).engaged) (shifting : (s.port p).state = .shifting) :
    ((s.boundDone p).port p).engaged ∧ ((s.boundDone p).port p).state = .bound := by
  have lapse : (s.port p).settleLapse.staged = (s.port p).staged ∧ (s.port p).settleLapse.tagCounter = (s.port p).tagCounter := by
    unfold PortRecord.settleLapse
    split <;> exact ⟨rfl, rfl⟩
  have staged : (s.port p).staged.isSome = true := h.staged.mpr (.inr shifting)
  have on : ((s.boundOn p).port p).engaged ∧ ((s.boundOn p).port p).state = .bound := by
    unfold State.boundOn
    rw [State.port_journal, State.port_setPort_self]
    exact ⟨PortRecord.quiet.engaged (r := { (s.port p).settleLapse with
      live := (s.port p).settleLapse.staged, staged := none, timer := .stopped, claimTag := none, claimAttempts := 0,
      pathFault := false, state := .bound }) ⟨lapse.1 ▸ staged, rfl, rfl, lapse.2 ▸ h.counter⟩ (.inr (.inr (.inl rfl))), rfl⟩
  have completed : ∀ (v : State) kinds, (v.port p).engaged ∧ (v.port p).state = .bound →
      ((v.completePort p kinds .ok).port p).engaged ∧ ((v.completePort p kinds .ok).port p).state = .bound := fun v kinds hv => by
    refine ⟨State.engaged_completePort _ _ hv.1, ?_⟩
    rcases v.completePort_cases p kinds .ok with ⟨q, -, -, e⟩ | ⟨-, e⟩ <;> rw [e]
    · rw [State.port_complete, State.port_setPort_self]
      exact hv.2
    · exact hv.2
  have refreshed : ((s.boundRefreshed p).port p).engaged ∧ ((s.boundRefreshed p).port p).state = .bound := by
    unfold State.boundRefreshed
    split
    · exact on
    · exact completed _ _ on
  unfold State.boundDone
  split
  · exact completed _ _ refreshed
  · exact refreshed

/-- A fresh ask on a port with no claim outstanding (R57, R79). -/
theorem PortRecord.quiet_startAsk (live : r.live.isSome = true) (staged : r.staged = none) (counter : r.tagCounter < 7) :
    r.startAsk.engaged :=
  PortRecord.quiet.engaged (r := r.startAsk) ⟨live, staged, rfl, counter⟩ (.inl rfl)

theorem State.engaged_settled (h : (s.port p).engaged) (shifting : (s.port p).state = .shifting) :
    ((s.settled p).port p).engaged := by
  obtain ⟨done, bound⟩ := State.engaged_boundDone h shifting
  have quiet := done.quiet (.inr (.inl bound))
  rw [State.settled_eq]
  dsimp only
  split
  · have asked : ((s.boundDone p).port p).clearBars.startAsk.engaged :=
      PortRecord.quiet_startAsk quiet.live quiet.staged quiet.counter
    exact State.engaged_setPort ⟨asked.there, asked.live, asked.staged, asked.timer, asked.counter⟩
  · split
    · refine State.engaged_callSelection (State.engaged_setPort ?_)
      exact ⟨done.there, done.live, done.staged, done.timer, done.counter⟩
    · exact done

theorem State.engaged_takeCut (h : (s.port p).engaged) (volts amps : Nat) : ((s.takeCut p volts amps).port p).engaged := by
  have target : ∀ {n : Contract} {t c}, (s.port p).cutTarget volts = some (t, c) → ((s.port p).setContract t n).engaged :=
      fun {n t c} e => by
    cases t with
    | live => exact ⟨h.there, rfl, h.staged, h.timer, h.counter⟩
    | staged =>
      have shifting : (s.port p).state = .shifting := by
        unfold PortRecord.cutTarget at e
        dsimp only at e
        cases k : (s.port p).state <;> rw [k] at e
        all_goals
          cases live : (s.port p).live with
          | none => rw [live] at e; cases e
          | some c =>
            rw [live] at e
            dsimp only at e
            split at e <;> cases e
      exact ⟨h.there, h.live, ⟨fun _ => .inr shifting, fun _ => rfl⟩, h.timer, h.counter⟩
  unfold State.takeCut
  dsimp only
  split
  · exact State.engaged_setPort ⟨h.there, h.live, h.staged, h.timer, h.counter⟩
  next t c e =>
    rw [State.port_journal]
    refine State.engaged_setPort ?_
    have set := target (n := c.cut amps) e
    split
    · exact ⟨set.there, set.live, set.staged, set.timer, set.counter⟩
    · exact set

theorem State.engaged_enterFaulted (counter : (s.port p).tagCounter < 7) (cause : FaultCause) :
    ((s.enterFaulted p cause).port p).engaged := by
  refine State.engaged_completePort [.refresh, .pin] _ (s := State.journal _ _ _ _) ?_
  rw [State.port_journal]
  exact State.engaged_setPort (PortRecord.quiet.engaged ⟨rfl, rfl, rfl, counter⟩ (.inr (.inr (.inr rfl))))

theorem State.engaged_portDroop (h : (s.port p).engaged) : ((s.portDroop p).port p).engaged := by
  unfold State.portDroop
  dsimp only
  split
  · exact h
  · split
    · exact State.engaged_enterFaulted h.counter _
    · exact State.engaged_enterFaulted h.counter _
    · exact State.engaged_enterFaulted h.counter _
    · exact State.engaged_enterFaulted h.counter _
    · exact h

theorem State.engaged_tenderTimeout (h : (s.port p).engaged) (asking : (s.port p).state = .asking) :
    ((s.tenderTimeout p).port p).engaged := by
  have staged : (s.port p).staged = none := by simpa [asking] using h.staged
  rw [State.tenderTimeout_eq]
  split
  · exact State.engaged_setPort (PortRecord.quiet.engaged ⟨h.live, staged, rfl, h.counter⟩ (.inl asking))
  · refine State.engaged_callSelection ?_
    refine State.engaged_completePort [.refresh, .pin] .timedOut (s := State.journal _ _ _ _) ?_
    rw [State.port_journal]
    exact State.engaged_setPort (PortRecord.quiet.engaged_rest ⟨h.live, staged, rfl, h.counter⟩ rfl)

theorem State.engaged_claimTimeout (h : (s.port p).engaged) (claimed : (s.port p).state = .claimed) :
    ((s.claimTimeout p).port p).engaged := by
  unfold State.claimTimeout
  dsimp only
  split
  · refine State.engaged_enterFaulted ?_ _
    rw [State.port_setPort_self]
    exact h.counter
  · split
    · refine State.engaged_completePort _ _ ?_
      exact State.engaged_setPort (PortRecord.quiet.engaged_rest ⟨h.live, rfl, rfl, h.counter⟩ rfl)
    · exact State.engaged_setPort ⟨h.there, h.live, h.staged, by simp [timerAgrees, claimed], h.counter⟩

theorem State.engaged_lapse (h : (s.port p).engaged) : ((s.lapse p).port p).engaged := by
  unfold State.lapse
  dsimp only
  rw [State.port_journal]
  refine State.engaged_setPort ?_
  by_cases bound : (s.port p).state = .bound
  · have quiet := h.quiet (.inr (.inl bound))
    rw [if_pos bound]
    exact PortRecord.quiet.engaged ⟨rfl, quiet.staged, quiet.timer, quiet.counter⟩ (.inr (.inl rfl))
  · rw [if_neg bound]
    exact ⟨h.there, rfl, h.staged, h.timer, h.counter⟩

theorem State.engaged_txReport (h : (s.port p).engaged) (f : OutFrame) (tag : Nat) : ((s.txReport p f tag).port p).engaged := by
  unfold State.txReport
  dsimp only
  split
  · split
    next asking => exact State.engaged_setPort ⟨h.there, h.live, h.staged, asking, h.counter⟩
    · exact h
  · split
    next claimed => exact State.engaged_setPort ⟨h.there, h.live, h.staged, claimed.1, h.counter⟩
    · exact h
  · exact State.engaged_completePort _ _ h

theorem State.engaged_deliver (h : (s.port p).engaged) (tag : Nat) (f : FeederFrame) : ((s.deliver p tag f).port p).engaged := by
  have stale : ((s.countStaleFrame p).port p).engaged :=
    State.engaged_setPort ⟨h.there, h.live, h.staged, h.timer, h.counter⟩
  unfold State.deliver
  dsimp only
  split <;> split
  · exact State.engaged_capture h _ _
  · exact stale
  next answers =>
    have claimed : (s.port p).state = .claimed := by simpa using (Bool.and_eq_true_iff.mp answers).2
    exact State.engaged_setPort ⟨rfl, h.live, by simpa [claimed] using h.staged, rfl, h.counter⟩
  · exact stale
  · exact State.engaged_declined h _
  · exact stale
  next answers => exact State.engaged_settled h (by simpa using (Bool.and_eq_true_iff.mp answers).2)
  · exact stale
  · exact State.engaged_takeCut h _ _
  · exact stale

theorem State.engaged_portRefresh (h : (s.port p).engaged) (k : Fin 8) : ((s.portRefresh p k).port p).engaged := by
  unfold State.portRefresh
  dsimp only
  split
  · exact State.engaged_setPort ⟨h.there, h.live, h.staged, h.timer, h.counter⟩
  next still =>
    have still : (s.port p).state ≠ .shifting := still
    refine State.engaged_setPort ?_
    split
    · have quiet := PortRecord.quiet_retire (r := { (s.port p).clearBars with inFlight := some ⟨.refresh, k⟩ })
        ⟨h.there, h.live, h.staged, h.timer, h.counter⟩
      have asked := PortRecord.quiet_startAsk quiet.live quiet.staged quiet.counter
      exact ⟨asked.there, asked.live, asked.staged, asked.timer, asked.counter⟩
    next unclaimed =>
      have unclaimed : (s.port p).state ≠ .claimed := unclaimed
      have staged : (s.port p).staged = none := by simpa [still, unclaimed] using h.staged
      exact PortRecord.quiet.engaged ⟨h.live, staged, rfl, h.counter⟩ (.inl rfl)

theorem State.engaged_portRelease (counter : (s.port p).tagCounter < 7) (k : Fin 8) : ((s.portRelease p k).port p).engaged := by
  have withdrawn : (s.port p).withdrawAsk.tagCounter = (s.port p).tagCounter := by
    unfold PortRecord.withdrawAsk
    split <;> rfl
  have released : ∀ (v : State) (b : Bool) d, (v.port p).engaged →
      ((if b then v else v.complete k .ok d).port p).engaged := fun v b d hv => by
    cases b <;> exact hv
  unfold State.portRelease
  dsimp only
  refine released _ _ _ (State.engaged_setPort (PortRecord.quiet.engaged ⟨rfl, rfl, rfl, ?_⟩ (.inr (.inl rfl))))
  split
  · exact counter
  · exact withdrawn ▸ counter

theorem State.engaged_portPin (h : (s.port p).engaged) (k : Fin 8) (n : Pin) : ((s.portPin p k n).port p).engaged :=
  State.engaged_callSelection (State.engaged_setPort ⟨h.there, h.live, h.staged, h.timer, h.counter⟩)

theorem State.engaged_portUnpin (h : (s.port p).engaged) (k : Fin 8) : ((s.portUnpin p k).port p).engaged := by
  unfold State.portUnpin
  refine State.engaged_callSelection ?_
  rw [State.port_complete]
  exact State.engaged_completePort _ _ (State.engaged_setPin h none)

theorem State.engaged_portAttach (counter : (s.port p).tagCounter < 7) (staged : (s.port p).staged = none) :
    ((s.portAttach p).port p).engaged := by
  unfold State.portAttach
  rw [State.port_journal]
  exact State.engaged_setPort (PortRecord.quiet.engaged ⟨rfl, staged, rfl, counter⟩ (.inl rfl))

end

end Sys2Proof.Machine
end

section
/-! Every connector's record agrees with its presence tracker and with itself (R56, 4.2, 1.2, 1.5). -/

namespace Sys2Proof.Machine

section
variable {s t u : State} {p : LinePort}

/-! ### Records and trackers -/

theorem trackerAgrees_iff {state : TrackerState} {k : PortState} :
    trackerAgrees state k ↔ (state = .empty ∧ k = .empty) ∨ (state = .settling ∧ k = .settling) ∨
      (state = .attached ∧ k ≠ .empty ∧ k ≠ .settling) := by
  cases state <;> simp [trackerAgrees]

/-- On a sound machine a port negotiates exactly while its tracker is ATTACHED. -/
theorem State.recordsOk.engaged (h : s.recordsOk) (there : (s.port p).negotiating = true) : (s.port p).engaged :=
  PortRecord.engaged_iff.mpr ⟨there, (h.1 p).2⟩

theorem State.recordsOk.attached (h : s.recordsOk) (there : (s.port p).negotiating = true) :
    (s.tracker (.line p)).state = .attached := by
  have there := PortRecord.negotiating_iff.mp there
  rcases trackerAgrees_iff.mp (h.1 p).1 with ⟨-, e⟩ | ⟨-, e⟩ | ⟨e, -⟩
  · exact absurd e there.1
  · exact absurd e there.2
  · exact e

theorem State.recordsOk.negotiating (h : s.recordsOk) (there : (s.tracker (.line p)).state = .attached) :
    (s.port p).negotiating = true := by
  rcases trackerAgrees_iff.mp (h.1 p).1 with ⟨e, -⟩ | ⟨e, -⟩ | ⟨-, e⟩
  · rw [e] at there
    cases there
  · rw [e] at there
    cases there
  · exact PortRecord.negotiating_iff.mpr e

theorem State.recordsOk.engaged_of_attached (h : s.recordsOk) (there : s.attached (.line p) = true) : (s.port p).engaged :=
  h.engaged (h.negotiating (of_decide_eq_true there))

/-- A change of one port's record, which stays engaged. -/
theorem State.recordsOk.of_port (h : s.recordsOk) (there : (s.port p).negotiating = true) (others : State.othersKept p s t)
    (engaged : (t.port p).engaged) (trackers : t.trackers = s.trackers) (barrel : t.barrel = s.barrel) : t.recordsOk := by
  have tracker : ∀ x, t.tracker x = s.tracker x := fun x => by rw [State.tracker, State.tracker, trackers]
  refine ⟨fun q => ?_, by rw [tracker, barrel]; exact h.2⟩
  rw [tracker]
  by_cases e : q = p
  · subst e
    rw [h.attached there]
    obtain ⟨still, consistent⟩ := PortRecord.engaged_iff.mp engaged
    exact ⟨PortRecord.negotiating_iff.mp still, consistent⟩
  · rw [others q e]
    exact h.1 q

theorem State.recordsOk.of_rest (h : s.recordsOk) (trackers : ∀ x, (t.tracker x).state = (s.tracker x).state)
    (ports : t.ports = s.ports) (barrel : t.barrel = s.barrel) : t.recordsOk := by
  refine ⟨fun q => ?_, by rw [trackers, barrel]; exact h.2⟩
  rw [trackers, State.port, ports]
  exact h.1 q

theorem blind_recordsOk : Blind State.recordsOk := fun _ _ h => h

/-- The terms line and the engines do not bear on contracts, timers and states. -/
theorem State.recordsOk.of_lined (h : s.recordsOk) (lined : s.Lined t) : t.recordsOk := by
  have tracker : ∀ x, t.tracker x = s.tracker x := fun x => by rw [State.tracker, State.tracker, lined.trackers]
  refine ⟨fun q => ?_, by rw [tracker, lined.barrel]; exact h.2⟩
  obtain ⟨agrees, staged, live, timer, lapse, counter⟩ := h.1 q
  have state := lined.field q PortRecord.state fun _ => rfl
  rw [tracker, state]
  refine ⟨agrees, ?_, ?_, ?_, ?_, lined.counter q counter⟩
  · rw [state, lined.field q PortRecord.staged fun _ => rfl]
    exact staged
  · rw [state, lined.field q PortRecord.live fun _ => rfl]
    exact live
  · rw [state, lined.field q PortRecord.timer fun _ => rfl]
    exact timer
  · rw [state, lined.field q PortRecord.lapseTimer fun _ => rfl]
    exact lapse

/-! ### Calls for selection and the reports -/

/-- A port with no image, or with none of the states that negotiate, is left as it is. -/
theorem State.callSelection_of_absent (h : (s.port p).negotiating = false) : s.callSelection p = s := by
  have absent : (s.port p).state = .empty ∨ (s.port p).state = .settling := by
    by_contra other
    rw [not_or] at other
    rw [PortRecord.negotiating_iff.mpr other] at h
    cases h
  unfold State.callSelection
  dsimp only
  split
  · rfl
  · rcases absent with e | e <;> rw [e]

theorem State.recordsOk_callSelection (h : s.recordsOk) (p : LinePort) : (s.callSelection p).recordsOk := by
  cases there : (s.port p).negotiating with
  | true =>
    exact h.of_port there s.othersKept_callSelection (State.engaged_callSelection (h.engaged there)) (by simp) (by simp)
  | false =>
    rw [State.callSelection_of_absent there]
    exact h

/-- The close check sets a flag that does not bear on the records' agreement. -/
theorem State.recordsOk_setPathFault (h : s.recordsOk) (y : Connector) : (s.setPathFault y).recordsOk := by
  cases y with
  | line p =>
    refine ⟨fun q => ?_, h.2⟩
    show trackerAgrees (s.tracker (.line q)).state _ ∧ _
    by_cases e : q = p
    · subst e
      rw [State.setPathFault, State.port_setPort_self]
      exact h.1 q
    · rw [State.setPathFault, State.port_setPort_of_ne _ _ e]
      exact h.1 q
  | barrel => exact ⟨h.1, h.2⟩

theorem State.recordsOk_report (h : t.recordsOk) : (s.report t).recordsOk :=
  h.of_rest (fun x => by rw [State.tracker, State.tracker, State.report_trackers]) (by simp) (by simp)

theorem recordsOk_settle (pages : Bool) (n : Nat) (h : t.recordsOk) : (settle pages n s t).recordsOk :=
  settle_induction State.recordsOk pages (fun _ _ hu => blind_recordsOk.concludes (State.recordsOk_report hu))
    (fun _ p hu => (State.recordsOk_callSelection hu p).of_lined (State.served_apply _ p).lined) n s t h

/-! ### The barrel -/

theorem State.recordsOk.of_barrel (h : s.recordsOk) {b : Barrel} (agrees : barrelAgrees (s.tracker .barrel).state b) :
    (s.withBarrel b).recordsOk := ⟨h.1, agrees⟩

theorem Barrel.present_iff {b : Barrel} : b.present = true ↔ b.state ≠ .empty ∧ b.state ≠ .settling := by
  simp [Barrel.present]

theorem barrelAgrees_iff {state : TrackerState} {b : Barrel} :
    barrelAgrees state b ↔
      ((state = .empty ∧ b.state = .empty) ∨ (state = .settling ∧ b.state = .settling) ∨
        (state = .attached ∧ b.state ≠ .empty ∧ b.state ≠ .settling)) ∧
      (b.state = .bound → b.live.isSome = true) ∧ (b.live.isSome = true → b.state = .bound ∨ b.state = .identifying) := by
  unfold barrelAgrees
  cases state <;> simp

theorem State.recordsOk.barrel_attached (h : s.recordsOk) (there : s.barrel.present = true) :
    (s.tracker .barrel).state = .attached := by
  have there := Barrel.present_iff.mp there
  rcases (barrelAgrees_iff.mp h.2).1 with ⟨-, e⟩ | ⟨-, e⟩ | ⟨e, -⟩
  · exact absurd e there.1
  · exact absurd e there.2
  · exact e

/-- D while attached: BOUND with a contract, or in another state that may have one. -/
theorem State.recordsOk.of_present (h : s.recordsOk) (there : s.barrel.present = true) {b : Barrel} (still : b.present = true)
    (bound : b.state = .bound → b.live.isSome = true)
    (live : b.live.isSome = true → b.state = .bound ∨ b.state = .identifying) : (s.withBarrel b).recordsOk :=
  h.of_barrel (barrelAgrees_iff.mpr ⟨.inr (.inr ⟨h.barrel_attached there, Barrel.present_iff.mp still⟩), bound, live⟩)

/-- The completion of the request on D does not bear on its record's agreement. -/
theorem State.recordsOk_completeBarrel (h : s.recordsOk) (code : ResultCode) : (s.completeBarrel code).recordsOk := by
  unfold State.completeBarrel
  split
  · exact ⟨h.1, h.2⟩
  · exact h

theorem State.recordsOk_barrelOutcome (h : s.recordsOk) (there : s.barrel.present = true) (i : StoredId) (amps : Nat) :
    (s.barrelOutcome i amps).recordsOk := by
  have cleared : ∀ (b : Bool) {v : State}, v.recordsOk → (if b = true then v.clearDroop .barrel else v).recordsOk := fun b v hv => by
    cases b
    · exact hv
    · exact hv
  unfold State.barrelOutcome
  dsimp only
  refine blind_recordsOk.journal (cleared _ ?_)
  cases s.policy.barrelCause i.volts amps with
  | none => exact h.of_present there rfl (fun _ => rfl) fun _ => .inl rfl
  | some c => exact h.of_present there rfl (fun e => by cases e) fun e => by cases e

theorem State.recordsOk_identify (h : s.recordsOk) (there : s.barrel.present = true) : s.identify.recordsOk :=
  State.recordsOk_completeBarrel (State.recordsOk_barrelOutcome h there _ _) _

theorem State.recordsOk_barrelAdopt (h : s.recordsOk) : s.barrelAdopt.recordsOk := by
  have classed : ∀ i, s.barrel.present = true → (s.reclassify i).recordsOk := fun i there => by
    have either : ∀ (same : Bool) j amps, (if same = true then s else s.barrelOutcome j amps).recordsOk := fun same j amps => by
      cases same
      · exact State.recordsOk_barrelOutcome h there _ _
      · exact h
    exact either _ _ _
  unfold State.barrelAdopt
  split
  · exact h
  · split
    next bound => exact classed _ (by rw [Barrel.present_iff, bound]; simp)
    next unusable _ => exact classed _ (by rw [Barrel.present_iff, unusable]; simp)
    next unusable _ => exact classed _ (by rw [Barrel.present_iff, unusable]; simp)
    · exact h

theorem State.recordsOk_barrelWork (h : s.recordsOk) (work : s.BarrelWork t) : t.recordsOk := by
  have agrees := barrelAgrees_iff.mp h.2
  cases work with
  | sample v identifying =>
    have there : s.barrel.present = true := by rw [Barrel.present_iff, identifying]; simp
    unfold State.barrelSample
    rw [if_pos identifying]
    have counted : (s.withBarrel { s.barrel with count := s.barrel.count + 1, sum := s.barrel.sum + v }).recordsOk :=
      ⟨h.1, h.2⟩
    dsimp only
    split
    · exact State.recordsOk_identify counted there
    · exact counted
  | droop =>
    unfold State.barrelDroop
    dsimp only
    split
    next bound => exact h.of_present (by rw [Barrel.present_iff, bound]; simp) rfl (fun e => by cases e) fun e => by cases e
    next identifying =>
      exact State.recordsOk_completeBarrel (h.of_present (by rw [Barrel.present_iff, identifying]; simp) rfl
        (fun e => by cases e) fun e => by cases e) _
    · exact h
  | refresh k there => exact h.of_present there rfl (fun e => by cases e) fun _ => .inr rfl
  | release k there => exact blind_recordsOk.complete (h.of_present there there agrees.2.1 agrees.2.2)

/-! ### Attach, detach and settling -/

theorem State.recordsOk_portWork (h : s.recordsOk) (work : s.PortWork p t) : t.recordsOk := by
  have there : ∀ {k : PortState}, (s.port p).state = k → k ≠ .empty → k ≠ .settling → (s.port p).negotiating = true :=
    fun e empty settling => PortRecord.negotiating_iff.mpr (by rw [e]; exact ⟨empty, settling⟩)
  have done : (s.port p).negotiating = true → (t.port p).engaged → t.recordsOk := fun there engaged =>
    h.of_port there work.othersKept engaged work.trackers work.barrel
  cases work with
  | tenderTimeout asking =>
    have there := there asking (by simp) (by simp)
    exact done there (State.engaged_tenderTimeout (h.engaged there) asking)
  | claimTimeout claimed =>
    have there := there claimed (by simp) (by simp)
    exact done there (State.engaged_claimTimeout (h.engaged there) claimed)
  | settleTimeout shifting =>
    have there := there shifting (by simp) (by simp)
    exact done there (State.engaged_enterFaulted (h.engaged there).counter _)
  | lapse running =>
    obtain ⟨-, -, -, -, lapse, -⟩ := h.1 p
    have there := PortRecord.negotiating_iff.mpr (lapse running)
    exact done there (State.engaged_lapse (h.engaged there))
  | droop =>
    cases there : (s.port p).negotiating with
    | true => exact done there (State.engaged_portDroop (h.engaged there))
    | false =>
      have same : s.portDroop p = s := by
        unfold State.portDroop
        dsimp only
        split
        · rfl
        · split
          next e => rw [PortRecord.negotiating, e] at there; cases there
          next e => rw [PortRecord.negotiating, e] at there; cases there
          next e => rw [PortRecord.negotiating, e] at there; cases there
          next e => rw [PortRecord.negotiating, e] at there; cases there
          · rfl
      rw [same]
      exact h
  | refresh k there => exact done there (State.engaged_portRefresh (h.engaged there) k)
  | pin k n there => exact done there (State.engaged_portPin (h.engaged there) k n)
  | unpin k there => exact done there (State.engaged_portUnpin (h.engaged there) k)
  | hold k there =>
    have g := h.engaged there
    exact done there (State.engaged_setPort ⟨g.there, g.live, g.staged, g.timer, g.counter⟩)
  | resume k there =>
    have g := h.engaged there
    exact done there (State.engaged_callSelection (State.engaged_setPort ⟨g.there, g.live, g.staged, g.timer, g.counter⟩))
  | releaseFaulted k faulted =>
    have there := there faulted (by simp) (by simp)
    have g := h.engaged there
    exact done there (State.engaged_setPort ⟨g.there, g.live, g.staged, g.timer, g.counter⟩)
  | release k there _ => exact done there (State.engaged_portRelease (h.engaged there).counter k)

/-- The record that a port has outside ATTACHED. -/
theorem PortRecord.consistent_absent {r : PortRecord} (h : r.consistent) {k : PortState}
    (was : r.state = .empty ∨ r.state = .settling) (is : k = .empty ∨ k = .settling) :
    PortRecord.consistent { r with state := k } := by
  obtain ⟨staged, live, timer, lapse, counter⟩ := h
  have staged : r.staged.isSome = false := by rcases was with e | e <;> simpa [e] using staged
  have live : r.live.isSome = false := by rcases was with e | e <;> simpa [e] using live
  have lapse : r.lapseTimer = false := by rcases was with e | e <;> simpa [e] using lapse
  have timer : r.timer = .stopped := by
    rcases was with e | e <;> rw [e] at timer <;> cases k : r.timer <;> simp_all [timerAgrees]
  rcases is with rfl | rfl <;> exact ⟨by simp [staged], by simp [live], by simp [timer, timerAgrees], by simp [lapse], counter⟩

/-- The tracker of a connector moves and its owner's record with it. -/
theorem State.recordsOk.of_line (h : s.recordsOk) (v : Tracker) {r : PortRecord} (agrees : trackerAgrees v.state r.state)
    (consistent : r.consistent) : ((s.setTracker (.line p) v).setPort p r).recordsOk := by
  refine ⟨fun q => ?_, ?_⟩
  · show trackerAgrees ((s.setTracker (.line p) v).tracker (.line q)).state _ ∧ _
    by_cases e : q = p
    · subst e
      rw [State.tracker_setTracker_self, State.port_setPort_self]
      exact ⟨agrees, consistent⟩
    · rw [State.tracker_setTracker_of_ne _ _ (by simpa using e), State.port_setPort_of_ne _ _ e]
      exact h.1 q
  · show barrelAgrees ((s.setTracker (.line p) v).tracker .barrel).state _
    rw [State.tracker_setTracker_of_ne _ _ (by simp)]
    exact h.2

theorem State.recordsOk.of_barrelTracker (h : s.recordsOk) (v : Tracker) {b : Barrel} (agrees : barrelAgrees v.state b) :
    ((s.setTracker .barrel v).withBarrel b).recordsOk := by
  refine ⟨fun q => ?_, ?_⟩
  · show trackerAgrees ((s.setTracker .barrel v).tracker (.line q)).state _ ∧ _
    rw [State.tracker_setTracker_of_ne _ _ (by simp)]
    exact h.1 q
  · show barrelAgrees ((s.setTracker .barrel v).tracker .barrel).state _
    rw [State.tracker_setTracker_self]
    exact agrees

/-- A connector that is not attached: its owner's state. -/
theorem State.recordsOk.absent (h : s.recordsOk) (x : Connector) (out : (s.tracker x).state ≠ .attached) :
    match x with
    | .line p => (s.port p).state = .empty ∨ (s.port p).state = .settling
    | .barrel => s.barrel.live = none := by
  cases x with
  | line p =>
    rcases trackerAgrees_iff.mp (h.1 p).1 with ⟨-, e⟩ | ⟨-, e⟩ | ⟨e, -⟩
    · exact .inl e
    · exact .inr e
    · exact absurd e out
  | barrel =>
    obtain ⟨state, -, live⟩ := barrelAgrees_iff.mp h.2
    rcases state with ⟨-, e⟩ | ⟨-, e⟩ | ⟨e, -⟩
    · simpa [e] using live
    · simpa [e] using live
    · exact absurd e out

/-- A D without a contract agrees with a tracker outside ATTACHED. -/
theorem barrelAgrees_absent {b : Barrel} (live : b.live = none) :
    barrelAgrees .empty { b with state := .empty } ∧ barrelAgrees .settling { b with state := .settling } := by
  simp [barrelAgrees, live]

theorem State.recordsOk_startSettling (h : s.recordsOk) {x : Connector} (out : (s.tracker x).state ≠ .attached) :
    (s.startSettling x).recordsOk := by
  have absent := h.absent x out
  cases x with
  | line p => exact h.of_line _ rfl (PortRecord.consistent_absent (k := .settling) (h.1 p).2 absent (.inr rfl))
  | barrel => exact h.of_barrelTracker ⟨.settling, some s.policy.attachMs, none⟩ (barrelAgrees_absent absent).2

theorem State.recordsOk_abandonSettling (h : s.recordsOk) {x : Connector} (out : (s.tracker x).state ≠ .attached) :
    (s.abandonSettling x).recordsOk := by
  have absent := h.absent x out
  cases x with
  | line p => exact h.of_line _ rfl (PortRecord.consistent_absent (k := .empty) (h.1 p).2 absent (.inl rfl))
  | barrel => exact h.of_barrelTracker Tracker.cleared (barrelAgrees_absent absent).1

theorem State.recordsOk_attachEvent (h : s.recordsOk) {x : Connector} (settling : (s.tracker x).state = .settling) :
    (s.attachEvent x).recordsOk := by
  have absent := h.absent x (by rw [settling]; simp)
  cases x with
  | line p =>
    obtain ⟨-, staged, -, -, -, counter⟩ := h.1 p
    have staged : (s.port p).staged = none := by rcases absent with e | e <;> simpa [e] using staged
    refine recordsOk_settle _ _ (State.recordsOk.of_lined ?_ (State.served_apply _ p).lined)
    have engaged := State.engaged_portAttach (s := (s.setTracker (.line p) ⟨.attached, none, none⟩).setLine p Line.cleared)
      (p := p) counter staged
    unfold State.portAttach at engaged ⊢
    rw [State.port_journal, State.port_setPort_self] at engaged
    obtain ⟨there, consistent⟩ := PortRecord.engaged_iff.mp engaged
    exact blind_recordsOk.journal (h.of_line ⟨.attached, none, none⟩ (PortRecord.negotiating_iff.mp there) consistent)
  | barrel =>
    exact recordsOk_settle _ _ (h.of_barrelTracker ⟨.attached, none, none⟩
      (b := s.barrel.startId) (by simp [barrelAgrees, Barrel.startId]))

theorem PortRecord.consistent_cleared : PortRecord.cleared.consistent := by
  refine ⟨by decide, by decide, ?_, by decide, by decide⟩
  simp [PortRecord.cleared, timerAgrees]

theorem State.recordsOk_detached (h : s.recordsOk) (x : Connector) : (s.detached x).recordsOk := by
  cases x with
  | line p =>
    have cleared : (((s.setTracker (.line p) Tracker.cleared).clearDroop (.line p)).setPort p PortRecord.cleared).recordsOk :=
      h.of_line (p := p) Tracker.cleared rfl PortRecord.consistent_cleared
    unfold State.detached State.portDetach
    refine State.recordsOk.of_lined ?_ (State.served_dropLine _ p).lined
    split
    · exact blind_recordsOk.complete (blind_recordsOk.journal cleared)
    · exact blind_recordsOk.journal cleared
  | barrel =>
    refine State.recordsOk_completeBarrel (blind_recordsOk.journal ?_) _
    exact h.of_barrelTracker Tracker.cleared (b := { Barrel.cleared with inFlight := s.barrel.inFlight })
      (by simp [barrelAgrees, Barrel.cleared, Tracker.cleared])

/-! ### The invariant -/

/-- Records whose contracts, timers and states are those of another machine. -/
theorem State.recordsOk.of_same (h : s.recordsOk) (trackers : t.trackers = s.trackers)
    (ports : ∀ p, (t.port p).state = (s.port p).state ∧ (t.port p).staged = (s.port p).staged ∧
      (t.port p).live = (s.port p).live ∧ (t.port p).timer = (s.port p).timer ∧
      (t.port p).lapseTimer = (s.port p).lapseTimer ∧ (t.port p).tagCounter = (s.port p).tagCounter)
    (barrel : t.barrel.state = s.barrel.state ∧ t.barrel.live = s.barrel.live) : t.recordsOk := by
  have tracker : ∀ x, t.tracker x = s.tracker x := fun x => by rw [State.tracker, State.tracker, trackers]
  refine ⟨fun p => ?_, ?_⟩
  · obtain ⟨state, staged, live, timer, lapse, counter⟩ := ports p
    rw [tracker, PortRecord.consistent, state, staged, live, timer, lapse, counter]
    exact h.1 p
  · have agrees := h.2
    rw [barrelAgrees_iff] at agrees ⊢
    rw [tracker, barrel.1, barrel.2]
    exact agrees

theorem PortRecord.forget_rest (r : PortRecord) (j : Fin 8) : r.forget j = { r with inFlight := (r.forget j).inFlight } := by
  unfold PortRecord.forget
  split <;> rfl

theorem Barrel.forget_rest (b : Barrel) (j : Fin 8) : b.forget j = { b with inFlight := (b.forget j).inFlight } := by
  unfold Barrel.forget
  split <;> rfl

theorem State.recordsOk_forget (h : s.recordsOk) (j : Fin 8) : (s.forget j).recordsOk := by
  refine h.of_same rfl (fun p => ?_) ?_
  · rw [State.port_forget, PortRecord.forget_rest]
    exact ⟨rfl, rfl, rfl, rfl, rfl, rfl⟩
  · show (s.barrel.forget j).state = _ ∧ (s.barrel.forget j).live = _
    rw [Barrel.forget_rest]
    exact ⟨rfl, rfl⟩

theorem State.port_restartBlocks (s : State) (p : LinePort) : s.restartBlocks.port p = (s.port p).restart := by
  cases p <;> rfl

theorem State.recordsOk_restartBlocks (h : s.recordsOk) : s.restartBlocks.recordsOk :=
  h.of_same (by simp [State.restartBlocks])
    (fun p => by rw [State.port_restartBlocks]; exact ⟨rfl, rfl, rfl, rfl, rfl, rfl⟩)
    (by simp [State.restartBlocks, Barrel.restart])

theorem State.recordsOk.of_path (h : s.recordsOk) (trackers : t.trackers = s.trackers) (ports : t.ports = s.ports)
    (barrel : t.barrel = s.barrel) : t.recordsOk :=
  h.of_rest (fun x => by rw [State.tracker, State.tracker, trackers]) ports barrel

theorem State.recordsOk_evaluate (h : s.recordsOk) : s.evaluate.recordsOk := h.of_path (by simp) (by simp) (by simp)

theorem State.recordsOk_completePrimary (h : s.recordsOk) (y : Connector) (c : ResultCode) : (s.completePrimary y c).recordsOk :=
  h.of_path (by simp) (by simp) (by simp)

theorem State.recordsOk_closeCheck (h : s.recordsOk) (y : Connector) (v : Nat) : (s.closeCheck y v).recordsOk := by
  unfold State.closeCheck
  split
  · exact h.of_path (by simp) (by simp) (by simp)
  · have opened : (s.openPath y).recordsOk := h.of_path rfl rfl rfl
    exact State.recordsOk_completePrimary (blind_recordsOk.journal (State.recordsOk_setPathFault opened y)) _ _

theorem State.recordsOk_pathWork (h : s.recordsOk) (work : s.PathWork t) : t.recordsOk := by
  cases work with
  | softStart y closing =>
    have stopped : (s.withPath { s.path with softStart := none }).recordsOk := h.of_path rfl rfl rfl
    unfold State.softStartEnds
    dsimp only
    split
    · exact stopped.of_path rfl rfl rfl
    · exact State.recordsOk_closeCheck stopped _ _
  | check y v closing => exact State.recordsOk_closeCheck h y v
  | breakEnds y opening => exact h.of_path (by simp) (by simp) (by simp)
  | primary k x =>
    refine State.recordsOk_evaluate ?_
    unfold State.takePrimary
    split
    · exact h.of_path rfl rfl rfl
    · split
      · exact h
      · split <;> exact h.of_path rfl rfl rfl

theorem State.deliverIin_rest (s : State) (x : Connector) (v : Nat) :
    (s.deliverIin x v).trackers = s.trackers ∧ (s.deliverIin x v).ports = s.ports ∧ (s.deliverIin x v).barrel = s.barrel := by
  unfold State.deliverIin
  dsimp only
  split
  · exact ⟨rfl, rfl, rfl⟩
  · split <;> exact ⟨rfl, rfl, rfl⟩

/-- The fields of a record on which its agreement rests are those of another. -/
def PortRecord.agreesWith (v r : PortRecord) : Prop :=
  v.state = r.state ∧ v.staged = r.staged ∧ v.live = r.live ∧ v.timer = r.timer ∧ v.lapseTimer = r.lapseTimer ∧
    v.tagCounter = r.tagCounter

theorem State.agrees_completePort (s : State) (p q : LinePort) (kinds : List PortRequestKind) (c : ResultCode) :
    ((s.completePort p kinds c).port q).agreesWith (s.port q) := by
  rcases s.completePort_cases p kinds c with ⟨f, -, -, e⟩ | ⟨-, e⟩ <;> rw [e]
  · rw [State.port_complete]
    by_cases e : q = p
    · subst e
      rw [State.port_setPort_self]
      exact ⟨rfl, rfl, rfl, rfl, rfl, rfl⟩
    · rw [State.port_setPort_of_ne _ _ e]
      exact ⟨rfl, rfl, rfl, rfl, rfl, rfl⟩
  · exact ⟨rfl, rfl, rfl, rfl, rfl, rfl⟩

theorem State.voidPin_kept (s : State) (p : LinePort) (n : Pin) (why : VoidReason) :
    ((s.voidPin p n why).port p).agreesWith (s.port p) := by
  obtain ⟨state, staged, live, timer, lapse, counter⟩ := State.agrees_completePort
    ((s.setPort p { s.port p with pin := none }).journal 0x10 (lineByte p)
      ([byte n.level, why.code] ++ le2 n.volts ++ le2 n.limit)) p p [.pin] .lost
  rw [State.port_journal, State.port_setPort_self] at state staged live timer lapse counter
  exact ⟨state, staged, live, timer, lapse, counter⟩

theorem State.adoptPin_kept (s : State) (p : LinePort) : ((s.adoptPin p).port p).agreesWith (s.port p) := by
  unfold State.adoptPin
  split
  · split
    · exact s.voidPin_kept p _ _
    · rw [State.port_setPort_self]
      exact ⟨rfl, rfl, rfl, rfl, rfl, rfl⟩
  · exact ⟨rfl, rfl, rfl, rfl, rfl, rfl⟩

/-- A transmission report on a port that is not attached completes a request at most. -/
theorem State.recordsOk_txReport_absent (h : s.recordsOk) (there : (s.port p).negotiating = false) (f : OutFrame) (tag : Nat) :
    (s.txReport p f tag).recordsOk := by
  have state : (s.port p).state = .empty ∨ (s.port p).state = .settling := by
    by_contra other
    rw [not_or] at other
    rw [PortRecord.negotiating_iff.mpr other] at there
    cases there
  unfold State.txReport
  dsimp only
  split
  · rw [if_neg (by rcases state with e | e <;> simp [e])]
    exact h
  · rw [if_neg (by rcases state with e | e <;> simp [e])]
    exact h
  · exact h.of_same (by simp) (fun q => s.agrees_completePort p q _ _) (by simp)

/-- Step 4 of an adoption, on each port (R101, R103). -/
theorem State.recordsOk_adoptImages (h : s.recordsOk) : s.adoptImages.recordsOk := by
  have rescored : ∀ (l : List LinePort) {u : State}, u.recordsOk →
      (l.foldl (fun u p => u.setPort p (rescore u.policy p (u.port p))) u).recordsOk := by
    intro l
    induction l with
    | nil => exact fun hu => hu
    | cons p l ih =>
      intro u hu
      refine ih (hu.of_same rfl (fun q => ?_) ⟨rfl, rfl⟩)
      by_cases e : q = p
      · subst e
        rw [State.port_setPort_self]
        exact ⟨rfl, rfl, rfl, rfl, rfl, rfl⟩
      · rw [State.port_setPort_of_ne _ _ e]
        exact ⟨rfl, rfl, rfl, rfl, rfl, rfl⟩
  have pinned : ∀ (l : List LinePort) {u : State}, u.recordsOk → (l.foldl (fun u p => u.adoptPin p) u).recordsOk := by
    intro l
    induction l with
    | nil => exact fun hu => hu
    | cons p l ih =>
      intro u hu
      refine ih (hu.of_same (by simp) (fun q => ?_) (by simp))
      by_cases e : q = p
      · subst e
        exact u.adoptPin_kept q
      · rw [u.othersKept_adoptPin q e]
        exact ⟨rfl, rfl, rfl, rfl, rfl, rfl⟩
  exact pinned linePorts (rescored linePorts h)

theorem State.recordsOk_adoptEffects (h : s.recordsOk) (old : Policy) : (s.adoptEffects old).recordsOk := by
  refine State.adoptEffects_keeps (fun u x hu => ?_) (fun u hu => ?_) (fun u hu => ?_) (fun u hu => ?_) (fun u p hu => ?_)
    (fun u hu => ?_) (fun u hu => ?_) s h
  · unfold State.enableChange
    split
    next settling => exact State.recordsOk_abandonSettling hu (by rw [settling]; simp)
    · exact recordsOk_settle _ _ (State.recordsOk_detached hu x)
    next empty =>
      split
      · exact State.recordsOk_startSettling hu (by rw [empty]; simp)
      · exact hu
    · exact hu
  · unfold State.adoptMeasurement
    dsimp only
    split
    · exact recordsOk_settle _ _ (blind_recordsOk.journal (hu.of_path rfl rfl rfl))
    · exact hu.of_path rfl rfl rfl
  · unfold State.adoptBarrel
    split
    · exact hu
    · exact recordsOk_settle _ _ (State.recordsOk_barrelAdopt hu)
  · exact recordsOk_settle _ _ (State.recordsOk_adoptImages hu)
  · refine recordsOk_settle _ _ (State.recordsOk.of_lined ?_ (State.served_apply _ p).lined)
    refine State.recordsOk_callSelection (s := u.setPort p { u.port p with barred := false })
      (hu.of_same rfl (fun q => ?_) ⟨rfl, rfl⟩) p
    by_cases e : q = p
    · subst e
      rw [State.port_setPort_self]
      exact ⟨rfl, rfl, rfl, rfl, rfl, rfl⟩
    · rw [State.port_setPort_of_ne _ _ e]
      exact ⟨rfl, rfl, rfl, rfl, rfl, rfl⟩
  · exact recordsOk_settle _ _ (State.recordsOk_evaluate hu)
  · exact hu.of_path rfl rfl rfl

theorem State.recordsOk_reqAdopt (h : s.recordsOk) (k : Fin 8) : (s.reqAdopt k).recordsOk := by
  refine blind_recordsOk.reqAdopt (fun p _ => State.recordsOk_adoptEffects ?_ _) h
  exact blind_recordsOk.journal (blind_recordsOk.writeDraft (h.of_path rfl rfl rfl))

theorem State.recordsOk_restart (h : s.recordsOk) : s.restart.recordsOk := by
  refine blind_recordsOk.restart ?_ fun u p hu => ?_
  · exact recordsOk_settle _ _ (State.recordsOk_evaluate (State.recordsOk_restartBlocks h))
  · exact recordsOk_settle _ _ ((State.recordsOk_callSelection hu p).of_lined (State.served_apply _ p).lined)

theorem State.recordsOk_received (h : s.recordsOk) (here : s.attached (.line p) = true) (tag : Nat) (f : FeederFrame) :
    (s.settles (((s.setLine p ((s.line p).enter .idle)).deliver p tag f).endLeaseOf p)).recordsOk := by
  refine recordsOk_settle _ _ (State.recordsOk.of_lined ?_ (State.served_endLeaseOf _ p).lined)
  have engaged := h.engaged_of_attached here
  exact h.of_port (p := p) engaged.there (State.othersKept_deliver (s.setLine p _) tag f)
    (State.engaged_deliver (s := s.setLine p _) engaged tag f) (by simp) (by simp)

theorem State.recordsOk_sent (h : s.recordsOk) (f : OutFrame) (tag : Nat) :
    (s.settles (((s.setLine p ((s.line p).enter .idle)).txReport p f tag).endLeaseOf p)).recordsOk := by
  refine recordsOk_settle _ _ (State.recordsOk.of_lined ?_ (State.served_endLeaseOf _ p).lined)
  cases there : (s.port p).negotiating with
  | true =>
    exact h.of_port there (State.othersKept_txReport (s.setLine p _) f tag)
      (State.engaged_txReport (s := s.setLine p _) (h.engaged there) f tag) (by simp) (by simp)
  | false => exact State.recordsOk_txReport_absent (s := s.setLine p _) (h.of_path rfl rfl rfl) there f tag

theorem invariant_recordsOk : Invariant State.recordsOk where
  blind := blind_recordsOk
  pending _ _ h := h.of_path rfl rfl rfl
  meas _ _ _ h := h.of_path rfl rfl rfl
  presence _ _ h := h.of_path rfl rfl rfl
  time _ _ h := h.of_path rfl rfl rfl
  latestVD _ _ h := h.of_path rfl rfl rfl
  saturation _ _ h := h.of_path rfl rfl rfl
  line c s t hc h hs := by
    obtain ⟨u, lined, rfl⟩ := exec_lined hc h
    exact blind_recordsOk.finish (hs.of_lined lined)
  badFrame s p _ _ h := h.of_lined (s.lined_breakFrame p)
  stray s p _ _ h := h.of_lined (s.lined_endStray p)
  received _ _ _ tag f here _ _ h := State.recordsOk_received h here tag f
  sent _ _ _ f tag _ _ h := State.recordsOk_sent h f tag
  port s p t work h := recordsOk_settle _ _ ((State.recordsOk_portWork h work).of_lined (State.served_apply _ p).lined)
  barrel s t work h := recordsOk_settle _ _ (State.recordsOk_barrelWork h work)
  path s t work h := recordsOk_settle _ _ (State.recordsOk_pathWork h work)
  dead s v h := recordsOk_settle _ _ (blind_recordsOk.journal (h.of_path rfl rfl rfl))
  starts s x empty h := State.recordsOk_startSettling h (by rw [empty]; simp)
  abandons s x settling h := State.recordsOk_abandonSettling h (by rw [settling]; simp)
  detachTimer s x v h := h.of_rest (fun y => by
    by_cases e : y = x
    · subst e
      rw [State.tracker_setTracker_self]
    · rw [State.tracker_setTracker_of_ne _ _ e]) rfl rfl
  attach s x settling h := State.recordsOk_attachEvent h settling
  detach s x _ h := recordsOk_settle _ _ (State.recordsOk_detached h x)
  iin s x v _ h := h.of_path (s.deliverIin_rest x v).1 (s.deliverIin_rest x v).2.1 (s.deliverIin_rest x v).2.2
  regulate s k mode target h := by
    unfold State.reqRegulate
    split <;> exact h.of_path rfl rfl rfl
  forget s j h := State.recordsOk_forget h j
  adopt _ k h := State.recordsOk_reqAdopt h k
  restart _ h := State.recordsOk_restart h
  reset := by
    obtain ⟨-, -, -, -, -, -, records, -⟩ := resetIsSafe
    exact records

end

/-- Settles O9. -/
theorem stepKeepsRecordsConsistent : Obligations.StepKeepsRecordsConsistent := by
  unfold Obligations.StepKeepsRecordsConsistent
  exact fun s t hs h => invariant_recordsOk.step h hs

end Sys2Proof.Machine
end

/-! # The primary prospect and SP_target at the figures of R94 and R141 (5.4, 8.2) -/

section
namespace Sys2Proof.Machine

section
variable {s t u : State}

/-! ### What the two figures rest on -/

/-- What the prospect rests on, besides the connectors' prospective scores. -/
theorem State.findProspect_congr (prospective : ∀ x, t.prospective x = s.prospective x) (path : t.path.state = s.path.state)
    (pin : t.path.pin = s.path.pin) (dead : t.meas.dead = s.meas.dead) (policy : t.policy = s.policy) :
    t.findProspect = s.findProspect := by
  have scores : t.prospective = s.prospective := funext prospective
  simp only [State.findProspect, State.pinProspect, State.incumbent, State.prospects, scores, path, pin, dead, policy]

theorem State.prospectOk.congr (h : s.prospectOk) (prospective : ∀ x, t.prospective x = s.prospective x)
    (path : t.path.state = s.path.state) (pin : t.path.pin = s.path.pin) (dead : t.meas.dead = s.meas.dead)
    (policy : t.policy = s.policy) (prospect : t.prospect = s.prospect) : t.prospectOk := by
  rw [State.prospectOk, prospect, State.findProspect_congr prospective path pin dead policy]
  exact h

theorem State.budgetOk.congr (h : s.budgetOk) (path : t.path.state = s.path.state) (policy : t.policy = s.policy)
    (live : ∀ x, t.live x = s.live x) (shifting : ∀ x, t.shifting x = s.shifting x)
    (target : t.reg.spTarget = s.reg.spTarget) : t.budgetOk := by
  have live : t.live = s.live := funext live
  have shifting : t.shifting = s.shifting := funext shifting
  rw [State.budgetOk, target, State.budget, path, policy, live, shifting]
  exact h

theorem State.Lined.prospective (h : s.Lined t) (x : Connector) : t.prospective x = s.prospective x := by
  cases x with
  | line p =>
    show portProspective t.policy p (t.port p) = portProspective s.policy p (s.port p)
    rw [h.policy]
    exact h.field p (portProspective s.policy p) fun _ => rfl
  | barrel =>
    show (if t.barrel.eligible then some (t.liveScore .barrel) else none) = _
    rw [State.liveScore, State.live, h.barrel, h.policy]
    rfl

theorem State.prospectOk.of_lined (h : s.prospectOk) (lined : s.Lined t) : t.prospectOk :=
  h.congr lined.prospective (congrArg Path.state lined.path) (congrArg Path.pin lined.path) (congrArg Measurement.dead lined.meas)
    lined.policy lined.prospect

theorem State.budgetOk.of_lined (h : s.budgetOk) (lined : s.Lined t) : t.budgetOk := by
  refine h.congr (congrArg Path.state lined.path) lined.policy (fun x => ?_) (fun x => ?_) (congrArg Regulator.spTarget lined.reg)
  · cases x with
    | line p => exact lined.field p PortRecord.live fun _ => rfl
    | barrel => exact congrArg Barrel.live lined.barrel
  · cases x with
    | line p => exact lined.field p (fun r => decide (r.state = .shifting)) fun _ => rfl
    | barrel => rfl

/-! ### After the reports -/

theorem prospectOk_settle (pages : Bool) (n : Nat) (s t : State) : (settle pages n s t).prospectOk :=
  settle_established State.prospectOk pages (State.prospectOk_concludes pages) n s t

theorem Regulator.spTarget_pathLeft (r : Regulator) (q : Policy) : (r.pathLeft q).spTarget = r.spTarget := by
  rcases r with ⟨_, _, _, _, mode, _, _, _, _, _⟩
  cases mode <;> rfl

theorem State.budgetReports_eq_false (h : budgetReports s t = false) :
    t.path.state = s.path.state ∧ ∀ x, t.path.state = .closed x → t.live x = s.live x ∧ t.shifting x = s.shifting x := by
  rw [budgetReports, Bool.or_eq_false_iff, decide_eq_false_iff_not, not_not] at h
  obtain ⟨path, same⟩ := h
  refine ⟨path.symm, fun x closed => ?_⟩
  rw [closed] at same
  simp only [PathState.connector, Bool.or_eq_false_iff, decide_eq_false_iff_not, not_not] at same
  exact ⟨same.1.symm, same.2.symm⟩

/-- After the owners' evaluation the reports touch the droop counters, the regulator and the prospect only. -/
theorem State.report_rest (s t : State) :
    ∃ m r x, s.report t = (((s.reportOwners t).withMeas m).withReg r).withProspect x := by
  obtain ⟨d, e⟩ := s.reportDroop_all (s.reportOwners t)
  unfold State.report
  dsimp only
  rw [e]
  unfold State.reportBudget
  dsimp only
  split
  · split
    · exact ⟨_, _, _, rfl⟩
    · exact ⟨_, _, _, rfl⟩
  · exact ⟨{ (s.reportOwners t).meas with droop := d }, (s.reportOwners t).reg, _, rfl⟩

/-- An event that leaves the target and the policy alone ends with the target of R141, if it began with it: its reports name
each other input of R141 that it changed (R142). -/
theorem State.budgetOk_report (h : s.budgetOk) (target : t.reg.spTarget = s.reg.spTarget) (policy : t.policy = s.policy) :
    (s.report t).budgetOk := by
  have figure : (s.report t).budget = (s.reportOwners t).budget := by
    obtain ⟨m, r, x, e⟩ := State.report_rest s t
    rw [e]
    rfl
  rw [State.budgetOk, figure, State.report_reg]
  cases named : budgetReports s (s.reportOwners t) with
  | true =>
    rw [if_pos rfl]
    split
    · exact Regulator.spTarget_pathLeft _ _
    · rfl
  | false =>
    rw [if_neg (by simp), target]
    obtain ⟨path, same⟩ := State.budgetReports_eq_false named
    have policy : (s.reportOwners t).policy = s.policy := by simp [policy]
    rw [State.budgetOk, State.budget] at h
    rw [State.budget, policy, h, ← path]
    split
    next x closed => rw [(same x closed).1, (same x closed).2]
    · rfl

theorem blind_budgetOk : Blind State.budgetOk := fun _ _ h => h

theorem budgetOk_settle (pages : Bool) (n : Nat) (h : s.budgetOk) (target : t.reg.spTarget = s.reg.spTarget)
    (policy : t.policy = s.policy) : (settle pages n s t).budgetOk :=
  settle_relates (P := State.budgetOk) (Q := fun s t => s.budgetOk ∧ t.reg.spTarget = s.reg.spTarget ∧ t.policy = s.policy)
    (fun _ _ h => blind_budgetOk.concludes (State.budgetOk_report h.1 h.2.1 h.2.2))
    (fun u p h => ⟨h, by simp, by simp⟩) n ⟨h, target, policy⟩

/-! ### Starts of settling, and abandoned ones -/

/-- A connector that has nothing attached has no prospective score and does not shift. -/
theorem State.recordsOk.unscored (h : s.recordsOk) {x : Connector} (out : (s.tracker x).state ≠ .attached) :
    s.prospective x = none ∧ s.shifting x = false := by
  have absent := h.absent x out
  cases x with
  | line p =>
    refine ⟨if_pos ?_, ?_⟩
    · rcases absent with e | e
      · exact .inl e
      · exact .inr (.inl e)
    · show decide ((s.port p).state = .shifting) = false
      rcases absent with e | e <;> rw [e] <;> rfl
  | barrel =>
    refine ⟨if_neg ?_, rfl⟩
    have absent : s.barrel.live = none := absent
    simp [Barrel.eligible, absent]

/-- What an owner without an attached plug reports does not change when its connector starts or stops settling. -/
structure State.settlingMove (s t : State) (x : Connector) : Prop where
  others : ∀ y, y ≠ x → t.prospective y = s.prospective y ∧ t.shifting y = s.shifting y
  live : ∀ y, t.live y = s.live y
  path : t.path = s.path
  policy : t.policy = s.policy
  prospect : t.prospect = s.prospect
  reg : t.reg = s.reg
  meas : t.meas.dead = s.meas.dead

theorem State.settlingMove.figures (move : s.settlingMove t x) (hs : s.recordsOk) (ht : t.recordsOk)
    (outS : (s.tracker x).state ≠ .attached) (outT : (t.tracker x).state ≠ .attached) :
    (s.prospectOk → t.prospectOk) ∧ (s.budgetOk → t.budgetOk) := by
  have before := hs.unscored outS
  have after := ht.unscored outT
  have same : ∀ y, t.prospective y = s.prospective y ∧ t.shifting y = s.shifting y := fun y => by
    by_cases e : y = x
    · subst e
      exact ⟨after.1.trans before.1.symm, after.2.trans before.2.symm⟩
    · exact move.others y e
  exact ⟨fun h => h.congr (fun y => (same y).1) (congrArg Path.state move.path) (congrArg Path.pin move.path) move.meas
      move.policy move.prospect,
    fun h => h.congr (congrArg Path.state move.path) move.policy move.live (fun y => (same y).2)
      (congrArg Regulator.spTarget move.reg)⟩

theorem State.settlingMove_line (s : State) (p : LinePort) (v : Tracker) (k : PortState) :
    s.settlingMove ((s.setTracker (.line p) v).setPort p { s.port p with state := k }) (.line p) where
  others y other := by
    cases y with
    | line q =>
      have e : q ≠ p := fun e => other (e ▸ rfl)
      simp only [State.prospective, State.shifting, State.port_setPort_of_ne _ _ e]
      exact ⟨rfl, rfl⟩
    | barrel => exact ⟨rfl, rfl⟩
  live y := by
    cases y with
    | line q =>
      show PortRecord.live _ = PortRecord.live _
      by_cases e : q = p
      · subst e
        rw [State.port_setPort_self]
      · rw [State.port_setPort_of_ne _ _ e]
        rfl
    | barrel => rfl
  path := rfl
  policy := rfl
  prospect := rfl
  reg := rfl
  meas := rfl

theorem State.settlingMove_barrel (s : State) (v : Tracker) (k : BarrelState) :
    s.settlingMove ((s.setTracker .barrel v).withBarrel { s.barrel with state := k }) .barrel where
  others y other := by
    cases y with
    | line q => exact ⟨rfl, rfl⟩
    | barrel => exact absurd rfl other
  live y := by cases y <;> rfl
  path := rfl
  policy := rfl
  prospect := rfl
  reg := rfl
  meas := rfl

theorem State.figures_startSettling (h : s.recordsOk) {x : Connector} (out : (s.tracker x).state ≠ .attached) :
    (s.prospectOk → (s.startSettling x).prospectOk) ∧ (s.budgetOk → (s.startSettling x).budgetOk) := by
  have move : s.settlingMove (s.startSettling x) x := by
    cases x with
    | line p => exact s.settlingMove_line p _ _
    | barrel => exact s.settlingMove_barrel _ _
  refine move.figures h (State.recordsOk_startSettling h out) out ?_
  have : (s.startSettling x).tracker x = ⟨.settling, some s.policy.attachMs, none⟩ := by
    cases x with
    | line p => exact State.tracker_setTracker_self s _ _
    | barrel => exact State.tracker_setTracker_self s .barrel _
  rw [this]
  simp

theorem State.figures_abandonSettling (h : s.recordsOk) {x : Connector} (out : (s.tracker x).state ≠ .attached) :
    (s.prospectOk → (s.abandonSettling x).prospectOk) ∧ (s.budgetOk → (s.abandonSettling x).budgetOk) := by
  have move : s.settlingMove (s.abandonSettling x) x := by
    cases x with
    | line p => exact s.settlingMove_line p _ _
    | barrel => exact s.settlingMove_barrel _ _
  refine move.figures h (State.recordsOk_abandonSettling h out) out ?_
  have : (s.abandonSettling x).tracker x = Tracker.cleared := by
    cases x with
    | line p => exact State.tracker_setTracker_self s _ _
    | barrel => exact State.tracker_setTracker_self s .barrel _
  rw [this]
  simp [Tracker.cleared]

/-! ### Requests given up, conversions, modes -/

theorem State.figures_forget (s : State) (j : Fin 8) :
    (s.prospectOk → (s.forget j).prospectOk) ∧ (s.budgetOk → (s.forget j).budgetOk) := by
  have state : (s.forget j).path.state = s.path.state := (congrArg Path.state (s.path.forget_rest j) :)
  have pin : (s.forget j).path.pin = s.path.pin := (congrArg Path.pin (s.path.forget_rest j) :)
  have port : ∀ p, (s.forget j).port p = { s.port p with inFlight := ((s.port p).forget j).inFlight } := fun p => by
    rw [State.port_forget]
    exact (s.port p).forget_rest j
  have barrel : (s.forget j).barrel = { s.barrel with inFlight := (s.barrel.forget j).inFlight } := s.barrel.forget_rest j
  have live : ∀ x, (s.forget j).live x = s.live x := fun x => by
    cases x with
    | line p => rw [State.live, port]; rfl
    | barrel => rw [State.live, barrel]; rfl
  refine ⟨fun h => h.congr (fun x => ?_) state pin rfl rfl rfl, fun h => h.congr state rfl live (fun x => ?_) rfl⟩
  · cases x with
    | line p => rw [State.prospective, port]; rfl
    | barrel => rw [State.prospective, State.liveScore, live, barrel]; rfl
  · cases x with
    | line p => rw [State.shifting, port]; rfl
    | barrel => rfl

/-! ### What every step keeps -/

theorem State.prospectOk_reqAdopt (h : s.prospectOk) (k : Fin 8) : (s.reqAdopt k).prospectOk := by
  have blind : Blind State.prospectOk := fun _ _ h => h
  have path : ∀ u : State, u.adoptPath.prospectOk := fun u => prospectOk_settle false _ _ _
  have regulator : ∀ u : State, u.prospectOk → u.adoptRegulator.prospectOk := fun _ h => h
  refine blind.reqAdopt (fun p _ => ?_) h
  unfold State.adoptEffects
  exact regulator _ (path _)

theorem State.budgetOk_reqAdopt (h : s.budgetOk) (k : Fin 8) : (s.reqAdopt k).budgetOk := by
  have regulator : ∀ u : State, u.adoptRegulator.budgetOk := fun u => (Regulator.adopt_filter _ _ _).2
  refine blind_budgetOk.reqAdopt (fun p _ => ?_) h
  unfold State.adoptEffects
  exact regulator _

theorem blind_figured {P : State → Prop} (blind : Blind P) : Blind fun s => s.recordsOk ∧ P s :=
  fun _ x h => ⟨blind_recordsOk _ x h.1, blind _ x h.2⟩

theorem invariant_prospectOk : Invariant fun s => s.recordsOk ∧ s.prospectOk where
  blind := blind_figured fun _ _ h => h
  pending s l h := ⟨invariant_recordsOk.pending s l h.1, h.2⟩
  meas s m dead h := ⟨invariant_recordsOk.meas s m dead h.1, h.2.congr (fun x => by cases x <;> rfl) rfl rfl dead rfl rfl⟩
  presence s v h := ⟨invariant_recordsOk.presence s v h.1, h.2⟩
  time s v h := ⟨invariant_recordsOk.time s v h.1, h.2⟩
  latestVD s v h := ⟨invariant_recordsOk.latestVD s v h.1, h.2⟩
  saturation s n h := ⟨invariant_recordsOk.saturation s n h.1, h.2⟩
  line c s t hc e h := by
    refine ⟨invariant_recordsOk.line c s t hc e h.1, ?_⟩
    obtain ⟨u, lined, rfl⟩ := exec_lined hc e
    exact Blind.finish (fun _ _ h => h) (h.2.of_lined lined)
  badFrame s p here cond h := ⟨invariant_recordsOk.badFrame s p here cond h.1, h.2.of_lined (s.lined_breakFrame p)⟩
  stray s p here cond h := ⟨invariant_recordsOk.stray s p here cond h.1, h.2.of_lined (s.lined_endStray p)⟩
  received s p e tag f here cond engine h :=
    ⟨invariant_recordsOk.received s p e tag f here cond engine h.1, prospectOk_settle _ _ _ _⟩
  sent s p e f tag engine sending h :=
    ⟨invariant_recordsOk.sent s p e f tag engine sending h.1, prospectOk_settle _ _ _ _⟩
  port s p t work h := ⟨invariant_recordsOk.port s p t work h.1, prospectOk_settle _ _ _ _⟩
  barrel s t work h := ⟨invariant_recordsOk.barrel s t work h.1, prospectOk_settle _ _ _ _⟩
  path s t work h := ⟨invariant_recordsOk.path s t work h.1, prospectOk_settle _ _ _ _⟩
  dead s v h := ⟨invariant_recordsOk.dead s v h.1, prospectOk_settle _ _ _ _⟩
  starts s x empty h :=
    ⟨invariant_recordsOk.starts s x empty h.1, (State.figures_startSettling h.1 (by rw [empty]; simp)).1 h.2⟩
  abandons s x settling h :=
    ⟨invariant_recordsOk.abandons s x settling h.1, (State.figures_abandonSettling h.1 (by rw [settling]; simp)).1 h.2⟩
  detachTimer s x v h := ⟨invariant_recordsOk.detachTimer s x v h.1, h.2⟩
  attach s x settling h := by
    refine ⟨invariant_recordsOk.attach s x settling h.1, ?_⟩
    cases x <;> exact prospectOk_settle _ _ _ _
  detach s x attached h := ⟨invariant_recordsOk.detach s x attached h.1, prospectOk_settle _ _ _ _⟩
  iin s x v closed h := by
    refine ⟨invariant_recordsOk.iin s x v closed h.1, ?_⟩
    unfold State.deliverIin
    dsimp only
    split
    · exact h.2
    · split
      · exact h.2
      · exact h.2
  regulate s k mode target h := by
    refine ⟨invariant_recordsOk.regulate s k mode target h.1, ?_⟩
    unfold State.reqRegulate
    split <;> exact h.2
  forget s j h := ⟨invariant_recordsOk.forget s j h.1, (s.figures_forget j).1 h.2⟩
  adopt s k h := ⟨invariant_recordsOk.adopt s k h.1, State.prospectOk_reqAdopt h.2 k⟩
  restart s h := ⟨invariant_recordsOk.restart s h.1,
    Blind.restart (P := State.prospectOk) (fun _ _ h => h) (prospectOk_settle _ _ _ _) fun _ _ _ => prospectOk_settle _ _ _ _⟩
  reset := ⟨invariant_recordsOk.reset, by unfold State.prospectOk; decide⟩

theorem State.budgetOk.of_reg (h : s.budgetOk) {r : Regulator} (target : r.spTarget = s.reg.spTarget) :
    (s.withReg r).budgetOk := h.congr rfl rfl (fun x => by cases x <;> rfl) (fun x => by cases x <;> rfl) target

theorem State.budgetOk_reqRegulate (h : s.budgetOk) (k : Fin 8) (mode target : Nat) :
    (s.reqRegulate k mode target).budgetOk := by
  obtain ⟨-, auto, -, manual, -, off⟩ := s.reg.filter_toMode s.policy s.pathClosed target
  unfold State.reqRegulate
  split
  · exact blind_budgetOk.complete (h.of_reg auto)
  · exact blind_budgetOk.complete (h.of_reg manual)
  · exact blind_budgetOk.complete (h.of_reg off)
  · exact blind_budgetOk.complete h

theorem invariant_budgetOk : Invariant fun s => s.recordsOk ∧ s.budgetOk where
  blind := blind_figured blind_budgetOk
  pending s l h := ⟨invariant_recordsOk.pending s l h.1, h.2⟩
  meas s m dead h := ⟨invariant_recordsOk.meas s m dead h.1, h.2⟩
  presence s v h := ⟨invariant_recordsOk.presence s v h.1, h.2⟩
  time s v h := ⟨invariant_recordsOk.time s v h.1, h.2⟩
  latestVD s v h := ⟨invariant_recordsOk.latestVD s v h.1, h.2⟩
  saturation s n h := ⟨invariant_recordsOk.saturation s n h.1, h.2⟩
  line c s t hc e h := by
    refine ⟨invariant_recordsOk.line c s t hc e h.1, ?_⟩
    obtain ⟨u, lined, rfl⟩ := exec_lined hc e
    exact blind_budgetOk.finish (h.2.of_lined lined)
  badFrame s p here cond h := ⟨invariant_recordsOk.badFrame s p here cond h.1, h.2.of_lined (s.lined_breakFrame p)⟩
  stray s p here cond h := ⟨invariant_recordsOk.stray s p here cond h.1, h.2.of_lined (s.lined_endStray p)⟩
  received s p e tag f here cond engine h :=
    ⟨invariant_recordsOk.received s p e tag f here cond engine h.1, budgetOk_settle _ _ h.2 (by simp) (by simp)⟩
  sent s p e f tag engine sending h :=
    ⟨invariant_recordsOk.sent s p e f tag engine sending h.1, budgetOk_settle _ _ h.2 (by simp) (by simp)⟩
  port s p t work h :=
    ⟨invariant_recordsOk.port s p t work h.1, budgetOk_settle _ _ h.2 (by rw [State.apply_reg, work.reg]) (by rw [State.apply_policy, work.policy])⟩
  barrel s t work h :=
    ⟨invariant_recordsOk.barrel s t work h.1, budgetOk_settle _ _ h.2 (by rw [work.reg]) work.policy⟩
  path s t work h :=
    ⟨invariant_recordsOk.path s t work h.1, budgetOk_settle _ _ h.2 (by rw [work.reg]) work.policy⟩
  dead s v h := ⟨invariant_recordsOk.dead s v h.1, budgetOk_settle _ _ h.2 rfl rfl⟩
  starts s x empty h :=
    ⟨invariant_recordsOk.starts s x empty h.1, (State.figures_startSettling h.1 (by rw [empty]; simp)).2 h.2⟩
  abandons s x settling h :=
    ⟨invariant_recordsOk.abandons s x settling h.1, (State.figures_abandonSettling h.1 (by rw [settling]; simp)).2 h.2⟩
  detachTimer s x v h := ⟨invariant_recordsOk.detachTimer s x v h.1, h.2⟩
  attach s x settling h := by
    refine ⟨invariant_recordsOk.attach s x settling h.1, ?_⟩
    cases x <;> exact budgetOk_settle _ _ h.2 (by simp) (by simp)
  detach s x attached h :=
    ⟨invariant_recordsOk.detach s x attached h.1, budgetOk_settle _ _ h.2 (by rw [State.detached_reg]) (s.detached_policy x)⟩
  iin s x v closed h := by
    refine ⟨invariant_recordsOk.iin s x v closed h.1, ?_⟩
    unfold State.deliverIin
    dsimp only
    split
    · exact h.2.of_reg rfl
    · split
      · exact blind_budgetOk.journal (h.2.of_reg (Regulator.step_filter _ _ _ _).2)
      · exact h.2.of_reg (Regulator.step_filter _ _ _ _).2
  regulate s k mode target h := ⟨invariant_recordsOk.regulate s k mode target h.1, State.budgetOk_reqRegulate h.2 k mode target⟩
  forget s j h := ⟨invariant_recordsOk.forget s j h.1, (s.figures_forget j).2 h.2⟩
  adopt s k h := ⟨invariant_recordsOk.adopt s k h.1, State.budgetOk_reqAdopt h.2 k⟩
  restart s h := ⟨invariant_recordsOk.restart s h.1,
    blind_budgetOk.restart (budgetOk_settle _ _ h.2
        (by rw [State.evaluate_reg, State.restartBlocks_reg]; exact (s.reg.filter_toMode s.policy s.pathClosed 0).2.1)
        (by rw [State.evaluate_policy, State.restartBlocks_policy]))
      fun _ _ h => budgetOk_settle _ _ h (by simp) (by simp)⟩
  reset := ⟨invariant_recordsOk.reset, by unfold State.budgetOk; decide⟩

end

/-- Settles O11: the end of every event recomputes the prospect, and the target as soon as an input of R141 changed. -/
theorem stepKeepsDerivedFigures : Obligations.StepKeepsDerivedFigures := by
  unfold Obligations.StepKeepsDerivedFigures
  intro s t records h
  exact ⟨fun prospect => (invariant_prospectOk.step h ⟨records, prospect⟩).2,
    fun budget => (invariant_budgetOk.step h ⟨records, budget⟩).2⟩

end Sys2Proof.Machine
end

/-! # Engines at work: what a lease's beginning, its service and its end lead to (3.2 to 3.4) -/

section
namespace Sys2Proof.Machine

section
variable {s t u : State} {p : LinePort} {e : EngineId} {c : Instr}

/-! ### The terms of the statements, tied to the model's -/

theorem frameBytes_eq_sentBytes (f : OutFrame) (tag : Nat) : frameBytes f tag = sentBytes f tag := by
  cases f <;> rfl

/-- A line event on an attached port leads to what the port's handler makes of it. -/
theorem leads_attached (here : s.attached (.line p) = true)
    (h : exec c s = .next (s.finish (s.ifAttached p u))) : leads c s u := by
  rw [State.ifAttached, if_pos here] at h
  exact leads_of_finish h

/-! ### A lease is served (R43 to R46) -/

theorem State.serve_hail (hail : (s.line p).hail = true) : s.serve e p = s.beginHeed e p := if_pos hail

theorem State.serve_send {f : OutFrame} (quiet : (s.line p).hail = false) (slot : (s.port p).slot = some f)
    (idle : (s.line p).cond = .idle) : s.serve e p = s.takeFrame e p f := by
  simp [State.serve, quiet, slot, idle]

theorem State.serve_wait {f : OutFrame} (quiet : (s.line p).hail = false) (slot : (s.port p).slot = some f)
    (busy : (s.line p).cond ≠ .idle) : s.serve e p = s.setEngine e { s.engine e with state := .waitLine } := by
  simp [State.serve, quiet, slot, busy]

theorem State.serve_done (quiet : (s.line p).hail = false) (slot : (s.port p).slot = none) :
    s.serve e p = s.setEngine e Engine.freed := by
  simp [State.serve, quiet, slot]

/-- The port of a lease has something for the engine to do. -/
def State.occupied (s : State) (p : LinePort) : Prop := (s.line p).hail = true ∨ (s.port p).slot ≠ none

theorem serves_of_finish (h : u.occupied p → exec c s = .next (s.finish (u.serve e p))) : serves c s u e p := by
  refine ⟨fun hail => ?_, fun quiet f slot => ?_⟩
  · have h := h (.inl hail)
    rw [State.serve_hail hail] at h
    exact leads_of_finish h
  · have h := h (.inr (by simp [slot]))
    refine ⟨fun idle => ?_, fun stray => ?_⟩
    · rw [State.serve_send quiet slot idle, State.takeFrame, frameBytes_eq_sentBytes] at h
      exact leads_of_finish h
    · rw [State.serve_wait quiet slot (by rw [stray]; simp)] at h
      exact leads_of_finish h

theorem State.beginLease_eq (s : State) (e : EngineId) (p : LinePort) (k : LeaseKind) :
    s.beginLease e p k = ((s.withEngines (s.engines.set e ⟨.waitLine, some ⟨p, k⟩, false, [], none⟩)).missedBy p k).serve e p :=
  rfl

theorem leases_of_finish {q : QueueEntry} (h : exec c s = .next (s.finish (u.beginLease e q.port q.cls))) :
    leases c s u e q := by
  rw [State.beginLease_eq] at h
  exact serves_of_finish fun _ => h

/-- What serving comes to: nothing to do, or an engine at work under its lease on a port that waits for no other. -/
theorem State.serve_cases (s : State) (e : EngineId) (p : LinePort) :
    ((s.line p).hail = false ∧ (s.port p).slot = none ∧ s.serve e p = s.setEngine e Engine.freed) ∨
      s.occupied p ∧ ((s.serve e p).engine e).state ≠ .free ∧ ((s.serve e p).engine e).lease = (s.engine e).lease := by
  cases hail : (s.line p).hail with
  | true =>
    refine .inr ⟨.inl hail, ?_⟩
    rw [State.serve_hail hail]
    cases e <;> exact ⟨by simp [State.beginHeed, State.engine, State.setEngine, Engines.set, Engines.get], rfl⟩
  | false =>
    cases slot : (s.port p).slot with
    | none => exact .inl ⟨rfl, rfl, State.serve_done hail slot⟩
    | some f =>
      refine .inr ⟨.inr (by simp [slot]), ?_⟩
      by_cases idle : (s.line p).cond = .idle
      · rw [State.serve_send hail slot idle]
        cases e <;> exact ⟨by simp [State.takeFrame, State.engine, State.setEngine, Engines.set, Engines.get], rfl⟩
      · rw [State.serve_wait hail slot idle]
        cases e <;> exact ⟨by simp [State.engine, State.setEngine, Engines.set, Engines.get], rfl⟩

/-- Serving does not look at the queue. -/
theorem State.serve_withQueue (s : State) (e : EngineId) (p : LinePort) (l : List QueueEntry) :
    (s.withQueue l).serve e p = (s.serve e p).withQueue l := by
  cases hail : (s.line p).hail with
  | true =>
    rw [State.serve_hail hail, State.serve_hail (s := s.withQueue l) hail]
    rfl
  | false =>
    cases slot : (s.port p).slot with
    | none =>
      rw [State.serve_done hail slot, State.serve_done (s := s.withQueue l) hail slot]
      rfl
    | some f =>
      by_cases idle : (s.line p).cond = .idle
      · rw [State.serve_send hail slot idle, State.serve_send (s := s.withQueue l) hail slot idle]
        rfl
      · rw [State.serve_wait hail slot idle, State.serve_wait (s := s.withQueue l) hail slot idle]
        rfl

theorem State.missedBy_withQueue (s : State) (p : LinePort) (k : LeaseKind) (l : List QueueEntry) :
    (s.withQueue l).missedBy p k = (s.missedBy p k).withQueue l := by
  by_cases h : k = .hail ∧ (s.line p).hail = false
  · rw [State.missedBy, State.missedBy, if_pos h, if_pos (c := k = .hail ∧ ((s.withQueue l).line p).hail = false) h]
    rfl
  · rw [State.missedBy, State.missedBy, if_neg h, if_neg (c := k = .hail ∧ ((s.withQueue l).line p).hail = false) h]

theorem State.beginLease_withQueue (s : State) (e : EngineId) (p : LinePort) (k : LeaseKind) (l : List QueueEntry) :
    (s.withQueue l).beginLease e p k = (s.beginLease e p k).withQueue l := by
  rw [State.beginLease_eq, State.beginLease_eq, ← State.serve_withQueue, ← State.missedBy_withQueue]
  rfl

theorem State.setPort_port_self (s : State) (p : LinePort) : s.setPort p (s.port p) = s := by
  cases p <;> rfl

theorem State.missedBy_setEngine (s : State) (p : LinePort) (k : LeaseKind) (e : EngineId) (g : Engine) :
    (s.setEngine e g).missedBy p k = (s.missedBy p k).setEngine e g := by
  by_cases h : k = .hail ∧ (s.line p).hail = false
  · rw [State.missedBy, State.missedBy, if_pos h, if_pos (c := k = .hail ∧ ((s.setEngine e g).line p).hail = false) h]
    rfl
  · rw [State.missedBy, State.missedBy, if_neg h, if_neg (c := k = .hail ∧ ((s.setEngine e g).line p).hail = false) h]

theorem State.setEngine_setEngine (s : State) (e : EngineId) (g h : Engine) :
    (s.setEngine e g).setEngine e h = s.setEngine e h := by
  cases e <;> rfl

/-- What serving, and a missed hail before it, touch: the record and the line of the port, and the engine. -/
theorem State.missedBy_rest (s : State) (p : LinePort) (k : LeaseKind) :
    ∃ r, s.missedBy p k = s.setPort p r ∧ r.slot = (s.port p).slot := by
  unfold State.missedBy
  split
  · exact ⟨_, rfl, rfl⟩
  · exact ⟨s.port p, by cases p <;> rfl, rfl⟩

theorem State.missedBy_kept (s : State) (p q : LinePort) (k : LeaseKind) :
    ((s.missedBy p k).port q).slot = (s.port q).slot ∧ (s.missedBy p k).lines = s.lines ∧
      (s.missedBy p k).engines = s.engines ∧ (s.missedBy p k).queue = s.queue ∧ (s.missedBy p k).trackers = s.trackers := by
  obtain ⟨r, e, slot⟩ := s.missedBy_rest p k
  rw [e]
  refine ⟨?_, rfl, rfl, rfl, rfl⟩
  by_cases same : q = p
  · subst same
    rw [State.port_setPort_self, slot]
  · rw [State.port_setPort_of_ne s r same]

theorem State.serve_rest (s : State) (e : EngineId) (p : LinePort) :
    ∃ r g l, s.serve e p = ((s.setPort p r).setEngine e g).setLine p l := by
  cases hail : (s.line p).hail with
  | true =>
    rw [State.serve_hail hail]
    exact ⟨s.port p, _, _, by rw [State.setPort_port_self]; rfl⟩
  | false =>
    cases slot : (s.port p).slot with
    | none =>
      rw [State.serve_done hail slot]
      exact ⟨s.port p, _, s.line p, by cases p <;> rfl⟩
    | some f =>
      by_cases idle : (s.line p).cond = .idle
      · rw [State.serve_send hail slot idle]
        exact ⟨_, _, _, rfl⟩
      · rw [State.serve_wait hail slot idle]
        exact ⟨s.port p, _, s.line p, by cases p <;> rfl⟩

theorem State.beginLease_rest (s : State) (e : EngineId) (p : LinePort) (k : LeaseKind) :
    ∃ r g l, s.beginLease e p k = ((s.setPort p r).setEngine e g).setLine p l := by
  rw [State.beginLease_eq]
  obtain ⟨r, missed, -⟩ := State.missedBy_rest (s.withEngines (s.engines.set e ⟨.waitLine, some ⟨p, k⟩, false, [], none⟩)) p k
  rw [missed]
  obtain ⟨r', g, l, served⟩ := State.serve_rest
    ((s.withEngines (s.engines.set e ⟨.waitLine, some ⟨p, k⟩, false, [], none⟩)).setPort p r) e p
  rw [served]
  exact ⟨r', g, l, by cases p <;> cases e <;> rfl⟩

theorem State.beginLease_engine_of_ne (s : State) {d e : EngineId} (ne : d ≠ e) (p : LinePort) (k : LeaseKind) :
    (s.beginLease e p k).engine d = s.engine d := by
  obtain ⟨r, g, l, rest⟩ := s.beginLease_rest e p k
  rw [rest]
  exact State.engine_setEngine_of_ne (s.setPort p r) g ne

theorem State.beginLease_port_of_ne (s : State) {q : LinePort} (ne : q ≠ p) (e : EngineId) (k : LeaseKind) :
    (s.beginLease e p k).port q = s.port q ∧ (s.beginLease e p k).line q = s.line q := by
  obtain ⟨r, g, l, rest⟩ := s.beginLease_rest e p k
  rw [rest]
  exact ⟨State.port_setPort_of_ne s r ne, State.line_setLine_of_ne s l ne⟩

theorem State.beginLease_fields (s : State) (e : EngineId) (p : LinePort) (k : LeaseKind) :
    (s.beginLease e p k).queue = s.queue ∧ (s.beginLease e p k).trackers = s.trackers := by
  obtain ⟨r, g, l, rest⟩ := s.beginLease_rest e p k
  rw [rest]
  exact ⟨rfl, rfl⟩

/-- What beginning a lease comes to: an engine at work under it on a port that occupies it, or FREE again where the port has
nothing to do, a missed hail counted for class HAIL (R43). -/
theorem State.beginLease_cases (s : State) (e : EngineId) (p : LinePort) (k : LeaseKind) :
    ((s.line p).hail = false ∧ (s.port p).slot = none ∧
        s.beginLease e p k = (s.setEngine e Engine.freed).missedBy p k) ∨
      s.occupied p ∧ ((s.beginLease e p k).engine e).state ≠ .free ∧
        ((s.beginLease e p k).engine e).lease = some ⟨p, k⟩ := by
  rw [State.beginLease_eq]
  generalize leased : s.withEngines (s.engines.set e ⟨.waitLine, some ⟨p, k⟩, false, [], none⟩) = v
  obtain ⟨r, missed, slot⟩ := State.missedBy_rest v p k
  have record : (v.missedBy p k).port p = r := by rw [missed, State.port_setPort_self]
  have line : (v.missedBy p k).line p = s.line p := by rw [missed, ← leased]; rfl
  have engine : ((v.missedBy p k).engine e).lease = some ⟨p, k⟩ := by
    rw [missed, ← leased]
    cases e <;> rfl
  have port : v.port p = s.port p := by rw [← leased]; rfl
  rcases (v.missedBy p k).serve_cases e p with ⟨quiet, empty, same⟩ | ⟨lasts, busy, kept⟩
  · refine .inl ⟨line ▸ quiet, ?_, ?_⟩
    · rw [← port, ← slot, ← record]
      exact empty
    · rw [same, ← leased]
      show ((s.setEngine e ⟨.waitLine, some ⟨p, k⟩, false, [], none⟩).missedBy p k).setEngine e Engine.freed = _
      rw [State.missedBy_setEngine, State.missedBy_setEngine, State.setEngine_setEngine]
  · refine .inr ⟨?_, busy, kept.trans engine⟩
    rcases lasts with hail | filled
    · exact .inl (line ▸ hail)
    · exact .inr (by rw [← port, ← slot, ← record]; exact filled)

/-! ### A port applies (R39) -/

theorem State.apply_idle (h : s.needsEngine p = false) : s.apply p = s := by
  rw [State.apply, h]
  rfl

section
variable (needs : s.needsEngine p = true) (free : s.engineOf p = none) (unqueued : s.queued p = false)
include needs free unqueued

theorem State.apply_takes (takes : s.takes e) :
    s.apply p = s.beginLease e p (if (s.line p).hail then .hail else .send) := by
  rw [State.apply, needs, free, unqueued, if_pos (by rfl)]
  dsimp only
  cases e with
  | e0 => exact if_pos takes
  | e1 =>
    rw [if_neg takes.1]
    exact if_pos takes.2

theorem State.apply_waits (busy : ∀ e, (s.engine e).state ≠ .free) :
    s.apply p = s.withQueue (joinQueue s.queue p (if (s.line p).hail then .hail else .send)) := by
  rw [State.apply, needs, free, unqueued, if_pos (by rfl)]
  dsimp only
  have first : s.engines.e0.state ≠ .free := busy .e0
  have second : s.engines.e1.state ≠ .free := busy .e1
  rw [if_neg first, if_neg second]

end

/-! ### A lease ends (R37, R42, R48) -/

theorem giveOut_busy {l : List QueueEntry} (busy : (s.engine e).state ≠ .free) : giveOut e l s = s := by
  cases l with
  | nil => rfl
  | cons q l => rw [giveOut, if_neg busy]

theorem State.giveEngine_lasting {q : QueueEntry} {rest : List QueueEntry} (queue : s.queue = q :: rest)
    (free : (s.engine e).state = .free) (lasts : s.occupied q.port) :
    s.giveEngine e = (s.withQueue rest).beginLease e q.port q.cls := by
  rw [State.giveEngine, queue, giveOut, if_pos free]
  rcases (s.withQueue rest).beginLease_cases e q.port q.cls with ⟨quiet, empty, -⟩ | ⟨-, busy, -⟩
  · rcases lasts with hail | slot
    · exact absurd (quiet.symm.trans hail) (by simp)
    · exact absurd empty slot
  · exact giveOut_busy busy

theorem State.giveEngine_idle {q : QueueEntry} (queue : s.queue = [q]) (free : (s.engine e).state = .free)
    (quiet : (s.line q.port).hail = false) (empty : (s.port q.port).slot = none) :
    s.giveEngine e = ((s.withQueue []).setEngine e Engine.freed).missedBy q.port q.cls := by
  rw [State.giveEngine, queue, giveOut, if_pos free]
  rcases (s.withQueue []).beginLease_cases e q.port q.cls with ⟨-, -, same⟩ | ⟨lasts, -, -⟩
  · rw [same]
    exact rfl
  · rcases lasts with hail | slot
    · exact absurd (quiet.symm.trans hail) (by simp)
    · exact absurd empty slot

/-- The port of an ended lease that has no hail needs an engine exactly for its slot (R39). -/
theorem State.needsEngine_slot (here : s.attached (.line p) = true) (quiet : (s.line p).hail = false) :
    s.needsEngine p = (s.port p).slot.isSome := by
  rw [State.needsEngine, here, quiet, Bool.true_and, Bool.or_false]

theorem State.engineOf_eq_none : s.engineOf p = none ↔ ∀ e, (s.engine e).lease.map Lease.port ≠ some p := by
  unfold State.engineOf
  constructor
  · intro h e
    split at h
    · cases h
    · split at h
      · cases h
      · cases e <;> assumption
  · intro h
    have first : s.engines.e0.lease.map Lease.port ≠ some p := h .e0
    have second : s.engines.e1.lease.map Lease.port ≠ some p := h .e1
    rw [if_neg first, if_neg second]

theorem State.takes_of_only (free : (s.engine e).state = .free) (others : ∀ d, d ≠ e → (s.engine d).state ≠ .free) :
    s.takes e := by
  cases e with
  | e0 => exact free
  | e1 => exact ⟨others .e0 (by decide), free⟩

/-- The engines, the queue and the trackers of a state in which only a lease of an engine for another port has begun. -/
theorem State.engineOf_beginLease_of_ne (free : s.engineOf p = none) {q : LinePort} (ne : q ≠ p) (e : EngineId)
    (k : LeaseKind) (lasts : ((s.beginLease e q k).engine e).lease = some ⟨q, k⟩) : (s.beginLease e q k).engineOf p = none := by
  rw [State.engineOf_eq_none] at free ⊢
  intro d
  by_cases same : d = e
  · subst same
    rw [lasts]
    simpa using ne
  · rw [State.beginLease_engine_of_ne s same]
    exact free d

theorem State.needsEngine_congr (attached : t.attached (.line p) = s.attached (.line p)) (slot : (t.port p).slot = (s.port p).slot)
    (hail : (t.line p).hail = (s.line p).hail) : t.needsEngine p = s.needsEngine p := by
  rw [State.needsEngine, State.needsEngine, attached, slot, hail]

/-- A port whose lease has ended, without a hail, before an engine that has been leased to the head of the queue (R39, R42). -/
theorem State.apply_after {v : State} {q : LinePort} {k : LeaseKind} {rest : List QueueEntry} (here : v.attached (.line p) = true)
    (quiet : (v.line p).hail = false) (unleased : v.engineOf p = none) (queue : v.queue = rest) (unqueued : v.queued p = false)
    (ne : q ≠ p) (others : ∀ d, d ≠ e → (v.engine d).state ≠ .free) (lasts : v.occupied q) :
    (v.beginLease e q k).apply p =
      (v.withQueue (rest ++ if (v.port p).slot = none then [] else [⟨p, .send⟩])).beginLease e q k := by
  obtain ⟨port, line⟩ := State.beginLease_port_of_ne v (p := q) (Ne.symm ne) e k
  obtain ⟨kept, trackers⟩ := State.beginLease_fields v e q k
  have needs : (v.beginLease e q k).needsEngine p = (v.port p).slot.isSome := by
    rw [State.needsEngine_congr (s := v) (by rw [State.attached, State.attached, State.tracker, State.tracker, trackers])
      (by rw [port]) (by rw [line]), State.needsEngine_slot here quiet]
  rw [State.beginLease_withQueue]
  cases slot : (v.port p).slot with
  | none =>
    rw [slot] at needs
    rw [State.apply_idle needs, if_pos rfl, List.append_nil, ← queue, ← kept]
    rfl
  | some f =>
    rw [slot] at needs
    rcases v.beginLease_cases e q k with ⟨none, empty, -⟩ | ⟨-, busy, lease⟩
    · rcases lasts with hail | filled
      · exact absurd (none.symm.trans hail) (by simp)
      · exact absurd empty filled
    · have all : ∀ d, ((v.beginLease e q k).engine d).state ≠ .free := fun d => by
        by_cases same : d = e
        · exact same ▸ busy
        · rw [State.beginLease_engine_of_ne v same]
          exact others d same
      rw [State.apply_waits needs (State.engineOf_beginLease_of_ne unleased ne e k lease)
        (by rw [State.queued, kept]; exact unqueued) all, line, quiet, kept, queue]
      rfl

theorem leaseEnds_of_finish (h : exec c s = .next (s.finish (u.endLease e p))) : leaseEnds c s u p e := by
  intro lease unleased unqueued quiet
  generalize freed : u.withEngines (u.engines.set e Engine.freed) = v at unleased
  have ended : u.endLease e p = (v.giveEngine e).apply p := by rw [← freed]; rfl
  have free : (v.engine e).state = .free := by rw [← freed]; cases e <;> rfl
  have others : (∀ o, (u.engine o).state ≠ .free) → ∀ d, d ≠ e → (v.engine d).state ≠ .free := fun busy d ne => by
    rw [← freed]
    exact (State.engine_setEngine_of_ne u Engine.freed ne).symm ▸ busy d
  have queue : v.queue = u.queue := by rw [← freed]; rfl
  have queued : v.queued p = false := by rw [State.queued, queue]; exact unqueued
  have line : ∀ q, v.line q = u.line q := fun q => by rw [← freed]; rfl
  have port : ∀ q, v.port q = u.port q := fun q => by rw [← freed]; rfl
  have attached : v.attached (.line p) = u.attached (.line p) := by rw [← freed]; rfl
  have silent : (v.line p).hail = false := (line p).symm ▸ quiet
  rw [ended] at h
  have unserved : u.queue = [] → v.giveEngine e = v := fun empty => by rw [State.giveEngine, queue, empty, giveOut]
  refine ⟨fun empty bare => ?_, fun here => ⟨fun empty filled o takes => ?_, fun q rest entries busy => ⟨fun lasts => ?_,
    fun still bare alone => ?_⟩⟩⟩
  · rw [unserved empty, State.apply_idle] at h
    · exact leads_of_finish h
    · rw [State.needsEngine, silent, port, not_not.mp bare]
      simp
  · rw [unserved empty, State.apply_takes _ unleased queued takes, silent] at h
    · exact leases_of_finish (q := ⟨p, .send⟩) h
    · rw [State.needsEngine_slot (attached ▸ here) silent, port]
      exact Option.ne_none_iff_isSome.mp filled
  · have ne : q.port ≠ p := fun same => by
      rw [State.queued, entries] at unqueued
      simp [same] at unqueued
    have occupied : v.occupied q.port := by
      rw [State.occupied, line, port]
      exact lasts
    have given : v.giveEngine e = (v.withQueue rest).beginLease e q.port q.cls :=
      State.giveEngine_lasting (queue.trans entries) free occupied
    have outside : (v.withQueue rest).queued p = false := by
      rw [State.queued, queue, entries] at queued
      simp only [List.any_cons, Bool.or_eq_false_iff] at queued
      exact queued.2
    rw [given, State.apply_after (v := v.withQueue rest) (attached ▸ here) silent unleased rfl outside ne (others busy)
      occupied] at h
    refine leases_of_finish ?_
    rw [h, ← port p]
    rfl
  · have given := State.giveEngine_idle (queue.trans (alone ▸ entries)) free ((line _).symm ▸ still) ((port _).symm ▸ bare)
    have same : (v.withQueue []).setEngine e Engine.freed = v.withQueue [] := by rw [← freed]; cases e <;> rfl
    rw [same] at given
    rw [given] at h
    obtain ⟨slot, lines, engines, queue, trackers⟩ := (v.withQueue []).missedBy_kept q.port p q.cls
    have hail : ((((v.withQueue []).missedBy q.port q.cls)).line p).hail = false := by
      rw [State.line, lines]
      exact silent
    refine ⟨fun bare => ?_, fun filled => ?_⟩
    · rw [State.apply_idle] at h
      · exact leads_of_finish h
      · have empty : (v.port p).slot = none := port p ▸ not_not.mp bare
        rw [State.needsEngine, hail, slot]
        show (_ && ((v.port p).slot.isSome || false)) = false
        simp [empty]
    · have unleased : ((v.withQueue []).missedBy q.port q.cls).engineOf p = none := by
        rw [State.engineOf, engines]
        exact unleased
      have takes : ((v.withQueue []).missedBy q.port q.cls).takes e := by
        refine State.takes_of_only ?_ fun d ne => ?_
        · rw [State.engine, engines]
          exact free
        · rw [State.engine, engines]
          exact others busy d ne
      rw [State.apply_takes _ unleased (by rw [State.queued, queue]; rfl) takes, hail] at h
      · exact leases_of_finish (q := ⟨p, .send⟩) h
      · have here : ((v.withQueue []).missedBy q.port q.cls).attached (.line p) = true := by
          rw [State.attached, State.tracker, trackers]
          exact (attached.trans here : v.attached (.line p) = true)
        rw [State.needsEngine_slot here hail, slot]
        exact Option.ne_none_iff_isSome.mp (port p ▸ filled : (v.port p).slot ≠ none)

theorem State.engineOf_congr (h : u.engines = s.engines) : u.engineOf p = s.engineOf p := by
  rw [State.engineOf, State.engineOf, h]

/-- A command that ends the lease a port holds. -/
theorem leaseEnds_of_endLeaseOf (engines : u.engines = s.engines) (h : exec c s = .next (s.finish (u.endLeaseOf p))) :
    leaseEnds c s u p e := by
  intro lease
  rw [State.endLeaseOf, State.engineOf_congr engines, lease] at h
  exact leaseEnds_of_finish h lease

/-! ### The line of a waiting engine is free (R46) -/

theorem State.lineFreed_unleased (free : s.engineOf p = none) : s.lineFreed p = s := by
  rw [State.lineFreed, free]

theorem State.lineFreed_waiting (lease : s.engineOf p = some e) (waits : (s.engine e).state = .waitLine) :
    s.lineFreed p = if ((s.serve e p).engine e).state = .free then (s.serve e p).endLease e p else s.serve e p := by
  rw [State.lineFreed, lease]
  exact if_pos waits

/-- A line that has become IDLE: nobody waits for it, or the waiting engine serves its port (R46). -/
theorem lineFreed_of_finish (engines : u.engines = s.engines) (h : exec c s = .next (s.finish (u.lineFreed p))) :
    (s.engineOf p = none → leads c s u) ∧
      ∀ e, s.engineOf p = some e → (s.engine e).state = .waitLine →
        serves c s u e p ∧ ((s.port p).slot = none → (u.port p).slot = (s.port p).slot → leaseEnds c s u p e) := by
  have engineOf : u.engineOf p = s.engineOf p := State.engineOf_congr engines
  refine ⟨fun free => ?_, fun e lease waits => ?_⟩
  · rw [State.lineFreed_unleased (engineOf.trans free)] at h
    exact leads_of_finish h
  · have waits : (u.engine e).state = .waitLine := by rw [State.engine, engines]; exact waits
    rw [State.lineFreed_waiting (engineOf.trans lease) waits] at h
    refine ⟨serves_of_finish fun occupied => ?_, fun empty kept _ unleased unqueued quiet => ?_⟩
    · rcases u.serve_cases e p with ⟨quiet, empty, -⟩ | ⟨-, busy, -⟩
      · rcases occupied with hail | filled
        · exact absurd (quiet.symm.trans hail) (by simp)
        · exact absurd empty filled
      · rw [if_neg busy] at h
        exact h
    · rw [State.serve_done quiet (kept.trans empty), State.engine_setEngine_self, if_pos (by rfl)] at h
      refine leaseEnds_of_finish (h.trans ?_) lease unleased unqueued quiet
      rw [State.endLease, State.setEngine_setEngine]
      rfl

end

end Sys2Proof.Machine
end

/-! # The terms line: hails, frames and their ends (Chapter 2, 3.4) -/

section
namespace Sys2Proof.Machine

section
variable {s t u : State} {p : LinePort} {e : EngineId} {c : Instr}

/-- A record that only counts one more bad frame, or one more missed hail. -/
theorem State.countBadFrame_eq (s : State) (p : LinePort) :
    s.countBadFrame p = s.withPorts (s.ports.set p { s.port p with badFrame := counted (s.port p).badFrame }) := rfl

theorem State.countMissedHail_eq (s : State) (p : LinePort) :
    s.countMissedHail p = s.withPorts (s.ports.set p { s.port p with missedHail := counted (s.port p).missedHail }) := rfl

theorem next_finish (h : t = u) : (.next (s.finish t) : Host.Outcome State Fault Refusal) = .next (s.finish u) := by
  rw [h]

end

/-- Settles O31. -/
theorem startDelimiterOpensReception : Obligations.StartDelimiterOpensReception := by
  unfold Obligations.StartDelimiterOpensReception
  intro s p here
  have heard : leads (.startDelimiter p) s (s.takeStart p) := leads_attached here rfl
  refine ⟨fun e heeded lease => ?_, fun open' => ?_⟩
  · rw [State.takeStart, heeded, lease] at heard
    exact heard
  · rcases open' with cond | cond <;>
    · rw [State.takeStart, cond] at heard
      exact heard

/-- Settles O30. -/
theorem hailIsWithdrawnHeededOrMissed : Obligations.HailIsWithdrawnHeededOrMissed := by
  unfold Obligations.HailIsWithdrawnHeededOrMissed
  refine fun s p => ⟨fun here hailed => ?_, fun e lease heeding => ?_, fun e awaiting timer lease => ?_⟩
  · have heard : leads (.hailWithdrawn p) s (s.withdrawHail p) := leads_attached here rfl
    rw [State.withdrawHail, if_pos hailed] at heard
    exact heard
  · have heard : leads (.heedEnd p) s (s.endHeed p) := leads_of_finish rfl
    rw [State.endHeed, lease] at heard
    dsimp only at heard
    rw [if_pos heeding] at heard
    exact heard
  · refine leaseEnds_of_finish ?_ lease
    show Host.Outcome.next (s.finish (s.endHeedWait p)) = _
    rw [State.endHeedWait, lease]
    dsimp only
    rw [if_pos ⟨awaiting, timer⟩]
    rfl

/-- Settles O32. -/
theorem dataSymbolIsGathered : Obligations.DataSymbolIsGathered := by
  unfold Obligations.DataSymbolIsGathered
  intro s p e v here receiving lease
  have taken : exec (.dataSymbol p v) s = .next (s.finish (s.takeData p v)) := by
    show Host.Outcome.next (s.finish (s.ifAttached p _)) = _
    rw [State.ifAttached, if_pos here]
  rw [State.takeData, receiving, lease] at taken
  dsimp only at taken
  refine ⟨fun room => ?_, fun full => ?_⟩
  · rw [if_pos (c := _ < Config.frameLimit) room] at taken
    exact leads_of_finish taken
  · rw [if_neg (c := _ < Config.frameLimit) (Nat.not_lt.mpr full)] at taken
    exact leaseEnds_of_finish taken

/-! ### Frames that end -/

section
variable {s t u : State} {p : LinePort} {e : EngineId} {c : Instr}

/-- A command whose bytes break the frame being received, or the one awaited (R25, R26, R45). -/
theorem leaseEnds_of_breakFrame (h : exec c s = .next (s.finish (s.breakFrame p))) :
    leaseEnds c s
      ((s.withLines (s.lines.set p (s.line p).idled)).withPorts
        (s.ports.set p { s.port p with badFrame := counted (s.port p).badFrame })) p e :=
  leaseEnds_of_endLeaseOf (u := (s.setLine p ((s.line p).enter .idle)).countBadFrame p) rfl h

/-- A frame whose last byte is not the CRC of the others is not accepted (R26). -/
theorem acceptFrame_badCrc {body : List Byte} {crcByte : Byte} (wrong : crc body ≠ crcByte) :
    acceptFrame (body ++ [crcByte]) = none := by
  rcases body with _ | ⟨header, _ | ⟨length, rest⟩⟩
  · rfl
  · rfl
  · simp only [List.cons_append, acceptFrame]
    split
    · rfl
    · rw [if_pos (by simpa using wrong)]

end

/-- Settles O34. -/
theorem badFrameIsCountedOnce : Obligations.BadFrameIsCountedOnce := by
  unfold Obligations.BadFrameIsCountedOnce
  intro s p e c here breaks
  have attached : ∀ u : State, s.ifAttached p u = u := fun u => if_pos here
  rcases breaks with ⟨receiving, rfl | rfl | rfl | ⟨rfl, body, crcByte, bytes, wrong⟩⟩ | ⟨heeded, rfl | rfl | ⟨v, rfl⟩⟩
  · refine leaseEnds_of_breakFrame (next_finish ((attached _).trans ?_))
    rw [State.takeError, receiving]
  · refine leaseEnds_of_breakFrame (next_finish ((attached _).trans ?_))
    exact if_pos receiving
  · refine leaseEnds_of_breakFrame (next_finish ((attached _).trans ?_))
    rw [State.takeStart, receiving]
  · intro lease
    refine leaseEnds_of_breakFrame (congrArg Host.Outcome.next ((attached _).trans ?_)) lease
    rw [State.takeEnd, receiving, lease]
    dsimp only
    rw [State.receive, bytes, acceptFrame_badCrc wrong]
    rfl
  · refine leaseEnds_of_breakFrame (next_finish ((attached _).trans ?_))
    rw [State.takeError, heeded]
  · refine leaseEnds_of_breakFrame (congrArg Host.Outcome.next ((attached _).trans ?_))
    rw [State.takeEnd, heeded]
  · refine leaseEnds_of_breakFrame (next_finish ((attached _).trans ?_))
    rw [State.takeData, heeded]

section
variable {s t u : State} {p : LinePort} {e : EngineId} {c : Instr}

/-- A STRAY line at its end: IDLE, the frame counted unless its overflow was (R31, R25). -/
def State.strayEnded (s : State) (p : LinePort) : State :=
  (s.withLines (s.lines.set p (s.line p).idled)).withPorts
    (s.ports.set p { s.port p with
      badFrame := if (s.line p).strayCounted = true then (s.port p).badFrame else counted (s.port p).badFrame })

theorem State.endStray_eq (s : State) (p : LinePort) : s.endStray p = (s.strayEnded p).lineFreed p := by
  unfold State.endStray State.strayEnded
  cases (s.line p).strayCounted with
  | true => exact congrArg (State.lineFreed · p) (State.setPort_port_self (s.setLine p ((s.line p).enter .idle)) p).symm
  | false => rfl

/-- What the end of a STRAY leads to (R46). -/
theorem strayEnds_of_finish (h : exec c s = .next (s.finish (s.endStray p))) :
    (s.engineOf p = none → leads c s (s.strayEnded p)) ∧
      ∀ e, s.engineOf p = some e → (s.engine e).state = .waitLine →
        serves c s (s.strayEnded p) e p ∧ ((s.port p).slot = none → leaseEnds c s (s.strayEnded p) p e) := by
  rw [State.endStray_eq] at h
  obtain ⟨free, waiting⟩ := lineFreed_of_finish (s := s) (u := s.strayEnded p) rfl h
  refine ⟨free, fun e lease waits => ⟨(waiting e lease waits).1, fun empty => (waiting e lease waits).2 empty ?_⟩⟩
  exact (congrArg PortRecord.slot (State.port_setPort_self (s.withLines (s.lines.set p (s.line p).idled)) p _) :)

end

/-- Settles O33. -/
theorem straySilenceEndsStray : Obligations.StraySilenceEndsStray := by
  unfold Obligations.StraySilenceEndsStray
  intro s p here stray
  have attached : ∀ u : State, s.ifAttached p u = u := fun u => if_pos here
  have data : ∀ v, exec (.dataSymbol p v) s = .next (s.finish (if (s.line p).strayCounted then s
      else if 31 ≤ (s.line p).strayBytes then s.endStray p
      else s.setLine p { s.line p with strayBytes := (s.line p).strayBytes + 1 })) := fun v => by
    refine next_finish ((attached _).trans ?_)
    unfold State.takeData
    generalize s.line p = l at stray ⊢
    obtain ⟨cond, _, _, _, _, _⟩ := l
    obtain rfl : cond = .stray := stray
    rfl
  have delimiter : exec (.endDelimiter p) s =
      .next (if (s.line p).strayCounted then s else s.finish (s.endStray p)) := by
    refine congrArg Host.Outcome.next ((attached _).trans ?_)
    rw [State.takeEnd, stray]
  refine ⟨strayEnds_of_finish (next_finish ((attached _).trans (if_pos stray))), fun counted => ?_,
    fun uncounted => ⟨strayEnds_of_finish ?_, fun v => ⟨fun full => strayEnds_of_finish ?_, fun room => ?_⟩⟩⟩
  · refine ⟨?_, fun v => ?_⟩
    · rw [counted] at delimiter
      exact leads_of_records_kept delimiter rfl rfl
    · have data := data v
      rw [counted] at data
      exact leads_of_finish data
  · rw [delimiter, uncounted]
    rfl
  · rw [data, uncounted, if_pos full]
    rfl
  · have data := data v
    rw [uncounted, if_neg (Nat.not_le.mpr room)] at data
    exact leads_of_finish data

/-! ### Hail pulses (R18) -/

section
variable {s t u : State} {p : LinePort} {e : EngineId} {c : Instr}

/-- The pulses of a tone, by the spacing of 100 µs. -/
theorem Line.pulseCount_eq (l : Line) (time : Nat) :
    l.pulseCount time = if (l.lastPulse = some (time - 100) ∧ 100 ≤ time) ∧ l.pulses ≠ 0 then l.pulses + 1 else 1 := by
  have spaced : l.lastPulse.map (fun t => t + Config.hailSpacing) = some time ↔ l.lastPulse = some (time - 100) ∧ 100 ≤ time := by
    cases l.lastPulse with
    | none => simp
    | some n =>
      simp only [Option.map_some, Option.some.injEq, Config.hailSpacing]
      omega
  unfold Line.pulseCount
  refine if_congr ?_ rfl rfl
  rw [spaced, and_comm, Nat.pos_iff_ne_zero]

/-- A lease begun for a hail: the engine begins to heed, the line passes through SENDING (R44). -/
theorem State.beginLease_hailed (hail : (s.line p).hail = true) (k : LeaseKind) :
    s.beginLease e p k =
      (s.setEngine e ⟨.heeding, some ⟨p, k⟩, false, [], none⟩).setLine p ((s.line p).enter .sending) := by
  have missed : (s.withEngines (s.engines.set e ⟨.waitLine, some ⟨p, k⟩, false, [], none⟩)).missedBy p k =
      s.withEngines (s.engines.set e ⟨.waitLine, some ⟨p, k⟩, false, [], none⟩) :=
    if_neg fun h => Bool.false_ne_true (h.2.symm.trans hail)
  rw [State.beginLease_eq, missed,
    State.serve_hail (s := s.withEngines (s.engines.set e ⟨.waitLine, some ⟨p, k⟩, false, [], none⟩)) hail]
  cases e <;> rfl

/-- Each port stands once in the queue. -/
theorem queueEntry_unique {l : List QueueEntry} (once : (l.map QueueEntry.port).Nodup) {a b : QueueEntry} (ha : a ∈ l)
    (hb : b ∈ l) (same : a.port = b.port) : a = b :=
  List.inj_on_of_nodup_map once ha hb same

theorem raiseClass_send {l : List QueueEntry} (here : (⟨p, .send⟩ : QueueEntry) ∈ l) (once : (l.map QueueEntry.port).Nodup) :
    raiseClass l p = (l.filter fun e => decide (e.cls = .hail)) ++
      ⟨p, .hail⟩ :: (l.filter fun e => decide (e.cls = .send)).filter fun e => decide (e.port ≠ p) := by
  have hails : (leaveQueue l p).filter (fun e => decide (e.cls = .hail)) = l.filter fun e => decide (e.cls = .hail) := by
    rw [leaveQueue, List.filter_filter]
    refine List.filter_congr fun a ha => ?_
    rw [Bool.and_eq_left_iff_imp]
    intro hail
    rw [decide_eq_true_iff] at hail ⊢
    intro same
    have := queueEntry_unique once ha here same
    rw [this] at hail
    cases hail
  rw [raiseClass, if_pos (List.any_eq_true.mpr ⟨_, here, by simp⟩), joinHail, hails, leaveQueue, List.filter_comm]

theorem raiseClass_hail {l : List QueueEntry} (here : (⟨p, .hail⟩ : QueueEntry) ∈ l) (once : (l.map QueueEntry.port).Nodup) :
    raiseClass l p = l := by
  refine if_neg fun found => ?_
  obtain ⟨a, ha, same⟩ := List.any_eq_true.mp found
  rw [decide_eq_true_iff] at same
  subst same
  have := queueEntry_unique once ha here rfl
  cases this

/-- A port with an entry is queued. -/
theorem State.queued_of_mem {k : LeaseKind} (here : (⟨p, k⟩ : QueueEntry) ∈ s.queue) : s.queued p = true :=
  List.any_eq_true.mpr ⟨_, here, by simp⟩

/-- The port once its hail is present (R18). -/
def State.hailed (s : State) (p : LinePort) (time : Nat) : State :=
  s.setLine p { (s.line p).enter .hailed with hail := true, lastPulse := some time }

theorem exec_hailPulse_idle {time : Nat} (here : s.attached (.line p) = true) (idle : (s.line p).cond = .idle) :
    exec (.hailPulse p time) s = .next (s.finish (if 3 ≤ (s.line p).pulseCount time then s.hailSeen p time
      else s.setLine p { s.line p with lastPulse := some time, pulses := (s.line p).pulseCount time })) := by
  refine next_finish ((if_pos here : s.ifAttached p _ = _).trans ?_)
  unfold State.takePulse
  dsimp only
  rw [idle]

/-- What the Engine Queue makes of a hail: as the statement of R39 to R41 has it. -/
theorem State.hailSeen_cases (s : State) (p : LinePort) (time : Nat) (here : s.attached (.line p) = true) :
    (s.queued p = true → s.hailSeen p time = (s.hailed p time).withQueue (raiseClass s.queue p)) ∧
    (s.queued p = false → s.engineOf p ≠ none → s.hailSeen p time = s.hailed p time) ∧
    (s.queued p = false → s.engineOf p = none →
      (∀ e, s.takes e → s.hailSeen p time =
        ((s.hailed p time).setEngine e ⟨.heeding, some ⟨p, .hail⟩, false, [], none⟩).setLine p
          (((s.hailed p time).line p).enter .sending)) ∧
      ((∀ e, (s.engine e).state ≠ .free) →
        s.hailSeen p time = (s.hailed p time).withQueue (joinHail s.queue p))) := by
  have hail : ((s.hailed p time).line p).hail = true := by rw [State.hailed, State.line_setLine_self]
  have needs : (s.hailed p time).needsEngine p = true := by
    rw [State.needsEngine, hail, Bool.or_true, Bool.and_true]
    exact here
  have unqueued : s.queued p = false → s.hailSeen p time = (s.hailed p time).apply p := fun h =>
    if_neg (c := s.queued p = true) (by simp [h])
  refine ⟨fun queued => if_pos (c := s.queued p = true) queued, fun free leased => ?_, fun free unleased => ⟨fun e takes => ?_,
    fun busy => ?_⟩⟩
  · rw [unqueued free, State.apply]
    refine if_neg fun h => leased ?_
    simp only [Bool.and_eq_true, Option.isNone_iff_eq_none] at h
    exact h.1.2
  · rw [unqueued free, State.apply_takes needs unleased free (e := e) takes, hail]
    exact State.beginLease_hailed hail .hail
  · rw [unqueued free, State.apply_waits needs unleased free busy, hail]
    rfl

/-- A hail seen touches lines, engines and queue, and stays with the line. -/
theorem State.hailSeen_records (s : State) (p : LinePort) (time : Nat) (here : s.attached (.line p) = true) :
    (s.hailSeen p time).ports = s.ports ∧ (s.hailSeen p time).barrel = s.barrel ∧ (s.hailSeen p time).exch = s.exch ∧
      ((s.hailSeen p time).line p).hail = true ∧ ((s.hailSeen p time).line p).lastPulse = some time := by
  have still : (s.hailed p time).line p = ⟨.hailed, true, some time, 0, 0, false⟩ := State.line_setLine_self ..
  have heeds : ∀ e, State.line (((s.hailed p time).setEngine e ⟨.heeding, some ⟨p, .hail⟩, false, [], none⟩).setLine p
      (((s.hailed p time).line p).enter .sending)) p = ⟨.sending, true, some time, 0, 0, false⟩ := fun e => by
    rw [State.line_setLine_self, still]
    rfl
  obtain ⟨queued, leased, free⟩ := s.hailSeen_cases p time here
  cases q : s.queued p with
  | true =>
    rw [queued q]
    exact ⟨rfl, rfl, rfl, congrArg Line.hail still, congrArg Line.lastPulse still⟩
  | false =>
    by_cases lease : s.engineOf p = none
    · obtain ⟨takes, waits⟩ := free q lease
      by_cases first : s.engines.e0.state = .free
      · rw [takes .e0 first, heeds]
        exact ⟨rfl, rfl, rfl, rfl, rfl⟩
      · by_cases second : s.engines.e1.state = .free
        · rw [takes .e1 ⟨first, second⟩, heeds]
          exact ⟨rfl, rfl, rfl, rfl, rfl⟩
        · rw [waits fun e => by cases e <;> assumption]
          exact ⟨rfl, rfl, rfl, congrArg Line.hail still, congrArg Line.lastPulse still⟩
    · rw [leased q lease]
      exact ⟨rfl, rfl, rfl, congrArg Line.hail still, congrArg Line.lastPulse still⟩

/-- The pulse that breaks a frame is noted first (log entry 11). -/
theorem State.line_notePulse (s : State) (p : LinePort) (time : Nat) :
    (s.notePulse p time).line p = { s.line p with lastPulse := some time } := State.line_setLine_self ..

theorem State.setLine_setLine (s : State) (p : LinePort) (l m : Line) : (s.setLine p l).setLine p m = s.setLine p m := by
  cases p <;> rfl

theorem State.notePulse_idle (s : State) (p : LinePort) (time : Nat) :
    (s.notePulse p time).setLine p (((s.notePulse p time).line p).enter .idle) =
      s.setLine p { (s.line p).idled with lastPulse := some time } := by
  rw [State.line_notePulse, State.notePulse, State.setLine_setLine]
  rfl

theorem State.notePulse_strayEnded (s : State) (p : LinePort) (time : Nat) :
    (s.notePulse p time).strayEnded p =
      (s.withLines (s.lines.set p { (s.line p).idled with lastPulse := some time })).withPorts
        (s.ports.set p { s.port p with
          badFrame := if (s.line p).strayCounted = true then (s.port p).badFrame else counted (s.port p).badFrame }) := by
  have line := State.notePulse_idle s p time
  have lines : (s.notePulse p time).lines.set p (((s.notePulse p time).line p).idled) =
      s.lines.set p { (s.line p).idled with lastPulse := some time } := congrArg State.lines line
  rw [State.strayEnded, lines, State.line_notePulse]
  rfl

end

/-- Settles O29. -/
theorem thirdSpacedPulseIsAHail : Obligations.ThirdSpacedPulseIsAHail := by
  unfold Obligations.ThirdSpacedPulseIsAHail
  refine ⟨fun s p time away => ?_, fun s p time here => ?_⟩
  · refine leads_of_finish (next_finish ?_)
    exact if_neg (by simp [away])
  intro noted spaced
  have heard : exec (.hailPulse p time) s = .next (s.finish (s.takePulse p time)) := next_finish (if_pos here)
  refine ⟨fun idle => ?_, fun hailed => ?_, fun sending => ?_, fun e heeded => ?_, fun e receiving => ?_, fun stray => ?_⟩
  · have pulse := exec_hailPulse_idle (time := time) here idle
    have near : spaced → ∀ n, (s.line p).pulses = n + 1 → (s.line p).pulseCount time = n + 2 := fun near n pulses => by
      rw [Line.pulseCount_eq, if_pos ⟨near, by rw [pulses]; simp⟩, pulses]
    refine ⟨fun first => ?_, fun tone second => ?_, fun tone third => ?_⟩
    · have count : (s.line p).pulseCount time = 1 := by
        rw [Line.pulseCount_eq]
        exact if_neg (by tauto)
      rw [count] at pulse
      exact leads_of_finish pulse
    · rw [near tone 0 second] at pulse
      exact leads_of_finish pulse
    · rw [near tone 1 third, if_pos (by decide)] at pulse
      obtain ⟨ports, barrel, exch, hail, last⟩ := s.hailSeen_records p time here
      rw [State.finish_of_unchanged fun x => by
        rw [recordChanged_congr (u := s) x ports barrel]
        cases x <;> simp [recordChanged]] at pulse
      obtain ⟨queued, leased, free⟩ := s.hailSeen_cases p time here
      have still : (s.hailed p time).line p = ⟨.hailed, true, some time, 0, 0, false⟩ := State.line_setLine_self ..
      refine ⟨_, pulse, hail, last, ports, exch, fun unqueued unleased => ⟨fun first => ?_, fun busy second => ?_,
        fun busy0 busy1 => ?_⟩, fun entry once => ?_, fun other => ?_⟩
      · rw [(free unqueued unleased).1 .e0 first, State.line_setLine_self]
        exact ⟨rfl, rfl, rfl, rfl, rfl⟩
      · rw [(free unqueued unleased).1 .e1 ⟨busy, second⟩, State.line_setLine_self]
        exact ⟨rfl, rfl, rfl, rfl, rfl⟩
      · rw [(free unqueued unleased).2 fun e => by cases e <;> assumption]
        exact ⟨congrArg Line.cond still, rfl, rfl⟩
      · rw [queued (State.queued_of_mem entry), raiseClass_send entry once]
        exact ⟨congrArg Line.cond still, rfl, rfl⟩
      · rcases other with ⟨entry, once⟩ | ⟨unqueued, lease⟩
        · rw [queued (State.queued_of_mem entry), raiseClass_hail entry once]
          exact ⟨congrArg Line.cond still, rfl, rfl⟩
        · rw [leased unqueued lease]
          exact ⟨congrArg Line.cond still, rfl, rfl⟩
  · rw [State.takePulse, hailed] at heard
    exact leads_of_finish heard
  · rw [State.takePulse, sending] at heard
    exact leads_of_finish heard
  · rw [State.takePulse, heeded] at heard
    dsimp only at heard
    rw [State.notePulse_idle] at heard
    exact leaseEnds_of_endLeaseOf
      (u := (s.setLine p { (s.line p).idled with lastPulse := some time }).countMissedHail p) rfl heard
  · rw [State.takePulse, receiving] at heard
    dsimp only at heard
    rw [State.breakFrame, State.notePulse_idle] at heard
    exact leaseEnds_of_endLeaseOf
      (u := (s.setLine p { (s.line p).idled with lastPulse := some time }).countBadFrame p) rfl heard
  · rw [State.takePulse, stray] at heard
    dsimp only at heard
    rw [State.endStray_eq, State.notePulse_strayEnded] at heard
    intro ended
    obtain ⟨free, waiting⟩ := lineFreed_of_finish (s := s) (u := ended) rfl heard
    refine ⟨free, fun e lease waits => ⟨(waiting e lease waits).1, fun empty => (waiting e lease waits).2 empty ?_⟩⟩
    exact (congrArg PortRecord.slot (State.port_setPort_self (s.withLines (s.lines.set p noted)) p _) :)

end Sys2Proof.Machine
end

/-! # The state after POWER_ON (R194, R179, R3) -/

section
namespace Sys2Proof.Machine

/-- The tracker and the owner's state of a connector whose plug may be seated at power-on (R3). -/
def seatedTracker (seated : Bool) : Tracker := if seated then ⟨.settling, some 20, none⟩ else ⟨.empty, none, none⟩

def seatedPort (seated : Bool) : PortRecord :=
  { PortRecord.cleared with state := if seated then .settling else .empty }

def seatedBarrel (seated : Bool) : Barrel := { Barrel.cleared with state := if seated then .settling else .empty }

/-- The power-on state with some plugs seated, before the pages are rewritten. -/
def State.poweredOn (a b c d : Bool) (pending : List Instr) : State :=
  { State.reset with
    presence := ⟨a, b, c, d⟩
    trackers := ⟨seatedTracker a, seatedTracker b, seatedTracker c, seatedTracker d⟩
    barrel := seatedBarrel d
    ports := ⟨seatedPort a, seatedPort b, seatedPort c⟩
    pending := pending }

/-- A plug found seated, or not, as the part leaves power-on reset (R3). -/
def State.seat (u : State) (x : Connector) (seated : Bool) : State :=
  if seated then (u.setPresence x true).startSettling x else u

theorem State.assertPresence_initial {u : State} {x : Connector} (policy : u.policy = .initial)
    (empty : (u.tracker x).state = .empty) : u.assertPresence x = (u.setPresence x true).startSettling x := by
  have enabled : (u.setPresence x true).policy.enabled x = true := by
    show u.policy.enabled x = true
    rw [policy]
    cases x with
    | line p => cases p <;> decide
    | barrel => decide
  have empty : ((u.setPresence x true).tracker x).state = .empty := empty
  rw [State.assertPresence, if_pos enabled, empty]

theorem foldl_seat {u : State} {x : Connector} (policy : u.policy = .initial) (empty : (u.tracker x).state = .empty)
    (seated : Bool) : (if seated then [x] else []).foldl State.assertPresence u = u.seat x seated := by
  cases seated with
  | true => exact State.assertPresence_initial policy empty
  | false => rfl

theorem foldl_assertPresence_reset (a b c d : Bool) (pending : List Instr) :
    (powerOnLevels a b c d).foldl State.assertPresence (State.reset.withPending pending) =
      State.poweredOn a b c d pending := by
  have seatA := foldl_seat (u := State.reset.withPending pending) (x := .line .a) rfl rfl a
  have seatB := foldl_seat (u := (State.reset.withPending pending).seat (.line .a) a) (x := .line .b)
    (by cases a <;> rfl) (by cases a <;> rfl) b
  have seatC := foldl_seat (u := ((State.reset.withPending pending).seat (.line .a) a).seat (.line .b) b) (x := .line .c)
    (by cases a <;> cases b <;> rfl) (by cases a <;> cases b <;> rfl) c
  have seatD := foldl_seat (u := (((State.reset.withPending pending).seat (.line .a) a).seat (.line .b) b).seat (.line .c) c)
    (x := .barrel) (by cases a <;> cases b <;> cases c <;> rfl) (by cases a <;> cases b <;> cases c <;> rfl) d
  rw [powerOnLevels, List.foldl_append, List.foldl_append, List.foldl_append, seatA, seatB, seatC, seatD]
  cases a <;> cases b <;> cases c <;> cases d <;> rfl

theorem exec_powerOn (a b c d : Bool) (s : State) :
    exec (.powerOn a b c d) s =
      .next (State.finish (State.reset.withPending s.pending) (State.poweredOn a b c d s.pending)) := by
  rw [← foldl_assertPresence_reset]
  rfl

/-- The record of a seated plug is changed, and no other. -/
theorem recordChanged_poweredOn (a b c d : Bool) (pending : List Instr) (x : Connector) :
    recordChanged (State.reset.withPending pending) (State.poweredOn a b c d pending) x =
      (State.poweredOn a b c d pending).presence.get x := by
  have port : ∀ v, decide (PortRecord.cleared ≠ seatedPort v) = v := by decide
  have barrel : ∀ v, decide (Barrel.cleared ≠ seatedBarrel v) = v := by decide
  cases x with
  | line p =>
    cases p with
    | a => exact port a
    | b => exact port b
    | c => exact port c
  | barrel => exact barrel d

/-! ### The memory at power-on -/

theorem readByte_unlisted {m : List Host.Cell} {a : Nat} (h : ∀ c ∈ m, c.1 ≠ a) : readByte m a = 0 := by
  induction m with
  | nil => rfl
  | cons c m ih =>
    rw [readByte, if_neg (h c (by simp))]
    exact ih fun d hd => h d (by simp [hd])

/-- Outside the draft area, the port pages and the telemetry page, the memory at power-on is 0. -/
theorem readByte_reset_zero {a : Nat} (h : 0x400 ≤ a ∧ a < 0x800 ∨ 0x80 ≤ a ∧ a < 0x180) :
    readByte State.reset.exch.mem a = 0 := by
  have listed : ∀ c ∈ State.reset.exch.mem, c.1 < 0x80 ∨ 0x180 ≤ c.1 ∧ c.1 < 0x400 := by decide
  refine readByte_unlisted fun c hc => ?_
  have := listed c hc
  omega

theorem draft_reset (i : Nat) (h : i < 100) :
    readByte State.reset.exch.mem i = (draftBytes State.reset.policy).getD i 0 := by
  have bytes : ((List.range 100).map fun i => readByte State.reset.exch.mem i) = draftBytes State.reset.policy := by
    decide +kernel
  rw [← bytes]
  simp [h]

theorem page_reset (x : Connector) (i : Nat) (h : i < 128) :
    readByte State.reset.exch.mem (pageAddress x + i) = ([0, 0] ++ State.reset.pageOf x).getD i 0 := by
  have bytes : ((List.range 128).map fun i => readByte State.reset.exch.mem (pageAddress x + i)) =
      [0, 0] ++ State.reset.pageOf x := by
    cases x with
    | line p => cases p <;> decide +kernel
    | barrel => decide +kernel
  rw [← bytes]
  simp [h]

theorem telemetry_reset (i : Nat) (h : i < 128) :
    readByte State.reset.exch.mem (0x380 + i) = ([0, 0] ++ State.reset.telemetryPage).getD i 0 := by
  have bytes : ((List.range 128).map fun i => readByte State.reset.exch.mem (0x380 + i)) =
      [0, 0] ++ State.reset.telemetryPage := by
    decide +kernel
  rw [← bytes]
  simp [h]

/-- The page of a connector without a seated plug shows its record of reset, the telemetry page what reset shows. -/
theorem State.pageOf_poweredOn {a b c d : Bool} {pending : List Instr} {x : Connector}
    (absent : (State.poweredOn a b c d pending).presence.get x = false) :
    (State.poweredOn a b c d pending).pageOf x = State.reset.pageOf x := by
  cases x with
  | line p =>
    refine congrArg portPage ?_
    cases p with
    | a => exact congrArg seatedPort absent
    | b => exact congrArg seatedPort absent
    | c => exact congrArg seatedPort absent
  | barrel => exact congrArg barrelPage (congrArg seatedBarrel absent)

theorem State.telemetryPage_poweredOn (a b c d : Bool) (pending : List Instr) :
    (State.poweredOn a b c d pending).telemetryPage = State.reset.telemetryPage := by
  simp only [State.telemetryPage]
  rfl

/-- Settles O3. -/
theorem powerOnState : Obligations.PowerOnState := by
  unfold Obligations.PowerOnState
  intro s a b c d
  generalize start : State.reset.withPending s.pending = r
  obtain ⟨rest, exch, outside, pages⟩ := State.finish_withPagesOf r (State.poweredOn a b c d s.pending)
  refine ⟨_, exec_powerOn a b c d s, ?_⟩
  rw [start]
  generalize r.finish (State.poweredOn a b c d s.pending) = t at rest exch outside pages ⊢
  have field : ∀ {α : Type} (f : State → α) (blind : ∀ (u : State) e, f (u.withExch e) = f u),
      f t = f (State.poweredOn a b c d s.pending) := fun f blind => by rw [← rest, blind]
  have unit : ∀ {α : Type} (f : Exchange → α) (blind : ∀ (e : Exchange) m v, f { e with mem := m, pageRev := v } = f e),
      f t.exch = f State.reset.exch := fun f blind => by
    rw [← blind t.exch, exch]
    rfl
  have presence : t.presence = ⟨a, b, c, d⟩ := field State.presence fun _ _ => rfl
  have trackers : t.trackers = ⟨seatedTracker a, seatedTracker b, seatedTracker c, seatedTracker d⟩ :=
    field State.trackers fun _ _ => rfl
  have ports : t.ports = ⟨seatedPort a, seatedPort b, seatedPort c⟩ := field State.ports fun _ _ => rfl
  have lines : t.lines = ⟨.cleared, .cleared, .cleared⟩ := field State.lines fun _ _ => rfl
  have barrel : t.barrel = seatedBarrel d := field State.barrel fun _ _ => rfl
  have meas : t.meas = State.reset.meas := field State.meas fun _ _ => rfl
  have policy : t.policy = .initial := field State.policy fun _ _ => rfl
  have slot : ∀ k, t.exch.slot k = Slot.cleared := fun k => by
    rw [unit (fun e => e.slot k) fun _ _ _ => rfl]
    fin_cases k <;> rfl
  have changed : ∀ x, recordChanged r (State.poweredOn a b c d s.pending) x = t.presence.get x := fun x => by
    rw [← start, recordChanged_poweredOn, presence]
    rfl
  refine ⟨⟨unit Exchange.attn fun _ _ _ => rfl, unit Exchange.mask fun _ _ _ => rfl, ?_, unit Exchange.written fun _ _ _ => rfl,
    unit Exchange.released fun _ _ _ => rfl, unit Exchange.withheld fun _ _ _ => rfl, field State.time fun _ _ => rfl,
    fun k => by rw [slot]; exact ⟨rfl, rfl⟩⟩, presence, fun x => ?_, fun p => ?_, barrel, field State.latestVD fun _ _ => rfl,
    fun p => ?_, field State.engines fun _ _ => rfl, field State.queue fun _ _ => rfl, field State.prospect fun _ _ => rfl,
    field State.path fun _ _ => rfl, by rw [meas]; rfl, by rw [meas]; rfl, by rw [meas]; rfl, by rw [meas]; rfl,
    by rw [meas]; rfl, by rw [meas]; rfl, by rw [meas]; rfl, by rw [meas]; rfl, fun k => ?_, field State.reg fun _ _ => rfl,
    policy, field State.origin fun _ _ => rfl, fun i hi => ?_, fun k hk => ?_, fun x => ?_, ⟨?_, fun i hi => ?_⟩,
    field State.pending fun _ _ => rfl⟩
  · rw [State.attnL, unit Exchange.attn fun _ _ _ => rfl, unit Exchange.mask fun _ _ _ => rfl]
    rfl
  · rw [State.tracker, trackers, presence]
    cases x with
    | line p => cases p <;> rfl
    | barrel => rfl
  · rw [State.port, ports, presence]
    cases p <;> rfl
  · rw [State.line, lines]
    cases p <;> rfl
  · rw [meas]
    cases k with
    | volts x =>
      cases x with
      | line p => cases p <;> rfl
      | barrel => rfl
    | _ => rfl
  · rw [outside i (by omega), policy]
    exact draft_reset i hi
  · rw [outside k (by omega)]
    exact readByte_reset_zero hk
  · have page := pages x
    rw [changed x] at page
    cases seated : t.presence.get x with
    | true =>
      rw [seated] at page
      exact ⟨page.1.trans (by cases x with | line p => cases p <;> rfl | barrel => rfl), page.2⟩
    | false =>
      rw [seated] at page
      obtain ⟨rev, bytes⟩ := page
      have rev : t.exch.pageRev.get x = 0 := rev.trans (by cases x with | line p => cases p <;> rfl | barrel => rfl)
      have same : t.pageOf x = (State.poweredOn a b c d s.pending).pageOf x :=
        State.pageOf_congr x (field State.ports fun _ _ => rfl) (field State.barrel fun _ _ => rfl)
      have absent : (State.poweredOn a b c d s.pending).presence.get x = false := by rw [presence] at seated; exact seated
      refine ⟨rev, fun i hi => ?_⟩
      rw [bytes i hi, rev, same, State.pageOf_poweredOn absent]
      exact page_reset x i hi
  · exact unit Exchange.telemetrySeq fun _ _ _ => rfl
  · rw [outside _ (by omega), field State.telemetryPage fun _ _ => rfl, State.telemetryPage_poweredOn]
    exact telemetry_reset i hi

end Sys2Proof.Machine
end

/-! # Scores, winners, claims and prospects (5.2 to 5.5, 6.3) -/

section
namespace Sys2Proof.Machine

/-! ### The best of a list: the first of the highest -/

section
variable {α : Type} {better : α → α → Prop} [DecidableRel better] {before dom : α → α → Prop}

/-- A fold that replaces the best so far by a better element ends with one that stands above every other: `dom a b` says that
`a` is as good as `b`, and earlier where it is not better. -/
theorem foldl_best (refl : ∀ a, dom a a) (trans : ∀ {a b c}, dom a b → dom b c → dom a c)
    (keep : ∀ {a b}, before a b → ¬ better b a → dom a b) (take : ∀ {a b}, better b a → dom b a) (l : List α) (a : α)
    (sorted : (a :: l).Pairwise before) :
    l.foldl (fun best d => if better d best then d else best) a ∈ a :: l ∧
      ∀ d ∈ a :: l, dom (l.foldl (fun best d => if better d best then d else best) a) d := by
  induction l generalizing a with
  | nil => exact ⟨by simp, fun d hd => by simp at hd; exact hd ▸ refl a⟩
  | cons b l ih =>
    obtain ⟨first, rest⟩ := List.pairwise_cons.mp sorted
    rw [List.foldl_cons]
    split
    next replaces =>
      obtain ⟨member, best⟩ := ih b rest
      refine ⟨List.mem_cons_of_mem _ member, fun d hd => ?_⟩
      rcases List.mem_cons.mp hd with rfl | hd
      · exact trans (best b (by simp)) (take replaces)
      · exact best d hd
    next stays =>
      obtain ⟨member, best⟩ := ih a (List.pairwise_cons.mpr ⟨fun d hd => first d (by simp [hd]), (List.pairwise_cons.mp rest).2⟩)
      refine ⟨?_, fun d hd => ?_⟩
      · rcases List.mem_cons.mp member with e | e
        · exact List.mem_cons.mpr (.inl e)
        · exact List.mem_cons.mpr (.inr (List.mem_cons_of_mem _ e))
      · rcases List.mem_cons.mp hd with rfl | hd
        · exact best d (by simp)
        · rcases List.mem_cons.mp hd with rfl | hd
          · exact trans (best a (by simp)) (keep (first d (by simp)) stays)
          · exact best d (List.mem_cons_of_mem _ hd)

end

/-! ### The leader of scored connectors (R94, R108) -/

/-- Connector `c` leads `d`: by score, and between equal scores by number. -/
def ahead (c d : Connector × Nat) : Prop := d.2 ≤ c.2 ∧ (d.2 = c.2 → connectorNumber c.1 ≤ connectorNumber d.1)

theorem connectorNumber_inj {x y : Connector} (h : connectorNumber x = connectorNumber y) : x = y := by
  rcases x with (_ | _ | _) | _ <;> rcases y with (_ | _ | _) | _ <;> simp_all [connectorNumber]

theorem leader_eq_some {l : List (Connector × Nat)} (sorted : l.Pairwise fun c d => connectorNumber c.1 < connectorNumber d.1)
    {c : Connector × Nat} (member : c ∈ l) (best : ∀ d ∈ l, ahead c d) : leader l = some c := by
  cases l with
  | nil => simp at member
  | cons a l =>
    obtain ⟨found, top⟩ := foldl_best (better := fun d best : Connector × Nat => best.2 < d.2) (dom := ahead)
      (fun a => ⟨Nat.le_refl _, fun _ => Nat.le_refl _⟩)
      (fun {a b c} h k => by unfold ahead at *; omega)
      (fun {a b} h k => by unfold ahead; omega)
      (fun {a b} h => by unfold ahead; omega) l a sorted
    rw [leader]
    generalize l.foldl (fun best d => if best.2 < d.2 then d else best) a = r at found top
    obtain ⟨low, tie⟩ := top c member
    obtain ⟨high, tie'⟩ := best r found
    have score : r.2 = c.2 := by omega
    have number : r.1 = c.1 := connectorNumber_inj (by have := tie score.symm; have := tie' score; omega)
    exact congrArg some (Prod.ext number score)

/-- Connectors with a figure, in number order. -/
theorem scored_sorted (f : Connector → Option Nat) :
    (connectors.filterMap fun x => (f x).map fun n => (x, n)).Pairwise fun c d => connectorNumber c.1 < connectorNumber d.1 := by
  have ordered : connectors.Pairwise fun x y => connectorNumber x < connectorNumber y := by decide
  refine List.Pairwise.filterMap _ (fun x y h c hc d hd => ?_) ordered
  simp only [Option.map_eq_some_iff] at hc hd
  obtain ⟨_, -, rfl⟩ := hc
  obtain ⟨_, -, rfl⟩ := hd
  exact h

theorem mem_scored {f : Connector → Option Nat} {c : Connector × Nat} :
    c ∈ (connectors.filterMap fun x => (f x).map fun n => (x, n)) ↔ f c.1 = some c.2 := by
  have all : ∀ x : Connector, x ∈ connectors := fun x => by rcases x with (_ | _ | _) | _ <;> decide
  simp only [List.mem_filterMap, Option.map_eq_some_iff]
  constructor
  · rintro ⟨x, -, n, h, rfl⟩
    exact h
  · intro h
    exact ⟨c.1, all _, c.2, h, rfl⟩

/-! ### The winner of an image (R88) -/

theorem mem_candidatesFrom {q : Policy} {x : Connector} {levels : List Level} {i : Nat} {c : Candidate} :
    c ∈ candidatesFrom q x i levels ↔
      ∃ j l v, levels[j]? = some l ∧ chosenVolts q l = some v ∧ c = ⟨i + j, v, levelScore q x l, l⟩ := by
  induction levels generalizing i with
  | nil => simp [candidatesFrom]
  | cons l levels ih =>
    have later : (∃ j m v, levels[j]? = some m ∧ chosenVolts q m = some v ∧ c = ⟨i + 1 + j, v, levelScore q x m, m⟩) ↔
        ∃ j m v, (l :: levels)[j + 1]? = some m ∧ chosenVolts q m = some v ∧ c = ⟨i + (j + 1), v, levelScore q x m, m⟩ := by
      simp only [List.getElem?_cons_succ, show ∀ j, i + 1 + j = i + (j + 1) by omega]
    have split : (∃ j m v, (l :: levels)[j]? = some m ∧ chosenVolts q m = some v ∧ c = ⟨i + j, v, levelScore q x m, m⟩) ↔
        (∃ v, chosenVolts q l = some v ∧ c = ⟨i, v, levelScore q x l, l⟩) ∨
          ∃ j m v, (l :: levels)[j + 1]? = some m ∧ chosenVolts q m = some v ∧ c = ⟨i + (j + 1), v, levelScore q x m, m⟩ := by
      constructor
      · rintro ⟨_ | j, m, v, hm, hv, rfl⟩
        · obtain rfl : l = m := by simpa using hm
          exact .inl ⟨v, hv, rfl⟩
        · exact .inr ⟨j, m, v, hm, hv, rfl⟩
      · rintro (⟨v, hv, rfl⟩ | ⟨j, m, v, hm, hv, rfl⟩)
        · exact ⟨0, l, v, rfl, hv, rfl⟩
        · exact ⟨j + 1, m, v, hm, hv, rfl⟩
    rw [split, ← later, ← ih, candidatesFrom]
    cases chosen : chosenVolts q l with
    | none => simp
    | some v => simp

theorem candidatesFrom_sorted (q : Policy) (x : Connector) (levels : List Level) (i : Nat) :
    (candidatesFrom q x i levels).Pairwise fun c d => c.index < d.index := by
  induction levels generalizing i with
  | nil => simp [candidatesFrom]
  | cons l levels ih =>
    rw [candidatesFrom]
    split
    · exact ih (i + 1)
    · refine List.pairwise_cons.mpr ⟨fun c hc => ?_, ih (i + 1)⟩
      obtain ⟨j, m, v, -, -, rfl⟩ := mem_candidatesFrom.mp hc
      show i < i + 1 + j
      omega

/-- Candidate `c` is at least as good as `d`, and before it where it is no better (R88). -/
def outranks (c d : Candidate) : Prop :=
  d.score ≤ c.score ∧ (d.score = c.score → c.volts ≤ d.volts ∧ (d.volts = c.volts → c.index ≤ d.index))

theorem beats_iff {c best : Candidate} :
    beats c best = true ↔ best.score < c.score ∨ c.score = best.score ∧ c.volts < best.volts := by
  simp [beats]

theorem bestOf_spec {l : List Candidate} (sorted : l.Pairwise fun c d => c.index < d.index) {c : Candidate}
    (h : bestOf l = some c) : c ∈ l ∧ ∀ d ∈ l, outranks c d := by
  cases l with
  | nil => cases h
  | cons a l =>
    obtain rfl : l.foldl (fun best d => if beats d best then d else best) a = c := by simpa [bestOf] using h
    exact foldl_best (better := fun d best => beats d best = true) (dom := outranks)
      (fun a => by unfold outranks; omega)
      (fun {a b c} h k => by unfold outranks at *; omega)
      (fun {a b} h k => by rw [beats_iff] at k; unfold outranks; omega)
      (fun {a b} h => by rw [beats_iff] at h; unfold outranks; omega) l a sorted

theorem winner_eq_none {q : Policy} {x : Connector} {levels : List Level} :
    winner q x levels = none ↔ ∀ l ∈ levels, chosenVolts q l = none := by
  have empty : winner q x levels = none ↔ candidatesFrom q x 1 levels = [] := by
    unfold winner
    cases candidatesFrom q x 1 levels <;> simp [bestOf]
  rw [empty, List.eq_nil_iff_forall_not_mem]
  constructor
  · intro h l hl
    obtain ⟨j, hj⟩ := List.getElem?_of_mem hl
    by_contra some'
    obtain ⟨v, hv⟩ := Option.ne_none_iff_exists'.mp some'
    exact h _ (mem_candidatesFrom.mpr ⟨j, l, v, hj, hv, rfl⟩)
  · intro h c hc
    obtain ⟨j, l, v, hl, hv, -⟩ := mem_candidatesFrom.mp hc
    rw [h l (List.mem_of_getElem? hl)] at hv
    cases hv

theorem winner_spec {q : Policy} {x : Connector} {levels : List Level} {c : Candidate} (h : winner q x levels = some c) :
    (0 < c.index ∧ levels[c.index - 1]? = some c.level ∧ chosenVolts q c.level = some c.volts ∧
        c.score = levelScore q x c.level) ∧
      ∀ j l v, levels[j]? = some l → chosenVolts q l = some v →
        levelScore q x l ≤ c.score ∧ (levelScore q x l = c.score → c.volts ≤ v ∧ (v = c.volts → c.index ≤ j + 1)) := by
  obtain ⟨member, best⟩ := bestOf_spec (candidatesFrom_sorted q x levels 1) h
  obtain ⟨j, l, v, hl, hv, rfl⟩ := mem_candidatesFrom.mp member
  refine ⟨⟨show 0 < 1 + j by omega, ?_, hv, rfl⟩, fun k m w hm hw => ?_⟩
  · show levels[1 + j - 1]? = some l
    rw [Nat.add_sub_cancel_left]
    exact hl
  · have := best _ (mem_candidatesFrom.mpr ⟨k, m, w, hm, hw, rfl⟩)
    unfold outranks at this
    simpa [Nat.add_comm] using this

/-! ### Chosen volts, scores, claims -/

theorem weightedPower_eq (q : Policy) (volts amps : Nat) (shared : Bool) :
    weightedPower q volts amps shared =
      min (volts * amps / 1000) q.ceiling * (if shared then q.sharedWeight else 256) / 256 := by
  cases shared with
  | true => rfl
  | false => exact (Nat.mul_div_cancel _ (show 0 < 256 by decide)).symm

theorem contractScore_eq (q : Policy) (x : Connector) (volts limit : Nat) (shared : Bool) :
    contractScore q x volts limit shared =
      (let power := min (min limit (q.pathMax.get x) * volts / 1000) q.ceiling
      if shared then power * q.sharedWeight / 256 else power) := by
  rw [contractScore, weightedPower, Nat.mul_comm volts]

theorem Image.level_of_pos {i : Image} {n : Nat} (h : 0 < n) : i.level n = i.levels[n - 1]? := if_neg (by omega)

theorem pinShared_eq {i : Image} {n : Pin} {l : Level} (h : 0 < n.level) (hl : i.levels[n.level - 1]? = some l) :
    pinShared (some i) n = l.shared := by
  rw [pinShared, Image.level_of_pos h, hl]
  rfl

/-! ### Prospects (R93, R94) -/

/-! ### The rows of R93 for a line port, in order -/

section
variable {q : Policy} {p : LinePort} {r : PortRecord}

/-- The connector is out of the choice. -/
def PortRecord.unscored (r : PortRecord) : Prop :=
  r.state = .empty ∨ r.state = .settling ∨ r.state = .faulted ∨ r.released = true ∨ r.pathFault = true

theorem portProspective_unscored (h : r.unscored) : portProspective q p r = none := if_pos h

theorem portProspective_blocked (h : ¬ r.unscored) (blocked : r.held = true ∨ r.barred = true) :
    portProspective q p r = some (stagedOrLiveScore q (.line p) r) := by
  rw [portProspective, if_neg (c := _ ∨ _) h, if_pos blocked]

section
variable (h : ¬ r.unscored) (free : ¬ (r.held = true ∨ r.barred = true))
include h free

theorem portProspective_pinned {n : Pin} (pin : r.pin = some n) :
    portProspective q p r = some (contractScore q (.line p) n.volts n.limit (pinShared r.image n)) := by
  rw [portProspective, if_neg (c := _ ∨ _) h, if_neg free, pin]

theorem portProspective_shifting (pin : r.pin = none) (shifting : r.state = .shifting) :
    portProspective q p r = some (stagedOrLiveScore q (.line p) r) := by
  rw [portProspective, if_neg (c := _ ∨ _) h, if_neg free, pin]
  exact if_pos shifting

theorem portProspective_imageless (pin : r.pin = none) (still : r.state ≠ .shifting) (image : r.image = none) :
    portProspective q p r = some ((r.live.map (Contract.score q (.line p))).getD 0) := by
  rw [portProspective, if_neg (c := _ ∨ _) h, if_neg free, pin]
  dsimp only
  rw [if_neg still, image]

theorem portProspective_image {i : Image} (pin : r.pin = none) (still : r.state ≠ .shifting) (image : r.image = some i) :
    portProspective q p r =
      some (((winner q (.line p) i.levels).map Candidate.score).getD (stagedOrLiveScore q (.line p) r)) := by
  rw [portProspective, if_neg (c := _ ∨ _) h, if_neg free, pin]
  dsimp only
  rw [if_neg still, image]
  cases best : winner q (.line p) i.levels <;> simp only [best] <;> rfl

end

end

section
variable {s : State}

theorem State.incumbent_eq_none (h : ∀ z, ¬ ((s.path.state = .closing z ∨ s.path.state = .closed z) ∧ s.prospective z ≠ none)) :
    s.incumbent = none := by
  unfold State.incumbent
  cases path : s.path.state with
  | idle => rfl
  | opening x => rfl
  | closing z =>
    have : s.prospective z = none := by_contra fun scored => h z ⟨.inl path, scored⟩
    simp [PathState.heldBy, this]
  | closed z =>
    have : s.prospective z = none := by_contra fun scored => h z ⟨.inr path, scored⟩
    simp [PathState.heldBy, this]

theorem State.incumbent_eq_some {z : Connector} {n : Nat} (held : s.path.state = .closing z ∨ s.path.state = .closed z)
    (scored : s.prospective z = some n) : s.incumbent = some (z, n) := by
  rcases held with path | path <;>
  · rw [State.incumbent, path]
    exact congrArg (Option.map fun n => (z, n)) scored

theorem State.pinProspect_eq_none (h : ∀ x, s.path.pin = some x → ¬ s.prospective x ≠ none) : s.pinProspect = none := by
  unfold State.pinProspect
  split
  next x pin => rw [not_not.mp (h x pin)]; rfl
  · rfl

theorem State.leader_prospects {y : Connector} {n : Nat} (scored : s.prospective y = some n)
    (best : ∀ x m, s.prospective x = some m → m ≤ n ∧ (m = n → connectorNumber y ≤ connectorNumber x)) :
    leader s.prospects = some (y, n) :=
  leader_eq_some (scored_sorted s.prospective) (mem_scored.mpr scored) fun d hd => best d.1 d.2 (mem_scored.mp hd)

end

/-- Settles O59. -/
theorem winnerIsTheBestCandidate : Obligations.WinnerIsTheBestCandidate := by
  unfold Obligations.WinnerIsTheBestCandidate
  refine ⟨fun q x l => ?_, fun q x levels => ⟨winner_eq_none, fun c h => winner_spec h⟩, fun q p i n primary => ?_, fun s => ?_⟩
  · intro lo hi top
    have fixedVolts : l.usable = true → l.form = .fixed → chosenVolts q l = if lo ≤ l.lo ∧ l.lo ≤ hi then some l.lo else none :=
      fun usable fixed => by rw [chosenVolts, if_pos usable, fixed]; rfl
    have spanVolts : l.usable = true → l.form = .span → chosenVolts q l = if l.lo ≤ top ∧ lo ≤ top then some top else none :=
      fun usable span => by rw [chosenVolts, if_pos usable, span]; rfl
    refine ⟨fun bad => if_neg (by simp [bad]), fixedVolts, spanVolts, fun low high v chosen => ?_, fun none' => ?_,
      fun v chosen => ?_⟩
    · cases usable : l.usable with
      | false =>
        rw [chosenVolts, if_neg (by simp [usable])] at chosen
        cases chosen
      | true =>
        cases form : l.form with
        | fixed =>
          rw [fixedVolts usable form] at chosen
          split at chosen
          · cases chosen
            exact low
          · cases chosen
        | span =>
          rw [spanVolts usable form] at chosen
          split at chosen
          · cases chosen
            show min l.hi (q.vinMax / 100 * 100) % 100 = 0
            omega
          · cases chosen
    · rw [levelScore, none']
    · rw [levelScore, chosen]
      exact weightedPower_eq ..
  · intro operating
    refine ⟨fun none' => ?_, fun c best => ?_, fun l pos level => ?_⟩
    · rw [composeClaim, none']
    · rw [composeClaim, best]
      rfl
    · rw [composeClaim, pinShared_eq pos level]
      rfl
  · intro score
    have value : ∀ x (k : Contract), k.score s.policy x = score x k := fun x k => contractScore_eq ..
    refine ⟨fun p => ⟨?_, ?_⟩, ?_, ?_⟩
    · simp [State.role, isPrimaryRole, PathState.holds]
    · intro r scores out blocked standing
      have stood : ∀ k, standing k → stagedOrLiveScore s.policy (.line p) r = score (.line p) k := fun k h => by
        rcases h with staged | ⟨staged, live⟩
        · rw [stagedOrLiveScore, staged]
          exact value _ k
        · rw [stagedOrLiveScore, staged, live]
          exact value _ k
      refine ⟨fun gone => portProspective_unscored gone, fun here blocks k h => ?_, fun here free n i l pin image pos level => ?_,
        fun here free pin => ⟨fun k shifting staged => ?_, fun k still image live => ?_, fun i still image => ⟨fun c best => ?_,
          fun k none' h => ?_⟩⟩⟩
      · exact (portProspective_blocked here blocks).trans (congrArg some (stood k h))
      · refine (portProspective_pinned here free pin).trans ?_
        rw [image, pinShared_eq pos level]
        exact congrArg some (contractScore_eq ..)
      · exact (portProspective_shifting here free pin shifting).trans (congrArg some (stood k (.inl staged)))
      · refine (portProspective_imageless here free pin still image).trans ?_
        rw [live]
        exact congrArg some (value _ k)
      · refine (portProspective_image here free pin still image).trans ?_
        rw [best]
        rfl
      · refine (portProspective_image here free pin still image).trans ?_
        rw [none']
        exact congrArg some (stood k h)
    · intro b able
      have eligible : b.eligible = true ↔ b.live.isSome = true ∧ able := by
        simp only [Barrel.eligible, Bool.and_eq_true, Bool.or_eq_true, decide_eq_true_iff, Bool.not_eq_true', and_assoc, able]
      refine ⟨fun k fit live => ?_, fun unfit => ?_⟩
      · refine (if_pos (eligible.mpr ⟨by rw [live]; rfl, fit⟩) : s.prospective .barrel = _).trans ?_
        rw [State.liveScore, State.live, live]
        exact congrArg some (value _ k)
      · refine if_neg fun fit => ?_
        obtain ⟨live, fit⟩ := eligible.mp fit
        rcases unfit with unfit | none'
        · exact unfit fit
        · rw [none'] at live
          cases live
    · intro scored incumbent unpinned
      have unpin : unpinned → s.pinProspect = none := State.pinProspect_eq_none
      refine ⟨fun x pin some' => ?_, fun free dead z held => ?_, fun none' => ?_, fun y n free top best => ⟨fun alone => ?_,
        fun alive z i held figure => ?_⟩⟩
      · have : (s.prospective x).isSome = true := Option.isSome_iff_ne_none.mpr some'
        rw [State.findProspect, State.pinProspect, pin]
        simp only [this, if_true]
      · obtain ⟨figure, some'⟩ := Option.ne_none_iff_exists'.mp held.2
        rw [State.findProspect, unpin free, dead, State.incumbent_eq_some held.1 some']
      · have pin : s.pinProspect = none := State.pinProspect_eq_none fun x _ => none' x
        have empty : s.prospects = [] := List.filterMap_eq_nil_iff.mpr fun x _ => by rw [not_not.mp (none' x)]; rfl
        rw [State.findProspect, pin, State.incumbent_eq_none fun z h => none' z h.2, empty]
        cases s.meas.dead <;> rfl
      · rw [State.findProspect, unpin free, State.incumbent_eq_none alone, State.leader_prospects top best]
        cases s.meas.dead <;> rfl
      · rw [State.findProspect, unpin free, alive, State.incumbent_eq_some held.1 figure, State.leader_prospects top best]
        show prospectByScore s.policy (some (z, i)) (some (y, n)) = _
        simp only [prospectByScore]
        by_cases same : z = y
        · rw [if_pos same.symm, if_pos (.inl same)]
        · rw [if_neg (Ne.symm same)]
          by_cases beyond : i + s.policy.switchMargin < n
          · rw [if_pos beyond, if_pos (.inr beyond)]
          · rw [if_neg beyond, if_neg (by tauto)]

end Sys2Proof.Machine
end

/-! # Changed records stand on their pages (R190, R191) -/

section
namespace Sys2Proof.Machine

section
variable {s t u : State}

/-! ### Pages that no event has written -/

/-- No page rewrite: the revision words and the bytes of the port pages stand. -/
def State.pagesStay (s t : State) : Prop :=
  t.exch.pageRev = s.exch.pageRev ∧ ∀ a, 0x180 ≤ a ∧ a < 0x380 → readByte t.exch.mem a = readByte s.exch.mem a

theorem State.pagesStay.refl (s : State) : s.pagesStay s := ⟨rfl, fun _ _ => rfl⟩

theorem State.pagesStay.trans (h : s.pagesStay t) (k : t.pagesStay u) : s.pagesStay u :=
  ⟨k.1.trans h.1, fun a ha => (k.2 a ha).trans (h.2 a ha)⟩

theorem State.pagesStay.of_exch (exch : t.exch = s.exch) : s.pagesStay t :=
  ⟨congrArg Exchange.pageRev exch, fun a _ => by rw [exch]⟩

theorem State.Goes.pagesStay (h : s.Goes false (fun _ => True) t) : s.pagesStay t := by
  obtain ⟨l, follows⟩ := h
  have logs := follows.logs s.heldIn_all
  exact ⟨logs.pageRev, fun a ha => logs.readByte_page ha⟩

/-- A write elsewhere. -/
theorem State.pagesStay.of_write {a : Nat} {bs : List Byte} (away : a + bs.length ≤ 0x180 ∨ 0x380 ≤ a)
    (mem : t.exch.mem = writeBlock s.exch.mem a bs) (rev : t.exch.pageRev = s.exch.pageRev) : s.pagesStay t :=
  ⟨rev, fun b hb => by rw [mem]; exact readByte_writeBlock_outside _ _ _ _ (by omega)⟩

theorem State.pagesStay_complete (s : State) (k : Fin 8) (c : ResultCode) (d : List Byte) : s.pagesStay (s.complete k c d) :=
  (State.follows_complete s c d fun _ => trivial).goes.pagesStay

theorem State.pagesStay_foldl {α : Type} (f : State → α → State) (stay : ∀ (v : State) x, v.pagesStay (f v x)) (l : List α)
    (s : State) : s.pagesStay (l.foldl f s) := by
  induction l generalizing s with
  | nil => exact .refl s
  | cons x l ih => exact (stay s x).trans (ih _)

/-- A field that no step of a fold touches. -/
theorem State.foldl_field {α β : Type} (g : State → β) (f : State → α → State) (kept : ∀ (v : State) x, g (f v x) = g v) (l : List α)
    (s : State) : g (l.foldl f s) = g s := by
  induction l generalizing s with
  | nil => rfl
  | cons x l ih => exact (ih _).trans (kept s x)

/-! ### What a chain of events shows on the pages -/

/-- A page whose record stands shows it still; the page of a changed record shows the new one. -/
def State.shows (s t : State) : Prop :=
  ∀ x, (recordChanged s t x = true → t.pageShown x) ∧ (recordChanged s t x = false → s.pageShown x → t.pageShown x)

/-- The record of a connector is that of another machine. -/
theorem recordChanged_trans {x : Connector} (h : recordChanged s t x = false) : recordChanged s u x = recordChanged t u x := by
  cases x with
  | line p =>
    have : s.port p = t.port p := by simpa [recordChanged] using h
    rw [recordChanged, recordChanged, this]
  | barrel =>
    have : s.barrel = t.barrel := by simpa [recordChanged] using h
    rw [recordChanged, recordChanged, this]

theorem recordChanged_symm (x : Connector) : recordChanged s t x = recordChanged t s x := by
  cases x with
  | line p => exact decide_eq_decide.mpr ne_comm
  | barrel => exact decide_eq_decide.mpr ne_comm

theorem State.shows.trans (h : s.shows t) (k : t.shows u) : s.shows u := by
  intro x
  obtain ⟨changed, kept⟩ := h x
  obtain ⟨changed', kept'⟩ := k x
  cases last : recordChanged t u x with
  | true => exact ⟨fun _ => changed' last, fun _ _ => changed' last⟩
  | false =>
    have same : recordChanged s u x = recordChanged s t x := by
      rw [recordChanged_symm (s := s) (t := u), ← recordChanged_trans (s := t) (t := u) last, recordChanged_symm]
    rw [same]
    exact ⟨fun h => kept' last (changed h), fun h shown => kept' last (kept h shown)⟩

theorem State.pageShown_of_stay (stay : s.pagesStay t) {x : Connector} (same : recordChanged s t x = false) (h : s.pageShown x) :
    t.pageShown x := by
  have page : t.pageOf x = s.pageOf x := by
    cases x with
    | line p =>
      have : s.port p = t.port p := by simpa [recordChanged] using same
      rw [State.pageOf, State.pageOf, this]
    | barrel =>
      have : s.barrel = t.barrel := by simpa [recordChanged] using same
      rw [State.pageOf, State.pageOf, this]
  intro i hi
  have number := connectorNumber_le x
  have address : pageAddress x = 0x180 + 128 * connectorNumber x := rfl
  rw [stay.1, page, ← h i hi]
  exact stay.2 _ (by omega)

/-- No record changes, and no page is written. -/
theorem State.shows.of_same (stay : s.pagesStay t) (ports : t.ports = s.ports) (barrel : t.barrel = s.barrel) :
    s.shows t := by
  have same : ∀ x, recordChanged s t x = false := fun x => by
    rw [recordChanged_congr (u := s) x ports barrel]
    cases x <;> simp [recordChanged]
  exact fun x => ⟨fun h => absurd (h.symm.trans (same x)) (by simp), fun h shown => State.pageShown_of_stay stay h shown⟩

theorem State.shows.refl (s : State) : s.shows s := .of_same (.refl s) rfl rfl

theorem State.shows_complete (s : State) (k : Fin 8) (c : ResultCode) (d : List Byte) : s.shows (s.complete k c d) :=
  .of_same (s.pagesStay_complete k c d) rfl rfl

/-- The end of an event (R190). -/
theorem State.shows_finish (stay : s.pagesStay t) : s.shows (s.finish t) := by
  obtain ⟨rest, -, -, pages⟩ := State.finish_withPagesOf s t
  intro x
  have record : recordChanged s (s.finish t) x = recordChanged s t x :=
    recordChanged_congr x (congrArg State.ports rest :) (congrArg State.barrel rest :)
  have page := pages x
  rw [record]
  cases changed : recordChanged s t x with
  | true =>
    rw [changed] at page
    exact ⟨fun _ => page.2, fun h => (nomatch h)⟩
  | false =>
    rw [changed] at page
    refine ⟨fun h => (nomatch h), fun _ shown => ?_⟩
    exact (State.pageShown_of_stay stay changed shown).of_kept page (congrArg State.ports rest :) (congrArg State.barrel rest :)

theorem State.shows_settles (stay : s.pagesStay t) : s.shows (s.settles t) := by
  refine settle_relates (P := fun v => s.shows v) (Q := fun v w => s.shows v ∧ v.pagesStay w) (pages := true) (fun v w h => ?_)
    (fun v p h => ⟨h, ?_⟩) Config.reportDepth ⟨State.shows.refl s, stay⟩
  · refine h.1.trans ?_
    rw [State.concludes, if_pos rfl]
    exact State.shows_finish (h.2.trans (State.goes_report (held := fun _ => True) v w).pagesStay)
  · exact ((State.goes_callSelection (held := fun _ => True) v p).trans (State.served_apply _ p).follows.goes).pagesStay

theorem State.shows_portEvent {p : LinePort} (stay : s.pagesStay t) : s.shows (s.portEvent p t) :=
  State.shows_settles (stay.trans (State.served_apply t p).follows.goes.pagesStay)

/-! ### The events -/

theorem State.PortWork.pagesStay {p : LinePort} (h : s.PortWork p t) : s.pagesStay t := by
  have goes : s.Goes false (fun _ => True) t := by
    cases h with
    | tenderTimeout _ => exact State.goes_tenderTimeout s p
    | claimTimeout _ => exact State.goes_claimTimeout s p
    | settleTimeout _ => exact (State.follows_enterFaulted s p .noSettle).goes
    | lapse _ => exact (State.follows_lapse s p).goes
    | droop => exact State.goes_portDroop s p
    | refresh k _ => exact (State.follows_portRefresh s p trivial).goes
    | pin k n _ => exact State.goes_portPin s p n trivial
    | unpin k _ => exact State.goes_portUnpin s p trivial
    | hold k _ =>
      exact ((State.follows_setPort_kept s p _ (by rfl)).trans (State.follows_complete _ _ _ fun _ => trivial)).goes
    | resume k _ =>
      exact ((State.follows_setPort_kept s p _ (by rfl)).trans (State.follows_complete _ _ _ fun _ => trivial)).goes.trans
        (State.goes_callSelection _ p)
    | releaseFaulted k _ =>
      exact ((State.follows_setPort_kept s p _ (by rfl)).trans (State.follows_complete _ _ _ fun _ => trivial)).goes
    | release k _ _ => exact (State.follows_portRelease s p trivial).goes
  exact goes.pagesStay

theorem State.BarrelWork.pagesStay (h : s.BarrelWork t) : s.pagesStay t := by
  have goes : s.Goes false (fun _ => True) t := by
    cases h with
    | sample v _ => exact State.goes_barrelSample s v
    | droop => exact (State.follows_barrelDroop s).goes
    | refresh k _ => exact (State.follows_barrelRefresh s trivial).goes
    | release k _ => exact (State.follows_barrelRelease s trivial).goes
  exact goes.pagesStay

theorem State.PathWork.pagesStay (h : s.PathWork t) : s.pagesStay t := by
  cases h with
  | softStart y _ => exact (State.goes_softStartEnds s y).pagesStay
  | check y v _ => exact (State.goes_closeCheck s y v).pagesStay
  | breakEnds y _ => exact (State.goes_breakEnds s).pagesStay
  | primary k x =>
    refine State.pagesStay.trans ?_ (State.goes_evaluate (held := fun _ => True) _).pagesStay
    unfold State.takePrimary
    split
    · exact State.pagesStay_complete (s.withPath _) k _ _
    · split
      · exact s.pagesStay_complete k _ _
      · split
        · exact State.pagesStay_complete (s.withPath _) k _ _
        · exact .of_exch (by rfl)

theorem State.shows_startSettling (s : State) (x : Connector) : s.pagesStay (s.startSettling x) := by
  cases x <;> exact .of_exch (by rfl)

theorem State.shows_abandonSettling (s : State) (x : Connector) : s.pagesStay (s.abandonSettling x) := by
  cases x <;> exact .of_exch (by rfl)

theorem State.pagesStay_assertPresence (s : State) (x : Connector) : s.pagesStay (s.assertPresence x) := by
  unfold State.assertPresence
  dsimp only
  split
  · split
    · exact (State.pagesStay.of_exch (s := s) (by rfl)).trans (State.shows_startSettling _ x)
    · exact .of_exch (by rfl)
    · exact .of_exch (by rfl)
  · exact .of_exch (by rfl)

theorem State.pagesStay_removePresence (s : State) (x : Connector) : s.pagesStay (s.removePresence x) := by
  unfold State.removePresence
  dsimp only
  split
  · split
    · exact .of_exch (by rfl)
    · exact (State.pagesStay.of_exch (s := s) (by rfl)).trans (State.shows_abandonSettling _ x)
    · split <;> exact .of_exch (by rfl)
  · exact .of_exch (by rfl)

theorem State.pagesStay_detached (s : State) (x : Connector) : s.pagesStay (s.detached x) := by
  have start : s.pagesStay ((s.setTracker x Tracker.cleared).clearDroop x) := .of_exch (by rfl)
  cases x with
  | line p => exact start.trans (State.follows_portDetach (held := fun _ => True) _ p).goes.pagesStay
  | barrel => exact start.trans (State.follows_barrelDetach (held := fun _ => True) _).goes.pagesStay

theorem State.shows_attachEvent (s : State) (x : Connector) : s.shows (s.attachEvent x) := by
  cases x with
  | line p =>
    exact State.shows_portEvent ((State.pagesStay.of_exch (s := s) (by rfl)).trans
      (State.follows_portAttach (held := fun _ => True) _ p).goes.pagesStay)
  | barrel =>
    exact State.shows_settles ((State.pagesStay.of_exch (s := s) (by rfl)).trans
      (State.follows_barrelAttach (held := fun _ => True) _).goes.pagesStay)

theorem State.shows_checkDroop (s : State) (x : Connector) (v : Nat) : s.shows (s.checkDroop x v) := by
  unfold State.checkDroop
  split
  · split
    · refine State.shows.trans (t := (s.clearDroop x).journal 0x15 (connectorByteOf x) (le2 v ++ le2 (s.droopThreshold x)))
        (.of_same (State.follows_journal (held := fun _ => True) (s.clearDroop x) _ _ _).goes.pagesStay (by rfl) (by rfl)) ?_
      cases x with
      | line p => exact State.shows_portEvent (State.PortWork.droop (p := p)).pagesStay
      | barrel => exact State.shows_settles State.BarrelWork.droop.pagesStay
    · exact .of_same (.of_exch (by rfl)) (by rfl) (by rfl)
  · exact .of_same (.of_exch (by rfl)) (by rfl) (by rfl)

theorem State.shows_deferredCheck (s : State) (x : Connector) (v : Nat) : s.shows (s.deferredCheck x v) := by
  unfold State.deferredCheck
  split
  next due => exact State.shows_settles (State.PathWork.check x v due.1).pagesStay
  · exact .refl s

theorem State.shows_setDead (s : State) (dead : Bool) (v : Nat) : s.shows (s.setDead dead v) := by
  unfold State.setDead
  split
  · exact .refl s
  · exact State.shows_settles (State.follows_journal (held := fun _ => True) (s.withMeas _) _ _ _).goes.pagesStay

theorem State.shows_publish (s : State) : s.shows s.publish := by
  exact .of_same (.of_write (a := Config.telemetryBase) (bs := le2 (s.exch.telemetrySeq + 2).toNat ++ s.telemetryPage)
    (.inr (by decide)) rfl rfl) rfl rfl

theorem State.shows_publishSingle (s : State) : s.shows s.publishSingle := by
  unfold State.publishSingle
  split
  · refine s.shows_publish.trans (.of_same (State.pagesStay_foldl _ (fun v k => v.pagesStay_complete k _ _) _ _) ?_ ?_)
    · exact State.foldl_field State.ports (fun u k => u.complete k .ok u.meas.data) (fun _ _ => rfl) _ _
    · exact State.foldl_field State.barrel (fun u k => u.complete k .ok u.meas.data) (fun _ _ => rfl) _ _
  · exact .refl s

end

end Sys2Proof.Machine
end

/-! # The commands and their pages (R190, R191) -/

section
namespace Sys2Proof.Machine

section
variable {s t u : State}

/-! ### Adoption and restart -/

theorem State.pagesStay_settlesWithin (stay : s.pagesStay t) : s.pagesStay (u.settlesWithin t) :=
  stay.trans (State.goes_settlesWithin (held := fun _ => True) u t).pagesStay

theorem State.pagesStay_writeDraft (s : State) : s.pagesStay s.writeDraft :=
  .of_write (a := Config.draftBase) (bs := draftBytes s.policy)
    (.inl (by rw [length_draftBytes, Config.draftBase]; decide)) rfl rfl

theorem State.pagesStay_enableChange (s : State) (old : Policy) (x : Connector) : s.pagesStay (s.enableChange old x) := by
  unfold State.enableChange
  split
  · exact State.shows_abandonSettling s x
  · exact State.pagesStay_settlesWithin (State.pagesStay_detached s x)
  · split
    · exact State.shows_startSettling s x
    · exact .refl s
  · exact .refl s

theorem State.pagesStay_adoptMeasurement (s : State) : s.pagesStay s.adoptMeasurement := by
  have cleared : s.pagesStay (s.withMeas { s.meas with droop := ⟨0, 0, 0, 0⟩ }) := .of_exch (by rfl)
  unfold State.adoptMeasurement
  dsimp only
  split
  · exact State.pagesStay_settlesWithin
      (cleared.trans (State.follows_journal (held := fun _ => True) (State.withMeas _ _) _ _ _).goes.pagesStay)
  · exact cleared

theorem State.pagesStay_adoptBarrel (s : State) : s.pagesStay s.adoptBarrel := by
  unfold State.adoptBarrel
  split
  · exact .refl s
  · exact State.pagesStay_settlesWithin (State.goes_barrelAdopt s).pagesStay

/-- Within an adoption no page is written: the pages follow at its end (R171). -/
theorem State.pagesStay_adoptEffects (s : State) (old : Policy) : s.pagesStay (s.adoptEffects old) :=
  State.adoptEffects_keeps (P := s.pagesStay) (fun u x h => h.trans (u.pagesStay_enableChange old x))
    (fun u h => h.trans u.pagesStay_adoptMeasurement) (fun u h => h.trans u.pagesStay_adoptBarrel)
    (fun u h => h.trans (State.goes_adoptSelector u).pagesStay) (fun u p h => h.trans (State.goes_adoptCall u p).pagesStay)
    (fun u h => h.trans (State.goes_adoptPath u).pagesStay) (fun _ h => h.trans (.of_exch (by rfl))) s (.refl s)

theorem State.shows_reqAdopt (s : State) (k : Fin 8) : s.shows (s.reqAdopt k) := by
  unfold State.reqAdopt
  dsimp only
  split
  · exact s.shows_complete k _ _
  · have installed : ∀ p, s.pagesStay (s.install p) := fun p =>
      ((State.pagesStay.of_exch (s := s) (by rfl)).trans (State.pagesStay_writeDraft _)).trans
        (State.follows_journal (held := fun _ => True) _ _ _ _).goes.pagesStay
    exact State.shows_finish (((installed _).trans (State.pagesStay_adoptEffects _ _)).trans (State.pagesStay_complete _ k _ _))

theorem State.pageShown_rewritePage (s : State) (x : Connector) : (s.rewritePage x).pageShown x := by
  have rev : (s.rewritePage x).exch.pageRev.get x = s.exch.pageRev.get x + 2 := PerConn.get_set_self _ _ _
  intro i hi
  rw [State.readByte_rewritePage_inside s x i hi, rev, State.pageOf_congr x (s.rewritePage_ports x) (s.rewritePage_barrel x)]

theorem State.pageShown.rewritePage {x : Connector} (h : s.pageShown x) (y : Connector) : (s.rewritePage y).pageShown x := by
  by_cases same : x = y
  · exact same ▸ s.pageShown_rewritePage x
  · refine h.of_kept ⟨PerConn.get_set_of_ne _ _ same, fun i hi => ?_⟩ (s.rewritePage_ports y) (s.rewritePage_barrel y)
    exact s.readByte_rewritePage_outside y _ (by have := pageAddress_disjoint same; omega)

/-- Every page is rewritten at a restart (R191, R193). -/
theorem State.pageShown_rewritten (u : State) (x : Connector) : (connectors.foldl (fun v y => v.rewritePage y) u).pageShown x := by
  have later : ∀ (l : List Connector) (v : State), x ∈ l ∨ v.pageShown x → (l.foldl (fun v y => v.rewritePage y) v).pageShown x := by
    intro l
    induction l with
    | nil => exact fun v h => h.resolve_left List.not_mem_nil
    | cons y l ih =>
      refine fun v h => ih _ ?_
      rcases h with listed | shown
      · rcases List.mem_cons.mp listed with rfl | listed
        · exact .inr (v.pageShown_rewritePage x)
        · exact .inl listed
      · exact .inr (shown.rewritePage y)
  exact later connectors u (.inl (by cases x with | line p => cases p <;> decide | barrel => decide))

theorem State.pageShown_writeTelemetry {x : Connector} (h : s.pageShown x) : s.writeTelemetry.pageShown x := by
  have stay : s.pagesStay s.writeTelemetry := .of_write (a := Config.telemetryBase)
    (bs := le2 (s.exch.telemetrySeq + 2).toNat ++ s.telemetryPage) (.inr (by decide)) rfl rfl
  refine State.pageShown_of_stay stay ?_ h
  cases x <;> exact decide_eq_false (fun h => h rfl)

theorem State.pageShown_restart (s : State) (x : Connector) : s.restart.pageShown x := by
  unfold State.restart
  exact State.pageShown_writeTelemetry (State.pageShown_rewritten _ x)

theorem State.shows_restart (s : State) : s.shows s.restart :=
  fun x => ⟨fun _ => s.pageShown_restart x, fun _ _ => s.pageShown_restart x⟩

/-! ### The requests -/

theorem State.shows_reqRefresh (s : State) (k : Fin 8) (b : Byte) : s.shows (s.reqRefresh k b) := by
  unfold State.reqRefresh
  split
  next p _ =>
    unfold State.reqRefreshPort
    split
    next there => exact State.shows_portEvent (State.PortWork.refresh (p := p) k there).pagesStay
    · exact s.shows_complete k _ _
  · unfold State.reqRefreshBarrel
    split
    next there => exact State.shows_settles (State.BarrelWork.refresh k there).pagesStay
    · exact s.shows_complete k _ _

theorem State.shows_reqPin (s : State) (k : Fin 8) (r : Request) : s.shows (s.reqPin k r) := by
  unfold State.reqPin
  split
  next p _ =>
    unfold State.reqPinPort
    cases there : (s.port p).negotiating with
    | false => exact s.shows_complete k _ _
    | true =>
      rw [if_neg (by simp)]
      split
      · exact s.shows_complete k _ _
      · split
        · exact s.shows_complete k _ _
        · split
          · exact s.shows_complete k _ _
          · exact State.shows_portEvent (State.PortWork.pin (p := p) k _ there).pagesStay
  · exact .refl s

theorem State.shows_reqUnpin (s : State) (k : Fin 8) (b : Byte) : s.shows (s.reqUnpin k b) := by
  unfold State.reqUnpin
  split
  next p _ =>
    unfold State.reqUnpinPort
    cases there : (s.port p).negotiating with
    | false => exact s.shows_complete k _ _
    | true =>
      rw [if_neg (by simp)]
      split
      · exact State.shows_portEvent (State.PortWork.unpin (p := p) k there).pagesStay
      · exact s.shows_complete k _ _
  · exact .refl s

theorem State.shows_reqHold (s : State) (k : Fin 8) (b : Byte) : s.shows (s.reqHold k b) := by
  unfold State.reqHold
  split
  next p _ =>
    unfold State.reqHoldPort
    split
    next there => exact State.shows_portEvent (State.PortWork.hold (p := p) k there).pagesStay
    · exact s.shows_complete k _ _
  · exact .refl s

theorem State.shows_reqResume (s : State) (k : Fin 8) (b : Byte) : s.shows (s.reqResume k b) := by
  unfold State.reqResume
  split
  next p _ =>
    unfold State.reqResumePort
    cases there : (s.port p).negotiating with
    | false => exact s.shows_complete k _ _
    | true =>
      rw [if_neg (by simp)]
      split
      · exact State.shows_portEvent (State.PortWork.resume (p := p) k there).pagesStay
      · exact s.shows_complete k _ _
  · exact .refl s

theorem State.shows_reqRelease (s : State) (k : Fin 8) (b : Byte) : s.shows (s.reqRelease k b) := by
  unfold State.reqRelease
  split
  next p _ =>
    unfold State.reqReleasePort
    cases there : (s.port p).negotiating with
    | false => exact s.shows_complete k _ _
    | true =>
      rw [if_neg (by simp)]
      split
      next faulted => exact State.shows_portEvent (State.PortWork.releaseFaulted (p := p) k faulted).pagesStay
      next sound => exact State.shows_portEvent (State.PortWork.release (p := p) k there sound).pagesStay
  · unfold State.reqReleaseBarrel
    split
    next there => exact State.shows_settles (State.BarrelWork.release k there).pagesStay
    · exact s.shows_complete k _ _

theorem State.shows_reqRegulate (s : State) (k : Fin 8) (mode target : Nat) : s.shows (s.reqRegulate k mode target) := by
  unfold State.reqRegulate
  split
  all_goals exact .of_same ((State.pagesStay.of_exch (s := s) (by rfl)).trans (State.pagesStay_complete _ k _ _)) (by rfl) (by rfl)

theorem State.shows_reqTelemetry (s : State) (k : Fin 8) (mode period : Nat) : s.shows (s.reqTelemetry k mode period) := by
  unfold State.reqTelemetry
  split
  · exact .of_same ((State.pagesStay.of_exch (s := s) (by rfl)).trans (State.pagesStay_complete _ k _ _)) (by rfl) (by rfl)
  · exact .of_same (.of_exch (by rfl)) (by rfl) (by rfl)
  · exact .of_same ((State.pagesStay.of_exch (s := s) (by rfl)).trans (State.pagesStay_complete _ k _ _)) (by rfl) (by rfl)
  · exact s.shows_complete k _ _

theorem State.shows_reqAbort (s : State) (k : Fin 8) (target : Nat) : s.shows (s.reqAbort k target) := by
  unfold State.reqAbort
  split
  · dsimp only
    split
    · exact State.shows_finish (((State.pagesStay.of_exch (s := s) (by rfl)).trans (State.pagesStay_complete _ _ _ _)).trans
        (State.pagesStay_complete _ k _ _))
    · exact s.shows_complete k _ _
  · exact s.shows_complete k _ _

theorem State.shows_dispatch (s : State) (k : Fin 8) (r : Request) (kind : RequestKind) : s.shows (s.dispatch k r kind) := by
  cases kind with
  | adopt => exact s.shows_reqAdopt k
  | refresh => exact s.shows_reqRefresh k _
  | pin => exact s.shows_reqPin k r
  | unpin => exact s.shows_reqUnpin k _
  | hold => exact s.shows_reqHold k _
  | resume => exact s.shows_reqResume k _
  | release => exact s.shows_reqRelease k _
  | primary => exact State.shows_settles (State.PathWork.primary k _).pagesStay
  | regulate => exact s.shows_reqRegulate k _ _
  | telemetry => exact s.shows_reqTelemetry k _ _
  | abort => exact s.shows_reqAbort k _

theorem State.shows_checkRequest (s : State) (k : Fin 8) (r : Request) : s.shows (s.checkRequest k r) := by
  unfold State.checkRequest
  split
  · exact s.shows_complete k _ _
  · split
    · exact s.shows_complete k _ _
    · split
      · exact s.shows_complete k _ _
      · exact s.shows_dispatch k r _

/-- A slot's bytes stand below the pages. -/
theorem slotAddress_below (k : Fin 8) : slotAddress k + 32 ≤ 0x180 := by
  have := k.isLt
  unfold slotAddress Config.slotBase
  omega

theorem State.pagesStay_writeSlot {k : Fin 8} {bs : List Byte} (short : bs.length ≤ 32)
    (mem : t.exch.mem = writeBlock s.exch.mem (slotAddress k) bs) (rev : t.exch.pageRev = s.exch.pageRev) : s.pagesStay t :=
  .of_write (.inl (by have := slotAddress_below k; omega)) mem rev

theorem State.shows_examine (s : State) (k : Fin 8) : s.shows (s.examine k) := by
  have cleared : s.pagesStay (s.withExch (s.exch.clearMark k)) := ⟨rfl, fun _ _ => rfl⟩
  refine State.shows.trans (.of_same cleared (by rfl) (by rfl)) ?_
  unfold State.examine
  generalize s.withExch (s.exch.clearMark k) = v
  cases examined (s.exch.slot k).copy (readByte s.exch.mem (slotAddress k)) with
  | nothing => exact .refl v
  | take =>
    exact State.shows.trans (.of_same (State.pagesStay_writeSlot (k := k) (bs := [SlotCopy.taken.code]) (by decide) rfl (by rfl)) (by rfl) (by rfl))
      (State.shows_checkRequest (v.withExch (v.exch.take k)) k _)
  | giveBack => exact .of_same ⟨rfl, fun _ _ => rfl⟩ (by rfl) (by rfl)
  | misuse => exact .of_same (State.pagesStay_writeSlot (k := k) (bs := [(v.exch.slot k).copy.code]) (Nat.le_of_ble_eq_true rfl) rfl (by rfl)) (by rfl) (by rfl)

theorem State.shows_readerStep (s : State) : s.shows s.readerStep := by
  unfold State.readerStep
  split
  · exact s.shows_examine _
  · exact .refl s

theorem State.shows_request (s : State) (q : Posting) (kind : Byte) (args : List Byte) : s.shows (s.request q kind args) := by
  have posted : s.pagesStay (s.withExch (s.exch.post q kind args)) :=
    State.pagesStay_writeSlot (by rw [length_postedBytes]; decide) rfl (by rfl)
  refine State.shows.trans (.of_same posted (by rfl) (by rfl)) ?_
  unfold State.request State.readSlots
  generalize s.withExch (s.exch.post q kind args) = v
  generalize slotIds.filter (fun k => decide (k ≤ q.slot)) = l
  induction l generalizing v with
  | nil => exact .refl v
  | cons k l ih =>
    refine State.shows.trans ?_ (ih _)
    dsimp only
    split
    · exact v.shows_examine k
    · exact .refl v

/-! ### The commands -/

theorem State.pagesStay_deliverIin (s : State) (x : Connector) (v : Nat) : s.pagesStay (s.deliverIin x v) := by
  unfold State.deliverIin
  dsimp only
  split
  · exact .of_exch (by rfl)
  · split
    · exact (State.follows_journal (held := fun _ => True) (State.withReg _ _) _ _ _).goes.pagesStay
    · exact .of_exch (by rfl)

theorem State.shows_regWrite (s : State) (reg : Byte) (value : Word) : s.shows (s.transact (regWriteBytes reg value)) := by
  rw [State.transact_regWrite]
  unfold State.writeRegister
  split
  · exact .of_same ⟨rfl, fun _ _ => rfl⟩ (by rfl) (by rfl)
  · exact .of_same ⟨rfl, fun _ _ => rfl⟩ (by rfl) (by rfl)
  · split
    · exact s.shows_restart
    · exact .refl s
  · exact .refl s

theorem State.shows_takeEnd (s : State) (p : LinePort) : s.shows (s.takeEnd p) := by
  have idled : s.pagesStay (s.setLine p ((s.line p).enter .idle)) := .of_exch (by rfl)
  have broken : s.pagesStay (s.breakFrame p) := (State.follows_breakFrame (held := fun _ => True) s p).goes.pagesStay
  unfold State.takeEnd
  split
  · split
    · unfold State.receive
      dsimp only
      split
      · exact State.shows_settles ((idled.trans (State.goes_deliver _ p _ _).pagesStay).trans
          (State.served_endLeaseOf _ p).follows.goes.pagesStay)
      · exact State.shows_finish broken
    · exact .refl s
  · exact State.shows_finish broken
  · split
    · exact .refl s
    · exact State.shows_finish (State.follows_endStray (held := fun _ => True) s p).goes.pagesStay
  · exact .refl s
  · exact .refl s
  · exact .refl s

theorem State.shows_endSending (s : State) (p : LinePort) : s.shows (s.endSending p) := by
  unfold State.endSending
  split
  · split
    · have idled : s.pagesStay (s.setLine p ((s.line p).enter .idle)) := .of_exch (by rfl)
      exact State.shows_settles ((idled.trans (State.follows_txReport (held := fun _ => True) _ p _ _).goes.pagesStay).trans
        (State.served_endLeaseOf _ p).follows.goes.pagesStay)
    · exact .refl s
  · exact .refl s

theorem exec_shows {c : Instr} (power : ∀ a b d e, c ≠ .powerOn a b d e) (write : ∀ x y, c ≠ .memWrite x y)
    (h : exec c s = .next t) : s.shows t := by
  have timed : ∀ (cond : Prop) [Decidable cond] p u, (cond → s.PortWork p u) →
      s.shows (if cond then s.portEvent p u else s) := fun cond _ p u work => by
    split
    next due => exact State.shows_portEvent (work due).pagesStay
    · exact .refl s
  cases line : lineWork c with
  | true =>
    obtain ⟨u, lined, rfl⟩ := exec_lined line h
    exact State.shows_finish (.of_exch (by rw [← lined.rest]; rfl))
  | false =>
    cases c with
    | powerOn a b d e => exact absurd rfl (power a b d e)
    | presenceAsserted x => cases h; exact State.shows_finish (s.pagesStay_assertPresence x)
    | presenceRemoved x => cases h; exact State.shows_finish (s.pagesStay_removePresence x)
    | attachIntervalExpiry x =>
      cases h
      unfold State.attachExpires
      split
      · exact s.shows_attachEvent x
      · exact .refl s
    | detachIntervalExpiry x =>
      cases h
      unfold State.detachExpires
      split
      · exact State.shows_settles (s.pagesStay_detached x)
      · exact .refl s
    | coreSequenceStart => cases h; exact .of_same (.of_exch (by rfl)) (by rfl) (by rfl)
    | iinCompletion r =>
      cases h
      refine State.shows.trans (t := s.enterResult .iin (Channel.iin.result r)) (.of_same (.of_exch (by rfl)) (by rfl) (by rfl)) ?_
      split
      · obtain ⟨-, ports, barrel⟩ := State.deliverIin_rest (s.enterResult .iin (Channel.iin.result r)) _ (Channel.iin.result r)
        exact .of_same (State.pagesStay_deliverIin _ _ _) ports barrel
      · exact .refl _
    | voltageCompletion x r =>
      cases h
      have entered : s.shows ((s.enterResult (.volts x) ((Channel.volts x).result r)).noteVD x ((Channel.volts x).result r)) := by
        cases x <;> exact .of_same (.of_exch (by rfl)) (by rfl) (by rfl)
      exact entered.trans ((State.shows_checkDroop _ x _).trans (State.shows_deferredCheck _ x _))
    | vbatCompletion r =>
      cases h
      exact State.shows.trans (.of_same (.of_exch (by rfl)) (by rfl) (by rfl)) (State.shows_setDead (s.enterResult .vbat (Channel.vbat.result r)) _ _)
    | vsysCompletion r => cases h; exact .of_same (.of_exch (by rfl)) (by rfl) (by rfl)
    | iddCompletion r =>
      cases h
      refine State.shows.trans (t := s.enterResult .idd (Channel.idd.result r)) (.of_same (.of_exch (by rfl)) (by rfl) (by rfl))
        (State.shows.trans ?_ (State.shows_publishSingle _))
      split
      next identifying => exact State.shows_settles (State.BarrelWork.sample _ identifying).pagesStay
      · exact .refl _
    | periodTimerExpiry =>
      cases h
      split
      · exact s.shows_publish.trans (.of_same (.of_exch (by rfl)) (by rfl) (by rfl))
      · exact .refl s
    | endDelimiter p =>
      cases h
      unfold State.ifAttached
      split
      · exact s.shows_takeEnd p
      · exact .refl s
    | frameTransmitted p => cases h; exact s.shows_endSending p
    | tenderWaitExpiry p => cases h; exact timed _ p _ fun due => .tenderTimeout due.1
    | claimWaitExpiry p => cases h; exact timed _ p _ fun due => .claimTimeout due.1
    | settleWaitExpiry p => cases h; exact timed _ p _ fun due => .settleTimeout due.1
    | lapseExpiry p => cases h; exact timed _ p _ fun due => .lapse due
    | softStartExpiry =>
      cases h
      unfold State.softStartExpires
      split
      next y _ closing _ => exact State.shows_settles (State.PathWork.softStart y closing).pagesStay
      · exact .refl s
    | breakExpiry =>
      cases h
      unfold State.breakExpires
      split
      next y _ opening _ => exact State.shows_settles (State.PathWork.breakEnds y opening).pagesStay
      · exact .refl s
    | memRead addr n =>
      cases h
      rw [State.transact_memRead]
      exact .of_same ⟨rfl, fun _ _ => rfl⟩ (by rfl) (by rfl)
    | memWrite addr data => exact absurd rfl (write addr data)
    | attnWrite v => cases h; exact s.shows_regWrite _ _
    | attnMaskWrite v => cases h; exact s.shows_regWrite _ _
    | restart => cases h; exact s.shows_regWrite _ _
    | registerWriteIgnored reg v => cases h; exact s.shows_regWrite _ _
    | slotExamination => cases h; exact s.shows_readerStep
    | adopt q => cases h; exact s.shows_request q _ _
    | refresh q => cases h; exact s.shows_request q _ _
    | pin q level volts limit => cases h; exact s.shows_request q _ _
    | unpin q => cases h; exact s.shows_request q _ _
    | hold q => cases h; exact s.shows_request q _ _
    | resume q => cases h; exact s.shows_request q _ _
    | release q => cases h; exact s.shows_request q _ _
    | primary q => cases h; exact s.shows_request q _ _
    | regulate q mode target => cases h; exact s.shows_request q _ _
    | telemetry q mode period => cases h; exact s.shows_request q _ _
    | abort q target => cases h; exact s.shows_request q _ _
    | _ => cases line

/-- Right after POWER_ON every page shows its record. -/
theorem exec_powerOn_shown {a b c d : Bool} (h : exec (.powerOn a b c d) s = .next t) (x : Connector) : t.pageShown x := by
  have shows : (State.reset.withPending s.pending).shows t := by
    cases h
    exact State.shows_finish (State.pagesStay_foldl _ State.pagesStay_assertPresence _ _)
  have before : (State.reset.withPending s.pending).pageShown x := fun i hi => by
    have rev : State.reset.exch.pageRev.get x = 0 := by cases x with | line p => cases p <;> rfl | barrel => rfl
    have page : (State.reset.withPending s.pending).pageOf x = State.reset.pageOf x := State.pageOf_congr x rfl rfl
    rw [page, State.withPending_exch, rev]
    exact page_reset x i hi
  cases changed : recordChanged (State.reset.withPending s.pending) t x with
  | true => exact (shows x).1 changed
  | false => exact (shows x).2 changed before

/-- Settles O12: every event ends with the page rewrites of its changed records. -/
theorem changedRecordsAreOnTheirPages : Obligations.ChangedRecordsAreOnTheirPages := by
  unfold Obligations.ChangedRecordsAreOnTheirPages
  refine ⟨fun c s t x h changed => ?_, fun c s t x h power => ?_⟩
  · by_cases power : ∃ a b d e, c = .powerOn a b d e
    · obtain ⟨a, b, d, e, rfl⟩ := power
      exact exec_powerOn_shown h x
    · by_cases write : ∃ y z, c = .memWrite y z
      · obtain ⟨y, z, rfl⟩ := write
        cases h
        rw [State.transact_memWrite] at changed
        cases x <;> simp [recordChanged] at changed
      · exact (exec_shows (fun a b d e hc => power ⟨a, b, d, e, hc⟩) (fun y z hc => write ⟨y, z, hc⟩) h x).1 changed
  · by_cases write : ∃ y z, c = .memWrite y z
    · obtain ⟨y, z, rfl⟩ := write
      rw [(exec_memWrite_sound h).2.2.1]
    · exact (exec_keeps power (fun y z hc => write ⟨y, z, hc⟩) h).parity x

end

end Sys2Proof.Machine
end

/-! # What follows an event (R82, R95, R110, R142) -/

section
namespace Sys2Proof.Machine

/-- A predicate that all which follows an event keeps: the evaluation, the clearing of droop counters, the figures, the page
rewrites, and the calls for selection with their applications for an engine. -/
structure Trailing (P : State → Prop) : Prop where
  evaluate : ∀ u : State, P u → P u.evaluate
  droop : ∀ (u : State) x, P u → P (u.clearDroop x)
  budget : ∀ u : State, P u → P u.recomputeBudget
  left : ∀ u : State, P u → P (u.withReg (u.reg.pathLeft u.policy))
  prospect : ∀ (u : State) v, P u → P (u.withProspect v)
  page : ∀ (u : State) x, P u → P (u.rewritePage x)
  call : ∀ (u : State) p, P u → P ((u.callSelection p).apply p)

section
variable {P Q : State → Prop} {s t u : State} {pages : Bool}

theorem Trailing.and (h : Trailing P) (k : Trailing Q) : Trailing fun u => P u ∧ Q u where
  evaluate u := .imp (h.evaluate u) (k.evaluate u)
  droop u x := .imp (h.droop u x) (k.droop u x)
  budget u := .imp (h.budget u) (k.budget u)
  left u := .imp (h.left u) (k.left u)
  prospect u v := .imp (h.prospect u v) (k.prospect u v)
  page u x := .imp (h.page u x) (k.page u x)
  call u p := .imp (h.call u p) (k.call u p)

section
variable (trails : Trailing P)
include trails

theorem Trailing.reportDroops (s : State) (l : List Connector) (h : P t) : P (l.foldl (fun u x => s.reportDroop u x) t) := by
  induction l generalizing t with
  | nil => exact h
  | cons x l ih =>
    refine ih ?_
    dsimp only [State.reportDroop]
    split
    · exact trails.droop t x h
    · exact h

theorem Trailing.reportBudget (s : State) (h : P t) : P (s.reportBudget t) := by
  unfold State.reportBudget
  split
  · dsimp only
    split
    · exact trails.left _ (trails.budget t h)
    · exact trails.budget t h
  · exact h

/-- The reports after the evaluation that the owners' reports bring. -/
theorem Trailing.report_of_owners (h : P (s.reportOwners t)) : P (s.report t) :=
  trails.prospect _ _ (trails.reportBudget s (trails.reportDroops s connectors h))

theorem Trailing.finish (s : State) (h : P t) : P (s.finish t) :=
  State.finish_induction P s t h fun u x h => by
    rcases State.refreshPage_cases s u x with ⟨-, e⟩ | ⟨-, e⟩ <;> rw [e]
    · exact trails.page u x h
    · exact h

theorem Trailing.concludes_of_report (h : P (s.report t)) : P (s.concludes pages t) := by
  unfold State.concludes
  split
  · exact trails.finish s h
  · exact h

theorem Trailing.reportOwners (s : State) (h : P t) : P (s.reportOwners t) := by
  unfold State.reportOwners
  split
  · exact trails.evaluate t h
  · exact h

/-- What the reports establish, all that follows keeps. -/
theorem Trailing.settle_of_report (n : Nat) (h : P (s.report t)) : P (settle pages n s t) := by
  have concluded : P (s.concludes pages t) := trails.concludes_of_report h
  cases n with
  | zero => exact concluded
  | succ n =>
    have again : ∀ (m : Nat) (v w : State), P w → P (settle pages m v w) := fun m v w h =>
      settle_relates (Q := fun _ w => P w)
        (fun v w h => trails.concludes_of_report (trails.report_of_owners (trails.reportOwners v h)))
        (fun w p h => trails.call w p h) m h
    simp only [settle]
    generalize roleChanges s (s.concludes pages t) = l
    generalize s.concludes pages t = v at concluded
    induction l generalizing v with
    | nil => exact concluded
    | cons p l ih => exact ih _ (again n _ _ (trails.call v p concluded))

/-- What the evaluation establishes, all that follows keeps. -/
theorem Trailing.settle_of_owners (n : Nat) (h : P (s.reportOwners t)) : P (Sys2Proof.Machine.settle pages n s t) :=
  trails.settle_of_report n (trails.report_of_owners h)

theorem Trailing.settle (n : Nat) (h : P t) : P (Sys2Proof.Machine.settle pages n s t) :=
  trails.settle_of_owners n (trails.reportOwners s h)

theorem Trailing.settles (h : P t) : P (s.settles t) := trails.settle _ h

theorem Trailing.settlesWithin (h : P t) : P (s.settlesWithin t) := trails.settle _ h

end

/-! ### Kinds of predicates -/

/-- The part of a state that the owners, engines and lines keep and no evaluation touches. -/
structure State.ownersSame (s t : State) : Prop where
  policy : t.policy = s.policy
  trackers : t.trackers = s.trackers
  ports : t.ports = s.ports
  lines : t.lines = s.lines
  engines : t.engines = s.engines
  queue : t.queue = s.queue
  barrel : t.barrel = s.barrel
  latestVD : t.latestVD = s.latestVD

theorem State.ownersSame_evaluate (s : State) : s.ownersSame s.evaluate :=
  ⟨by simp, by simp, by simp, by simp, by simp, by simp, by simp, by simp⟩

/-- A predicate on the owners, the engines and the lines: only calls for selection may change what it speaks of. -/
theorem Trailing.of_owners (congr : ∀ u v : State, u.ownersSame v → P u → P v)
    (call : ∀ (u : State) p, P u → P ((u.callSelection p).apply p)) : Trailing P where
  evaluate u := congr u _ u.ownersSame_evaluate
  droop u _ := congr u _ ⟨rfl, rfl, rfl, rfl, rfl, rfl, rfl, rfl⟩
  budget u := congr u _ ⟨rfl, rfl, rfl, rfl, rfl, rfl, rfl, rfl⟩
  left u := congr u _ ⟨rfl, rfl, rfl, rfl, rfl, rfl, rfl, rfl⟩
  prospect u _ := congr u _ ⟨rfl, rfl, rfl, rfl, rfl, rfl, rfl, rfl⟩
  page u _ := congr u _ ⟨rfl, rfl, rfl, rfl, rfl, rfl, rfl, rfl⟩
  call := call

/-- A predicate on the path alone: only evaluations change what it speaks of. -/
theorem Trailing.of_path {Q : Path → Prop} (evaluate : ∀ u : State, Q u.path → Q u.evaluate.path) : Trailing fun u => Q u.path where
  evaluate := evaluate
  droop _ _ h := h
  budget _ h := h
  left _ h := h
  prospect _ _ h := h
  page _ _ h := h
  call u p h := by rwa [State.apply_path, State.callSelection_path]

/-- A field that nothing but an event's own work changes. -/
theorem Trailing.of_field {α : Type} (f : State → α) (a : α) (evaluate : ∀ u : State, f u.evaluate = f u)
    (droop : ∀ (u : State) x, f (u.clearDroop x) = f u) (budget : ∀ u : State, f u.recomputeBudget = f u)
    (left : ∀ u : State, f (u.withReg (u.reg.pathLeft u.policy)) = f u) (prospect : ∀ (u : State) v, f (u.withProspect v) = f u)
    (page : ∀ (u : State) x, f (u.rewritePage x) = f u) (call : ∀ (u : State) p, f ((u.callSelection p).apply p) = f u) :
    Trailing fun u => f u = a where
  evaluate u h := (evaluate u).trans h
  droop u x h := (droop u x).trans h
  budget u h := (budget u).trans h
  left u h := (left u).trans h
  prospect u v h := (prospect u v).trans h
  page u x h := (page u x).trans h
  call u p h := (call u p).trans h

/-- The records submitted first stand, and no slot outside a set is touched. -/
theorem trailing_follows {held : Fin 8 → Prop} (s : State) (l : List (Byte × Byte × List Byte)) :
    Trailing fun u => ∃ m, s.Follows true held (l ++ m) u := by
  have step : ∀ u v : State, u.Goes true held v → (∃ m, s.Follows true held (l ++ m) u) → ∃ m, s.Follows true held (l ++ m) v := by
    rintro u v ⟨n, goes⟩ ⟨m, follows⟩
    exact ⟨m ++ n, by rw [← List.append_assoc]; exact follows.trans goes⟩
  exact {
    evaluate := fun u => step u _ (State.goes_evaluate u)
    droop := fun u x => step u _ (State.follows_clearDroop u x).goes
    budget := fun u => step u _ (State.follows_recomputeBudget u).goes
    left := fun u => step u _ (State.follows_pathLeft u).goes
    prospect := fun u v => step u _ (State.follows_of_owners_kept (s := u) (t := u.withProspect v) rfl rfl rfl rfl rfl).goes
    page := fun u x => step u _ (State.follows_rewritePage u x).goes
    call := fun u p => step u _ ((State.goes_callSelection u p).trans (State.served_apply _ p).follows.goes) }

theorem State.Follows.journals_of_more {held : Fin 8 → Prop} {l : List (Byte × Byte × List Byte)}
    (h : ∃ m, s.Follows true held (l ++ m) t) (hs : s.heldIn held) : s.journals t l := by
  obtain ⟨m, h⟩ := h
  exact Exchange.Logs.journals (h.logs hs)

/-- A cleared droop counter stays cleared. -/
theorem trailing_droop (x : Connector) : Trailing fun u => u.meas.droop.get x = 0 where
  evaluate u h := by rwa [State.evaluate_meas]
  droop u y h := by
    by_cases same : x = y
    · subst same
      exact PerConn.get_set_self _ _ _
    · exact (PerConn.get_set_of_ne _ _ same).trans h
  budget _ h := h
  left _ h := h
  prospect _ _ h := h
  page _ _ h := h
  call u p h := by rwa [State.apply_meas, State.callSelection_meas]

theorem trailing_barrel (b : Barrel) : Trailing fun u => u.barrel = b :=
  .of_field State.barrel b State.evaluate_barrel (fun _ _ => rfl) (fun _ => rfl) (fun _ => rfl) (fun _ _ => rfl)
    (fun _ _ => rfl) fun u p => by rw [State.apply_barrel, State.callSelection_barrel]

theorem trailing_trackers (b : PerConn Tracker) : Trailing fun u => u.trackers = b :=
  .of_field State.trackers b State.evaluate_trackers (fun _ _ => rfl) (fun _ => rfl) (fun _ => rfl) (fun _ _ => rfl)
    (fun _ _ => rfl) fun u p => by rw [State.apply_trackers, State.callSelection_trackers]

theorem trailing_policy (q : Policy) : Trailing fun u => u.policy = q :=
  .of_field State.policy q State.evaluate_policy (fun _ _ => rfl) (fun _ => rfl) (fun _ => rfl) (fun _ _ => rfl)
    (fun _ _ => rfl) fun u p => by rw [State.apply_policy, State.callSelection_policy]

end

end Sys2Proof.Machine
end

/-! # Evaluations: a lost connector, an opening path, requests in their slots (R110, R116, R118) -/

section
namespace Sys2Proof.Machine

/-- A path without its PRIMARY in flight. -/
def Path.sansFlight (p : Path) : Path := { p with inFlight := none }

section
variable {s t u : State} {x y : Connector}

/-! ### The path -/

theorem State.completePrimary_path (s : State) (y : Connector) (c : ResultCode) :
    (s.completePrimary y c).path.sansFlight = s.path.sansFlight ∧
      (s.path.inFlight = none → (s.completePrimary y c).path.inFlight = none) := by
  rcases State.completePrimary_cases s y c with ⟨q, -, -, e⟩ | ⟨-, e⟩ <;> rw [e]
  · exact ⟨rfl, fun _ => rfl⟩
  · exact ⟨rfl, id⟩

theorem State.dropLostPrimary_path (s : State) :
    s.dropLostPrimary.path.sansFlight = s.path.sansFlight ∧ (s.path.inFlight = none → s.dropLostPrimary.path.inFlight = none) := by
  unfold State.dropLostPrimary
  split
  · split
    · exact State.completePrimary_path s _ _
    · exact ⟨rfl, id⟩
  · exact ⟨rfl, id⟩

/-- The path opened on a connector, but for its PRIMARY in flight. -/
def State.openedPath (s : State) (x : Connector) : Path :=
  { s.path with
    state := .opening x, switches := s.path.switches.set x false, softStart := none, checkDeferred := false
    breakTimer := some s.policy.breakMs, inFlight := none }

theorem State.losePath_path (s : State) (y : Connector) : (s.losePath y).path.sansFlight = s.openedPath y := by
  unfold State.losePath
  dsimp only
  rw [(State.completePrimary_path _ y .lost).1]
  split <;> rfl

/-- What an evaluation makes of the path (R110). -/
theorem State.evaluate_path_cases (s : State) :
    s.evaluate.path.sansFlight = s.path.sansFlight ∨
    (s.path.state = .idle ∧ ∃ y, s.freshChoice = some y ∧ s.evaluate.path.sansFlight = (s.enterClosing y).path.sansFlight) ∨
    (∃ x, (s.path.state = .closing x ∨ s.path.state = .closed x) ∧ s.eligible x = false ∧
      s.evaluate.path.sansFlight = s.openedPath x) ∨
    ∃ x y, s.path.state = .closed x ∧ s.eligible x = true ∧ s.challenger x = some y ∧ s.atRest y = true ∧
      s.evaluate.path.sansFlight = s.openedPath x := by
  have dropped := (State.dropLostPrimary_path s.evaluatePath).1
  rcases s.evaluatePath_cases with e | ⟨idle, y, chosen, e⟩ | ⟨x, held, lost, e⟩ | ⟨x, y, closed, fit, chall, rest, e⟩ <;>
    rw [State.evaluate, dropped, e]
  · exact .inl rfl
  · exact .inr (.inl ⟨idle, y, chosen, rfl⟩)
  · exact .inr (.inr (.inl ⟨x, held, lost, s.losePath_path x⟩))
  · exact .inr (.inr (.inr ⟨x, y, closed, fit, chall, rest, rfl⟩))

theorem State.evaluate_inFlight_none (h : s.path.inFlight = none) : s.evaluate.path.inFlight = none := by
  refine (State.dropLostPrimary_path s.evaluatePath).2 ?_
  rcases s.evaluatePath_cases with e | ⟨-, y, -, e⟩ | ⟨x, -, -, e⟩ | ⟨x, y, -, -, -, -, e⟩ <;> rw [e]
  · exact h
  · exact h
  · unfold State.losePath
    dsimp only
    refine (State.completePrimary_path _ x .lost).2 ?_
    split <;> exact h
  · exact h

theorem trailing_flightless : Trailing fun u => u.path.inFlight = none :=
  .of_path (Q := fun p => p.inFlight = none) fun _ => State.evaluate_inFlight_none

/-- A path that opens, opens on (R117). -/
theorem State.evaluate_opening (h : s.path.state = .opening y) : s.evaluate.path.sansFlight = s.path.sansFlight := by
  rw [State.evaluate, (State.dropLostPrimary_path _).1, State.evaluatePath, h]

theorem trailing_opening {v : Path} (h : v.state = .opening y) : Trailing fun u => u.path.sansFlight = v :=
  .of_path (Q := fun p => p.sansFlight = v) fun u hu => by
    have opening : u.path.state = .opening y := by
      rw [← h, ← hu]
      rfl
    rw [State.evaluate_opening opening, hu]

theorem pathOpened_of_sansFlight {v : State} (policy : v.policy = s.policy) (switches : v.path.switches = s.path.switches)
    (h : t.path.sansFlight = v.openedPath x) : s.pathOpened t x := by
  have field : ∀ {α : Type} (f : Path → α), f t.path.sansFlight = f (v.openedPath x) := fun f => congrArg f h
  refine ⟨field Path.state, (field Path.switches).trans ?_, (field Path.breakTimer).trans ?_, field Path.softStart,
    field Path.checkDeferred⟩
  · rw [← switches]
    rfl
  · rw [← policy]
    rfl

/-! ### A lost connector (R116, R118) -/

/-- A connector that stops being eligible under the same path makes its owner report (R82, R106). -/
theorem ownerReports_of_lost (path : u.path = s.path) (fit : s.eligible x = true) (lost : u.eligible x = false) :
    ownerReports s u x = true := by
  by_contra quiet
  rw [Bool.not_eq_true] at quiet
  cases x with
  | line p =>
    simp only [ownerReports, Bool.or_eq_false_iff, decide_eq_false_iff_not, not_not] at quiet
    obtain ⟨⟨⟨state, -⟩, released⟩, fault⟩ := quiet
    simp only [State.eligible, path, ← released, ← fault] at fit lost
    have same : portStateEligible s.path.state p (u.port p).state = portStateEligible s.path.state p (s.port p).state := by
      generalize (u.port p).state = a at state
      generalize (s.port p).state = b at state
      cases a <;> cases b <;> first | rfl | cases state
    rw [same, fit] at lost
    cases lost
  | barrel =>
    simp only [ownerReports, Bool.or_eq_false_iff, decide_eq_false_iff_not, not_not] at quiet
    obtain ⟨⟨⟨⟨state, live⟩, released⟩, fault⟩, -⟩ := quiet
    simp only [State.eligible, Barrel.eligible, ← released, ← fault, ← live] at fit lost
    have same : (decide (u.barrel.state = .bound) || decide (u.barrel.state = .identifying)) =
        (decide (s.barrel.state = .bound) || decide (s.barrel.state = .identifying)) := by
      generalize u.barrel.state = a at state
      generalize s.barrel.state = b at state
      cases a <;> cases b <;> first | rfl | cases state
    rw [same, fit] at lost
    cases lost

theorem State.reportOwners_of_lost (path : u.path = s.path) (fit : s.eligible x = true) (lost : u.eligible x = false) :
    s.reportOwners u = u.evaluate := by
  refine if_pos (List.any_eq_true.mpr ⟨x, ?_, ownerReports_of_lost path fit lost⟩)
  cases x with
  | line p => cases p <;> decide
  | barrel => decide

theorem State.evaluatePath_of_lost (held : s.path.state = .closing x ∨ s.path.state = .closed x) (lost : s.eligible x = false) :
    s.evaluatePath = s.losePath x := by
  unfold State.evaluatePath
  rcases held with h | h <;> simp only [h, lost, Bool.false_eq_true, if_false]

theorem State.evaluate_lost_path (held : s.path.state = .closing x ∨ s.path.state = .closed x) (lost : s.eligible x = false) :
    s.evaluate.path.sansFlight = s.openedPath x := by
  rw [State.evaluate, (State.dropLostPrimary_path _).1, State.evaluatePath_of_lost held lost, State.losePath_path]

theorem State.evaluate_lost_follows {held : Fin 8 → Prop} (path : s.path.state = .closed x) (lost : s.eligible x = false) :
    s.Follows true held (s.lossRecords x) s.evaluate := by
  rw [State.evaluate, State.evaluatePath_of_lost (.inr path) lost, ← List.append_nil (s.lossRecords x)]
  exact (State.follows_losePath s x).trans (State.follows_dropLostPrimary _)

/-- After the loss of its connector a path opens, and a CLOSED one journals the FAILOVER after what the event journals. -/
theorem lost_opens {pages : Bool} {n : Nat} (path : u.path = s.path) (policy : u.policy = s.policy) (fit : s.eligible x = true)
    (lost : u.eligible x = false) (held : s.path.state = .closing x ∨ s.path.state = .closed x) :
    s.pathOpened (settle pages n s u) x := by
  have opening : (u.openedPath x).state = .opening x := rfl
  have opened := (trailing_opening opening).settle_of_owners (pages := pages) (s := s) (t := u) n
    (by rw [State.reportOwners_of_lost path fit lost, State.evaluate_lost_path (path ▸ held) lost])
  exact pathOpened_of_sansFlight policy (by rw [path]) opened

theorem lost_follows {pages : Bool} {n : Nat} {v : State} {held : Fin 8 → Prop} {cause : LossCause} {l : List (Byte × Byte × List Byte)}
    (follows : v.Follows true held l u) (path : u.path = s.path) (fit : s.eligible x = true)
    (lost : u.eligible x = false) (why : u.lossCause x = some cause) :
    ∃ m, v.Follows true held (l ++ s.failover x cause.code ++ m) (settle pages n s u) := by
  refine (trailing_follows v _).settle_of_owners n ?_
  by_cases closed : s.path.state = .closed x
  · rw [State.reportOwners_of_lost path fit lost]
    have records : u.lossRecords x = s.failover x cause.code := by
      rw [State.lossRecords, State.failover, path, if_pos closed, if_pos closed, why]
      rfl
    exact ⟨[], by rw [List.append_nil]; exact follows.trans (records ▸ State.evaluate_lost_follows (path ▸ closed) lost)⟩
  · rw [State.failover, if_neg closed, List.append_nil]
    obtain ⟨m, goes⟩ := (State.goes_reportOwners (held := held) (pages := true) s u)
    exact ⟨m, follows.trans goes⟩

theorem lost_journals {pages : Bool} {n : Nat} {v : State} {cause : LossCause} {l : List (Byte × Byte × List Byte)}
    (follows : v.Follows true (fun _ => True) l u) (path : u.path = s.path) (fit : s.eligible x = true)
    (lost : u.eligible x = false) (why : u.lossCause x = some cause) :
    v.journals (settle pages n s u) (l ++ s.failover x cause.code) :=
  State.Follows.journals_of_more (lost_follows follows path fit lost why) v.heldIn_all

/-! ### Slots of the requests -/

/-- What a state shows of slot `k` that no request in flight is from. -/
theorem State.Follows.spares {k : Fin 8} {l : List (Byte × Byte × List Byte)}
    (h : ∃ m, s.Follows true (fun j => j ≠ k) (l ++ m) u) (unheld : s.unheld k) :
    u.unheld k ∧ u.exch.slot k = s.exch.slot k ∧
      ∀ a, slotAddress k ≤ a → a < slotAddress k + 32 → readByte u.exch.mem a = readByte s.exch.mem a := by
  obtain ⟨m, h⟩ := h
  have here : s.heldIn fun j => j ≠ k := fun j hj => by
    rw [not_not] at hj
    exact hj ▸ unheld
  have logs := h.logs here
  exact ⟨h.stays here k (fun ne => ne rfl), logs.slot (fun ne => ne rfl),
    fun a ha hb => logs.readByte_slot (fun ne => ne rfl) ⟨ha, hb⟩⟩

/-- An answered request in a slot that no request is in flight from stays answered. -/
theorem trailing_answered (k : Fin 8) (code : ResultCode) : Trailing fun u => u.unheld k ∧ u.answered k code := by
  have step : ∀ u v : State, u.Goes true (fun j => j ≠ k) v → u.unheld k ∧ u.answered k code → v.unheld k ∧ v.answered k code := by
    rintro u v ⟨l, goes⟩ ⟨unheld, copy, state, result⟩
    obtain ⟨stays, slot, bytes⟩ := State.Follows.spares (l := l) ⟨[], by rwa [List.append_nil]⟩ unheld
    exact ⟨stays, by rw [slot, copy], by rw [bytes _ (by omega) (by omega), state], by rw [bytes _ (by omega) (by omega), result]⟩
  exact {
    evaluate := fun u => step u _ (State.goes_evaluate u)
    droop := fun u x => step u _ (State.follows_clearDroop u x).goes
    budget := fun u => step u _ (State.follows_recomputeBudget u).goes
    left := fun u => step u _ (State.follows_pathLeft u).goes
    prospect := fun u v => step u _ (State.follows_of_owners_kept (s := u) (t := u.withProspect v) rfl rfl rfl rfl rfl).goes
    page := fun u x => step u _ (State.follows_rewritePage u x).goes
    call := fun u p => step u _ ((State.goes_callSelection u p).trans (State.served_apply _ p).follows.goes) }

theorem State.answered_complete (s : State) (k : Fin 8) (code : ResultCode) (d : List Byte) : (s.complete k code d).answered k code :=
  ⟨congrArg Slot.copy ((s.exch.slot_complete k k code d).trans (if_pos rfl)), s.exch.readByte_complete_state k code d,
    s.exch.readByte_complete_head k code d 2 (by decide)⟩

end

end Sys2Proof.Machine
end

/-! # Ports that calls for selection leave be, and their engines (R39, R43, R46, R63) -/

section
namespace Sys2Proof.Machine

section
variable {s t u v : State} {p q : LinePort} {e : EngineId} {f : OutFrame}

/-! ### Records that a call for selection leaves as they are (R63) -/

/-- A call for selection changes nothing of the record: no image, a state without selection, or held, released or barred. -/
def PortRecord.unmoved (r : PortRecord) : Prop :=
  r.image = none ∨ r.state = .empty ∨ r.state = .settling ∨ r.state = .asking ∨ r.state = .faulted ∨
    r.blocked = true ∧ r.state ≠ .shifting

theorem State.callSelection_unmoved (h : (s.port p).unmoved) : s.callSelection p = s := by
  unfold State.callSelection
  rcases h with h | h | h | h | h | ⟨h, state⟩
  · simp [h]
  · simp [h]
  · simp [h]
  · simp [h]
  · simp [h]
  · cases k : (s.port p).state <;> simp_all

theorem PortRecord.unmoved_sansEngine (r : PortRecord) : r.sansEngine.unmoved ↔ r.unmoved := Iff.rfl

/-- A record that calls for selection leave as it is stays so, but for what the engines do with it. -/
theorem trailing_unmoved {r : PortRecord} (h : r.unmoved) : Trailing fun u => (u.port p).sansEngine = r.sansEngine := by
  refine .of_owners (fun u v same h => by rwa [State.port, same.ports]) fun u q k => ?_
  rw [(State.served_apply _ q).port p]
  by_cases here : p = q
  · subst here
    rw [State.callSelection_unmoved, k]
    rw [← PortRecord.unmoved_sansEngine, k]
    exact h
  · rw [State.othersKept_callSelection u p here, k]

/-! ### A port that other ports' engines leave be -/

/-- Nothing about a port has changed: its record, its line, an engine at work, an entry in the queue, and no engine or entry
come up. -/
structure State.aside (p : LinePort) (u v : State) : Prop where
  port : v.port p = u.port p
  line : v.line p = u.line p
  engine : ∀ e, (u.engine e).state ≠ .free → v.engine e = u.engine e
  queue : ∀ x, x ∈ u.queue → x ∈ v.queue
  unqueued : u.queued p = false → v.queued p = false
  unleased : u.engineOf p = none → v.engineOf p = none

theorem State.aside.refl (s : State) : State.aside p s s := ⟨rfl, rfl, fun _ _ => rfl, fun _ h => h, id, id⟩

theorem State.aside.trans (h : State.aside p s t) (k : State.aside p t u) : State.aside p s u where
  port := k.port.trans h.port
  line := k.line.trans h.line
  engine e busy := (k.engine e (by rwa [h.engine e busy])).trans (h.engine e busy)
  queue x hx := k.queue x (h.queue x hx)
  unqueued hx := k.unqueued (h.unqueued hx)
  unleased hx := k.unleased (h.unleased hx)

theorem mem_joinQueue {l : List QueueEntry} {k : LeaseKind} {x : QueueEntry} : x ∈ joinQueue l p k ↔ x = ⟨p, k⟩ ∨ x ∈ l := by
  cases k with
  | hail =>
    have split : x ∈ l ↔ x ∈ l ∧ x.cls = .hail ∨ x ∈ l ∧ x.cls = .send := by
      cases x.cls <;> simp
    simp only [joinQueue, joinHail, List.mem_append, List.mem_filter, List.mem_cons, decide_eq_true_eq]
    rw [split]
    tauto
  | send =>
    simp only [joinQueue, List.mem_append, List.mem_singleton]
    exact or_comm

theorem State.queued_iff : s.queued p = true ↔ ∃ k, (⟨p, k⟩ : QueueEntry) ∈ s.queue := by
  simp only [State.queued, List.any_eq_true, decide_eq_true_eq]
  constructor
  · rintro ⟨x, mem, rfl⟩
    exact ⟨x.cls, mem⟩
  · rintro ⟨k, mem⟩
    exact ⟨_, mem, rfl⟩

theorem State.queued_eq_false : s.queued p = false ↔ ∀ k, (⟨p, k⟩ : QueueEntry) ∉ s.queue := by
  rw [← Bool.not_eq_true, State.queued_iff, not_exists]

theorem State.aside_beginLease (ne : q ≠ p) (free : (s.engine e).state = .free) (k : LeaseKind) :
    State.aside p s (s.beginLease e q k) where
  port := (State.beginLease_port_of_ne s (Ne.symm ne) e k).1
  line := (State.beginLease_port_of_ne s (Ne.symm ne) e k).2
  engine d busy := State.beginLease_engine_of_ne s (fun same => busy (by rw [same]; exact free)) q k
  queue x hx := by rwa [(State.beginLease_fields s e q k).1]
  unqueued hx := by rwa [State.queued, (State.beginLease_fields s e q k).1]
  unleased hx := by
    rcases s.beginLease_cases e q k with ⟨-, -, same⟩ | ⟨-, -, lasts⟩
    · rw [State.engineOf_eq_none] at hx ⊢
      intro d
      by_cases here : d = e
      · subst here
        rw [same, State.missedBy_setEngine]
        rw [State.engine_setEngine_self]
        simp [Engine.freed]
      · rw [State.beginLease_engine_of_ne s here]
        exact hx d
    · exact State.engineOf_beginLease_of_ne hx ne e k lasts

theorem State.aside_joinQueue (ne : q ≠ p) (k : LeaseKind) : State.aside p s (s.withQueue (joinQueue s.queue q k)) where
  port := rfl
  line := rfl
  engine _ _ := rfl
  queue _ hx := mem_joinQueue.mpr (.inr hx)
  unqueued hx := by
    rw [State.queued_eq_false] at hx ⊢
    intro c hc
    rcases mem_joinQueue.mp hc with same | mem
    · cases same
      exact ne rfl
    · exact hx c mem
  unleased hx := hx

theorem State.aside_apply (ne : q ≠ p) : State.aside p s (s.apply q) := by
  unfold State.apply
  split
  · dsimp only
    split
    next free => exact State.aside_beginLease (e := .e0) ne free _
    · split
      next free => exact State.aside_beginLease (e := .e1) ne free _
      · exact State.aside_joinQueue ne _
  · exact .refl s

theorem State.aside_callSelection (ne : q ≠ p) : State.aside p s (s.callSelection q) where
  port := State.othersKept_callSelection s p ne.symm
  line := by rw [State.line, State.callSelection_lines, State.line]
  engine e _ := by rw [State.engine, State.callSelection_engines, State.engine]
  queue x hx := by rwa [State.callSelection_queue]
  unqueued hx := by rwa [State.queued, State.callSelection_queue]
  unleased hx := by rwa [State.engineOf_congr (State.callSelection_engines s q)]

/-- The port will not apply for an engine: one is at work for it, it waits, or it is not attached (R39). -/
def State.placed (s : State) (p : LinePort) : Prop :=
  (∃ e, (s.engine e).state ≠ .free ∧ (s.engine e).lease.map Lease.port = some p) ∨ s.queued p = true ∨
    s.attached (.line p) = false

theorem State.engineOf_ne_none (h : (s.engine e).lease.map Lease.port = some p) : s.engineOf p ≠ none := fun none =>
  State.engineOf_eq_none.mp none e h

theorem State.apply_placed (h : s.placed p) : s.apply p = s := by
  rcases h with ⟨e, -, lease⟩ | queued | absent
  · unfold State.apply
    rw [Option.isNone_eq_false_iff.mpr (Option.isSome_iff_ne_none.mpr (State.engineOf_ne_none lease))]
    simp
  · unfold State.apply
    simp [queued]
  · exact State.apply_idle (by rw [State.needsEngine, absent, Bool.false_and])

theorem State.placed.of_aside (h : s.placed p) (k : State.aside p s t) (trackers : t.trackers = s.trackers) : t.placed p := by
  rcases h with ⟨e, busy, lease⟩ | queued | absent
  · exact .inl ⟨e, by rwa [k.engine e busy], by rwa [k.engine e busy]⟩
  · obtain ⟨c, mem⟩ := State.queued_iff.mp queued
    exact .inr (.inl (State.queued_iff.mpr ⟨c, k.queue _ mem⟩))
  · exact .inr (.inr (by rwa [State.attached, State.tracker, trackers]))

/-- A port with an engine or an entry, or none attached, that calls for selection leave be: all that follows an event leaves
it be. -/
theorem trailing_aside (still : (t.port p).unmoved) (placed : t.placed p) :
    Trailing fun v => State.aside p t v ∧ v.trackers = t.trackers := by
  refine .of_owners (fun u v same h => ⟨h.1.trans ?_, same.trackers.trans h.2⟩) fun u q h => ?_
  · exact ⟨by rw [State.port, same.ports, State.port], by rw [State.line, same.lines, State.line],
      fun e _ => by rw [State.engine, same.engines, State.engine], fun x hx => by rwa [same.queue],
      fun hx => by rwa [State.queued, same.queue], fun hx => by rwa [State.engineOf_congr same.engines]⟩
  · obtain ⟨aside, trackers⟩ := h
    by_cases here : q = p
    · subst here
      rw [State.callSelection_unmoved (by rw [aside.port]; exact still), State.apply_placed (placed.of_aside aside trackers)]
      exact ⟨aside, trackers⟩
    · exact ⟨aside.trans ((State.aside_callSelection here).trans (State.aside_apply here)),
        by rw [State.apply_trackers, State.callSelection_trackers, trackers]⟩

/-! ### A frame that is sent or waits (R38, R46) -/

/-- A frame in the slot of the port that takes the engine. -/
theorem State.beginLease_send (slot : (s.port p).slot = some f) (quiet : (s.line p).hail = false) :
    ((s.line p).cond = .idle → s.begins (s.beginLease e p .send) e p f) ∧
      ((s.line p).cond ≠ .idle → s.beginLease e p .send = s.setEngine e ⟨.waitLine, some ⟨p, .send⟩, false, [], none⟩) := by
  have unmissed : ∀ v : State, v.missedBy p .send = v := fun v => by
    rw [State.missedBy, if_neg (by simp)]
  rw [State.beginLease_eq, unmissed]
  generalize leased : s.withEngines (s.engines.set e ⟨.waitLine, some ⟨p, .send⟩, false, [], none⟩) = w
  have port : w.port p = s.port p := by rw [← leased]; rfl
  have line : w.line p = s.line p := by rw [← leased]; rfl
  have engine : w.engine e = ⟨.waitLine, some ⟨p, .send⟩, false, [], none⟩ := by
    rw [← leased]
    cases e <;> rfl
  refine ⟨fun idle => ?_, fun busy => ?_⟩
  · rw [State.serve_send (by rw [line, quiet]) (by rw [port, slot]) (by rw [line, idle]), State.takeFrame, frameBytes_eq_sentBytes, port,
      engine]
    refine ⟨?_, ?_, ?_, ?_⟩
    · cases e <;> rfl
    · cases p <;> rfl
    · cases p <;> rfl
    · cases p <;> rfl
  · rw [State.serve_wait (by rw [line, quiet]) (by rw [port, slot]) (by rw [line]; exact busy), engine, ← leased]
    cases e <;> rfl

theorem State.begins.sends (h : s.begins t e p f) : t.sends p f := by
  obtain ⟨engine, -⟩ := h
  exact .inr ⟨e, _, by rw [engine]; rfl, by rw [engine], by rw [engine]⟩

/-- A lease leaves the frame in the slot, or the engine sends it. -/
theorem State.sends_beginLease (slot : (s.port p).slot = some f) (e : EngineId) (k : LeaseKind) :
    (s.beginLease e p k).sends p f := by
  rw [State.beginLease_eq]
  generalize leased : s.withEngines (s.engines.set e ⟨.waitLine, some ⟨p, k⟩, false, [], none⟩) = w
  obtain ⟨r, missed, kept⟩ := w.missedBy_rest p k
  have filled : ((w.missedBy p k).port p).slot = some f := by
    rw [missed, State.port_setPort_self, kept, ← slot, ← leased]
    rfl
  have engine : ((w.missedBy p k).engine e).lease = some ⟨p, k⟩ := by
    rw [missed, ← leased]
    cases e <;> rfl
  generalize w.missedBy p k = x at filled engine
  cases hail : (x.line p).hail with
  | true =>
    rw [State.serve_hail hail]
    exact .inl filled
  | false =>
    by_cases idle : (x.line p).cond = .idle
    · rw [State.serve_send hail filled idle, State.takeFrame, frameBytes_eq_sentBytes]
      refine .inr ⟨e, (x.port p).tagCounter, ?_, ?_, ?_⟩
      · show Option.map Lease.port (((x.setPort p _).setEngine e _).engine e).lease = _
        rw [State.engine_setEngine_self]
        exact congrArg _ engine
      · show (((x.setPort p _).setEngine e _).engine e).state = _
        rw [State.engine_setEngine_self]
      · show (((x.setPort p _).setEngine e _).engine e).tx = _
        rw [State.engine_setEngine_self]
    · rw [State.serve_wait hail filled idle]
      exact .inl filled

theorem State.sends_apply (h : s.sends p f) (q : LinePort) : (s.apply q).sends p f := by
  by_cases here : q = p
  · subst here
    rcases h with slot | ⟨e, tag, lease, sending, tx⟩
    · unfold State.apply
      split
      · dsimp only
        split
        · exact State.sends_beginLease slot _ _
        · split
          · exact State.sends_beginLease slot _ _
          · exact .inl slot
      · exact .inl slot
    · unfold State.apply
      rw [Option.isNone_eq_false_iff.mpr (Option.isSome_iff_ne_none.mpr (State.engineOf_ne_none lease))]
      simp only [Bool.and_false, Bool.false_and, Bool.false_eq_true, if_false]
      exact .inr ⟨e, tag, lease, sending, tx⟩
  · have aside := State.aside_apply (s := s) here
    rcases h with slot | ⟨e, tag, lease, sending, tx⟩
    · exact .inl (by rw [aside.port, slot])
    · have same := aside.engine e (by rw [sending]; simp)
      exact .inr ⟨e, tag, by rw [same, lease], by rw [same, sending], by rw [same, tx]⟩

theorem State.sends_callSelection_of_ne (h : s.sends p f) (ne : q ≠ p) : (s.callSelection q).sends p f := by
  have aside := State.aside_callSelection (s := s) ne
  rcases h with slot | ⟨e, tag, lease, sending, tx⟩
  · exact .inl (by rw [aside.port, slot])
  · have same := aside.engine e (by rw [sending]; simp)
    exact .inr ⟨e, tag, by rw [same, lease], by rw [same, sending], by rw [same, tx]⟩

theorem State.sends_congr (engines : t.engines = s.engines) (slot : (t.port p).slot = (s.port p).slot) (h : s.sends p f) : t.sends p f := by
  rcases h with filled | ⟨e, tag, lease, sending, tx⟩
  · exact .inl (slot.trans filled)
  · exact .inr ⟨e, tag, by rwa [State.engine, engines], by rwa [State.engine, engines], by rwa [State.engine, engines]⟩

/-- A frame of a port that calls for selection leave be goes on being sent or waiting. -/
theorem trailing_sends {r : PortRecord} (still : r.unmoved) :
    Trailing fun v => (v.port p).sansEngine = r.sansEngine ∧ v.sends p f := by
  refine .of_owners (fun u v same h => ⟨by rw [State.port, same.ports]; exact h.1, ?_⟩) fun u q h => ⟨?_, ?_⟩
  · exact State.sends_congr same.engines (by rw [State.port, same.ports, State.port]) h.2
  · exact (trailing_unmoved still).call u q h.1
  · refine State.sends_apply ?_ q
    by_cases here : q = p
    · subst here
      rw [State.callSelection_unmoved (by rw [← PortRecord.unmoved_sansEngine, h.1]; exact still)]
      exact h.2
    · exact State.sends_callSelection_of_ne h.2 here

/-! ### A frame put into the slot (R38, R39) -/

/-- What the application of a port with a frame in its slot brings. -/
theorem puts_apply (slot : (t.port p).slot = some f) (counter : (t.port p).tagCounter = (s.port p).tagCounter)
    (line : t.line p = s.line p) (engines : t.engines = s.engines) (queue : t.queue = s.queue)
    (trackers : t.attached (.line p) = s.attached (.line p)) : s.puts (t.apply p) p f := by
  refine ⟨State.sends_apply (.inl slot) p, fun here => ⟨fun e lease busy => ?_, fun k unleased entry => ?_, fun unleased unqueued quiet => ?_⟩⟩
  · have placed : t.engineOf p ≠ none := by rw [State.engineOf_congr engines, lease]; simp
    have same : t.apply p = t := by
      unfold State.apply
      rw [Option.isNone_eq_false_iff.mpr (Option.isSome_iff_ne_none.mpr placed)]
      simp
    rw [same]
    exact ⟨slot, by rw [State.engine, engines, State.engine]⟩
  · have queued : t.queued p = true := State.queued_iff.mpr ⟨k, by rwa [queue]⟩
    rw [State.apply_placed (.inr (.inl queued))]
    exact ⟨slot, by rwa [queue]⟩
  · have needs : t.needsEngine p = true := by
      rw [State.needsEngine_slot (by rw [trackers, here]) (by rw [line, quiet]), slot]
      rfl
    have free : t.engineOf p = none := by rw [State.engineOf_congr engines, unleased]
    have unqueued : t.queued p = false := by rwa [State.queued, queue]
    have kind : (if (t.line p).hail then LeaseKind.hail else .send) = .send := by rw [line, quiet]; rfl
    have begun : ∀ e, s.takes e → t.apply p = t.beginLease e p .send := fun e takes => by
      rw [State.apply_takes needs free unqueued (e := e) (by unfold State.takes; rw [engines]; exact takes), kind]
    refine ⟨fun e takes idle => ?_, fun e takes stray => ?_, fun busy => ?_⟩
    · rw [begun e takes]
      have begins := (State.beginLease_send (e := e) slot (by rw [line, quiet])).1 (by rw [line, idle])
      unfold State.begins at begins ⊢
      rwa [counter] at begins
    · rw [begun e takes, (State.beginLease_send (e := e) slot (by rw [line, quiet])).2 (by rw [line, stray]; simp)]
      exact ⟨State.engine_setEngine_self _ _ _, slot, counter, line⟩
    · rw [State.apply_waits needs free unqueued (by intro e; rw [State.engine, engines]; exact busy e), kind]
      exact ⟨slot, mem_joinQueue.mpr (.inl rfl), engines, counter, line⟩

/-- What a frame put into the slot of a port has brought stands, where calls for selection leave the port be. -/
theorem State.puts.trails (h : s.puts u p f) (still : (u.port p).unmoved) (n : Nat) {pages : Bool} :
    s.puts (settle pages n v u) p f := by
  obtain ⟨sends, more⟩ := h
  have aside : u.placed p → State.aside p u (settle pages n v u) := fun placed =>
    ((trailing_aside still placed).settle (s := v) n ⟨.refl u, rfl⟩).1
  refine ⟨((trailing_sends still).settle (s := v) n ⟨rfl, sends⟩).2, fun here => ?_⟩
  obtain ⟨leased, queued, free⟩ := more here
  refine ⟨fun e lease busy => ?_, fun k unleased entry => ?_, fun unleased unqueued quiet => ?_⟩
  · obtain ⟨slot, engine⟩ := leased e lease busy
    have held : (s.engine e).lease.map Lease.port = some p := by
      unfold State.engineOf at lease
      split at lease
      · cases lease
        assumption
      · split at lease
        · cases lease
          assumption
        · cases lease
    have kept := aside (.inl ⟨e, by rwa [engine], by rwa [engine]⟩)
    exact ⟨by rw [kept.port, slot], by rw [kept.engine e (by rwa [engine]), engine]⟩
  · obtain ⟨slot, member⟩ := queued k unleased entry
    have kept := aside (.inr (.inl (State.queued_iff.mpr ⟨k, member⟩)))
    exact ⟨by rw [kept.port, slot], kept.queue _ member⟩
  · obtain ⟨idle, stray, busy⟩ := free unleased unqueued quiet
    refine ⟨fun e takes cond => ?_, fun e takes cond => ?_, fun all => ?_⟩
    · obtain ⟨engine, slot, counter, line⟩ := idle e takes cond
      have kept := aside (.inl ⟨e, by rw [engine]; simp, by rw [engine]; rfl⟩)
      exact ⟨by rw [kept.engine e (by rw [engine]; simp), engine], by rw [kept.port, slot], by rw [kept.port, counter],
        by rw [kept.line, line]⟩
    · obtain ⟨engine, slot, counter, line⟩ := stray e takes cond
      have kept := aside (.inl ⟨e, by rw [engine]; simp, by rw [engine]; rfl⟩)
      exact ⟨by rw [kept.engine e (by rw [engine]; simp), engine], by rw [kept.port, slot], by rw [kept.port, counter],
        by rw [kept.line, line]⟩
    · obtain ⟨slot, member, engines, counter, line⟩ := busy all
      have kept := aside (.inr (.inl (State.queued_iff.mpr ⟨_, member⟩)))
      have same : ∀ e, (settle pages n v u).engine e = s.engine e := fun e => by
        have now : u.engine e = s.engine e := by rw [State.engine, engines, State.engine]
        rw [kept.engine e (by rw [now]; exact all e), now]
      refine ⟨by rw [kept.port, slot], kept.queue _ member, ?_, by rw [kept.port, counter], by rw [kept.line, line]⟩
      have first := same .e0
      have second := same .e1
      generalize settle pages n v u = w at first second
      unfold State.engine at first second
      cases hw : w.engines with
      | mk a b =>
        cases hs : s.engines with
        | mk c d =>
          rw [hw, hs] at first second
          exact congrArg₂ Engines.mk first second

end

end Sys2Proof.Machine
end

/-! # What a call for selection makes of a port record (R63, R64, R85 to R91) -/

section
namespace Sys2Proof.Machine

/-- A level without its score. -/
def Level.bare (l : Level) : Level := { l with score := 0 }

/-- An image without scores. -/
def Image.bare (i : Image) : Image := { i with levels := i.levels.map Level.bare }

/-- A contract without its shared flag. -/
def Contract.unshared (c : Contract) : Contract := { c with shared := false }

section
variable {s t u v : State} {p : LinePort} {q : Policy} {r w : PortRecord} {x : Connector}

/-! ### Scores do not bear on a claim -/

theorem candidatesFrom_bare (q : Policy) (x : Connector) (n : Nat) (l : List Level) :
    candidatesFrom q x n (l.map Level.bare) = (candidatesFrom q x n l).map fun c => { c with level := c.level.bare } := by
  induction l generalizing n with
  | nil => rfl
  | cons a l ih =>
    have chosen : chosenVolts q a.bare = chosenVolts q a := rfl
    have score : levelScore q x a.bare = levelScore q x a := rfl
    simp only [List.map_cons, candidatesFrom, chosen, score]
    cases chosenVolts q a with
    | none => exact ih _
    | some v => simp only [List.map_cons, ih]

theorem bestOf_bare (l : List Candidate) :
    bestOf (l.map fun c => { c with level := c.level.bare }) = (bestOf l).map fun c => { c with level := c.level.bare } := by
  cases l with
  | nil => rfl
  | cons a l =>
    simp only [List.map_cons, bestOf, Option.map_some, Option.some.injEq]
    induction l generalizing a with
    | nil => rfl
    | cons b l ih =>
      simp only [List.map_cons, List.foldl_cons]
      have same : beats { b with level := b.level.bare } { a with level := a.level.bare } = beats b a := rfl
      rw [same]
      cases beats b a with
      | true => exact ih b
      | false => exact ih a

theorem winner_bare (q : Policy) (x : Connector) (l : List Level) :
    winner q x (l.map Level.bare) = (winner q x l).map fun c => { c with level := c.level.bare } := by
  rw [winner, candidatesFrom_bare, bestOf_bare, winner]

theorem Image.bare_level (i : Image) (n : Nat) : i.bare.level n = (i.level n).map Level.bare := by
  unfold Image.level Image.bare
  split
  · rfl
  · rw [List.getElem?_map]

theorem pinShared_bare (i : Image) (n : Pin) : pinShared (some i.bare) n = pinShared (some i) n := by
  unfold pinShared
  dsimp only
  rw [Image.bare_level]
  cases i.level n.level <;> rfl

theorem composeClaim_bare (q : Policy) (p : LinePort) (primary : Bool) (i : Image) (pin : Option Pin) :
    composeClaim q p primary i.bare pin = composeClaim q p primary i pin := by
  cases pin with
  | some n => simp only [composeClaim, pinShared_bare]
  | none =>
    simp only [composeClaim]
    rw [show i.bare.levels = i.levels.map Level.bare from rfl, winner_bare]
    cases winner q (.line p) i.levels with
    | none => rfl
    | some c => rfl

theorem composeClaim_congr {i j : Image} (same : i.bare = j.bare) (q : Policy) (p : LinePort) (primary : Bool) (pin : Option Pin) :
    composeClaim q p primary i pin = composeClaim q p primary j pin := by
  rw [← composeClaim_bare, same, composeClaim_bare]

theorem rescore_image (q : Policy) (p : LinePort) (r : PortRecord) :
    (rescore q p r).image.map Image.bare = r.image.map Image.bare := by
  rw [rescore, Option.map_map]
  cases r.image with
  | none => rfl
  | some i =>
    simp only [Option.map_some, Function.comp_apply, Image.bare, List.map_map]
    rfl

/-! ### The outcome of a selection on the record -/

/-- The claims and the comparison of a selection that runs on the record `r`, applied to the record `w` (R64, R91): the claim
is made, the live contract stands with the claim's shared flag, or there is no candidate and the port rests. A REFRESH or PIN in
flight may have completed. -/
inductive PortRecord.Applied (q : Policy) (p : LinePort) (r w : PortRecord) : PortRecord → Prop
  | claims {i : Image} {primary : Bool} {k : Claim} (image : r.image = some i)
      (composed : composeClaim q p primary i r.pin = some k) : Applied q p r w (w.makeClaim k)
  | stands {i : Image} {primary : Bool} {k : Claim} {c : Contract} {f : Option PortRequest} (image : r.image = some i)
      (composed : composeClaim q p primary i r.pin = some k) (live : r.live = some c) (carries : c.carries k = true)
      (flight : f = r.inFlight ∨ f = none) :
      Applied q p r w { w.setShared k.shared with state := .bound, inFlight := f }
  | rests {i : Image} {primary : Bool} {f : Option PortRequest} (image : r.image = some i)
      (composed : composeClaim q p primary i r.pin = none) (flight : f = r.inFlight ∨ f = none) :
      Applied q p r w { w with state := w.resting, inFlight := f }

/-- What a call for selection makes of a record (R63). -/
inductive PortRecord.Calls (q : Policy) (p : LinePort) (r : PortRecord) : PortRecord → Prop
  | unmoved (still : r.unmoved) : Calls q p r r
  | deferred (image : r.image ≠ none) (shifting : r.state = .shifting) : Calls q p r { r with deferred := true }
  | keeps {i : Image} {primary : Bool} {k : Claim} (image : r.image = some i) (claimed : r.state = .claimed)
      (free : r.blocked = false) (composed : composeClaim q p primary i r.pin = some k) (carries : r.stagedCarries k = true) :
      Calls q p r (rescore q p r)
  | rested {w : PortRecord} (state : r.state = .base ∨ r.state = .bound) (free : r.blocked = false)
      (applied : PortRecord.Applied q p r (rescore q p r) w) : Calls q p r w
  | retired {w : PortRecord} (claimed : r.state = .claimed) (free : r.blocked = false)
      (applied : PortRecord.Applied q p r (rescore q p r).retire w) : Calls q p r w

theorem State.port_completePort (s : State) (p : LinePort) (kinds : List PortRequestKind) (c : ResultCode) :
    ∃ f, (s.completePort p kinds c).port p = { s.port p with inFlight := f } ∧ (f = (s.port p).inFlight ∨ f = none) := by
  rcases State.completePort_cases s p kinds c with ⟨_, -, -, e⟩ | ⟨-, e⟩ <;> rw [e]
  · exact ⟨none, State.port_setPort_self s p _, .inr rfl⟩
  · exact ⟨_, rfl, .inl rfl⟩

/-- The record after a comparison's outcome has been applied (R64). -/
theorem State.port_applyOutcome {i : Image} {primary : Bool} (u : State) (image : r.image = some i)
    (live : (u.port p).live = r.live) (flight : (u.port p).inFlight = r.inFlight) :
    PortRecord.Applied q p r (u.port p)
      ((u.applyOutcome p (compareClaim r.live (composeClaim q p primary i r.pin))).port p) := by
  cases composed : composeClaim q p primary i r.pin with
  | none =>
    obtain ⟨f, e, kept⟩ := State.port_completePort ((u.toRest p).journal 0x11 (lineByte p)
      [byte (((u.port p).image.map fun i => i.levels.length).getD 0)]) p [.refresh] .noUsableLevel
    have rested : ((u.toRest p).port p) = { u.port p with state := (u.port p).resting } := State.port_setPort_self _ _ _
    have record : ((u.applyOutcome p .noCandidate).port p) = { u.port p with state := (u.port p).resting, inFlight := f } := by
      refine e.trans ?_
      show { ((u.toRest p).port p) with inFlight := f } = _
      rw [rested]
    have kept : f = r.inFlight ∨ f = none := by
      refine kept.imp (fun h => h.trans ?_) id
      show ((u.toRest p).port p).inFlight = _
      rw [rested]
      exact flight
    show PortRecord.Applied q p r (u.port p) ((u.applyOutcome p .noCandidate).port p)
    rw [record]
    exact .rests image composed kept
  | some k =>
    have claims : PortRecord.Applied q p r (u.port p) ((u.applyOutcome p (.claim k)).port p) := by
      rw [State.applyOutcome, State.port_setPort_self]
      exact .claims image composed
    unfold compareClaim
    cases hl : r.live with
    | none => exact claims
    | some c =>
      dsimp only
      cases carries : c.carries k with
      | false => exact claims
      | true =>
        have negotiated : c.negotiated = true := by
          unfold Contract.carries at carries
          cases h : c.negotiated with
          | true => rfl
          | false => simp [h] at carries
        have shared : (u.port p).setShared k.shared = { u.port p with
            live := ((u.port p).setShared k.shared).live, pathFault := ((u.port p).setShared k.shared).pathFault } := rfl
        have resting : ((u.port p).setShared k.shared).resting = .bound := by
          have : ((u.port p).setShared k.shared).live = some { c with shared := k.shared } := by
            simp only [PortRecord.setShared, PortRecord.setLive, live, hl, Option.map_some]
          rw [PortRecord.resting, this]
          exact if_pos negotiated
        have rested : (((u.setPort p ((u.port p).setShared k.shared)).toRest p).port p) =
            { (u.port p).setShared k.shared with state := .bound } := by
          rw [State.toRest, State.port_setPort_self, State.port_setPort_self, resting]
        rw [if_pos rfl, State.applyOutcome]
        generalize (u.setPort p ((u.port p).setShared k.shared)).toRest p = a at rested
        obtain ⟨f, first, kept⟩ := State.port_completePort a p [.refresh] .ok
        have kept : f = r.inFlight ∨ f = none := kept.imp (fun h => h.trans (by rw [rested]; exact flight)) id
        generalize a.completePort p [.refresh] .ok = b at first
        have first : b.port p = { (u.port p).setShared k.shared with state := .bound, inFlight := f } := by rw [first, rested]
        split
        · obtain ⟨g, second, again⟩ := State.port_completePort b p [.pin] .ok
          rw [second, first]
          refine .stands image composed hl carries ?_
          rcases again with same | none
          · rw [same, first]
            exact kept
          · exact .inr none
        · rw [first]
          exact .stands image composed hl carries kept

theorem State.select_outcome (u : State) {i : Image} (image : (u.port p).image = some i) :
    ∃ primary, (u.select p).2 = compareClaim (u.port p).live (composeClaim u.policy p primary i (u.port p).pin) := by
  unfold State.select
  dsimp only
  generalize ht : (u.setPort p (rescore u.policy p (u.port p))).recomputeProspect = t
  have port : t.port p = rescore u.policy p (u.port p) := by
    rw [← ht]
    exact State.port_setPort_self u p _
  have policy : t.policy = u.policy := by rw [← ht]; rfl
  have scored : (t.port p).image.map Image.bare = some i.bare := by rw [port, rescore_image, image]; rfl
  cases hj : (t.port p).image with
  | none => rw [hj] at scored; cases scored
  | some j =>
    rw [hj] at scored
    refine ⟨t.role p, ?_⟩
    dsimp only
    rw [policy, composeClaim_congr (Option.some.inj scored), port]
    rfl

/-- The record after a selection has been applied to it. -/
theorem State.port_selectApply (u : State) {i : Image} (image : (u.port p).image = some i) :
    PortRecord.Applied u.policy p (u.port p) (rescore u.policy p (u.port p)) (((u.select p).1.applyOutcome p (u.select p).2).port p) := by
  obtain ⟨primary, outcome⟩ := u.select_outcome image
  have record := u.port_select p
  rw [outcome]
  generalize (u.select p).1 = t at record
  have applied := State.port_applyOutcome (q := u.policy) (r := u.port p) (p := p) (primary := primary) t image (by rw [record]; rfl)
    (by rw [record]; rfl)
  rwa [record] at applied

theorem PortRecord.retire_live (r : PortRecord) : r.retire.live = r.live := by
  unfold PortRecord.retire PortRecord.withdrawClaim
  split <;> rfl

/-- What a call for selection makes of the record of its port. -/
theorem State.port_callSelection (u : State) (p : LinePort) :
    PortRecord.Calls u.policy p (u.port p) ((u.callSelection p).port p) := by
  by_cases still : (u.port p).unmoved
  · rw [State.callSelection_unmoved still]
    exact .unmoved still
  · simp only [PortRecord.unmoved, not_or, not_and_or, Bool.not_eq_true] at still
    obtain ⟨imaged, empty, settling, asking, faulted, free⟩ := still
    obtain ⟨i, image⟩ := Option.ne_none_iff_exists'.mp imaged
    unfold State.callSelection
    dsimp only
    rw [if_neg (by simp [image])]
    cases state : (u.port p).state with
    | shifting =>
      dsimp only
      rw [State.port_setPort_self]
      have deferred := PortRecord.Calls.deferred (q := u.policy) (p := p) imaged state
      rwa [state] at deferred
    | base =>
      have free : (u.port p).blocked = false := free.resolve_right (by simp [state])
      dsimp only
      rw [if_neg (by simp [free])]
      exact .rested (.inl state) free (u.port_selectApply image)
    | bound =>
      have free : (u.port p).blocked = false := free.resolve_right (by simp [state])
      dsimp only
      rw [if_neg (by simp [free])]
      exact .rested (.inr state) free (u.port_selectApply image)
    | claimed =>
      have free : (u.port p).blocked = false := free.resolve_right (by simp [state])
      dsimp only
      rw [if_neg (by simp [free])]
      obtain ⟨primary, outcome⟩ := u.select_outcome image
      have record := u.port_select p
      have anew : PortRecord.Calls u.policy p (u.port p)
          ((((u.select p).1.setPort p ((u.select p).1.port p).retire).applyOutcome p (u.select p).2).port p) := by
        rw [outcome]
        generalize (u.select p).1 = t at record
        have applied := State.port_applyOutcome (q := u.policy) (r := u.port p) (p := p) (primary := primary)
          (t.setPort p (t.port p).retire) image
          (by rw [State.port_setPort_self, PortRecord.retire_live, record]; rfl)
          (by rw [State.port_setPort_self, PortRecord.retire_inFlight, record]; rfl)
        rw [State.port_setPort_self, record] at applied
        exact .retired state free (by rw [record]; exact applied)
      cases composed : composeClaim u.policy p primary i (u.port p).pin with
      | none =>
        rw [composed] at outcome
        rw [outcome] at anew ⊢
        exact anew
      | some k =>
        cases h : (u.select p).2 with
        | claim c =>
          rw [h] at anew
          dsimp only
          split
          next carries =>
            have same : c = k := by
              rw [h, composed] at outcome
              unfold compareClaim at outcome
              cases hl : (u.port p).live with
              | none => rw [hl] at outcome; cases outcome; rfl
              | some l =>
                rw [hl] at outcome
                dsimp only at outcome
                split at outcome
                · cases outcome
                · cases outcome; rfl
            rw [record]
            exact .keeps image state free composed (same ▸ carries)
          · exact anew
        | noClaim shared => rw [h] at anew; exact anew
        | noCandidate => rw [h] at anew; exact anew
    | empty => exact absurd state empty
    | settling => exact absurd state settling
    | asking => exact absurd state asking
    | faulted => exact absurd state faulted

/-! ### What all calls keep of a record -/

/-- A property of the records of a port that no engine bears on, and that calls for selection keep. -/
theorem Trailing.of_record {R : PortRecord → Prop} (p : LinePort) (engines : ∀ r w, r.sansEngine = w.sansEngine → R r → R w)
    (call : ∀ q r w, PortRecord.Calls q p r w → R r → R w) : Trailing fun u => R (u.port p) := by
  refine .of_owners (fun u v same h => by rwa [State.port, same.ports]) fun u o h => ?_
  refine engines _ _ ((State.served_apply _ o).port p).symm ?_
  by_cases here : p = o
  · subst here
    exact call _ _ _ (u.port_callSelection p) h
  · rwa [State.othersKept_callSelection u p here]

/-- The part of a record that no selection touches. -/
def PortRecord.core (r : PortRecord) : PortRecord :=
  { r with
    state := .empty, live := none, staged := none, pathFault := false, timer := .stopped, claimTag := none, claimAttempts := 0
    slot := none, tagCounter := 0, missedHail := 0, inFlight := none, image := r.image.map Image.bare, deferred := false }

theorem PortRecord.core_retire (r : PortRecord) : r.retire.core = r.core := by
  unfold PortRecord.retire PortRecord.withdrawClaim
  split <;> rfl

theorem PortRecord.core_rescore (q : Policy) (p : LinePort) (r : PortRecord) : (rescore q p r).core = r.core := by
  unfold PortRecord.core
  rw [rescore_image]
  rfl

theorem PortRecord.Applied.core (h : PortRecord.Applied q p r w v') (same : w.core = r.core) : v'.core = r.core := by
  cases h with
  | claims _ _ => exact same
  | stands _ _ _ _ _ => exact same
  | rests _ _ _ => exact same

theorem PortRecord.Calls.core (h : PortRecord.Calls q p r w) : w.core = r.core := by
  cases h with
  | unmoved _ => rfl
  | deferred _ _ => rfl
  | keeps _ _ _ _ _ => exact PortRecord.core_rescore q p r
  | rested _ _ applied => exact applied.core (PortRecord.core_rescore q p r)
  | retired _ _ applied => exact applied.core ((PortRecord.core_retire _).trans (PortRecord.core_rescore q p r))

theorem PortRecord.core_of_sansEngine (h : r.sansEngine = w.sansEngine) : r.core = w.core := by
  have : ∀ a : PortRecord, a.core = a.sansEngine.core := fun _ => rfl
  rw [this r, this w, h]

theorem trailing_core (p : LinePort) (c : PortRecord) : Trailing fun u => (u.port p).core = c :=
  .of_record (R := fun r => r.core = c) p (fun _ _ same h => (PortRecord.core_of_sansEngine same).symm.trans h)
    fun _ _ _ calls h => calls.core.trans h

/-- The live contract keeps its figures; one that is not NEGOTIATED stands as it is. -/
theorem PortRecord.setShared_live (r : PortRecord) (b : Bool) :
    (r.setShared b).live.map Contract.unshared = r.live.map Contract.unshared := by
  simp only [PortRecord.setShared, PortRecord.setLive, Option.map_map]
  cases r.live <;> rfl

theorem PortRecord.Applied.live (h : PortRecord.Applied q p r w v') (same : w.live = r.live) :
    v'.live.map Contract.unshared = r.live.map Contract.unshared ∧
      ((∀ c, r.live = some c → c.negotiated = false) → v'.live = r.live) := by
  cases h with
  | claims _ _ => exact ⟨by rw [← same]; rfl, fun _ => same⟩
  | @stands i primary k c f _ _ live carries _ =>
    refine ⟨?_, fun plain => ?_⟩
    · show (w.setShared k.shared).live.map _ = _
      rw [PortRecord.setShared_live, same]
    · rw [Contract.carries, plain c live] at carries
      cases carries
  | rests _ _ _ => exact ⟨by rw [← same], fun _ => same⟩

theorem PortRecord.Calls.live (h : PortRecord.Calls q p r w) :
    w.live.map Contract.unshared = r.live.map Contract.unshared ∧
      ((∀ c, r.live = some c → c.negotiated = false) → w.live = r.live) := by
  cases h with
  | unmoved _ => exact ⟨rfl, fun _ => rfl⟩
  | deferred _ _ => exact ⟨rfl, fun _ => rfl⟩
  | keeps _ _ _ _ _ => exact ⟨rfl, fun _ => rfl⟩
  | rested _ _ applied => exact applied.live rfl
  | retired _ _ applied => exact applied.live (PortRecord.retire_live _)

theorem trailing_live (p : LinePort) (c : Option Contract) : Trailing fun u => (u.port p).live.map Contract.unshared = c :=
  .of_record (R := fun r => r.live.map Contract.unshared = c) p
    (fun r w same h => by rw [show w.live = w.sansEngine.live from rfl, ← same]; exact h)
    fun _ _ _ calls h => calls.live.1.trans h

theorem trailing_live_plain (p : LinePort) {c : Option Contract} (plain : ∀ k, c = some k → k.negotiated = false) :
    Trailing fun u => (u.port p).live = c :=
  .of_record (R := fun r => r.live = c) p (fun r w same h => by rw [show w.live = w.sansEngine.live from rfl, ← same]; exact h)
    fun _ _ _ calls h => (calls.live.2 (by rw [h]; exact plain)).trans h

theorem PortRecord.Applied.quiet (h : PortRecord.Applied q p r w v') (timer : w.timer = .stopped) (tag : w.claimTag = none) :
    v'.timer = .stopped ∧ v'.claimTag = none := by
  cases h with
  | claims _ _ => exact ⟨rfl, rfl⟩
  | stands _ _ _ _ _ => exact ⟨timer, tag⟩
  | rests _ _ _ => exact ⟨timer, tag⟩

theorem trailing_timer (p : LinePort) : Trailing fun u => (u.port p).timer = .stopped ∧ (u.port p).claimTag = none :=
  .of_record (R := fun r => r.timer = .stopped ∧ r.claimTag = none) p
    (fun r w same h => by
      have timer : w.timer = r.timer := (congrArg PortRecord.timer same).symm
      have tag : w.claimTag = r.claimTag := (congrArg PortRecord.claimTag same).symm
      rwa [timer, tag])
    fun q r w calls h => by
      cases calls with
      | unmoved _ => exact h
      | deferred _ _ => exact h
      | keeps _ _ _ _ _ => exact h
      | rested _ _ applied => exact applied.quiet h.1 h.2
      | retired _ _ applied => exact applied.quiet rfl rfl

theorem trailing_idle (p : LinePort) : Trailing fun u => (u.port p).inFlight = none :=
  .of_record (R := fun r => r.inFlight = none) p
    (fun r w same h => (congrArg PortRecord.inFlight same).symm.trans h)
    fun q r w calls h => by
      have applied : ∀ a b : PortRecord, a.inFlight = none → PortRecord.Applied q p r a b → b.inFlight = none := fun a b ha hb => by
        cases hb with
        | claims _ _ => exact ha
        | stands _ _ _ _ flight => exact flight.elim (fun e => e.trans h) id
        | rests _ _ flight => exact flight.elim (fun e => e.trans h) id
      cases calls with
      | unmoved _ => exact h
      | deferred _ _ => exact h
      | keeps _ _ _ _ _ => exact h
      | rested _ _ k => exact applied (rescore q p r) _ h k
      | retired _ _ k => exact applied (rescore q p r).retire _ ((PortRecord.retire_inFlight _).trans h) k

/-- A path_fault flag that is clear stays clear (R82). -/
theorem PortRecord.setShared_pathFault (h : r.pathFault = false) (b : Bool) : (r.setShared b).pathFault = false := by
  simp [PortRecord.setShared, PortRecord.setLive, h]

theorem PortRecord.retire_pathFault (r : PortRecord) : r.retire.pathFault = r.pathFault := by
  unfold PortRecord.retire PortRecord.withdrawClaim
  split <;> rfl

theorem trailing_faultless (p : LinePort) : Trailing fun u => (u.port p).pathFault = false :=
  .of_record (R := fun r => r.pathFault = false) p
    (fun r w same h => (congrArg PortRecord.pathFault same).symm.trans h)
    fun q r w calls h => by
      have applied : ∀ a b : PortRecord, a.pathFault = false → PortRecord.Applied q p r a b → b.pathFault = false := fun a b ha hb => by
        cases hb with
        | claims _ _ => exact ha
        | stands _ _ _ _ _ => exact PortRecord.setShared_pathFault ha _
        | rests _ _ _ => exact ha
      cases calls with
      | unmoved _ => exact h
      | deferred _ _ => exact h
      | keeps _ _ _ _ _ => exact h
      | rested _ _ k => exact applied (rescore q p r) _ h k
      | retired _ _ k => exact applied (rescore q p r).retire _ ((PortRecord.retire_pathFault _).trans h) k

/-- BASE, CLAIMED or BOUND: the states among which a selection moves a port (R63, R64). -/
def PortState.selects : PortState → Bool
  | .base => true
  | .claimed => true
  | .bound => true
  | _ => false

theorem PortRecord.resting_selects (r : PortRecord) : r.resting.selects = true := by
  unfold PortRecord.resting
  split
  · split <;> rfl
  · rfl

theorem PortRecord.Applied.selects (h : PortRecord.Applied q p r w v') : v'.state.selects = true := by
  cases h with
  | claims _ _ => rfl
  | stands _ _ _ _ _ => rfl
  | rests _ _ _ => exact w.resting_selects

/-- A call keeps the state, or moves the port among BASE, CLAIMED and BOUND. -/
theorem PortRecord.Calls.state (h : PortRecord.Calls q p r w) :
    w.state = r.state ∨ r.state.selects = true ∧ w.state.selects = true := by
  cases h with
  | unmoved _ => exact .inl rfl
  | deferred _ _ => exact .inl rfl
  | keeps _ _ _ _ _ => exact .inl rfl
  | rested state _ applied => exact .inr ⟨by rcases state with h | h <;> rw [h] <;> rfl, applied.selects⟩
  | retired claimed _ applied => exact .inr ⟨by rw [claimed]; rfl, applied.selects⟩

theorem trailing_selects (p : LinePort) : Trailing fun u => (u.port p).state.selects = true :=
  .of_record (R := fun r => r.state.selects = true) p
    (fun r w same h => by rw [show w.state = r.state from (congrArg PortRecord.state same).symm]; exact h)
    fun _ _ _ calls h => by
      rcases calls.state with same | ⟨-, k⟩
      · rw [same]
        exact h
      · exact k

/-- A SHIFTING record but for the deferred flag (R63). -/
def PortRecord.undeferred (r : PortRecord) : PortRecord := { r.sansEngine with deferred := false }

theorem PortRecord.Calls.shifting (h : PortRecord.Calls q p r w) (shifting : r.state = .shifting) :
    w.undeferred = r.undeferred ∧ (r.deferred = true → w.deferred = true) := by
  cases h with
  | unmoved _ => exact ⟨rfl, id⟩
  | deferred _ _ => exact ⟨rfl, fun _ => rfl⟩
  | keeps _ claimed _ _ _ => rw [claimed] at shifting; cases shifting
  | rested state _ _ => rcases state with h | h <;> rw [h] at shifting <;> cases shifting
  | retired claimed _ _ => rw [claimed] at shifting; cases shifting

theorem trailing_shifting (p : LinePort) {c : PortRecord} (shifting : c.state = .shifting) :
    Trailing fun u => (u.port p).undeferred = c.undeferred :=
  .of_record (R := fun r => r.undeferred = c.undeferred) p
    (fun r w same h => by
      have : ∀ a : PortRecord, a.undeferred = a.sansEngine.undeferred := fun _ => rfl
      rw [this, ← same, ← this]
      exact h)
    fun _ r _ calls h =>
      ((calls.shifting ((congrArg PortRecord.state h : r.undeferred.state = c.undeferred.state).trans shifting)).1).trans h

end

end Sys2Proof.Machine
end

/-! # Attach, and the waits for a TENDER (R1, R57, R62, R79) -/

section
namespace Sys2Proof.Machine

section
variable {s t u v w : State} {p : LinePort} {f : OutFrame} {r : PortRecord} {n : Nat} {pages : Bool}

/-! ### The record and the frame of a port that calls for selection leave be -/

theorem State.apply_unmoved (h : (w.port p).unmoved) : ((w.apply p).port p).unmoved := by
  rw [← PortRecord.unmoved_sansEngine, (State.served_apply w p).port p, PortRecord.unmoved_sansEngine]
  exact h

/-- What follows an event with a frame put into the slot of a port that calls for selection leave be. -/
theorem puts_settle (slot : (w.port p).slot = some f) (counter : (w.port p).tagCounter = (s.port p).tagCounter)
    (line : w.line p = s.line p) (engines : w.engines = s.engines) (queue : w.queue = s.queue)
    (attached : w.attached (.line p) = s.attached (.line p)) (still : (w.port p).unmoved) :
    s.puts (settle pages n v (w.apply p)) p f :=
  (puts_apply slot counter line engines queue attached).trails (State.apply_unmoved still) n

/-- The record of such a port after all that follows the event. -/
theorem settle_unmoved (still : (w.port p).unmoved) :
    ((settle pages n v (w.apply p)).port p).sansEngine = (w.port p).sansEngine :=
  (trailing_unmoved still).settle n ((State.served_apply w p).port p)

/-! ### Fields of records -/

theorem PortRecord.field_of_sansEngine {α : Type} (h : r.sansEngine = (w.port p).sansEngine) (f : PortRecord → α)
    (keeps : ∀ a, f a = f a.sansEngine) : f r = f (w.port p) := by
  rw [keeps, h, ← keeps]

theorem PortRecord.resting_eq (r : PortRecord) : r.resting = restingOn r.live := by
  unfold PortRecord.resting restingOn
  cases r.live with
  | none => rfl
  | some c =>
    simp only [Option.map_some, Option.some.injEq, Contract.negotiated, decide_eq_true_eq]

theorem PortRecord.resting_ne_shifting (r : PortRecord) : r.resting ≠ .shifting := by
  intro h
  have selects := r.resting_selects
  rw [h] at selects
  cases selects

theorem PortRecord.unmoved_of_blocked (blocked : r.held = true ∨ r.released = true ∨ r.barred = true) (state : r.state ≠ .shifting) :
    r.unmoved :=
  .inr (.inr (.inr (.inr (.inr ⟨by rcases blocked with h | h | h <;> simp [PortRecord.blocked, h], state⟩))))

/-! ### The request in flight on a port (R81, R184) -/

/-- Which requests are in flight is all that tells the slots no request is from. -/
theorem State.unheld_of_flights {k : Fin 8} (h : s.unheld k) (ports : ∀ p, (t.port p).inFlight = (s.port p).inFlight)
    (barrel : t.barrel.inFlight = s.barrel.inFlight) (path : t.path.inFlight = s.path.inFlight)
    (singles : t.meas.singles = s.meas.singles) : t.unheld k := by
  obtain ⟨port, bar, pth, single⟩ := h
  exact ⟨fun p q hq => port p q (ports p ▸ hq), barrel ▸ bar, path ▸ pth, singles ▸ single⟩

theorem State.setPort_inFlight (s : State) (p o : LinePort) {r : PortRecord} (same : r.inFlight = (s.port p).inFlight) :
    ((s.setPort p r).port o).inFlight = (s.port o).inFlight := by
  by_cases here : o = p
  · subst here
    rw [State.port_setPort_self, same]
  · rw [State.port_setPort_of_ne s r here]

theorem State.soleRequest.of_flights {q : PortRequest} (h : s.soleRequest p q) (ports : ∀ o, (t.port o).inFlight = (s.port o).inFlight)
    (barrel : t.barrel.inFlight = s.barrel.inFlight) (path : t.path.inFlight = s.path.inFlight)
    (singles : t.meas.singles = s.meas.singles) : t.soleRequest p q := by
  obtain ⟨flight, sole⟩ := h
  refine ⟨(ports p).trans flight, State.unheld_of_flights sole (fun o => ?_) barrel path singles⟩
  show ((t.setPort p _).port o).inFlight = ((s.setPort p _).port o).inFlight
  by_cases here : o = p
  · subst here
    rw [State.port_setPort_self, State.port_setPort_self]
  · rw [State.port_setPort_of_ne t _ here, State.port_setPort_of_ne s _ here, ports]

theorem State.soleRequest.setPort {q : PortRequest} (h : s.soleRequest p q) (same : r.inFlight = (s.port p).inFlight) :
    (s.setPort p r).soleRequest p q :=
  h.of_flights (fun o => s.setPort_inFlight p o same) rfl rfl rfl

/-- The completion of a request that no other shares its slot with. -/
theorem State.soleRequest.completePort {q : PortRequest} (h : s.soleRequest p q) {kinds : List PortRequestKind}
    (listed : kinds.contains q.kind = true) (c : ResultCode) :
    ((s.completePort p kinds c).port p).inFlight = none ∧ (s.completePort p kinds c).unheld q.slot ∧
      (s.completePort p kinds c).answered q.slot c := by
  obtain ⟨flight, sole⟩ := h
  rcases State.completePort_cases s p kinds c with ⟨o, same, -, e⟩ | ⟨none, -⟩
  · obtain rfl : o = q := Option.some.inj (same.symm.trans flight)
    rw [e]
    refine ⟨?_, sole, State.answered_complete _ _ _ _⟩
    show ((s.setPort p { s.port p with inFlight := none }).port p).inFlight = none
    rw [State.port_setPort_self]
  · rw [none q flight] at listed
    cases listed

/-- After a completion no request of the kinds is in flight on the port. -/
theorem State.completePort_inFlight (s : State) (p : LinePort) {kinds : List PortRequestKind} (c : ResultCode)
    (listed : ∀ q, (s.port p).inFlight = some q → kinds.contains q.kind = true) :
    ((s.completePort p kinds c).port p).inFlight = none := by
  rcases State.completePort_cases s p kinds c with ⟨o, -, -, e⟩ | ⟨none, e⟩ <;> rw [e]
  · show ((s.setPort p { s.port p with inFlight := none }).port p).inFlight = none
    rw [State.port_setPort_self]
  · cases flight : (s.port p).inFlight with
    | none => rfl
    | some q => exact absurd ((none q flight).symm.trans (listed q flight)) (by simp)

/-- Settles O16. -/
theorem attachExpiryAttaches : Obligations.AttachExpiryAttaches := by
  unfold Obligations.AttachExpiryAttaches
  refine ⟨fun s p n settling running => ?_, fun s n settling running => ?_⟩
  · have exec : exec (.attachIntervalExpiry (.line p)) s = .next (s.attachEvent (.line p)) := by
      show Host.Outcome.next (s.attachExpires _) = _
      rw [State.attachExpires, if_pos ⟨settling, by rw [running]; rfl⟩]
    generalize hu : (s.setTracker (.line p) ⟨.attached, none, none⟩).setLine p Line.cleared = u
    have event : s.attachEvent (.line p) = s.settles ((u.portAttach p).apply p) := by rw [← hu]; rfl
    have record : (u.portAttach p).port p = (u.port p).startAsk.setLive (some .base) := State.port_setPort_self _ _ _
    have still : ((u.portAttach p).port p).unmoved := by
      rw [record]
      exact .inr (.inr (.inr (.inl rfl)))
    have after := settle_unmoved (n := Config.reportDepth) (pages := true) (v := s) still
    rw [exec, event]
    refine ⟨_, rfl, ?_⟩
    change ((s.settles ((u.portAttach p).apply p)).port p).sansEngine = _ at after
    have trackers : (s.settles ((u.portAttach p).apply p)).trackers = s.trackers.set (.line p) ⟨.attached, none, none⟩ :=
      (trailing_trackers _).settles (by rw [State.apply_trackers, ← hu]; rfl)
    have puts : ((s.withTrackers (s.trackers.set (.line p) ⟨.attached, none, none⟩)).withLines
        (s.lines.set p ⟨.idle, false, none, 0, 0, false⟩)).puts (s.settles ((u.portAttach p).apply p)) p .ask :=
      puts_settle (by rw [record]; rfl) (by rw [record, ← hu]; rfl) (by rw [← hu]; rfl) (by rw [← hu]; rfl) (by rw [← hu]; rfl)
        (by rw [← hu]; rfl) still
    have journal : s.journals (s.settles ((u.portAttach p).apply p)) [(0x01, connectorCode (some (.line p)), [])] := by
      have moved : (s.setTracker (.line p) ⟨.attached, none, none⟩).Follows true (fun _ => True) [] u :=
        hu ▸ (State.served_setLine _ p Line.cleared).follows
      refine State.Follows.journals_of_more (s := s.setTracker (.line p) ⟨.attached, none, none⟩)
        ((trailing_follows _ _).settles ⟨[], ?_⟩) (State.heldIn_all _)
      exact (moved.trans (State.follows_portAttach u p)).trans (State.served_apply _ p).follows
    have barrel : (s.settles ((u.portAttach p).apply p)).barrel = s.barrel :=
      (trailing_barrel _).settles (by rw [State.apply_barrel, ← hu]; rfl)
    generalize s.settles ((u.portAttach p).apply p) = t at after trackers puts journal barrel
    refine ⟨trackers, ?_, ?_, ?_, ?_, trackers ▸ puts, journal, barrel⟩
    · rw [PortRecord.field_of_sansEngine after PortRecord.state fun _ => rfl, record]; rfl
    · rw [PortRecord.field_of_sansEngine after PortRecord.live fun _ => rfl, record]; rfl
    · rw [PortRecord.field_of_sansEngine after PortRecord.askAttempts fun _ => rfl, record]; rfl
    · rw [PortRecord.field_of_sansEngine after PortRecord.timer fun _ => rfl, record]; rfl
  · have exec : exec (.attachIntervalExpiry .barrel) s = .next (s.attachEvent .barrel) := by
      show Host.Outcome.next (s.attachExpires _) = _
      rw [State.attachExpires, if_pos ⟨settling, by rw [running]; rfl⟩]
    rw [exec]
    refine ⟨_, rfl, (trailing_trackers _).settles rfl, (trailing_barrel _).settles rfl, ?_⟩
    exact State.Follows.journals_of_more (s := s.setTracker .barrel ⟨.attached, none, none⟩)
      ((trailing_follows _ _).settles ⟨[], State.follows_barrelAttach _⟩) (State.heldIn_all _)

/-- Settles O38. -/
theorem tenderWaitExpiryResendsAsk : Obligations.TenderWaitExpiryResendsAsk := by
  unfold Obligations.TenderWaitExpiryResendsAsk
  intro s p asking running
  have exec : exec (.tenderWaitExpiry p) s = .next (s.settles ((s.tenderTimeout p).apply p)) :=
    congrArg Host.Outcome.next (if_pos ⟨asking, running⟩)
  rw [exec]
  refine ⟨fun again => ⟨_, rfl, ?_⟩, fun last => ⟨_, rfl, ?_⟩⟩
  · rw [State.tenderTimeout_eq, if_pos again]
    generalize hw : s.setPort p { s.port p with
      askTag := none, timer := .stopped, slot := some .ask, askAttempts := (s.port p).askAttempts + 1 } = w
    have record : w.port p = { s.port p with
        askTag := none, timer := .stopped, slot := some .ask, askAttempts := (s.port p).askAttempts + 1 } := by
      rw [← hw, State.port_setPort_self]
    have still : (w.port p).unmoved := by
      rw [record]
      exact .inr (.inr (.inr (.inl asking)))
    have puts : s.puts (s.settles (w.apply p)) p .ask :=
      puts_settle (by rw [record]) (by rw [record]) (by rw [← hw]; rfl) (by rw [← hw]; rfl) (by rw [← hw]; rfl) (by rw [← hw]; rfl) still
    have after : ((s.settles (w.apply p)).port p).sansEngine = _ := settle_unmoved still
    generalize s.settles (w.apply p) = t at puts after
    have field : ∀ {α : Type} (f : PortRecord → α), (∀ a, f a = f a.sansEngine) → f (t.port p) = f (w.port p) := fun f keeps =>
      PortRecord.field_of_sansEngine after f keeps
    refine ⟨?_, puts, ?_, ?_, ?_, ?_, ?_, ?_⟩
    · rw [field PortRecord.askAttempts fun _ => rfl, record]
    · rw [field PortRecord.state fun _ => rfl, record, asking]
    · rw [field PortRecord.askTag fun _ => rfl, record]
    · rw [field PortRecord.timer fun _ => rfl, record]
    · rw [field PortRecord.live fun _ => rfl, record]
    · rw [field PortRecord.image fun _ => rfl, record]
    · rw [field PortRecord.inFlight fun _ => rfl, record]
  · rw [State.tenderTimeout_eq, if_neg (by omega)]
    generalize hv : (s.setPort p { s.port p with
      askTag := none, timer := .stopped, silent := true, state := (s.port p).resting }).journal 0x0A (lineByte p) [] = v
    have silenced : s.silenced p = v.completePort p [.refresh, .pin] .timedOut := by rw [← hv]; rfl
    have before : v.port p = { s.port p with
        askTag := none, timer := .stopped, silent := true, state := (s.port p).resting } := by
      rw [← hv]
      exact State.port_setPort_self _ _ _
    obtain ⟨f, record, -⟩ := State.port_completePort v p [.refresh, .pin] .timedOut
    rw [before] at record
    have follows : s.Follows true (fun _ => True) [(0x0A, lineByte p, [])] (s.silenced p) := State.follows_silenced s p
    have idle : (∀ q, (v.port p).inFlight = some q → [PortRequestKind.refresh, .pin].contains q.kind = true) →
        ((s.silenced p).port p).inFlight = none := fun listed => silenced ▸ State.completePort_inFlight v p .timedOut listed
    have ended : ∀ q, s.soleRequest p q → q.kind ≠ .release →
        (s.silenced p).unheld q.slot ∧ (s.silenced p).answered q.slot .timedOut := fun q sole kind => by
      rw [silenced]
      have mine : v.soleRequest p q := hv ▸ sole.setPort rfl
      exact (mine.completePort (by cases k : q.kind <;> simp_all) .timedOut).2
    rw [← silenced] at record
    generalize s.silenced p = x at record follows idle ended
    have calls : ∀ {P : State → Prop}, Trailing P → P x → P (s.settles ((x.callSelection p).apply p)) := fun trails h =>
      trails.settles (trails.call x p h)
    have core := calls (trailing_core p _) rfl
    have state := calls (trailing_selects p) (by rw [record]; exact PortRecord.resting_selects _)
    refine ⟨?_, ?_, ?_, ?_, fun kind => ?_, fun q sole kind => ?_, fun blocked => ?_⟩
    · exact (congrArg PortRecord.silent core).trans (by rw [record]; rfl)
    · intro asking
      rw [asking] at state
      cases state
    · exact (congrArg PortRecord.askTag core).trans (by rw [record]; rfl)
    · exact State.Follows.journals_of_more (calls (trailing_follows s _) ⟨[], follows⟩) s.heldIn_all
    · refine calls (trailing_idle p) (idle fun q flight => ?_)
      rw [before] at flight
      have : q.kind ≠ .release := fun e => kind (by rw [show (s.port p).inFlight = some q from flight]; exact congrArg some e)
      cases k : q.kind <;> simp_all
    · exact (calls (trailing_answered q.slot .timedOut) (ended q sole kind)).2
    · have still : (x.port p).unmoved := by
        rw [record]
        rcases blocked with image | blocked
        · exact .inl image
        · exact PortRecord.unmoved_of_blocked blocked (s.port p).resting_ne_shifting
      have after := calls (trailing_unmoved still) rfl
      rw [record] at after
      have live : ((s.settles ((x.callSelection p).apply p)).port p).live = (s.port p).live := (congrArg PortRecord.live after :)
      exact ⟨(congrArg PortRecord.state after).trans (s.port p).resting_eq, live⟩

end

end Sys2Proof.Machine
end

/-! # The slots of requests in flight (R183 to R185) -/

section
namespace Sys2Proof.Machine

section
variable {s t u v w : State} {p : LinePort} {f : OutFrame} {r : PortRecord} {k : Fin 8}

/-! ### What leaves a slot be -/

/-- Of the Exchange Unit, slot `k` is as it was. -/
def State.offSlot (k : Fin 8) (s t : State) : Prop :=
  t.exch.slot k = s.exch.slot k ∧ ∀ a, slotAddress k ≤ a ∧ a < slotAddress k + 32 → readByte t.exch.mem a = readByte s.exch.mem a

theorem State.offSlot.refl (s : State) : State.offSlot k s s := ⟨rfl, fun _ _ => rfl⟩

theorem State.offSlot.trans (h : State.offSlot k s t) (m : State.offSlot k t u) : State.offSlot k s u :=
  ⟨m.1.trans h.1, fun a ha => (m.2 a ha).trans (h.2 a ha)⟩

theorem State.offSlot_of_exch (exch : t.exch = s.exch) : State.offSlot k s t := ⟨by rw [exch], fun _ _ => by rw [exch]⟩

theorem State.offSlot_of_logs {l : List (Byte × Byte × List Byte)} (h : s.exch.Logs true s.time (fun j => j ≠ k) l t.exch) :
    State.offSlot k s t :=
  ⟨h.slot fun ne => ne rfl, fun _ ha => h.readByte_slot (fun ne => ne rfl) ha⟩

theorem State.offSlot_journal (s : State) (kind port : Byte) (d : List Byte) : State.offSlot k s (s.journal kind port d) :=
  State.offSlot_of_logs (.submit kind port d .refl)

theorem State.offSlot_complete (s : State) {j : Fin 8} (ne : j ≠ k) (c : ResultCode) (d : List Byte) :
    State.offSlot k s (s.complete j c d) :=
  State.offSlot_of_logs (.complete j c d ne .refl)

theorem State.offSlot_rewritePage (s : State) (x : Connector) : State.offSlot k s (s.rewritePage x) :=
  State.offSlot_of_logs (.page x _ rfl (length_pageOf s x) .refl)

theorem State.offSlot_completePrimary (s : State) (y : Connector) (c : ResultCode)
    (other : ∀ q, s.path.inFlight = some q → q.slot ≠ k) : State.offSlot k s (s.completePrimary y c) := by
  rcases State.completePrimary_cases s y c with ⟨q, flight, -, e⟩ | ⟨-, e⟩ <;> rw [e]
  · exact (State.offSlot_of_exch rfl).trans (State.offSlot_complete _ (other q flight) _ _)
  · exact .refl s

theorem State.completePrimary_inFlight (s : State) (y : Connector) (c : ResultCode) :
    (s.completePrimary y c).path.inFlight = s.path.inFlight ∨ (s.completePrimary y c).path.inFlight = none := by
  rcases State.completePrimary_cases s y c with ⟨q, -, -, e⟩ | ⟨-, e⟩ <;> rw [e]
  · exact .inr rfl
  · exact .inl rfl

theorem State.losePath_inFlight (s : State) (y : Connector) :
    (s.losePath y).path.inFlight = s.path.inFlight ∨ (s.losePath y).path.inFlight = none := by
  unfold State.losePath
  dsimp only
  split <;> exact State.completePrimary_inFlight _ y .lost

theorem State.evaluatePath_inFlight (s : State) :
    s.evaluatePath.path.inFlight = s.path.inFlight ∨ s.evaluatePath.path.inFlight = none := by
  rcases s.evaluatePath_cases with e | ⟨-, y, -, e⟩ | ⟨x, -, -, e⟩ | ⟨x, y, -, -, -, -, e⟩ <;> rw [e]
  · exact .inl rfl
  · exact .inl rfl
  · exact s.losePath_inFlight x
  · exact .inl rfl

theorem State.dropLostPrimary_inFlight (s : State) :
    s.dropLostPrimary.path.inFlight = s.path.inFlight ∨ s.dropLostPrimary.path.inFlight = none := by
  unfold State.dropLostPrimary
  split
  · split
    · exact State.completePrimary_inFlight s _ _
    · exact .inl rfl
  · exact .inl rfl

theorem State.evaluate_inFlight (s : State) : s.evaluate.path.inFlight = s.path.inFlight ∨ s.evaluate.path.inFlight = none := by
  rcases s.evaluatePath.dropLostPrimary_inFlight with same | gone
  · exact s.evaluatePath_inFlight.imp (fun h => same.trans h) fun h => same.trans h
  · exact .inr gone

theorem State.offSlot_evaluate (s : State) (other : ∀ q, s.path.inFlight = some q → q.slot ≠ k) : State.offSlot k s s.evaluate := by
  have first : State.offSlot k s s.evaluatePath := by
    rcases s.evaluatePath_cases with e | ⟨-, y, -, e⟩ | ⟨x, -, -, e⟩ | ⟨x, y, -, -, -, -, e⟩ <;> rw [e]
    · exact .refl s
    · exact State.offSlot_of_exch rfl
    · have opened : State.offSlot k s (s.openPath x) := State.offSlot_of_exch rfl
      unfold State.losePath
      dsimp only
      split
      · exact (opened.trans (State.offSlot_journal _ _ _ _)).trans (State.offSlot_completePrimary _ x .lost other)
      · exact opened.trans (State.offSlot_completePrimary _ x .lost other)
    · exact State.offSlot_of_exch rfl
  have later : ∀ q, s.evaluatePath.path.inFlight = some q → q.slot ≠ k := fun q hq => by
    rcases s.evaluatePath_inFlight with same | gone
    · exact other q (same.symm.trans hq)
    · rw [gone] at hq
      cases hq
  refine first.trans ?_
  show State.offSlot k s.evaluatePath s.evaluatePath.dropLostPrimary
  unfold State.dropLostPrimary
  split
  · split
    · exact State.offSlot_completePrimary _ _ _ later
    · exact .refl _
  · exact .refl _

theorem State.offSlot_completePort (s : State) (p : LinePort) (kinds : List PortRequestKind) (c : ResultCode)
    (other : ∀ q, (s.port p).inFlight = some q → q.slot ≠ k) : State.offSlot k s (s.completePort p kinds c) := by
  rcases State.completePort_cases s p kinds c with ⟨q, flight, -, e⟩ | ⟨-, e⟩ <;> rw [e]
  · exact (State.offSlot_of_exch rfl).trans (State.offSlot_complete _ (other q flight) _ _)
  · exact .refl s

/-- What a selection's outcome completes is a request in flight on its port. -/
theorem State.offSlot_applyOutcome (s : State) (p : LinePort) (o : Outcome)
    (other : ∀ q, (s.port p).inFlight = some q → q.slot ≠ k) : State.offSlot k s (s.applyOutcome p o) := by
  cases o with
  | claim c => exact State.offSlot_of_exch rfl
  | noClaim shared =>
    have rested : ((s.setPort p ((s.port p).setShared shared)).toRest p).port p =
        { (s.port p).setShared shared with state := ((s.port p).setShared shared).resting } := by
      rw [State.toRest, State.port_setPort_self, State.port_setPort_self]
    have flight : ∀ q, (((s.setPort p ((s.port p).setShared shared)).toRest p).port p).inFlight = some q → q.slot ≠ k :=
      fun q hq => other q (by rw [rested] at hq; exact hq)
    have start : State.offSlot k s ((s.setPort p ((s.port p).setShared shared)).toRest p) := State.offSlot_of_exch rfl
    unfold State.applyOutcome
    dsimp only
    generalize (s.setPort p ((s.port p).setShared shared)).toRest p = a at flight start
    have refreshed := start.trans (a.offSlot_completePort p [.refresh] .ok flight)
    obtain ⟨g, record, kept⟩ := a.port_completePort p [.refresh] .ok
    split
    · refine refreshed.trans (State.offSlot_completePort _ p [.pin] .ok fun q hq => ?_)
      rw [record] at hq
      rcases kept with same | none
      · exact flight q (same ▸ hq)
      · exact absurd (none.symm.trans hq) (by simp)
    · exact refreshed
  | noCandidate =>
    have rested : (s.toRest p).port p = { s.port p with state := (s.port p).resting } := State.port_setPort_self _ _ _
    have start : State.offSlot k s (s.toRest p) := State.offSlot_of_exch rfl
    refine (start.trans (State.offSlot_journal (s.toRest p) 0x11 (lineByte p) _)).trans
      (State.offSlot_completePort _ p [.refresh] .noUsableLevel fun q hq => ?_)
    change ((s.toRest p).port p).inFlight = some q at hq
    rw [rested] at hq
    exact other q hq

theorem State.offSlot_callSelection (s : State) (p : LinePort) (other : ∀ q, (s.port p).inFlight = some q → q.slot ≠ k) :
    State.offSlot k s (s.callSelection p) := by
  have selected : State.offSlot k s (s.select p).1 := State.offSlot_of_exch (by rw [State.select_state]; rfl)
  have record := s.port_select p
  have anew : ∀ o, State.offSlot k s ((s.select p).1.applyOutcome p o) := fun o =>
    selected.trans (State.offSlot_applyOutcome _ p o fun q hq => other q (by rw [record] at hq; exact hq))
  have retired : ∀ o, State.offSlot k s (((s.select p).1.setPort p ((s.select p).1.port p).retire).applyOutcome p o) := fun o =>
    (selected.trans (State.offSlot_of_exch rfl)).trans (State.offSlot_applyOutcome _ p o fun q hq => other q (by
      rw [State.port_setPort_self, PortRecord.retire_inFlight, record] at hq
      exact hq))
  unfold State.callSelection
  dsimp only
  split
  · exact .refl s
  · split
    · exact State.offSlot_of_exch rfl
    · split
      · exact .refl s
      · exact anew _
    · split
      · exact .refl s
      · exact anew _
    · split
      · exact .refl s
      · split
        · split
          · exact selected
          · exact retired _
        · exact retired _
    all_goals exact .refl s

/-! ### Requests that wait on their port -/

/-- A call for selection does no more than mark the record. -/
def PortRecord.calm (r : PortRecord) : Prop := r.unmoved ∨ r.state = .shifting

theorem PortRecord.calm_undeferred (r : PortRecord) : r.undeferred.calm ↔ r.calm := Iff.rfl

theorem State.callSelection_calm (h : (s.port p).calm) :
    (s.callSelection p).exch = s.exch ∧ ((s.callSelection p).port p).undeferred = (s.port p).undeferred := by
  rcases h with still | shifting
  · rw [State.callSelection_unmoved still]
    exact ⟨rfl, rfl⟩
  · unfold State.callSelection
    dsimp only
    split
    · exact ⟨rfl, rfl⟩
    · rw [shifting]
      dsimp only
      refine ⟨rfl, ?_⟩
      rw [State.port_setPort_self, ← shifting]
      rfl

theorem PortRecord.undeferred_of_sansEngine {a b : PortRecord} (h : a.sansEngine = b.sansEngine) : a.undeferred = b.undeferred := by
  have : ∀ r : PortRecord, r.undeferred = r.sansEngine.undeferred := fun _ => rfl
  rw [this a, this b, h]

theorem trailing_calm (p : LinePort) {c : PortRecord} (calm : c.calm) : Trailing fun u => (u.port p).undeferred = c.undeferred := by
  refine .of_owners (fun u v same h => by rwa [State.port, same.ports]) fun u o h => ?_
  rw [PortRecord.undeferred_of_sansEngine ((State.served_apply _ o).port p)]
  by_cases here : p = o
  · subst here
    rw [(State.callSelection_calm (by rw [← PortRecord.calm_undeferred, h]; exact calm)).2, h]
  · rw [State.othersKept_callSelection u p here, h]

/-- No request in flight is from slot `k` but on ports that calls for selection do not move on. -/
def State.shelters (s : State) (k : Fin 8) : Prop :=
  (∀ q, s.path.inFlight = some q → q.slot ≠ k) ∧ ∀ o, (s.port o).calm ∨ ∀ q, (s.port o).inFlight = some q → q.slot ≠ k

theorem State.shelters_call (h : s.shelters k) (o : LinePort) :
    State.offSlot k s ((s.callSelection o).apply o) ∧ ((s.callSelection o).apply o).shelters k := by
  obtain ⟨path, ports⟩ := h
  have served := State.served_apply (s.callSelection o) o
  refine ⟨?_, fun q hq => path q (by rwa [State.apply_path, State.callSelection_path] at hq), fun x => ?_⟩
  · refine State.offSlot.trans ?_ (State.offSlot_of_exch served.exch)
    rcases ports o with calm | other
    · exact State.offSlot_of_exch (State.callSelection_calm calm).1
    · exact State.offSlot_callSelection s o other
  · have flights : (((s.callSelection o).apply o).port x).inFlight = ((s.callSelection o).port x).inFlight :=
      served.field x PortRecord.inFlight fun _ => rfl
    by_cases here : x = o
    · subst here
      rcases ports x with calm | other
      · refine .inl ?_
        rw [← PortRecord.calm_undeferred, PortRecord.undeferred_of_sansEngine (served.port x), (State.callSelection_calm calm).2]
        exact calm
      · refine .inr fun q hq => other q ?_
        rw [flights] at hq
        have calls := State.port_callSelection s x
        have applied : ∀ r y : PortRecord, r.inFlight = (s.port x).inFlight → PortRecord.Applied s.policy x (s.port x) r y →
            y.inFlight = (s.port x).inFlight ∨ y.inFlight = none := fun r y hx hy => by
          cases hy with
          | claims _ _ => exact .inl hx
          | stands _ _ _ _ flight => exact flight
          | rests _ _ flight => exact flight
        have kept : ((s.callSelection x).port x).inFlight = (s.port x).inFlight ∨ ((s.callSelection x).port x).inFlight = none := by
          generalize (s.callSelection x).port x = y at calls
          cases calls with
          | unmoved _ => exact .inl rfl
          | deferred _ _ => exact .inl rfl
          | keeps _ _ _ _ _ => exact .inl rfl
          | rested _ _ k => exact applied (rescore s.policy x (s.port x)) _ rfl k
          | retired _ _ k => exact applied (rescore s.policy x (s.port x)).retire _ (PortRecord.retire_inFlight _) k
        rcases kept with same | gone
        · exact same.symm.trans hq
        · rw [gone] at hq
          cases hq
    · have same : ((s.callSelection o).port x) = s.port x := State.othersKept_callSelection s x here
      rcases ports x with calm | other
      · refine .inl ?_
        rw [← PortRecord.calm_undeferred, PortRecord.undeferred_of_sansEngine (served.port x), same]
        exact calm
      · exact .inr fun q hq => other q (by rw [flights, same] at hq; exact hq)

/-- Its slot is left be by all that follows an event. -/
theorem trailing_shelters (s : State) (k : Fin 8) : Trailing fun u => u.shelters k ∧ State.offSlot k s u where
  evaluate u h := by
    obtain ⟨⟨path, ports⟩, off⟩ := h
    refine ⟨⟨fun q hq => ?_, fun o => by rw [State.port, State.evaluate_ports]; exact ports o⟩, off.trans (State.offSlot_evaluate u path)⟩
    rcases u.evaluate_inFlight with same | gone
    · exact path q (same.symm.trans hq)
    · rw [gone] at hq
      cases hq
  droop _ _ h := h
  budget _ h := h
  left _ h := h
  prospect _ _ h := h
  page u x h := ⟨h.1, h.2.trans (u.offSlot_rewritePage x)⟩
  call u o h := ⟨(State.shelters_call h.1 o).2, h.2.trans (State.shelters_call h.1 o).1⟩

theorem State.slotTaken.of_offSlot (h : s.slotTaken k) (off : State.offSlot k s t) : t.slotTaken k :=
  ⟨by rw [off.1, h.1], by rw [off.2 _ ⟨Nat.le_refl _, by omega⟩, h.2]⟩

/-- A slot that only one calm port, or D, has a request from. -/
theorem State.shelters_of_unheld (unheld : s.unheld k) (path : t.path.inFlight = s.path.inFlight)
    (ports : ∀ o, (t.port o).calm ∨ (t.port o).inFlight = (s.port o).inFlight) : t.shelters k :=
  ⟨fun q hq => unheld.2.2.1 q (path ▸ hq), fun o => (ports o).imp id fun (same : (t.port o).inFlight = _) q hq => unheld.1 o q (same.symm.trans hq)⟩

end

end Sys2Proof.Machine
end

/-! # REFRESH and RELEASE (R11, R13, R78, R79) -/

section
namespace Sys2Proof.Machine

section
variable {s t u v w : State} {p : LinePort} {q : Posting} {kind : Byte} {args : List Byte} {y : Exchange} {n : Nat} {pages : Bool}

/-! ### Requests for a port -/

/-- A request of a kind for a line port that has none in flight, its slot ready, goes to its owner at once (R183). -/
theorem exec_forPort {c : Instr} {named : RequestKind} (row : exec c s = .next (s.request q kind args)) (ready : s.slotReady q.slot)
    (line : linePortOf q.port = some p) (h : requestKind kind = some named)
    (free : ∀ y, (s.withExch y).busy q.port named = false) :
    ∃ y, s.exch.Took y q.slot (postedRequest q kind args) ∧
      exec c s = .next ((s.withExch y).dispatch q.slot (postedRequest q kind args) named) := by
  obtain ⟨y, took, req⟩ := State.request_ready ready kind args
  exact ⟨y, took, row.trans (congrArg _ (req.trans
    (State.checkRequest_of_kind (s.withExch y) q.slot h (RequestKind.portFits_line line named) (free y))))⟩

theorem State.portBusy_line (line : linePortOf q.port = some p) (idle : (s.port p).inFlight = none) (y : Exchange) :
    (s.withExch y).portBusy q.port = false := by
  have same : ((s.withExch y).port p).inFlight = none := idle
  rw [State.portBusy, line]
  simp only [same, Option.isSome_none]

/-- A request for D that has none in flight, its slot ready, goes to its owner at once. -/
theorem exec_forBarrel {c : Instr} {named : RequestKind} (row : exec c s = .next (s.request q kind args)) (ready : s.slotReady q.slot)
    (port : q.port = 3) (h : requestKind kind = some named) (fits : named.portFits 3 = true) (idle : s.barrel.inFlight = none)
    (which : named = .refresh ∨ named = .release) :
    ∃ y, s.exch.Took y q.slot (postedRequest q kind args) ∧
      exec c s = .next ((s.withExch y).dispatch q.slot (postedRequest q kind args) named) := by
  obtain ⟨y, took, req⟩ := State.request_ready ready kind args
  have free : (s.withExch y).portBusy 3 = false := by
    show s.barrel.inFlight.isSome = false
    rw [idle]
    rfl
  refine ⟨y, took, row.trans (congrArg _ (req.trans (State.checkRequest_of_kind (s.withExch y) q.slot h ?_ ?_)))⟩
  · rw [postedRequest, port, fits]
  · rw [postedRequest, port]
    rcases which with rfl | rfl <;> exact free

/-- A taken request whose port calls for selection leave be stays taken. -/
theorem slotTaken_settle {r : Request} {k : Fin 8} (took : s.exch.Took y k r) (unheld : s.unheld k) (exch : w.exch = y)
    (path : w.path.inFlight = s.path.inFlight) (calm : (w.port p).calm)
    (others : ∀ o, o ≠ p → (w.port o).inFlight = (s.port o).inFlight) :
    (settle pages n v (w.apply p)).slotTaken k := by
  have served := State.served_apply w p
  have start : (w.apply p).slotTaken k := State.slotTaken_of (x := s.exch) (r := r) (by rw [served.exch, exch]; exact took)
  have shelters : (w.apply p).shelters k := by
    refine State.shelters_of_unheld unheld (by rw [State.apply_path, path]) fun o => ?_
    by_cases here : o = p
    · subst here
      refine .inl ?_
      rw [← PortRecord.calm_undeferred, PortRecord.undeferred_of_sansEngine (served.port o)]
      exact calm
    · exact .inr ((served.field o PortRecord.inFlight fun _ => rfl).trans (others o here))
  exact start.of_offSlot ((trailing_shelters (w.apply p) k).settle n ⟨shelters, .refl _⟩).2

/-- The record of a port that calls for selection leave be, after all that follows an event. -/
theorem settle_calm (calm : (w.port p).calm) :
    ((settle pages n v (w.apply p)).port p).undeferred = (w.port p).undeferred :=
  (trailing_calm p calm).settle n (PortRecord.undeferred_of_sansEngine ((State.served_apply w p).port p))

/-! ### REFRESH (R79) -/

/-- The record of a port after a REFRESH from slot `k`. -/
def PortRecord.refreshed (r : PortRecord) (k : Fin 8) : PortRecord :=
  let c := { r.clearBars with inFlight := some ⟨.refresh, k⟩ }
  if r.state = .shifting then { c with refreshPending := true }
  else { (if r.state = .claimed then c.retire else c).startAsk with cause := none }

theorem State.portRefresh_eq (s : State) (p : LinePort) (k : Fin 8) : s.portRefresh p k = s.setPort p ((s.port p).refreshed k) := by
  unfold State.portRefresh PortRecord.refreshed
  by_cases shifting : (s.port p).state = .shifting
  · rw [if_pos shifting]
    exact if_pos shifting
  · rw [if_neg shifting]
    exact if_neg shifting

section
variable {r : PortRecord} {k : Fin 8}

theorem PortRecord.refreshed_shifting (h : r.state = .shifting) :
    r.refreshed k = { r.clearBars with inFlight := some ⟨.refresh, k⟩, refreshPending := true } := if_pos h

/-- Outside SHIFTING a REFRESH starts a fresh ask; an outstanding claim is retired. -/
theorem PortRecord.refreshed_asking (h : r.state ≠ .shifting) :
    ∃ c : PortRecord, r.refreshed k = { c.startAsk with cause := none } ∧
      c.sansEngine.core = { r.clearBars with inFlight := some ⟨.refresh, k⟩ }.sansEngine.core ∧
      c.inFlight = some ⟨.refresh, k⟩ ∧ c.live = r.live ∧ (r.state = .claimed → c.staged = none) ∧
      c.tagCounter = r.tagCounter ∧ c.image = r.image := by
  refine ⟨_, if_neg h, ?_⟩
  by_cases claimed : r.state = .claimed
  · rw [if_pos claimed]
    unfold PortRecord.retire PortRecord.withdrawClaim
    dsimp only
    split <;> exact ⟨rfl, rfl, rfl, fun _ => rfl, rfl, rfl⟩
  · rw [if_neg claimed]
    exact ⟨rfl, rfl, rfl, fun h => absurd h claimed, rfl, rfl⟩

theorem PortRecord.refreshed_calm (r : PortRecord) (k : Fin 8) : (r.refreshed k).calm := by
  by_cases shifting : r.state = .shifting
  · rw [PortRecord.refreshed_shifting shifting]
    exact .inr shifting
  · obtain ⟨c, e, -⟩ := PortRecord.refreshed_asking (k := k) shifting
    rw [e]
    exact .inl (.inr (.inr (.inr (.inl rfl))))

end

/-- Settles O51. -/
theorem refreshStartsAgain : Obligations.RefreshStartsAgain := by
  unfold Obligations.RefreshStartsAgain
  refine ⟨fun s q p ready line present idle => ?_, fun s q ready port present idle => ?_⟩
  · obtain ⟨y, took, e⟩ := exec_forPort (c := .refresh q) rfl ready line (named := .refresh) rfl (State.portBusy_line line idle)
    have e : exec (.refresh q) s = .next ((s.withExch y).settles (((s.withExch y).portRefresh p q.slot).apply p)) := by
      rw [e]
      show Host.Outcome.next ((s.withExch y).reqRefresh q.slot q.port) = _
      rw [State.reqRefresh, line]
      exact congrArg Host.Outcome.next (if_pos present)
    rw [State.portRefresh_eq] at e
    generalize hw : (s.withExch y).setPort p (((s.withExch y).port p).refreshed q.slot) = w at e
    have record : w.port p = (s.port p).refreshed q.slot := by
      rw [← hw, State.port_setPort_self]
      rfl
    have calm : (w.port p).calm := record ▸ PortRecord.refreshed_calm _ _
    have taken : ((s.withExch y).settles (w.apply p)).slotTaken q.slot :=
      slotTaken_settle took ready.2.2 (hw ▸ rfl) (hw ▸ rfl) calm fun o here => by
        rw [← hw, State.port_setPort_of_ne _ _ here]
        rfl
    have after : (((s.withExch y).settles (w.apply p)).port p).undeferred = _ := settle_calm calm
    rw [record] at after
    refine ⟨fun state => ⟨_, e, ?_⟩, fun shifting => ⟨_, e, ?_⟩⟩
    · obtain ⟨c, asks, core, flight, live, staged, counter, image⟩ := PortRecord.refreshed_asking (k := q.slot) state
      have puts : s.puts ((s.withExch y).settles (w.apply p)) p .ask :=
        puts_settle (by rw [record, asks]; rfl) (by rw [record, asks]; exact counter) (by rw [← hw]; rfl) (by rw [← hw]; rfl)
          (by rw [← hw]; rfl) (by rw [← hw]; rfl) (by rw [record, asks]; exact .inr (.inr (.inr (.inl rfl))))
      generalize (s.withExch y).settles (w.apply p) = t at after taken puts
      rw [asks] at after
      have field : ∀ {α : Type} (f : PortRecord → α), (∀ a, f a = f a.undeferred) →
          f (t.port p) = f { c.startAsk with cause := none } := fun f keeps => by rw [keeps, after, ← keeps]
      have same : ∀ {α : Type} (f : PortRecord → α), (∀ a, f a = f a.undeferred) →
          f { c.startAsk with cause := none } = f c → (∀ a : PortRecord, f a = f a.sansEngine.core) →
          f (t.port p) = f { (s.port p).clearBars with inFlight := some ⟨.refresh, q.slot⟩ } := fun f keeps asked cored => by
        rw [field f keeps, asked, cored, core, ← cored]
      refine ⟨⟨taken, (field PortRecord.inFlight fun _ => rfl).trans flight, same PortRecord.released (fun _ => rfl) rfl fun _ => rfl,
        same PortRecord.silent (fun _ => rfl) rfl fun _ => rfl, same PortRecord.barred (fun _ => rfl) rfl fun _ => rfl,
        (field PortRecord.live fun _ => rfl).trans live, same PortRecord.pin (fun _ => rfl) rfl fun _ => rfl,
        same PortRecord.held (fun _ => rfl) rfl fun _ => rfl, same PortRecord.lapsing (fun _ => rfl) rfl fun _ => rfl, ?_⟩,
        puts, field PortRecord.state fun _ => rfl, field PortRecord.askAttempts fun _ => rfl, field PortRecord.claimAttempts fun _ => rfl,
        field PortRecord.askTag fun _ => rfl, field PortRecord.timer fun _ => rfl, field PortRecord.cause fun _ => rfl,
        fun claimed => (field PortRecord.staged fun _ => rfl).trans (staged claimed)⟩
      rw [field PortRecord.image fun _ => rfl, ← image]
      rfl
    · generalize (s.withExch y).settles (w.apply p) = t at after taken
      rw [PortRecord.refreshed_shifting shifting] at after
      have field : ∀ {α : Type} (f : PortRecord → α), (∀ a, f a = f a.undeferred) →
          f (t.port p) = f { (s.port p).clearBars with inFlight := some ⟨.refresh, q.slot⟩, refreshPending := true } :=
        fun f keeps => by rw [keeps, after, ← keeps]
      refine ⟨⟨taken, field PortRecord.inFlight fun _ => rfl, field PortRecord.released fun _ => rfl, field PortRecord.silent fun _ => rfl,
        field PortRecord.barred fun _ => rfl, field PortRecord.live fun _ => rfl, field PortRecord.pin fun _ => rfl,
        field PortRecord.held fun _ => rfl, field PortRecord.lapsing fun _ => rfl, ?_⟩,
        (field PortRecord.state fun _ => rfl).trans shifting, field PortRecord.refreshPending fun _ => rfl,
        field PortRecord.staged fun _ => rfl, field PortRecord.timer fun _ => rfl, field PortRecord.claimTag fun _ => rfl⟩
      rw [field PortRecord.image fun _ => rfl]
      rfl
  · obtain ⟨y, took, e⟩ := exec_forBarrel (c := .refresh q) rfl ready port (named := .refresh) rfl rfl idle (.inl rfl)
    have e : exec (.refresh q) s = .next ((s.withExch y).settles ((s.withExch y).barrelRefresh q.slot)) := by
      rw [e]
      show Host.Outcome.next ((s.withExch y).reqRefresh q.slot q.port) = _
      rw [State.reqRefresh, port]
      exact congrArg Host.Outcome.next (if_pos present)
    have shelters : ((s.withExch y).barrelRefresh q.slot).shelters q.slot :=
      State.shelters_of_unheld ready.2.2 rfl fun _ => .inr rfl
    have taken : ((s.withExch y).barrelRefresh q.slot).slotTaken q.slot := State.slotTaken_of (x := s.exch) took
    exact ⟨_, e, taken.of_offSlot ((trailing_shelters _ q.slot).settles ⟨shelters, .refl _⟩).2, (trailing_barrel _).settles rfl⟩

end

end Sys2Proof.Machine
end

/-! # RELEASE (R13, R78) -/

section
namespace Sys2Proof.Machine

section
variable {s t u v w : State} {p : LinePort} {q : Posting} {kind : Byte} {code : ResultCode} {data : List Byte} {y : Exchange}
  {r : PortRecord} {k : Fin 8} {n : Nat} {pages : Bool}

/-! ### Slots and records after a request (R184, R187) -/

/-- A predicate that every way of going on keeps. -/
theorem Trailing.of_goes {P : State → Prop} {held : Fin 8 → Prop} (step : ∀ u v : State, u.Goes true held v → P u → P v) :
    Trailing P where
  evaluate u := step u _ (State.goes_evaluate u)
  droop u x := step u _ (State.follows_clearDroop u x).goes
  budget u := step u _ (State.follows_recomputeBudget u).goes
  left u := step u _ (State.follows_pathLeft u).goes
  prospect u v := step u _ (State.follows_of_owners_kept (s := u) (t := u.withProspect v) rfl rfl rfl rfl rfl).goes
  page u x := step u _ (State.follows_rewritePage u x).goes
  call u p := step u _ ((State.goes_callSelection u p).trans (State.served_apply _ p).follows.goes)

theorem State.Goes.slotDone (goes : u.Goes true (fun j => j ≠ q.slot) v)
    (h : u.unheld q.slot ∧ u.slotDone q kind code data) : v.unheld q.slot ∧ v.slotDone q kind code data := by
  obtain ⟨l, follows⟩ := goes
  obtain ⟨unheld, done⟩ := h
  have here : u.heldIn fun j => j ≠ q.slot := fun j hj => by
    rw [not_not] at hj
    exact hj ▸ unheld
  exact ⟨follows.stays here q.slot fun ne => ne rfl, done.of_logs (follows.logs here) fun ne => ne rfl⟩

/-- A completed request stays completed in a slot that no request is in flight from. -/
theorem trailing_slotDone (q : Posting) (kind : Byte) (code : ResultCode) (data : List Byte) :
    Trailing fun u => u.unheld q.slot ∧ u.slotDone q kind code data :=
  .of_goes fun _ _ goes h => goes.slotDone h

theorem slotDone_settle (unheld : w.unheld q.slot) (done : w.slotDone q kind code data) :
    (settle pages n v (w.apply p)).slotDone q kind code data :=
  ((trailing_slotDone q kind code data).settle n ((State.served_apply w p).follows.goes.slotDone ⟨unheld, done⟩)).2

/-- The records of a command are counted from where they stood before its request was taken. -/
theorem Exchange.Took.journals {x : Request} {l : List (Byte × Byte × List Byte)} (took : s.exch.Took y k x)
    (h : (s.withExch y).journals t l) : s.journals t l := by
  obtain ⟨written, released, withheld, -⟩ := took.fields
  have unconsumed : y.unconsumed = s.exch.unconsumed := by rw [Exchange.unconsumed, written, released]; rfl
  intro i kind port d at_i
  have := h i kind port d at_i
  rw [State.withExch_exch, written, withheld, unconsumed] at this
  exact this

/-! ### The record of a released port -/

/-- The port has, or has claimed, a feeder's contract. -/
def PortRecord.givesBack (r : PortRecord) : Bool := ((r.live.map Contract.negotiated).getD false) || r.staged.isSome

/-- The record of a port after a RELEASE from slot `k` outside FAULTED. -/
def PortRecord.releasedBy (r : PortRecord) (k : Fin 8) : PortRecord :=
  { ((if r.givesBack then { r.put .giveback with inFlight := some ⟨.release, k⟩ } else r.withdrawAsk).stopLapse).setLive
      (some .base) with
    released := true, staged := none, timer := .stopped, refreshPending := false, deferred := false
    askTag := none, claimTag := none, claimAttempts := 0, state := .base }

theorem State.portRelease_eq (s : State) (p : LinePort) (k : Fin 8) :
    s.portRelease p k =
      if (s.port p).givesBack then s.setPort p ((s.port p).releasedBy k)
      else (s.setPort p ((s.port p).releasedBy k)).complete k .ok ((s.port p).releasedBy k).data := rfl

theorem PortRecord.givesBack_iff (r : PortRecord) :
    r.givesBack = true ↔ r.live.map Contract.origin = some .negotiated ∨ r.staged ≠ none := by
  rw [PortRecord.givesBack, Bool.or_eq_true]
  refine or_congr ?_ Option.isSome_iff_ne_none
  cases r.live with
  | none => simp
  | some c => simp [Contract.negotiated]

theorem PortRecord.releasedBy_calm (r : PortRecord) (k : Fin 8) : (r.releasedBy k).unmoved :=
  PortRecord.unmoved_of_blocked (.inr (.inl rfl)) fun h => nomatch h

theorem PortRecord.releasedBy_counter (r : PortRecord) (k : Fin 8) : (r.releasedBy k).tagCounter = r.tagCounter := by
  unfold PortRecord.releasedBy PortRecord.withdrawAsk
  split
  · rfl
  · dsimp only
    split <;> rfl

theorem PortRecord.releasedBy_inFlight (r : PortRecord) (k : Fin 8) :
    (r.releasedBy k).inFlight = if r.givesBack then some ⟨.release, k⟩ else r.inFlight := by
  unfold PortRecord.releasedBy PortRecord.withdrawAsk
  split
  · rfl
  · dsimp only
    split <;> rfl

theorem PortRecord.releasedBy_slot (back : r.givesBack = true) : (r.releasedBy k).slot = some .giveback := by
  unfold PortRecord.releasedBy
  rw [if_pos back]
  rfl

theorem State.released_not_eligible (released : (s.port p).released = true) : s.eligible (.line p) = false := by
  rw [State.eligible, released]
  simp

/-- What the release of a line port leads to, once its record is written (R78, R116). -/
theorem release_leaves {x : Request} (took : s.exch.Took y k x) (record : (w.port p).released = true)
    (follows : (s.withExch y).Follows true (fun _ => True) [] w) (path : w.path = s.path) (policy : w.policy = s.policy)
    (still : (w.port p).unmoved) (state : (w.port p).state = .base ∨ (w.port p).state = .faulted) :
    ((s.withExch y).settles (w.apply p)).eligible (.line p) = false ∧
      (s.eligible (.line p) = true → (w.port p).state = .base →
        s.journals ((s.withExch y).settles (w.apply p)) (s.failover (.line p) 4) ∧
          (s.path.state = .closing (.line p) ∨ s.path.state = .closed (.line p) →
            s.pathOpened ((s.withExch y).settles (w.apply p)) (.line p))) := by
  have served := State.served_apply w p
  have released : ((w.apply p).port p).released = true := (served.field p PortRecord.released fun _ => rfl).trans record
  have after : (((s.withExch y).settles (w.apply p)).port p).sansEngine = (w.port p).sansEngine := settle_unmoved still
  have fixedPath : (w.apply p).path = (s.withExch y).path := (State.apply_path w p).trans path
  refine ⟨State.released_not_eligible ((PortRecord.field_of_sansEngine after PortRecord.released fun _ => rfl).trans record),
    fun fit base => ⟨took.journals ?_, fun held => ?_⟩⟩
  · refine lost_journals (v := s.withExch y) (l := []) (cause := .released) (follows.trans served.follows) fixedPath
      fit (State.released_not_eligible released) ?_
    rw [State.lossCause, served.field p PortRecord.state fun _ => rfl, base, released]
    rfl
  · exact lost_opens (s := s.withExch y) fixedPath ((State.apply_policy w p).trans policy) fit
      (State.released_not_eligible released) held

/-- Settles O54. -/
theorem releaseTakesOutOfService : Obligations.ReleaseTakesOutOfService := by
  unfold Obligations.ReleaseTakesOutOfService
  refine ⟨fun s q p ready line present idle => ?_, fun s q ready port present idle => ?_⟩
  · obtain ⟨y, took, e⟩ := exec_forPort (c := .release q) rfl ready line (named := .release) rfl (State.portBusy_line line idle)
    have e : exec (.release q) s = .next ((s.withExch y).reqReleasePort q.slot p) := by
      rw [e]
      show Host.Outcome.next ((s.withExch y).reqRelease q.slot q.port) = _
      rw [State.reqRelease, line]
    have present : ¬ ((s.withExch y).port p).negotiating = false := fun h => by
      rw [show (s.port p).negotiating = false from h] at present
      cases present
    rw [State.reqReleasePort, if_neg present] at e
    refine ⟨fun state => ?_, fun faulted => ?_⟩
    · rw [if_neg (show ¬ ((s.withExch y).port p).state = .faulted from state)] at e
      refine ⟨_, e, ?_⟩
      have base : (((s.withExch y).port p).releasedBy q.slot).state = .base := rfl
      have flight : (((s.withExch y).port p).releasedBy q.slot).inFlight =
          if (s.port p).givesBack then some ⟨.release, q.slot⟩ else none := by
        rw [PortRecord.releasedBy_inFlight, ← idle]
        rfl
      have still := PortRecord.releasedBy_calm ((s.withExch y).port p) q.slot
      have counter := PortRecord.releasedBy_counter ((s.withExch y).port p) q.slot
      rw [State.portEvent, State.portRelease_eq]
      generalize hr : ((s.withExch y).port p).releasedBy q.slot = r at base flight still counter
      generalize hw : (if ((s.withExch y).port p).givesBack then (s.withExch y).setPort p r
        else ((s.withExch y).setPort p r).complete q.slot .ok r.data) = w
      have record : w.port p = r := by
        rw [← hw]
        split <;> exact State.port_setPort_self _ _ _
      have after : (((s.withExch y).settles (w.apply p)).port p).sansEngine = (w.port p).sansEngine :=
        settle_unmoved (record ▸ still)
      rw [record] at after
      have follows : (s.withExch y).Follows true (fun _ => True) [] w := by
        have set := State.follows_setPort (pages := true) (held := fun _ => True) (s.withExch y) p r fun _ _ => .inr trivial
        rw [← hw]
        split
        · exact set
        · exact set.trans (State.follows_complete _ _ _ fun _ => trivial)
      obtain ⟨gone, left⟩ := release_leaves took (by rw [record, ← hr]; rfl) follows (by rw [← hw]; split <;> rfl)
        (by rw [← hw]; split <;> rfl) (record ▸ still) (.inl (by rw [record, base]))
      have slots : if (s.port p).givesBack then
            s.puts ((s.withExch y).settles (w.apply p)) p .giveback ∧ ((s.withExch y).settles (w.apply p)).slotTaken q.slot
          else ((s.withExch y).settles (w.apply p)).slotDone q 0x07 .ok (figuresData 3 (some .base)) := by
        split
        next back =>
          have here : w = (s.withExch y).setPort p r := hw.symm.trans (if_pos back)
          refine ⟨puts_settle ?_ (by rw [record]; exact counter) (here ▸ rfl) (here ▸ rfl) (here ▸ rfl) (here ▸ rfl) (record ▸ still),
            slotTaken_settle took ready.2.2 (here ▸ rfl) (here ▸ rfl) (.inl (record ▸ still)) fun o ne => ?_⟩
          · rw [record, ← hr]
            exact PortRecord.releasedBy_slot back
          · rw [here, State.port_setPort_of_ne _ _ ne]
            rfl
        next keeps =>
          have here : w = ((s.withExch y).setPort p r).complete q.slot .ok r.data := hw.symm.trans (if_neg keeps)
          rw [here]
          refine slotDone_settle (State.unheld_of_flights ready.2.2 (fun o => ?_) rfl rfl rfl) ?_
          · exact State.setPort_inFlight (s.withExch y) p o (flight.trans ((if_neg keeps).trans idle.symm))
          · have data : r.data = figuresData 3 (some .base) := by rw [← hr]; rfl
            rw [data]
            exact State.slotDone_complete (u := (s.withExch y).setPort p r) took.req
      generalize (s.withExch y).settles (w.apply p) = t at after gone left slots
      have field : ∀ {α : Type} (f : PortRecord → α), (∀ a, f a = f a.sansEngine) → f (t.port p) = f r := fun f keeps => by
        rw [keeps, after, ← keeps]
      have flightAfter := (field PortRecord.inFlight fun _ => rfl).trans flight
      subst hr
      refine ⟨field PortRecord.released fun _ => rfl, field PortRecord.state fun _ => rfl, field PortRecord.live fun _ => rfl,
        field PortRecord.staged fun _ => rfl, field PortRecord.timer fun _ => rfl, field PortRecord.lapsing fun _ => rfl,
        field PortRecord.askTag fun _ => rfl, field PortRecord.claimTag fun _ => rfl, gone, ?_, fun fit => left fit (by rw [record]; rfl)⟩
      by_cases back : (s.port p).givesBack = true
      · rw [if_pos back] at slots flightAfter
        rw [if_pos ((s.port p).givesBack_iff.mp back)]
        exact ⟨slots.1, flightAfter, slots.2⟩
      · rw [if_neg back] at slots
        rw [if_neg (mt (s.port p).givesBack_iff.mpr back)]
        exact slots
    · rw [if_pos (show ((s.withExch y).port p).state = .faulted from faulted)] at e
      refine ⟨_, e, ?_⟩
      rw [State.portEvent]
      generalize hw : (s.withExch y).releaseFaulted q.slot p = w
      have record : w.port p = { s.port p with released := true } := by
        rw [← hw]
        exact State.port_setPort_self _ _ _
      have still : (w.port p).unmoved := by
        rw [record]
        exact .inr (.inr (.inr (.inr (.inl faulted))))
      have after : (((s.withExch y).settles (w.apply p)).port p).sansEngine = (w.port p).sansEngine := settle_unmoved still
      rw [record] at after
      have follows : (s.withExch y).Follows true (fun _ => True) [] w := hw ▸
        (State.follows_setPort_kept _ p _ (by rfl)).trans (State.follows_complete _ _ _ fun _ => trivial)
      obtain ⟨gone, -⟩ := release_leaves took (by rw [record]) follows (by rw [← hw]; rfl) (by rw [← hw]; rfl) still
        (.inr (by rw [record]; exact faulted))
      have done : ((s.withExch y).settles (w.apply p)).slotDone q 0x07 .ok (figuresData 7 (s.port p).live) := by
        refine slotDone_settle (State.unheld_of_flights ready.2.2 (fun o => ?_) (hw ▸ rfl) (hw ▸ rfl) (hw ▸ rfl)) ?_
        · rw [← hw]
          exact State.setPort_inFlight (s.withExch y) p o rfl
        · have data : (s.port p).data = figuresData 7 (s.port p).live := by rw [PortRecord.data, faulted]; rfl
          rw [← hw, ← data]
          exact State.slotDone_complete (u := (s.withExch y).setPort p { (s.withExch y).port p with released := true }) took.req
      exact ⟨(congrArg PortRecord.released after :), (congrArg PortRecord.state after :).trans faulted,
        (congrArg PortRecord.cause after :), (congrArg PortRecord.live after :), (congrArg PortRecord.inFlight after :).trans idle, gone,
        done⟩
  · obtain ⟨y, took, e⟩ := exec_forBarrel (c := .release q) rfl ready port (named := .release) rfl rfl idle (.inr rfl)
    have e : exec (.release q) s = .next ((s.withExch y).settles ((s.withExch y).barrelRelease q.slot)) := by
      rw [e]
      show Host.Outcome.next ((s.withExch y).reqRelease q.slot q.port) = _
      rw [State.reqRelease, port]
      exact congrArg Host.Outcome.next (if_pos present)
    refine ⟨_, e, ?_⟩
    generalize hw : (s.withExch y).barrelRelease q.slot = w
    have barrel : w.barrel = { s.barrel with released := true } := hw ▸ rfl
    have after : ((s.withExch y).settles w).barrel = _ := (trailing_barrel _).settles barrel
    have gone : ∀ u : State, u.barrel = { s.barrel with released := true } → u.eligible .barrel = false := fun u h => by
      rw [State.eligible, Barrel.eligible, h]
      simp
    have path : w.path = (s.withExch y).path := hw ▸ rfl
    have follows : (s.withExch y).Follows true (fun _ => True) [] w := hw ▸
      (State.follows_withBarrel_kept _ _ (by rfl)).trans (State.follows_complete _ _ _ fun _ => trivial)
    refine ⟨after, gone _ after, ?_, fun fit => ⟨took.journals ?_, fun held => ?_⟩⟩
    · refine ((trailing_slotDone q 0x07 .ok s.barrel.data).settles ⟨State.unheld_of_flights ready.2.2 ?_ ?_ ?_ ?_, ?_⟩).2
      · exact fun o => hw ▸ rfl
      · rw [barrel]
      · exact hw ▸ rfl
      · exact hw ▸ rfl
      · rw [← hw]
        exact State.slotDone_complete (u := (s.withExch y).withBarrel { s.barrel with released := true }) took.req
    · refine lost_journals (v := s.withExch y) (l := []) (cause := .released) follows path fit (gone w barrel) ?_
      simp only [State.eligible, Barrel.eligible, Bool.and_eq_true, Bool.or_eq_true, decide_eq_true_eq] at fit
      simp only [State.lossCause, barrel]
      rcases fit with ⟨⟨⟨-, state | state⟩, -⟩, -⟩ <;> rw [state] <;> rfl
    · exact lost_opens (s := s.withExch y) path (hw ▸ rfl) fit (gone w barrel) held

end

end Sys2Proof.Machine
end

/-! # Events that report nothing (R82, R95, R110) -/

section
namespace Sys2Proof.Machine

section
variable {s t u v w : State} {p : LinePort} {r : PortRecord} {n : Nat}

/-- The part of a port record that the owners' reports and the prospective score rest on: all but the frame, its waits and
tags, the counts, and the request in flight. -/
def PortRecord.sansWaits (r : PortRecord) : PortRecord :=
  { r.sansLine with
    askTag := none, claimTag := none, timer := .stopped, askAttempts := 0, claimAttempts := 0, staleFrame := 0, inFlight := none }

/-- The part of D's record that its owner's reports rest on: all but the sum of an identification. -/
def Barrel.sansCount (b : Barrel) : Barrel := { b with count := 0, sum := 0 }

/-- An event that changes nothing its owners report. -/
structure State.Quiet (s t : State) : Prop where
  policy : t.policy = s.policy
  state : t.path.state = s.path.state
  pin : t.path.pin = s.path.pin
  dead : t.meas.dead = s.meas.dead
  prospect : t.prospect = s.prospect
  port : ∀ p, (t.port p).sansWaits = (s.port p).sansWaits
  barrel : t.barrel.sansCount = s.barrel.sansCount

theorem State.Quiet.trans (h : s.Quiet t) (k : t.Quiet u) : s.Quiet u where
  policy := k.policy.trans h.policy
  state := k.state.trans h.state
  pin := k.pin.trans h.pin
  dead := k.dead.trans h.dead
  prospect := k.prospect.trans h.prospect
  port p := (k.port p).trans (h.port p)
  barrel := k.barrel.trans h.barrel

theorem State.Lined.quiet (h : s.Lined t) : s.Quiet t where
  policy := h.policy
  state := congrArg Path.state h.path
  pin := congrArg Path.pin h.path
  dead := congrArg Measurement.dead h.meas
  prospect := h.prospect
  port p := (congrArg PortRecord.sansWaits (h.port p) :)
  barrel := congrArg Barrel.sansCount h.barrel

theorem State.quiet_setPort (h : r.sansWaits = (s.port p).sansWaits) : s.Quiet (s.setPort p r) where
  policy := rfl
  state := rfl
  pin := rfl
  dead := rfl
  prospect := rfl
  port o := by
    by_cases here : o = p
    · subst here
      rw [State.port_setPort_self, h]
    · rw [State.port_setPort_of_ne s r here]
  barrel := rfl

theorem State.quiet_complete (s : State) (k : Fin 8) (c : ResultCode) (d : List Byte) : s.Quiet (s.complete k c d) :=
  ⟨rfl, rfl, rfl, rfl, rfl, fun _ => rfl, rfl⟩

section
variable (quiet : s.Quiet t)
include quiet

/-- A field of a port record that the reports rest on. -/
theorem State.Quiet.field {α : Type} (p : LinePort) (f : PortRecord → α) (keeps : ∀ r, f r = f r.sansWaits) :
    f (t.port p) = f (s.port p) := by
  rw [keeps, quiet.port, ← keeps]

theorem State.Quiet.live (x : Connector) : t.live x = s.live x := by
  cases x with
  | line p => exact quiet.field p PortRecord.live fun _ => rfl
  | barrel => exact (congrArg Barrel.live quiet.barrel :)

theorem State.Quiet.prospective (x : Connector) : t.prospective x = s.prospective x := by
  cases x with
  | line p =>
    show portProspective t.policy p (t.port p) = portProspective s.policy p (s.port p)
    rw [quiet.policy]
    exact quiet.field p (portProspective s.policy p) fun _ => rfl
  | barrel =>
    have eligible : t.barrel.eligible = s.barrel.eligible := (congrArg Barrel.eligible quiet.barrel :)
    show (if t.barrel.eligible then some (t.liveScore .barrel) else none) = if s.barrel.eligible then some (s.liveScore .barrel) else none
    rw [eligible, State.liveScore, quiet.live, quiet.policy]
    rfl

theorem State.Quiet.ownerReports (x : Connector) : Sys2Proof.Machine.ownerReports s t x = false := by
  cases x with
  | line p =>
    have state : (t.port p).state = (s.port p).state := quiet.field p PortRecord.state fun _ => rfl
    have live : (t.port p).live = (s.port p).live := quiet.live (.line p)
    have released : (t.port p).released = (s.port p).released := quiet.field p PortRecord.released fun _ => rfl
    have fault : (t.port p).pathFault = (s.port p).pathFault := quiet.field p PortRecord.pathFault fun _ => rfl
    simp [Sys2Proof.Machine.ownerReports, state, live, released, fault]
  | barrel =>
    have state : t.barrel.state = s.barrel.state := (congrArg Barrel.state quiet.barrel :)
    have live : t.barrel.live = s.barrel.live := (congrArg Barrel.live quiet.barrel :)
    have released : t.barrel.released = s.barrel.released := (congrArg Barrel.released quiet.barrel :)
    have fault : t.barrel.pathFault = s.barrel.pathFault := (congrArg Barrel.pathFault quiet.barrel :)
    have stored : t.barrel.stored = s.barrel.stored := (congrArg Barrel.stored quiet.barrel :)
    simp [Sys2Proof.Machine.ownerReports, state, live, released, fault, stored]

theorem State.Quiet.reportOwners : s.reportOwners t = t := by
  refine if_neg ?_
  rw [List.any_eq_true]
  rintro ⟨x, -, reports⟩
  rw [quiet.ownerReports x] at reports
  cases reports

theorem State.Quiet.report (ok : s.prospectOk) : s.report t = t := by
  have droops : ∀ l : List Connector, l.foldl (fun u x => s.reportDroop u x) t = t := fun l => by
    induction l with
    | nil => rfl
    | cons x l ih =>
      rw [List.foldl_cons, State.reportDroop, if_neg (by rw [quiet.live x]; exact fun h => h rfl), ih]
  have budget : budgetReports s t = false := by
    have shifting : ∀ x, t.shifting x = s.shifting x := fun x => by
      cases x with
      | line p => exact quiet.field p (fun r => decide (r.state = .shifting)) fun _ => rfl
      | barrel => rfl
    rw [budgetReports, quiet.state]
    cases s.path.state.connector with
    | none => simp
    | some x => simp [quiet.live x, shifting x]
  have prospect : t.findProspect = t.prospect := by
    rw [State.findProspect_congr quiet.prospective quiet.state quiet.pin quiet.dead quiet.policy, quiet.prospect]
    exact ok.symm
  unfold State.report
  dsimp only
  rw [quiet.reportOwners, droops, State.reportBudget, budget, if_neg (by simp), State.recomputeProspect, prospect]
  rfl

/-- An event that reports nothing ends with its page rewrites. -/
theorem State.Quiet.settle (ok : s.prospectOk) (n : Nat) : Sys2Proof.Machine.settle true n s t = s.finish t := by
  have concluded : s.concludes true t = s.finish t := by
    rw [State.concludes, if_pos rfl, quiet.report ok]
  cases n with
  | zero => exact concluded
  | succ n =>
    have roles : roleChanges s (s.finish t) = [] := by
      refine List.filter_eq_nil_iff.mpr fun p _ => ?_
      rw [State.role, State.role, State.finish_prospect, State.finish_path, quiet.prospect, quiet.state]
      simp
    rw [Sys2Proof.Machine.settle, concluded, roles]
    rfl

theorem State.Quiet.settles (ok : s.prospectOk) : s.settles t = s.finish t := quiet.settle ok _

end

end

end Sys2Proof.Machine
end

/-! # The waits for a GRANT and a SETTLED, and faults (R67, R70, R75) -/

section
namespace Sys2Proof.Machine

section
variable {s t u v w x : State} {p : LinePort} {f : OutFrame} {r : PortRecord} {q : PortRequest} {n : Nat} {pages : Bool}
  {c : ResultCode} {cause : FaultCause}

/-- The frames of a port are told by the engines, the records, the lines and the queue. -/
theorem State.puts.congr (h : s.puts u p f) (engines : t.engines = u.engines) (ports : t.ports = u.ports) (lines : t.lines = u.lines)
    (queue : t.queue = u.queue) : s.puts t p f := by
  simp only [State.puts, State.sends, State.begins, State.engine, State.port, State.line, engines, ports, lines, queue] at h ⊢
  exact h

theorem State.puts.finish (h : s.puts u p f) : s.puts (v.finish u) p f :=
  h.congr (State.finish_engines v u) (State.finish_ports v u) (State.finish_lines v u) (State.finish_queue v u)

/-- What applies for an engine answers no request. -/
theorem State.answered_apply {k : Fin 8} (h : w.unheld k ∧ w.answered k c) : (w.apply p).unheld k ∧ (w.apply p).answered k c := by
  have served := State.served_apply w p
  refine ⟨State.unheld_of_flights h.1 (fun o => served.field o PortRecord.inFlight fun _ => rfl) (by rw [State.apply_barrel])
    (by rw [State.apply_path]) (by rw [State.apply_meas]), ?_⟩
  have answered := h.2
  unfold State.answered at answered ⊢
  rwa [served.exch]

/-- A REFRESH or PIN in flight, ended in the event's own work, stays ended. -/
theorem ended_settle (sole : x.soleRequest p q) (kind : q.kind ≠ .release) :
    ((settle pages n v ((x.completePort p [.refresh, .pin] c).apply p)).port p).inFlight = none ∧
      (settle pages n v ((x.completePort p [.refresh, .pin] c).apply p)).answered q.slot c := by
  obtain ⟨idle, ended⟩ := sole.completePort (kinds := [.refresh, .pin]) (by cases k : q.kind <;> simp_all) c
  exact ⟨(trailing_idle p).settle n (((State.served_apply _ p).field p PortRecord.inFlight fun _ => rfl).trans idle),
    ((trailing_answered q.slot c).settle n (State.answered_apply ended)).2⟩

/-! ### Faults (R75) -/

/-- The record of a port that enters FAULTED. -/
def PortRecord.faultedBy (r : PortRecord) (cause : FaultCause) : PortRecord :=
  { (r.stopLapse.put .giveback).setLive (some .base) with
    cause := some cause, staged := none, timer := .stopped, askTag := none, claimTag := none
    claimAttempts := 0, refreshPending := false, deferred := false, state := .faulted }

theorem State.enterFaulted_eq (s : State) (p : LinePort) (cause : FaultCause) :
    s.enterFaulted p cause =
      (((s.setPort p ((s.port p).faultedBy cause)).journal 0x09 (lineByte p) [cause.code]).completePort p [.refresh, .pin]
        (if cause = .droop then .lost else .timedOut)) := rfl

theorem State.port_enterFaulted (s : State) (p : LinePort) (cause : FaultCause) :
    ∃ o, (s.enterFaulted p cause).port p = { (s.port p).faultedBy cause with inFlight := o } := by
  obtain ⟨o, record, -⟩ := State.port_completePort
    ((s.setPort p ((s.port p).faultedBy cause)).journal 0x09 (lineByte p) [cause.code]) p [.refresh, .pin]
    (if cause = .droop then .lost else .timedOut)
  refine ⟨o, record.trans ?_⟩
  rw [show ((s.setPort p ((s.port p).faultedBy cause)).journal 0x09 (lineByte p) [cause.code]).port p =
    (s.port p).faultedBy cause from State.port_setPort_self _ _ _]

/-- A port that enters FAULTED stays so, its GIVEBACK sent or waiting. -/
theorem faulted_settle (counter : (u.port p).tagCounter = (s.port p).tagCounter) (line : u.line p = s.line p)
    (engines : u.engines = s.engines) (queue : u.queue = s.queue) (attached : u.attached (.line p) = s.attached (.line p)) :
    s.puts (settle pages n v ((u.enterFaulted p cause).apply p)) p .giveback ∧
      ∃ o, ((settle pages n v ((u.enterFaulted p cause).apply p)).port p).sansEngine =
        { (u.port p).faultedBy cause with inFlight := o }.sansEngine := by
  obtain ⟨o, record⟩ := u.port_enterFaulted p cause
  have still : ((u.enterFaulted p cause).port p).unmoved := by
    rw [record]
    exact .inr (.inr (.inr (.inr (.inl rfl))))
  refine ⟨puts_settle (by rw [record]; rfl) (by rw [record]; exact counter) ?_ ?_ ?_ ?_ still, o, ?_⟩
  · rw [← line, State.line, State.line, State.enterFaulted_eq, State.completePort_lines]
    rfl
  · rw [← engines, State.enterFaulted_eq, State.completePort_engines]
    rfl
  · rw [← queue, State.enterFaulted_eq, State.completePort_queue]
    rfl
  · rw [← attached, State.attached, State.tracker, State.enterFaulted_eq, State.completePort_trackers]
    rfl
  · rw [← record]
    exact settle_unmoved still

theorem State.setPort_setPort (s : State) (p : LinePort) (a b : PortRecord) : (s.setPort p a).setPort p b = s.setPort p b := by
  cases p <;> rfl

/-- A fault stops the wait that brought it. -/
theorem State.enterFaulted_waited (s : State) (p : LinePort) (cause : FaultCause) :
    (s.setPort p { s.port p with claimTag := none, timer := .stopped }).enterFaulted p cause = s.enterFaulted p cause := by
  rw [State.enterFaulted_eq, State.enterFaulted_eq, State.setPort_setPort, State.port_setPort_self]
  rfl

/-- The record that a completion leaves, with the event's end. -/
theorem State.soleRequest.journalled (h : s.soleRequest p q) (same : r.inFlight = (s.port p).inFlight) (kind port : Byte) (d : List Byte) :
    ((s.setPort p r).journal kind port d).soleRequest p q :=
  h.setPort same

/-- Settles O39. -/
theorem claimAndSettleWaitExpiries : Obligations.ClaimAndSettleWaitExpiries := by
  unfold Obligations.ClaimAndSettleWaitExpiries
  intro s p ends faults
  have fault : ∀ cause code, FaultCause.code cause = code → cause ≠ .droop →
      faults (s.settles ((s.enterFaulted p cause).apply p)) cause code := by
    rintro cause code rfl timed
    obtain ⟨puts, o, after⟩ := faulted_settle (s := s) (u := s) (p := p) (cause := cause) (v := s) (n := Config.reportDepth) (pages := true)
      rfl rfl rfl rfl rfl
    have journal : s.journals (s.settles ((s.enterFaulted p cause).apply p)) [(0x09, connectorCode (some (.line p)), [cause.code])] :=
      State.Follows.journals_of_more ((trailing_follows s _).settles
        ⟨[], (State.follows_enterFaulted s p cause).trans (State.served_apply _ p).follows⟩) s.heldIn_all
    have ended : ends (s.settles ((s.enterFaulted p cause).apply p)) := fun q sole kind => by
      rw [State.enterFaulted_eq, if_neg timed]
      exact ended_settle (sole.journalled (r := (s.port p).faultedBy cause) rfl _ _ _) kind
    change ((s.settles ((s.enterFaulted p cause).apply p)).port p).sansEngine = _ at after
    change s.puts (s.settles ((s.enterFaulted p cause).apply p)) p .giveback at puts
    generalize s.settles ((s.enterFaulted p cause).apply p) = t at puts after journal ended
    exact ⟨(congrArg PortRecord.state after :), (congrArg PortRecord.cause after :), (congrArg PortRecord.live after :),
      (congrArg PortRecord.staged after :), (congrArg PortRecord.claimTag after :), (congrArg PortRecord.askTag after :),
      (congrArg PortRecord.claimAttempts after :), (congrArg PortRecord.timer after :), (congrArg PortRecord.lapsing after :),
      (congrArg PortRecord.lapseTimer after :), (congrArg PortRecord.deferred after :), (congrArg PortRecord.refreshPending after :),
      (congrArg PortRecord.pin after :), (congrArg PortRecord.held after :), puts, journal, ended⟩
  have claimed : (s.port p).state = .claimed → (s.port p).timer = .claimWait →
      exec (.claimWaitExpiry p) s = .next (s.settles ((s.claimTimeout p).apply p)) := fun state timer =>
    congrArg Host.Outcome.next (if_pos ⟨state, timer⟩)
  refine ⟨fun state timer attempts => ⟨fun free ok k l staged level => ?_, fun held => ?_⟩, fun state timer attempts => ?_,
    fun state timer => ?_⟩
  · generalize hw : s.setPort p { s.port p with
      claimTag := none, timer := .stopped, slot := (s.port p).staged.map Contract.claimFrame, claimAttempts := 2 } = w
    have record : w.port p = { s.port p with
        claimTag := none, timer := .stopped, slot := some (.claim l k.volts k.limit k.operating), claimAttempts := 2 } := by
      rw [← hw, State.port_setPort_self, staged, Option.map_some, Contract.claimFrame, level]
      rfl
    have e : exec (.claimWaitExpiry p) s = .next (s.finish (w.apply p)) := by
      have quiet : s.Quiet (w.apply p) := (hw ▸ State.quiet_setPort rfl : s.Quiet w).trans (State.served_apply w p).lined.quiet
      rw [claimed state timer, ← quiet.settles ok, ← hw, State.claimTimeout]
      dsimp only
      rw [if_neg (by omega), if_neg (by rw [free]; decide)]
    have served := State.served_apply w p
    have field : ∀ {α : Type} (g : PortRecord → α), (∀ a, g a = g a.sansEngine) → g ((s.finish (w.apply p)).port p) = g (w.port p) :=
      fun g keeps => by rw [State.port, State.finish_ports]; exact served.field p g keeps
    refine ⟨_, e, (puts_apply (by rw [record]) (by rw [record]) (hw ▸ rfl) (hw ▸ rfl) (hw ▸ rfl) (hw ▸ rfl)).finish, ?_, ?_, ?_, ?_, ?_, ?_,
      ?_, ?_⟩
    · rw [field PortRecord.claimAttempts fun _ => rfl, record]
    · rw [field PortRecord.state fun _ => rfl, record, state]
    · rw [field PortRecord.claimTag fun _ => rfl, record]
    · rw [field PortRecord.timer fun _ => rfl, record]
    · rw [field PortRecord.staged fun _ => rfl, record, staged]
    · rw [field PortRecord.live fun _ => rfl, record]
    · rw [State.finish_path, State.apply_path, ← hw]
      rfl
    · have attn : (s.finish (w.apply p)).exch.attn = (w.apply p).exch.attn :=
        (congrArg Exchange.attn (State.finish_exch_rest s (w.apply p)) :)
      rw [attn, served.exch, ← hw]
      rfl
  · generalize hx : s.setPort p { s.port p with
      claimTag := none, timer := .stopped, staged := none, claimAttempts := 0, state := (s.port p).resting } = x
    have before : x.port p = { s.port p with
        claimTag := none, timer := .stopped, staged := none, claimAttempts := 0, state := (s.port p).resting } := by
      rw [← hx, State.port_setPort_self]
    have e : exec (.claimWaitExpiry p) s = .next (s.settles ((x.completePort p [.refresh, .pin] .timedOut).apply p)) := by
      rw [claimed state timer, ← hx, State.claimTimeout]
      dsimp only
      rw [if_neg (by omega), if_pos held]
      rfl
    obtain ⟨o, record, -⟩ := State.port_completePort x p [.refresh, .pin] .timedOut
    rw [before] at record
    have still : ((x.completePort p [.refresh, .pin] .timedOut).port p).unmoved := by
      rw [record]
      exact PortRecord.unmoved_of_blocked (.inl held) (s.port p).resting_ne_shifting
    have after : ((s.settles ((x.completePort p [.refresh, .pin] .timedOut).apply p)).port p).sansEngine = _ := settle_unmoved still
    rw [record] at after
    exact ⟨_, e, (congrArg PortRecord.staged after :), (congrArg PortRecord.claimAttempts after :), (congrArg PortRecord.claimTag after :),
      (congrArg PortRecord.timer after :), (congrArg PortRecord.held after :).trans held,
      (congrArg PortRecord.state after :).trans (s.port p).resting_eq, (congrArg PortRecord.live after :),
      fun q sole kind => ended_settle (hx ▸ sole.setPort rfl) kind⟩
  · refine ⟨_, ?_, fault .noAnswer 1 rfl (by decide)⟩
    rw [claimed state timer, State.claimTimeout]
    dsimp only
    rw [if_pos attempts, State.enterFaulted_waited]
  · exact ⟨_, congrArg Host.Outcome.next (if_pos ⟨state, timer⟩), fault .noSettle 2 rfl (by decide)⟩

end

end Sys2Proof.Machine
end

/-! # Frames from a feeder, accepted and delivered (R24, R26, R30) -/

section
namespace Sys2Proof.Machine

section
variable {s t u v w x y : State} {p : LinePort} {r : PortRecord} {e : EngineId} {n : Nat} {pages : Bool} {c : Instr}

/-! ### The bytes of an accepted frame -/

/-- A frame with the right length byte, the right CRC and direction 1 is accepted as its payload says (R26). -/
theorem acceptFrame_of_payload {header : Byte} {payload : List Byte} (short : payload.length < 256) (dir : header.getLsbD 0 = true) :
    acceptFrame (header :: BitVec.ofNat 8 payload.length :: (payload ++ [crc (header :: BitVec.ofNat 8 payload.length :: payload)])) =
      (decodePayload (header.toNat / 16) payload).map fun f => (header.toNat / 2 % 8, f) := by
  simp only [acceptFrame, List.dropLast_concat, List.getLastD_concat, List.length_append, List.length_singleton]
  rw [if_neg (by rw [BitVec.toNat_ofNat, Nat.mod_eq_of_lt short]; simp), if_neg (by simp), dir]
  cases decodePayload (header.toNat / 16) payload <;> rfl

/-- The header byte of a feeder's frame holds kind, tag and direction 1 (R20, R22). -/
theorem header_fields {kind tag : Nat} (hk : kind < 16) (ht : tag < 8) :
    (BitVec.ofNat 8 (16 * kind + 1 + 2 * tag)).getLsbD 0 = true ∧ (BitVec.ofNat 8 (16 * kind + 1 + 2 * tag)).toNat / 16 = kind ∧
      (BitVec.ofNat 8 (16 * kind + 1 + 2 * tag)).toNat / 2 % 8 = tag := by
  have value : (BitVec.ofNat 8 (16 * kind + 1 + 2 * tag)).toNat = 16 * kind + 1 + 2 * tag := by
    rw [BitVec.toNat_ofNat, Nat.mod_eq_of_lt (by omega)]
  refine ⟨?_, by omega, by omega⟩
  rw [← BitVec.testBit_toNat, value, Nat.testBit_zero, decide_eq_true_eq]
  omega

/-- A frame of a kind under a tag. -/
theorem acceptFrame_kind {kind tag : Nat} {payload : List Byte} {f : FeederFrame} (hk : kind < 16) (ht : tag < 8)
    (short : payload.length < 256) (decoded : decodePayload kind payload = some f) :
    acceptFrame (BitVec.ofNat 8 (16 * kind + 1 + 2 * tag) :: BitVec.ofNat 8 payload.length ::
      (payload ++ [crc (BitVec.ofNat 8 (16 * kind + 1 + 2 * tag) :: BitVec.ofNat 8 payload.length :: payload)])) = some (tag, f) := by
  obtain ⟨dir, high, low⟩ := header_fields hk ht
  rw [acceptFrame_of_payload short dir, high, low, decoded]
  rfl

/-! ### END_DELIMITER -/

/-- The line of a port after a frame, the monitor IDLE. -/
def State.idled (s : State) (p : LinePort) : State := s.setLine p ((s.line p).enter .idle)

/-- END_DELIMITER after an accepted frame delivers it; then the lease ends (R30, R48). -/
theorem exec_endDelimiter_accepted {tag : Nat} {f : FeederFrame} (here : s.attached (.line p) = true)
    (receiving : (s.line p).cond = .receiving) (lease : s.engineOf p = some e) (accepted : acceptFrame (s.engine e).rx = some (tag, f)) :
    exec (.endDelimiter p) s = .next (s.settles (((s.idled p).deliver p tag f).endLeaseOf p)) := by
  refine congrArg Host.Outcome.next ((if_pos here).trans ?_)
  rw [State.takeEnd, receiving, lease]
  dsimp only
  rw [State.receive, accepted]
  rfl

/-! ### After an event whose engine has been given on -/

/-- The record of a port that calls for selection leave be. -/
theorem settle_served_unmoved (served : w.Served x) (still : (w.port p).unmoved) :
    ((settle pages n v x).port p).sansEngine = (w.port p).sansEngine :=
  (trailing_unmoved still).settle n (served.port p)

theorem settle_served_calm (served : w.Served x) (calm : (w.port p).calm) :
    ((settle pages n v x).port p).undeferred = (w.port p).undeferred :=
  (trailing_calm p calm).settle n (PortRecord.undeferred_of_sansEngine (served.port p))

theorem State.Served.answered {k : Fin 8} {code : ResultCode} (served : w.Served x) (h : w.unheld k ∧ w.answered k code) :
    x.unheld k ∧ x.answered k code := by
  refine ⟨State.unheld_of_flights h.1 (fun o => served.field o PortRecord.inFlight fun _ => rfl) (congrArg (fun u => u.barrel.inFlight) served.rest :)
    (congrArg (fun u => u.path.inFlight) served.rest :) (congrArg (fun u => u.meas.singles) served.rest :), ?_⟩
  have answered := h.2
  unfold State.answered at answered ⊢
  rwa [served.exch]

/-- A request in flight on a port, ended in the event's own work, stays ended. -/
theorem ended_served {q : PortRequest} {kinds : List PortRequestKind} {code : ResultCode} (sole : x.soleRequest p q)
    (listed : kinds.contains q.kind = true) (served : (x.completePort p kinds code).Served y) :
    ((settle pages n v y).port p).inFlight = none ∧ (settle pages n v y).answered q.slot code := by
  obtain ⟨idle, ended⟩ := sole.completePort listed code
  exact ⟨(trailing_idle p).settle n ((served.field p PortRecord.inFlight fun _ => rfl).trans idle),
    ((trailing_answered q.slot code).settle n (served.answered ended)).2⟩

theorem State.countStaleFrame_eq (s : State) (p : LinePort) :
    s.countStaleFrame p = s.setPort p { s.port p with staleFrame := counted (s.port p).staleFrame } := rfl

theorem State.quiet_stale (s : State) (p : LinePort) :
    s.Quiet (s.setPort p { s.port p with staleFrame := counted (s.port p).staleFrame }) := State.quiet_setPort (by rfl)

/-- A stale frame is counted, and the lease ends (R24, R51, R48). -/
theorem leaseEnds_of_stale {tag : Nat} {f : FeederFrame} (here : s.attached (.line p) = true)
    (receiving : (s.line p).cond = .receiving) (ok : s.prospectOk)
    (accepted : acceptFrame (s.engine e).rx = some (tag, f))
    (stale : (s.idled p).deliver p tag f = (s.idled p).countStaleFrame p) :
    leaseEnds (.endDelimiter p) s
      ((s.withLines (s.lines.set p (s.line p).idled)).withPorts
        (s.ports.set p { s.port p with staleFrame := counted (s.port p).staleFrame })) p e := by
  intro lease
  have idled : s.Quiet (s.idled p) := (State.lined_setLine s p _).quiet
  have done := exec_endDelimiter_accepted here receiving lease accepted
  rw [stale, State.countStaleFrame_eq, ((idled.trans (State.quiet_stale _ p)).trans (State.served_endLeaseOf _ p).lined.quiet).settles ok]
    at done
  exact leaseEnds_of_endLeaseOf (u := (s.idled p).setPort p _) rfl done lease

end

end Sys2Proof.Machine
end

/-! # Answers to a claim (R65, R66, R69) -/

section
namespace Sys2Proof.Machine

section
variable {s t u v w x : State} {p : LinePort} {r : PortRecord} {e : EngineId} {n : Nat} {pages : Bool} {k : Fin 8} {code : ResultCode}
  {R : PortRecord → Prop} {y : Connector}

/-! ### What the reports and the calls keep -/

theorem reportDroops_changed {l : List Connector} (mem : y ∈ l) (changed : s.live y ≠ u.live y) :
    (l.foldl (fun v z => s.reportDroop v z) u).meas.droop.get y = 0 := by
  induction l generalizing u with
  | nil => cases mem
  | cons z l ih =>
    rw [List.foldl_cons]
    rcases List.mem_cons.mp mem with rfl | later
    · refine (trailing_droop y).reportDroops s l ?_
      rw [State.reportDroop, if_pos changed]
      exact PerConn.get_set_self _ _ _
    · refine ih later ?_
      unfold State.reportDroop
      split
      · exact changed
      · exact changed

theorem mem_connectors (x : Connector) : x ∈ connectors := by
  cases x with
  | line p => cases p <;> decide
  | barrel => decide

/-- The droop counter of a connector whose live contract an event changed is 0 after it (R130). -/
theorem droop_settle (changed : s.live y ≠ t.live y) : (settle pages n s t).meas.droop.get y = 0 := by
  have kept : (s.reportOwners t).live y = t.live y := by
    unfold State.reportOwners
    split
    · cases y with
      | line p => rw [State.live, State.port, State.evaluate_ports]; rfl
      | barrel => rw [State.live, State.evaluate_barrel]; rfl
    · rfl
  have cleared := reportDroops_changed (mem_connectors y) (kept ▸ changed)
  exact (trailing_droop y).settle_of_report n ((trailing_droop y).prospect _ _ ((trailing_droop y).reportBudget s cleared))

/-- What all that follows an event keeps of a record, a call for selection keeps. -/
theorem Trailing.callSelection (trails : Trailing fun u => R (u.port p)) (keeps : ∀ r, R r ↔ R r.sansEngine) (h : R (u.port p)) :
    R ((u.callSelection p).port p) := by
  have after := trails.call u p h
  rw [keeps, (State.served_apply _ p).port p, ← keeps] at after
  exact after

theorem Trailing.settle_served (trails : Trailing fun u => R (u.port p)) (keeps : ∀ r, R r ↔ R r.sansEngine) (served : w.Served x)
    (h : R (w.port p)) : R ((Sys2Proof.Machine.settle pages n v x).port p) :=
  Trailing.settle (P := fun u => R (u.port p)) trails n (by rw [keeps, served.port p, ← keeps]; exact h)

theorem State.Goes.answered (goes : u.Goes true (fun j => j ≠ k) v) (h : u.unheld k ∧ u.answered k code) :
    v.unheld k ∧ v.answered k code := by
  obtain ⟨l, goes⟩ := goes
  obtain ⟨unheld, copy, state, result⟩ := h
  obtain ⟨stays, slot, bytes⟩ := State.Follows.spares (l := l) ⟨[], by rwa [List.append_nil]⟩ unheld
  exact ⟨stays, by rw [slot, copy], by rw [bytes _ (by omega) (by omega), state], by rw [bytes _ (by omega) (by omega), result]⟩

/-- Outside SHIFTING no selection is deferred. -/
theorem trailing_free (p : LinePort) : Trailing fun u => (u.port p).state ≠ .shifting ∧ (u.port p).deferred = false :=
  .of_record (R := fun r => r.state ≠ .shifting ∧ r.deferred = false) p
    (fun r w same h => by
      rw [show w.state = r.state from (congrArg PortRecord.state same).symm,
        show w.deferred = r.deferred from (congrArg PortRecord.deferred same).symm]
      exact h)
    fun q r w calls h => by
      have moved : ∀ a b : PortRecord, a.deferred = r.deferred → PortRecord.Applied q p r a b →
          b.state ≠ .shifting ∧ b.deferred = false := fun a b ha hb => by
        refine ⟨fun e => ?_, ?_⟩
        · have := hb.selects
          rw [e] at this
          cases this
        · cases hb with
          | claims _ _ => exact ha.trans h.2
          | stands _ _ _ _ _ => exact ha.trans h.2
          | rests _ _ _ => exact ha.trans h.2
      cases calls with
      | unmoved _ => exact h
      | deferred _ shifting => exact absurd shifting h.1
      | keeps _ _ _ _ _ => exact h
      | rested _ _ k => exact moved (rescore q p r) _ rfl k
      | retired _ _ k =>
        refine moved (rescore q p r).retire _ ?_ k
        unfold PortRecord.retire PortRecord.withdrawClaim
        split <;> rfl

theorem trailing_pending (p : LinePort) : Trailing fun u => (u.port p).refreshPending = false :=
  .of_record (R := fun r => r.refreshPending = false) p (fun _ _ same h => (congrArg PortRecord.refreshPending same).symm.trans h)
    fun _ _ _ calls h => (congrArg PortRecord.refreshPending calls.core :).trans h

/-! ### SETTLED (R69) -/

/-- The record of a port whose claimed terms have become live. -/
def PortRecord.termsLive (r : PortRecord) : PortRecord :=
  { r.settleLapse with
    live := r.settleLapse.staged, staged := none, timer := .stopped, claimTag := none, claimAttempts := 0, pathFault := false
    state := .bound }

theorem PortRecord.settleLapse_kept (r : PortRecord) :
    r.settleLapse.staged = r.staged ∧ r.settleLapse.refreshPending = r.refreshPending ∧ r.settleLapse.inFlight = r.inFlight := by
  unfold PortRecord.settleLapse
  split <;> exact ⟨rfl, rfl, rfl⟩

/-- What waited for the end of the shift: a REFRESH, or a call for selection. -/
def State.shiftLeft (s : State) (p : LinePort) : State :=
  if (s.port p).refreshPending then s.setPort p { (s.port p).clearBars.startAsk with refreshPending := false, deferred := false }
  else if (s.port p).deferred then (s.setPort p { s.port p with deferred := false }).callSelection p
  else s

theorem State.settled_shiftLeft (s : State) (p : LinePort) : s.settled p = (s.boundDone p).shiftLeft p := rfl

theorem State.port_boundOn (s : State) (p : LinePort) : (s.boundOn p).port p = (s.port p).termsLive := State.port_setPort_self _ _ _

/-- The BOUND record of a port whose claimed terms become live. -/
def PortRecord.boundRecord (r : PortRecord) (p : LinePort) : Byte × Byte × List Byte :=
  (0x04, lineByte p, [byte ((r.staged.bind Contract.level).getD 0), 0] ++ le2 ((r.staged.map Contract.volts).getD 0) ++
    le2 ((r.staged.map Contract.limit).getD 0) ++ le2 ((r.staged.map Contract.operating).getD 0))

theorem State.follows_boundOn {held : Fin 8 → Prop} (s : State) (p : LinePort) :
    s.Follows true held [(s.port p).boundRecord p] (s.boundOn p) := by
  rw [PortRecord.boundRecord, ← (s.port p).settleLapse_kept.1]
  exact (State.follows_setPort_kept s p (s.port p).termsLive (PortRecord.settleLapse_inFlight _)).trans
    (State.follows_journal _ 0x04 (lineByte p) _)

theorem State.follows_boundRefreshed {held : Fin 8 → Prop} (s : State) (p : LinePort) :
    (s.boundOn p).Follows true held [] (s.boundRefreshed p) := by
  unfold State.boundRefreshed
  split
  · exact .refl _
  · exact State.follows_completePort _ _ _ _

theorem State.follows_boundDone {held : Fin 8 → Prop} (s : State) (p : LinePort) :
    (s.boundRefreshed p).Follows true held [] (s.boundDone p) := by
  unfold State.boundDone
  split
  · exact State.follows_completePort _ _ _ _
  · exact .refl _

theorem State.goes_shiftLeft {held : Fin 8 → Prop} (s : State) (p : LinePort) : s.Goes true held (s.shiftLeft p) := by
  unfold State.shiftLeft
  split
  · exact (State.follows_setPort_kept _ _ _ (by rfl)).goes
  · split
    · exact (State.follows_setPort_kept s p _ (by rfl)).goes.trans (State.goes_callSelection _ p)
    · exact .refl s

theorem State.port_boundRefreshed (s : State) (p : LinePort) :
    ∃ f, (s.boundRefreshed p).port p = { (s.port p).termsLive with inFlight := f } := by
  unfold State.boundRefreshed
  split
  · exact ⟨_, s.port_boundOn p⟩
  · obtain ⟨f, record, -⟩ := (s.boundOn p).port_completePort p [.refresh] .ok
    exact ⟨f, by rw [record, s.port_boundOn]⟩

theorem State.port_boundDone (s : State) (p : LinePort) :
    ∃ f, (s.boundDone p).port p = { (s.boundRefreshed p).port p with inFlight := f } ∧
      (f = ((s.boundRefreshed p).port p).inFlight ∨ f = none) := by
  unfold State.boundDone
  split
  · exact (s.boundRefreshed p).port_completePort p [.pin] .ok
  · exact ⟨_, rfl, .inl rfl⟩

/-- A record whose claimed terms, `k`, have become live, with nothing left of the claim or of what waited for its end. -/
def PortRecord.bearing (k : Contract) (r : PortRecord) : Prop :=
  r.live.map Contract.unshared = some k.unshared ∧ (r.timer = .stopped ∧ r.claimTag = none) ∧ r.pathFault = false ∧
    (r.state ≠ .shifting ∧ r.deferred = false) ∧ r.refreshPending = false

theorem trailing_bearing (p : LinePort) (k : Contract) : Trailing fun u => PortRecord.bearing k (u.port p) :=
  (trailing_live p _).and ((trailing_timer p).and ((trailing_faultless p).and ((trailing_free p).and (trailing_pending p))))

theorem State.shiftLeft_bearing {c : Contract} (live : (s.port p).live = some c) (timer : (s.port p).timer = .stopped)
    (tag : (s.port p).claimTag = none) (fault : (s.port p).pathFault = false) (state : (s.port p).state = .bound) :
    PortRecord.bearing c ((s.shiftLeft p).port p) := by
  have lives : (s.port p).live.map Contract.unshared = some c.unshared := by rw [live]; rfl
  have free : (s.port p).state ≠ .shifting := by rw [state]; decide
  unfold State.shiftLeft
  split
  · rw [State.port_setPort_self]
    exact ⟨lives, ⟨rfl, tag⟩, fault, ⟨(fun h => nomatch h), rfl⟩, rfl⟩
  next calm =>
    rw [Bool.not_eq_true] at calm
    split
    · refine (trailing_bearing p c).callSelection (fun _ => Iff.rfl) ?_
      rw [State.port_setPort_self]
      exact ⟨lives, ⟨timer, tag⟩, fault, ⟨free, rfl⟩, calm⟩
    next undeferred =>
      rw [Bool.not_eq_true] at undeferred
      exact ⟨lives, ⟨timer, tag⟩, fault, ⟨free, undeferred⟩, calm⟩

theorem State.settled_bearing {c : Contract} (staged : (s.port p).staged = some c) : PortRecord.bearing c ((s.settled p).port p) := by
  rw [State.settled_shiftLeft]
  obtain ⟨f, first⟩ := s.port_boundRefreshed p
  obtain ⟨g, second, -⟩ := s.port_boundDone p
  rw [first] at second
  exact State.shiftLeft_bearing (by rw [second]; exact (s.port p).settleLapse_kept.1.trans staged) (by rw [second]; rfl)
    (by rw [second]; rfl) (by rw [second]; rfl) (by rw [second]; rfl)

/-- A REFRESH that is in flight ends with SETTLED. -/
theorem State.settled_answers {q : PortRequest} (sole : s.soleRequest p q) (kind : q.kind = .refresh)
    (pending : (s.port p).refreshPending = false) :
    ((s.settled p).port p).inFlight = none ∧ (s.settled p).unheld q.slot ∧ (s.settled p).answered q.slot .ok := by
  have mine : (s.boundOn p).soleRequest p q :=
    State.soleRequest.journalled (r := (s.port p).termsLive) sole (s.port p).settleLapse_kept.2.2 _ _ _
  obtain ⟨idle, ended⟩ := mine.completePort (kinds := [.refresh]) (by rw [kind]; rfl) .ok
  have refreshed : s.boundRefreshed p = (s.boundOn p).completePort p [.refresh] .ok := by
    rw [State.boundRefreshed, (s.port p).settleLapse_kept.2.1, pending]
    rfl
  rw [← refreshed] at idle ended
  obtain ⟨f, record, kept⟩ := s.port_boundDone p
  have idle : ((s.boundDone p).port p).inFlight = none := by
    rw [record]
    exact kept.elim (fun same => same.trans idle) id
  rw [State.settled_shiftLeft]
  refine ⟨?_, ((s.follows_boundDone p).goes.trans ((s.boundDone p).goes_shiftLeft p)).answered ended⟩
  unfold State.shiftLeft
  split
  · rw [State.port_setPort_self]
    exact idle
  · split
    · refine (trailing_idle p).callSelection (R := fun r => r.inFlight = none) (fun _ => Iff.rfl) ?_
      rw [State.port_setPort_self]
      exact idle
    · exact idle

/-! ### Delivery of an answer -/

theorem State.deliver_grant (s : State) (p : LinePort) (tag : Nat) :
    s.deliver p tag .grant =
      if (s.port p).claimTag = some tag ∧ (s.port p).state = .claimed then s.granted p else s.countStaleFrame p := by
  simp only [State.deliver, Bool.and_eq_true, decide_eq_true_eq]

theorem State.deliver_settled (s : State) (p : LinePort) (tag : Nat) :
    s.deliver p tag .settled =
      if (s.port p).claimTag = some tag ∧ (s.port p).state = .shifting then s.settled p else s.countStaleFrame p := by
  simp only [State.deliver, Bool.and_eq_true, decide_eq_true_eq]

theorem State.deliver_decline (s : State) (p : LinePort) (tag : Nat) (reason : Byte) :
    s.deliver p tag (.decline reason) =
      if (s.port p).claimTag = some tag ∧ (s.port p).state = .claimed then s.declined p reason else s.countStaleFrame p := by
  simp only [State.deliver, Bool.and_eq_true, decide_eq_true_eq]

theorem State.Served.follows_of (served : w.Served x) {held : Fin 8 → Prop} {l : List (Byte × Byte × List Byte)}
    (h : s.Follows true held l w) : s.Follows true held l x := by
  have := h.trans (served.follows (pages := true) (held := held))
  rwa [List.append_nil] at this

/-- Settles O35. -/
theorem grantThenSettledMakeTheClaimLive : Obligations.GrantThenSettledMakeTheClaimLive := by
  unfold Obligations.GrantThenSettledMakeTheClaimLive
  refine ⟨fun s p e tag k here receiving lease small claimTag staged => ⟨fun claimed rx => ?_, fun shifting rx => ?_, fun reason claimed rx => ?_⟩,
    fun s p e tag here receiving lease ok small h which rx => ?_⟩
  · have done := exec_endDelimiter_accepted here receiving lease (rx ▸ acceptFrame_kind (kind := 9) (payload := []) (f := .grant) (by decide)
      (by omega) (by decide) rfl)
    rw [State.deliver_grant, if_pos ⟨claimTag, claimed⟩] at done
    have record : ((s.idled p).granted p).port p = { s.port p with state := .shifting, timer := .settleWait } :=
      State.port_setPort_self _ _ _
    have after : ((s.settles (((s.idled p).granted p).endLeaseOf p)).port p).undeferred = _ :=
      settle_served_calm (State.served_endLeaseOf _ p) (.inr (by rw [record]))
    rw [record] at after
    exact ⟨_, done, (congrArg PortRecord.state after :), (congrArg PortRecord.timer after :),
      (congrArg PortRecord.claimTag after :).trans claimTag, (congrArg PortRecord.staged after :).trans staged,
      (congrArg PortRecord.live after :), (congrArg PortRecord.image after :), (congrArg PortRecord.staleFrame after :),
      (congrArg PortRecord.badFrame after :)⟩
  · have done := exec_endDelimiter_accepted here receiving lease (rx ▸ acceptFrame_kind (kind := 11) (payload := []) (f := .settled) (by decide)
      (by omega) (by decide) rfl)
    rw [State.deliver_settled, if_pos ⟨claimTag, shifting⟩] at done
    have served := State.served_endLeaseOf ((s.idled p).settled p) p
    have bearing : PortRecord.bearing k ((s.idled p).settled p |>.port p) := State.settled_bearing staged
    obtain ⟨live, ⟨timer, tagged⟩, fault, ⟨state, free⟩, pending⟩ : PortRecord.bearing k
        ((s.settles (((s.idled p).settled p).endLeaseOf p)).port p) :=
      (trailing_bearing p k).settle_served (fun _ => Iff.rfl) served bearing
    have figures : ∀ l : Option Contract, l.map (fun l => (l.origin, l.level, l.volts, l.limit, l.operating, l.narrowed)) =
        (l.map Contract.unshared).map fun l => (l.origin, l.level, l.volts, l.limit, l.operating, l.narrowed) := fun l => by
      rw [Option.map_map]
      rfl
    refine ⟨_, done, by rw [figures, live]; rfl, state, timer, tagged, fault, free, pending, fun changed => ?_, ?_, fun q sole kind calm => ?_⟩
    · refine droop_settle fun same => ?_
      have volts : (s.port p).live.map Contract.volts = some k.volts := by
        have lives : ((((s.idled p).settled p).endLeaseOf p).port p).live = ((s.idled p).settled p |>.port p).live :=
          served.field p PortRecord.live fun _ => rfl
        have new := congrArg (Option.map Contract.volts) bearing.1
        rw [Option.map_map] at new
        rw [show (s.port p).live = _ from same, State.live, lives]
        exact new
      obtain ⟨l, live, volts⟩ := Option.map_eq_some_iff.mp volts
      exact changed l live volts
    · have record : (s.port p).boundRecord p =
          (0x04, connectorCode (some (.line p)), [BitVec.ofNat 8 (k.level.getD 0), 0] ++ le2 k.volts ++ le2 k.limit ++ le2 k.operating) := by
        rw [PortRecord.boundRecord, staged]
        rfl
      rw [← record]
      refine State.Follows.journals_of_more (s := s.idled p) ((trailing_follows _ _).settles ?_) (State.heldIn_all _)
      obtain ⟨m, later⟩ : ∃ m, (s.idled p).Follows true (fun _ => True) ([(s.port p).boundRecord p] ++ m) ((s.idled p).settled p) := by
        obtain ⟨m, goes⟩ := (((s.idled p).follows_boundRefreshed p).trans ((s.idled p).follows_boundDone p)).goes.trans
          (((s.idled p).boundDone p).goes_shiftLeft p)
        exact ⟨m, ((s.idled p).follows_boundOn p).trans goes⟩
      exact ⟨m, served.follows_of later⟩
    · obtain ⟨idle, ended⟩ := State.settled_answers (s := s.idled p) (p := p) sole kind calm
      exact ⟨(trailing_idle p).settle _ ((served.field p PortRecord.inFlight fun _ => rfl).trans idle),
        ((trailing_answered q.slot .ok).settle _ (served.answered ended)).2⟩
  · have done := exec_endDelimiter_accepted here receiving lease (rx ▸ acceptFrame_kind (kind := 10) (payload := [reason])
      (f := .decline reason) (by decide) (by omega) (by simp) rfl)
    rw [State.deliver_decline, if_pos ⟨claimTag, claimed⟩] at done
    generalize hv : ((s.idled p).setPort p { s.port p with
      staged := none, timer := .stopped, claimTag := none, claimAttempts := 0, decline := some reason, barred := true
      state := (s.port p).resting }).journal 0x05 (lineByte p)
      ([reason, byte (((s.port p).staged.bind Contract.level).getD 0)] ++ le2 (((s.port p).staged.map Contract.volts).getD 0) ++
        le2 (((s.port p).staged.map Contract.limit).getD 0)) = v
    have declined : (s.idled p).declined p reason = v.completePort p [.refresh, .pin] .declined := by rw [← hv]; rfl
    have before : v.port p = { s.port p with
        staged := none, timer := .stopped, claimTag := none, claimAttempts := 0, decline := some reason, barred := true
        state := (s.port p).resting } := by
      rw [← hv]
      exact State.port_setPort_self _ _ _
    obtain ⟨f, record, -⟩ := v.port_completePort p [.refresh, .pin] .declined
    have served := State.served_endLeaseOf ((s.idled p).declined p reason) p
    have journal : s.journals (s.settles (((s.idled p).declined p reason).endLeaseOf p))
        [(0x05, connectorCode (some (.line p)), [reason, BitVec.ofNat 8 (k.level.getD 0)] ++ le2 k.volts ++ le2 k.limit)] := by
      have follows := State.follows_declined (pages := true) (held := fun _ => True) (s.idled p) p reason
      rw [show ((s.idled p).port p).staged = some k from staged] at follows
      exact State.Follows.journals_of_more (s := s.idled p) ((trailing_follows _ _).settles ⟨[], served.follows_of follows⟩)
        (State.heldIn_all _)
    rw [declined] at done served journal
    rw [before] at record
    have still : ((v.completePort p [.refresh, .pin] .declined).port p).unmoved := by
      rw [record]
      exact PortRecord.unmoved_of_blocked (.inr (.inr rfl)) (s.port p).resting_ne_shifting
    have after : ((s.settles ((v.completePort p [.refresh, .pin] .declined).endLeaseOf p)).port p).sansEngine = _ :=
      settle_served_unmoved served still
    rw [record] at after
    exact ⟨_, done, (congrArg PortRecord.state after :).trans (s.port p).resting_eq, (congrArg PortRecord.staged after :),
      (congrArg PortRecord.timer after :), (congrArg PortRecord.claimTag after :), (congrArg PortRecord.claimAttempts after :),
      (congrArg PortRecord.decline after :), (congrArg PortRecord.barred after :), (congrArg PortRecord.live after :),
      (congrArg PortRecord.image after :), (congrArg PortRecord.pin after :), journal,
      fun q sole kind => ended_served (hv ▸ State.soleRequest.journalled (s := s.idled p) (r := { s.port p with
        staged := none, timer := .stopped, claimTag := none, claimAttempts := 0, decline := some reason, barred := true
        state := (s.port p).resting }) sole rfl _ _ _) (by cases k : q.kind <;> simp_all) served⟩
  · rcases which with ⟨rfl, other⟩ | ⟨rfl, other⟩
    · refine leaseEnds_of_stale here receiving ok (rx ▸ acceptFrame_kind (kind := 9) (payload := []) (f := .grant) (by decide)
        small (by decide) rfl) ?_
      rw [State.deliver_grant, if_neg fun h => other h.1 h.2]
    · refine leaseEnds_of_stale here receiving ok (rx ▸ acceptFrame_kind (kind := 11) (payload := []) (f := .settled) (by decide)
        small (by decide) rfl) ?_
      rw [State.deliver_settled, if_neg fun h => other h.1 h.2]

end

end Sys2Proof.Machine
end

/-! # The end of a sent frame (R47, R59, R78) -/

section
namespace Sys2Proof.Machine

section
variable {s t u v w x : State} {p : LinePort} {r : PortRecord} {e : EngineId} {y : TxFrame} {c : Instr}

/-- FRAME_TRANSMITTED reports the frame; then the lease ends (R46, R47). -/
theorem exec_frameTransmitted (lease : s.engineOf p = some e) (sending : (s.engine e).state = .sending) (tx : (s.engine e).tx = some y) :
    exec (.frameTransmitted p) s = .next (s.settles (((s.idled p).txReport p y.frame y.tag).endLeaseOf p)) := by
  refine congrArg Host.Outcome.next ?_
  rw [State.endSending, lease]
  dsimp only
  rw [sending, tx]
  rfl

/-- A report that changes nothing the owners report, and the end of the lease. -/
theorem leaseEnds_of_quiet (engines : u.engines = s.engines) (quiet : s.Quiet u) (ok : s.prospectOk)
    (h : s.engineOf p = some e → exec c s = .next (s.settles (u.endLeaseOf p))) : leaseEnds c s u p e := fun lease => by
  have done := h lease
  rw [(quiet.trans (State.served_endLeaseOf u p).lined.quiet).settles ok] at done
  exact leaseEnds_of_endLeaseOf engines done lease

theorem PortRecord.withdrawClaim_of_other (other : ∀ l v a o, r.slot ≠ some (.claim l v a o)) : r.withdrawClaim = r := by
  unfold PortRecord.withdrawClaim
  split
  next l v a o slot => exact absurd slot (other l v a o)
  · rfl

theorem PortRecord.withdrawClaim_of_claim {l v a o : Nat} (slot : r.slot = some (.claim l v a o)) : r.withdrawClaim ≠ r := fun same => by
  have empty : r.withdrawClaim.slot = none := by
    unfold PortRecord.withdrawClaim
    rw [slot]
  rw [same, slot] at empty
  cases empty

/-- The last lease of a port that needs no engine ends with the engine FREE (R48). -/
theorem State.endLeaseOf_last (lease : s.engineOf p = some e) (queue : s.queue = []) (slot : (s.port p).slot = none)
    (quiet : (s.line p).hail = false) : s.endLeaseOf p = s.setEngine e Engine.freed := by
  rw [State.endLeaseOf, lease]
  dsimp only
  rw [State.endLease]
  have given : (s.setEngine e Engine.freed).giveEngine e = s.setEngine e Engine.freed := by
    rw [State.giveEngine, show (s.setEngine e Engine.freed).queue = [] from queue, giveOut]
  rw [given, State.apply_idle]
  rw [State.needsEngine, show ((s.setEngine e Engine.freed).line p).hail = false from quiet,
    show ((s.setEngine e Engine.freed).port p).slot = none from slot]
  simp

/-- Settles O37. -/
theorem transmissionStartsTheWait : Obligations.TransmissionStartsTheWait := by
  unfold Obligations.TransmissionStartsTheWait
  have idled : ∀ (s : State) p, s.Quiet (s.idled p) := fun s p => (State.lined_setLine s p _).quiet
  refine ⟨fun s p e x lease sending tx ok => ⟨fun frame asking => ?_, fun l v a o frame claimed other => ?_, fun frame others => ?_,
    fun frame last q sole kind => ?_⟩, fun s p e x l v a o l' v' a' o' lease sending tx frame claimed slot ok => ?_⟩
  · refine leaseEnds_of_quiet rfl ((idled s p).trans (State.quiet_setPort (by rfl))) ok fun lease => ?_
    rw [exec_frameTransmitted lease sending tx, frame, State.txReport]
    dsimp only
    rw [if_pos (show ((s.idled p).port p).state = .asking from asking)]
    rfl
  · refine leaseEnds_of_quiet rfl ((idled s p).trans (State.quiet_setPort (by rfl))) ok fun lease => ?_
    rw [exec_frameTransmitted lease sending tx, frame, State.txReport]
    dsimp only
    rw [if_pos ⟨claimed, PortRecord.withdrawClaim_of_other other⟩]
    rfl
  · refine leaseEnds_of_quiet rfl (idled s p) ok fun lease => ?_
    rw [exec_frameTransmitted lease sending tx, frame, State.txReport]
    rcases State.completePort_cases (s.idled p) p [.release] .ok with ⟨q, flight, listed, -⟩ | ⟨-, e⟩
    · exact absurd (by simpa using listed) (others q flight)
    · rw [e]
      rfl
  · obtain ⟨-, queue, slot, hail⟩ := last
    have mine : (s.idled p).soleRequest p q := sole
    obtain ⟨flight, unheld⟩ := sole
    have ended := mine.completePort (kinds := [.release]) (by rw [kind]; rfl) .ok
    have completed : (s.idled p).completePort p [.release] .ok =
        ((s.idled p).setPort p { s.port p with inFlight := none }).complete q.slot .ok (s.port p).data := by
      rcases State.completePort_cases (s.idled p) p [.release] .ok with ⟨o, same, -, e⟩ | ⟨none, -⟩
      · obtain rfl : o = q := Option.some.inj (same.symm.trans flight)
        rw [e, kind]
        rfl
      · have := none q flight
        rw [kind] at this
        cases this
    have done := exec_frameTransmitted lease sending tx
    rw [frame, State.txReport, completed] at done
    rw [completed] at ended
    have record : (((s.idled p).setPort p { s.port p with inFlight := none }).complete q.slot .ok (s.port p).data).port p =
        { s.port p with inFlight := none } := State.port_setPort_self _ _ _
    have quiet : s.Quiet (((s.idled p).setPort p { s.port p with inFlight := none }).complete q.slot .ok (s.port p).data) :=
      ((idled s p).trans (State.quiet_setPort (by rfl))).trans (State.quiet_complete _ _ _ _)
    have bytes : ∀ i, i < 16 → readByte (((s.idled p).setPort p { s.port p with inFlight := none }).complete q.slot .ok
        (s.port p).data).exch.mem (slotAddress q.slot + 16 + i) = (padTo 16 (s.port p).data).getD i 0 := fun i hi =>
      Exchange.readByte_complete_data _ _ _ _ i hi
    have rest : (((s.idled p).setPort p { s.port p with inFlight := none }).complete q.slot .ok (s.port p).data).engines = s.engines ∧
        (((s.idled p).setPort p { s.port p with inFlight := none }).complete q.slot .ok (s.port p).data).queue = s.queue ∧
        (((s.idled p).setPort p { s.port p with inFlight := none }).complete q.slot .ok (s.port p).data).lines =
          s.lines.set p (s.line p).idled ∧
        (((s.idled p).setPort p { s.port p with inFlight := none }).complete q.slot .ok (s.port p).data).path = s.path :=
      ⟨rfl, rfl, rfl, rfl⟩
    generalize ((s.idled p).setPort p { s.port p with inFlight := none }).complete q.slot .ok (s.port p).data = w
      at done record quiet bytes rest ended
    obtain ⟨engines, waiting, lines, path⟩ := rest
    obtain ⟨-, unheldNow, answered⟩ := ended
    have quietLine : (w.line p).hail = false := by
      rw [State.line, lines, PerPort.get_set_self]
      exact hail
    rw [State.endLeaseOf_last (e := e) ((State.engineOf_congr engines).trans lease) (waiting.trans queue) (by rw [record]; exact slot)
      quietLine] at done
    have still : s.Quiet (w.setEngine e Engine.freed) := quiet.trans (State.lined_setEngine w e _).quiet
    rw [still.settles ok] at done
    have off : State.offSlot q.slot (w.setEngine e Engine.freed) (s.finish (w.setEngine e Engine.freed)) :=
      ((trailing_shelters (w.setEngine e Engine.freed) q.slot).finish s
        ⟨State.shelters_of_unheld (s := w) (t := w.setEngine e Engine.freed) unheldNow rfl fun _ => .inr rfl, .refl _⟩).2
    refine ⟨_, done, ?_, ?_, fun i hi => ?_, ?_, ?_, ?_⟩
    · rw [State.port, State.finish_ports]
      exact record
    · exact ⟨(congrArg Slot.copy off.1).trans answered.1, (off.2 _ ⟨by omega, by omega⟩).trans answered.2.1,
        (off.2 _ ⟨by omega, by omega⟩).trans answered.2.2⟩
    · exact (off.2 _ ⟨by omega, by omega⟩).trans (bytes i hi)
    · rw [State.finish_lines]
      exact lines
    · rw [State.finish_engines]
      exact congrArg (fun g => g.set e Engine.freed) engines
    · rw [State.finish_path]
      exact path
  · refine leaseEnds_of_quiet rfl (idled s p) ok fun lease => ?_
    rw [exec_frameTransmitted lease sending tx, frame, State.txReport, if_neg fun h => PortRecord.withdrawClaim_of_claim slot h.2]
    rfl

end

end Sys2Proof.Machine
end

/-! # Voltage samples and droop (R127 to R129, R76, R12) -/

section
namespace Sys2Proof.Machine

section
variable {s t u v w : State} {x y : Connector} {p : LinePort} {n : Nat}

/-! ### The sample -/

/-- The state after a voltage result has been entered and noted (R125, R7). -/
def State.sampled (s : State) (x : Connector) (v : Nat) : State := (s.enterResult (.volts x) v).noteVD x v

theorem exec_voltageCompletion (x : Connector) (r : Int) (s : State) :
    exec (.voltageCompletion x r) s =
      .next (((s.sampled x (min 25500 r.toNat)).checkDroop x (min 25500 r.toNat)).deferredCheck x (min 25500 r.toNat)) := rfl

/-- Only the results, and of D the latest VD, change with a sample. -/
theorem State.sampled_eq (s : State) (x : Connector) (v : Nat) :
    ∃ m, s.sampled x v = (s.withMeas m).withLatestVD (if x = .barrel then v else s.latestVD) ∧ m.droop = s.meas.droop ∧
      m.dead = s.meas.dead ∧ m.singles = s.meas.singles ∧
      m.table = { s.meas.table with volts := s.meas.table.volts.set x (rowAfter (s.meas.table.volts.get x) v) } := by
  refine ⟨{ s.meas with converting := (Channel.volts x).following, table := s.meas.table.set (.volts x) ((s.meas.table.get (.volts x)).enter v) },
    ?_, rfl, rfl, rfl, ?_⟩
  · cases x <;> rfl
  · rw [enter_eq_rowAfter]
    rfl

theorem State.droopApplies_iff (s : State) (x : Connector) :
    s.droopApplies x = true ↔ (s.live x).isSome = true ∧ s.path.state ≠ .closing x ∧
      match x with
      | .line p => (s.port p).negotiating = true ∧ (s.port p).state ≠ .shifting ∧ (s.port p).lapsing = none
      | .barrel => s.barrel.state = .bound ∨ s.barrel.state = .identifying := by
  cases x with
  | line p => simp [State.droopApplies, and_assoc]
  | barrel => simp [State.droopApplies, and_assoc]

theorem State.deferredCheck_skip (h : s.path.state = .closing x → s.path.checkDeferred = true → s.railMoving x = true) (v : Nat) :
    s.deferredCheck x v = s :=
  if_neg fun ⟨closing, deferred, rest⟩ => by
    rw [h closing deferred] at rest
    cases rest

theorem State.droopThreshold_eq {k : Contract} (live : s.live x = some k) : s.droopThreshold x = k.volts * s.policy.droopPct / 100 := by
  rw [State.droopThreshold, State.liveVolts, live]
  rfl

/-- The owner's states in which the droop check applies to its connector (R127). -/
def State.droopable (s : State) : Connector → Prop
  | .line p => ((s.port p).state = .asking ∨ (s.port p).state = .base ∨ (s.port p).state = .claimed ∨
      (s.port p).state = .bound ∨ (s.port p).state = .faulted) ∧ (s.port p).lapsing = none
  | .barrel => s.barrel.state = .bound ∨ s.barrel.state = .identifying

theorem State.droopApplies_of {k : Contract} (live : s.live x = some k) (open_ : s.path.state ≠ .closing x)
    (state : s.droopable x) : s.droopApplies x = true := by
  refine (s.droopApplies_iff x).mpr ⟨by rw [live]; rfl, open_, ?_⟩
  cases x with
  | line p =>
    obtain ⟨which, still⟩ := state
    dsimp only
    rcases which with h | h | h | h | h <;> exact ⟨by rw [PortRecord.negotiating, h]; rfl, by rw [h]; decide, still⟩
  | barrel => exact state

/-- Settles O23. -/
theorem voltageSampleCountsDroop : Obligations.VoltageSampleCountsDroop := by
  unfold Obligations.VoltageSampleCountsDroop
  intro s x r v low entered
  obtain ⟨m, sampled, droop, -, -, table⟩ := s.sampled_eq x v
  have exec := exec_voltageCompletion x r s
  change Machine.exec _ s = .next (((s.sampled x v).checkDroop x v).deferredCheck x v) at exec
  rw [sampled] at exec
  generalize hu : (s.withMeas m).withLatestVD (if x = .barrel then v else s.latestVD) = u at exec
  have meas : u.meas = m := hu ▸ rfl
  have applies : u.droopApplies x = s.droopApplies x := hu ▸ rfl
  have threshold : u.droopThreshold x = s.droopThreshold x := hu ▸ rfl
  have kept : ∀ d, entered (u.withMeas { u.meas with droop := d }) := fun d =>
    ⟨by rw [← hu]; exact table, by rw [← hu]; rfl, by rw [← hu]; rfl⟩
  have skip : ∀ d, (s.path.state = .closing x → s.path.checkDeferred = true → s.railMoving x = true) →
      (u.withMeas { u.meas with droop := d }).deferredCheck x v = u.withMeas { u.meas with droop := d } := fun d h =>
    State.deferredCheck_skip (by rw [← hu]; exact h) v
  refine ⟨fun quiet => ?_, fun k live open_ state lower count => ?_⟩
  · have clears : u.checkDroop x v = u.withMeas { u.meas with droop := u.meas.droop.set x 0 } := by
      refine if_neg fun h => ?_
      rw [Bool.and_eq_true, decide_eq_true_eq, applies, threshold] at h
      obtain ⟨some_live, notClosing, state⟩ := (s.droopApplies_iff x).mp h.1
      rcases quiet with ⟨closing, -⟩ | ⟨-, high⟩ | ⟨p, rfl, moving⟩
      · exact notClosing closing
      · obtain ⟨k, live⟩ := Option.isSome_iff_exists.mp some_live
        exact high k live (h.2.trans_eq (State.droopThreshold_eq live))
      · rcases moving with shifting | lapsing
        · exact state.2.1 shifting
        · exact lapsing state.2.2
    rw [clears, skip] at exec
    · exact ⟨_, exec, congrArg (fun d => d.set x 0) ((congrArg Measurement.droop meas).trans droop), kept _⟩
    · intro closing deferred
      rcases quiet with ⟨-, plain⟩ | ⟨open_, -⟩ | ⟨p, rfl, moving⟩
      · rw [plain] at deferred
        cases deferred
      · exact absurd closing open_
      · rw [State.railMoving, Bool.or_eq_true, decide_eq_true_eq]
        exact moving.imp id Option.isSome_iff_ne_none.mpr
  · have counts : u.checkDroop x v = u.withMeas { u.meas with droop := u.meas.droop.set x (u.meas.droop.get x + 1) } := by
      refine (if_pos ?_).trans (if_neg ?_)
      · rw [Bool.and_eq_true, decide_eq_true_eq, applies, threshold, State.droopThreshold_eq live]
        exact ⟨State.droopApplies_of live open_ (by cases x <;> exact state), lower⟩
      · rw [meas, droop, ← hu]
        exact not_le.mpr count
    rw [counts, skip _ fun closing => absurd closing open_] at exec
    have same := (congrArg Measurement.droop meas).trans droop
    exact ⟨_, exec, congrArg (fun d : PerConn Nat => d.set x (d.get x + 1)) same, kept _⟩

end

end Sys2Proof.Machine
end

/-! # A droop report (R129, R76, R12, R116) -/

section
namespace Sys2Proof.Machine

section
variable {s t u v w : State} {x y : Connector} {p : LinePort} {n : Nat}

/-- No close check of a connector is deferred. -/
def Path.unchecked (x : Connector) (a : Path) : Prop := a.state = .closing x → a.checkDeferred = false

theorem Path.unchecked_of_sansFlight {a b : Path} (same : a.sansFlight = b.sansFlight) (h : b.unchecked x) : a.unchecked x := by
  have state : a.state = b.state := (congrArg Path.state same :)
  have check : a.checkDeferred = b.checkDeferred := (congrArg Path.checkDeferred same :)
  unfold Path.unchecked
  rwa [state, check]

theorem trailing_unchecked (x : Connector) : Trailing fun u => u.path.unchecked x :=
  .of_path (Q := fun a => a.unchecked x) fun u h => by
    rcases u.evaluate_path_cases with same | ⟨-, y, -, same⟩ | ⟨y, -, -, same⟩ | ⟨z, y, -, -, -, -, same⟩
    · exact Path.unchecked_of_sansFlight same h
    · exact Path.unchecked_of_sansFlight same fun _ => rfl
    · exact Path.unchecked_of_sansFlight (b := u.openedPath y) same fun closing => nomatch closing
    · exact Path.unchecked_of_sansFlight (b := u.openedPath z) same fun closing => nomatch closing

/-- The state in which a droop report reaches its owner (R129). -/
def State.drooped (s : State) (x : Connector) (sample threshold : Nat) : State :=
  ((s.sampled x sample).clearDroop x).journal 0x15 (connectorByteOf x) (le2 sample ++ le2 threshold)

/-- The low sample that completes DROOP_COUNT brings a droop report, and no deferred close check (R129, R112). -/
theorem exec_voltageCompletion_drooped {k : Contract} {r : Int} (live : s.live x = some k) (open_ : s.path.state ≠ .closing x)
    (state : s.droopable x) (low : min 25500 r.toNat < k.volts * s.policy.droopPct / 100)
    (count : s.policy.droopCount ≤ s.meas.droop.get x + 1) :
    exec (.voltageCompletion x r) s =
      .next ((s.drooped x (min 25500 r.toNat) (k.volts * s.policy.droopPct / 100)).ownerDroop x) := by
  generalize hv : min 25500 r.toNat = sample at low
  rw [exec_voltageCompletion, hv, State.drooped]
  obtain ⟨m, sampled, droop, -⟩ := s.sampled_eq x sample
  rw [sampled]
  generalize hu : (s.withMeas m).withLatestVD (if x = .barrel then sample else s.latestVD) = u
  have applies : u.droopApplies x = true := (show u.droopApplies x = s.droopApplies x from hu ▸ rfl).trans
    (State.droopApplies_of live open_ state)
  have threshold : u.droopThreshold x = k.volts * s.policy.droopPct / 100 :=
    (show u.droopThreshold x = s.droopThreshold x from hu ▸ rfl).trans (State.droopThreshold_eq live)
  have checked : u.checkDroop x sample =
      ((u.clearDroop x).journal 0x15 (connectorByteOf x) (le2 sample ++ le2 (k.volts * s.policy.droopPct / 100))).ownerDroop x := by
    rw [State.checkDroop, threshold]
    refine (if_pos ?_).trans (if_pos ?_)
    · rw [applies, Bool.true_and, decide_eq_true_eq]
      exact low
    · rw [show u.policy = s.policy from hu ▸ rfl, show u.meas.droop = s.meas.droop from hu ▸ droop]
      exact count
  rw [checked, State.deferredCheck_skip]
  intro closing deferred
  have start : (((u.clearDroop x).journal 0x15 (connectorByteOf x)
      (le2 sample ++ le2 (k.volts * s.policy.droopPct / 100))).path).unchecked x := fun h =>
    absurd (by rw [← hu] at h; exact h) open_
  generalize (u.clearDroop x).journal 0x15 (connectorByteOf x) (le2 sample ++ le2 (k.volts * s.policy.droopPct / 100)) = v
    at start closing deferred
  have unchecked : (v.ownerDroop x).path.unchecked x := by
    cases x with
    | line p => exact (trailing_unchecked _).settles (by rw [State.apply_path, State.portDroop_path]; exact start)
    | barrel => exact (trailing_unchecked _).settles (by rw [State.barrelDroop_path]; exact start)
  rw [unchecked closing] at deferred
  cases deferred

/-- The records of a droop report: DROOP, what the owner journals, and the FAILOVER of a path that was CLOSED. -/
theorem drooped_journals {sample threshold : Nat} {l : List (Byte × Byte × List Byte)} {cause : LossCause}
    (follows : (s.drooped x sample threshold).Follows true (fun _ => True) l w) (path : w.path = s.path) (fit : s.eligible x = true)
    (lost : w.eligible x = false) (why : w.lossCause x = some cause) :
    s.journals ((s.drooped x sample threshold).settles w)
      ((0x15, connectorByteOf x, le2 sample ++ le2 threshold) :: l ++ s.failover x cause.code) := by
  have start : (s.sampled x sample).Follows true (fun _ => True) [(0x15, connectorByteOf x, le2 sample ++ le2 threshold)]
      (s.drooped x sample threshold) :=
    (State.follows_clearDroop _ x).trans (State.follows_journal _ _ _ _)
  cases x with
  | line p => exact lost_journals (s := s.drooped (.line p) sample threshold) (v := s.sampled (.line p) sample) (start.trans follows) path fit lost why
  | barrel => exact lost_journals (s := s.drooped .barrel sample threshold) (v := s.sampled .barrel sample) (start.trans follows) path fit lost why

theorem drooped_opens {sample threshold : Nat} (path : w.path = s.path) (policy : w.policy = s.policy) (fit : s.eligible x = true)
    (lost : w.eligible x = false) (closed : s.path.state = .closed x) :
    s.pathOpened ((s.drooped x sample threshold).settles w) x := by
  cases x with
  | line p => exact lost_opens (s := s.drooped (.line p) sample threshold) path policy fit lost (.inr closed)
  | barrel => exact lost_opens (s := s.drooped .barrel sample threshold) path policy fit lost (.inr closed)

theorem State.drooped_droop (s : State) (x : Connector) (sample threshold : Nat) :
    (s.drooped x sample threshold).meas.droop.get x = 0 :=
  PerConn.get_set_self _ _ _

theorem State.faulted_not_eligible (h : (s.port p).state = .faulted) : s.eligible (.line p) = false := by
  rw [State.eligible, h]
  rfl

theorem State.portDroop_faults (still : (s.port p).lapsing = none)
    (state : (s.port p).state = .asking ∨ (s.port p).state = .base ∨ (s.port p).state = .claimed ∨ (s.port p).state = .bound) :
    s.portDroop p = s.enterFaulted p .droop := by
  simp only [State.portDroop, still, Option.isSome_none, Bool.false_eq_true, if_false]
  rcases state with h | h | h | h <;> rw [h]

theorem State.portDroop_faulted (faulted : (s.port p).state = .faulted) : s.portDroop p = s := by
  simp only [State.portDroop, faulted]
  split <;> rfl

/-- A completion of D's REFRESH changes no more of its record than that. -/
theorem State.barrel_completeBarrel (s : State) (c : ResultCode) :
    ∃ f, (s.completeBarrel c).barrel = { s.barrel with inFlight := f } := by
  unfold State.completeBarrel
  split
  · exact ⟨none, rfl⟩
  · exact ⟨_, rfl⟩

/-- The record of D after a droop report (R12). -/
theorem State.barrelDroop_record (state : s.barrel.state = .bound ∨ s.barrel.state = .identifying) :
    s.barrelDroop.barrel.state = .unusable ∧ s.barrelDroop.barrel.cause = some .droop ∧ s.barrelDroop.barrel.live = none ∧
      s.barrelDroop.barrel.stored = s.barrel.stored := by
  unfold State.barrelDroop
  dsimp only
  rcases state with h | h <;> rw [h]
  · exact ⟨rfl, rfl, rfl, rfl⟩
  · dsimp only
    obtain ⟨b, e⟩ := State.barrel_completeBarrel (s.withBarrel { s.barrel with
      live := none, state := .unusable, cause := some .droop, count := 0, sum := 0, refreshPending := false }) .lost
    rw [e]
    exact ⟨rfl, rfl, rfl, rfl⟩

/-- Settles O24. -/
theorem droopFaultsTheConnector : Obligations.DroopFaultsTheConnector := by
  unfold Obligations.DroopFaultsTheConnector
  refine ⟨?_, ?_⟩
  · intro s p r k live open_ state still v threshold n droop low count
    have done := exec_voltageCompletion_drooped live open_ ⟨state, still⟩ low count
    generalize hv : s.drooped (.line p) (min 25500 r.toNat) (k.volts * s.policy.droopPct / 100) = u at done
    have port : u.port p = s.port p := hv ▸ rfl
    have cleared : u.meas.droop.get (.line p) = 0 := hv ▸ s.drooped_droop (.line p) v threshold
    refine ⟨fun healthy => ⟨_, done, ?_⟩, fun faulted ok => ⟨_, done, ?_⟩⟩
    · have owner : u.ownerDroop (.line p) = u.settles ((u.enterFaulted p .droop).apply p) := by
        rw [State.ownerDroop, State.portDroop_faults (port ▸ still)]
        · rfl
        · rw [port]
          rcases state with h | h | h | h | h
          · exact .inl h
          · exact .inr (.inl h)
          · exact .inr (.inr (.inl h))
          · exact .inr (.inr (.inr h))
          · exact absurd h healthy
      rw [owner]
      obtain ⟨puts, o, after⟩ := faulted_settle (s := s) (u := u) (p := p) (cause := .droop) (v := u) (n := Config.reportDepth)
        (pages := true) (by rw [port]) (hv ▸ rfl) (hv ▸ rfl) (hv ▸ rfl) (hv ▸ rfl)
      have served := State.served_apply (u.enterFaulted p .droop) p
      have gone : ((u.enterFaulted p .droop).apply p).eligible (.line p) = false := by
        obtain ⟨f, record⟩ := u.port_enterFaulted p .droop
        refine State.faulted_not_eligible ((served.field p PortRecord.state fun _ => rfl).trans ?_)
        rw [record]
        rfl
      have why : ((u.enterFaulted p .droop).apply p).lossCause (.line p) = some .faulted := by
        obtain ⟨f, record⟩ := u.port_enterFaulted p .droop
        rw [State.lossCause, served.field p PortRecord.state fun _ => rfl, record]
        rfl
      have path : ((u.enterFaulted p .droop).apply p).path = s.path := by
        rw [State.apply_path, State.enterFaulted_path, ← hv]
        rfl
      have policy : ((u.enterFaulted p .droop).apply p).policy = s.policy := by
        rw [State.apply_policy, State.enterFaulted_policy, ← hv]
        rfl
      have journal : s.eligible (.line p) = true → s.journals (u.settles ((u.enterFaulted p .droop).apply p))
          ([droop, (0x09, n, [3])] ++ s.failover (.line p) 2) := fun fit => by
        rw [← hv] at served path gone why ⊢
        exact drooped_journals (served.follows_of (State.follows_enterFaulted _ p .droop)) path fit gone why
      have opens : s.eligible (.line p) = true → s.path.state = .closed (.line p) →
          s.pathOpened (u.settles ((u.enterFaulted p .droop).apply p)) (.line p) := fun fit closed => by
        rw [← hv] at path policy gone ⊢
        exact drooped_opens path policy fit gone closed
      have zero : (u.settles ((u.enterFaulted p .droop).apply p)).meas.droop.get (.line p) = 0 :=
        (trailing_droop _).settles (by rw [State.apply_meas, State.enterFaulted_meas]; exact cleared)
      have keeps : (u.settles ((u.enterFaulted p .droop).apply p)).policy = s.policy := (trailing_policy _).settles policy
      change s.puts (u.settles _) p .giveback at puts
      change ((u.settles _).port p).sansEngine = _ at after
      rw [port] at after
      generalize u.settles ((u.enterFaulted p .droop).apply p) = t at puts after journal opens zero keeps
      exact ⟨zero, (congrArg PortRecord.state after :), (congrArg PortRecord.cause after :), (congrArg PortRecord.live after :),
        (congrArg PortRecord.staged after :), (congrArg PortRecord.timer after :), (congrArg PortRecord.askTag after :),
        (congrArg PortRecord.claimTag after :), puts, (congrArg PortRecord.pin after :), keeps, fun fit => ⟨journal fit, opens fit⟩⟩
    · have served := State.served_apply u p
      have ok : u.prospectOk := ok.congr (fun x => by cases x <;> exact hv ▸ rfl) (hv ▸ rfl) (hv ▸ rfl) (hv ▸ rfl) (hv ▸ rfl) (hv ▸ rfl)
      have owner : u.ownerDroop (.line p) = u.finish (u.apply p) := by
        rw [State.ownerDroop, State.portDroop_faulted (by rw [port]; exact faulted)]
        exact served.lined.quiet.settles ok
      rw [owner]
      have field : ∀ {α : Type} (g : PortRecord → α), (∀ a, g a = g a.sansEngine) → g ((u.finish (u.apply p)).port p) = g (s.port p) :=
        fun g keeps => by rw [State.port, State.finish_ports, ← port]; exact served.field p g keeps
      have follows : (s.sampled (.line p) v).Follows true (fun _ => True) [droop] u := hv ▸
        (State.follows_clearDroop _ (.line p)).trans (State.follows_journal _ _ _ _)
      refine ⟨?_, ?_, fun room => ?_, (field PortRecord.state fun _ => rfl).trans faulted, field PortRecord.cause fun _ => rfl,
        field PortRecord.live fun _ => rfl, field PortRecord.image fun _ => rfl, ?_, ?_⟩
      · rw [State.finish_meas, State.apply_meas, ← hv]
        rfl
      · exact State.Follows.journals_of_more (s := s.sampled (.line p) v)
          ((trailing_follows _ [droop]).finish u ⟨[], served.follows_of follows⟩) (State.heldIn_all _)
      · have same : (u.finish (u.apply p)).exch.written = (u.apply p).exch.written :=
          (congrArg Exchange.written (State.finish_exch_rest u (u.apply p)) :)
        rw [same, served.exch, ← hv]
        exact congrArg Exchange.written (if_pos (show s.exch.unconsumed < 32 from room))
      · rw [State.finish_path, State.apply_path, ← hv]
        rfl
      · rw [State.finish_barrel, State.apply_barrel, ← hv]
        rfl
  · intro s r k live open_ state v threshold low count
    have done := exec_voltageCompletion_drooped (x := .barrel) live open_ state low count
    refine ⟨_, done, ?_⟩
    rw [State.ownerDroop]
    generalize hv : s.drooped .barrel (min 25500 r.toNat) (k.volts * s.policy.droopPct / 100) = u
    have cleared : u.meas.droop.get .barrel = 0 := hv ▸ s.drooped_droop .barrel v threshold
    have barrel : u.barrel = s.barrel := hv ▸ rfl
    obtain ⟨unusable, cause, dead, stored⟩ := u.barrelDroop_record (barrel ▸ state)
    have path : u.barrelDroop.path = s.path := by
      rw [State.barrelDroop_path, ← hv]
      rfl
    have policy : u.barrelDroop.policy = s.policy := by
      rw [State.barrelDroop_policy, ← hv]
      rfl
    have after : (u.settles u.barrelDroop).barrel = u.barrelDroop.barrel := (trailing_barrel _).settles rfl
    have gone : u.barrelDroop.eligible .barrel = false := by
      rw [State.eligible, Barrel.eligible, dead]
      rfl
    have why : u.barrelDroop.lossCause .barrel = some .unusable := by
      rw [State.lossCause, unusable]
    rw [after]
    refine ⟨(trailing_droop _).settles (by rw [State.barrelDroop_meas]; exact cleared), unusable, cause, dead, stored.trans (by rw [barrel]),
      (trailing_policy _).settles policy, fun fit => ⟨?_, fun closed => ?_⟩⟩
    · rw [← hv] at path gone why ⊢
      exact drooped_journals (State.follows_barrelDroop _) path fit gone why
    · rw [← hv] at path policy gone ⊢
      exact drooped_opens path policy fit gone closed

end

end Sys2Proof.Machine
end

/-! # Fresh choices, lost targets, engines at work (R108, R118, R42) -/

section
namespace Sys2Proof.Machine

section
variable {s t u v w : State} {x y : Connector} {p : LinePort} {e : EngineId} {n : Nat}

/-! ### A fresh choice (R108) -/

/-- The leader of connectors in number order is ahead of each. -/
theorem leader_ahead {l : List (Connector × Nat)} (sorted : l.Pairwise fun c d => connectorNumber c.1 < connectorNumber d.1)
    {c : Connector × Nat} (h : leader l = some c) : c ∈ l ∧ ∀ d ∈ l, ahead c d := by
  cases l with
  | nil => cases h
  | cons a l =>
    obtain ⟨found, top⟩ := foldl_best (better := fun d best : Connector × Nat => best.2 < d.2) (dom := ahead)
      (fun a => ⟨Nat.le_refl _, fun _ => Nat.le_refl _⟩)
      (fun {a b c} h k => by unfold ahead at *; omega)
      (fun {a b} h k => by unfold ahead; omega)
      (fun {a b} h => by unfold ahead; omega) l a sorted
    rw [leader] at h
    obtain rfl := Option.some.inj h
    exact ⟨found, top⟩

theorem mem_contenders {d : Connector × Nat} : d ∈ s.contenders ↔ s.eligible d.1 = true ∧ d.2 = s.liveScore d.1 := by
  simp only [State.contenders, List.mem_map, List.mem_filter]
  constructor
  · rintro ⟨z, ⟨-, fit⟩, rfl⟩
    exact ⟨fit, rfl⟩
  · rintro ⟨fit, score⟩
    exact ⟨d.1, ⟨mem_connectors _, fit⟩, Prod.ext rfl score.symm⟩

theorem contenders_sorted (s : State) : s.contenders.Pairwise fun c d => connectorNumber c.1 < connectorNumber d.1 := by
  have ordered : connectors.Pairwise fun x y => connectorNumber x < connectorNumber y := by decide
  exact List.pairwise_map.mpr (ordered.filter _)

/-- The eligible connector of highest live score, of those the lowest number. -/
theorem State.leader_contenders {c : Connector × Nat} (h : leader s.contenders = some c) :
    s.eligible c.1 = true ∧ c.2 = s.liveScore c.1 ∧ ∀ z, s.eligible z = true →
      s.liveScore z ≤ s.liveScore c.1 ∧ (s.liveScore z = s.liveScore c.1 → connectorNumber c.1 ≤ connectorNumber z) := by
  obtain ⟨member, top⟩ := leader_ahead (contenders_sorted s) h
  obtain ⟨fit, score⟩ := mem_contenders.mp member
  refine ⟨fit, score, fun z hz => ?_⟩
  have := top (z, s.liveScore z) (mem_contenders.mpr ⟨hz, rfl⟩)
  rwa [ahead, score] at this

theorem State.eligiblePin_eq_some (h : s.eligiblePin = some y) : s.path.pin = some y ∧ s.eligible y = true := by
  unfold State.eligiblePin at h
  split at h
  · split at h
    next x pin fit =>
      cases h
      exact ⟨pin, fit⟩
    · cases h
  · cases h

theorem State.eligiblePin_eq_none (h : s.eligiblePin = none) : ¬ ∃ z, s.path.pin = some z ∧ s.eligible z = true := by
  rintro ⟨z, pin, fit⟩
  rw [State.eligiblePin, pin] at h
  simp [fit] at h

/-- A fresh choice is the eligible pin, or without one the leader. -/
theorem State.freshChoice_eq_some (h : s.freshChoice = some y) :
    s.eligible y = true ∧
      if ∃ z, s.path.pin = some z ∧ s.eligible z = true then s.path.pin = some y
      else ∀ z, s.eligible z = true → s.liveScore z ≤ s.liveScore y ∧
        (s.liveScore z = s.liveScore y → connectorNumber y ≤ connectorNumber z) := by
  unfold State.freshChoice at h
  cases pinned : s.eligiblePin with
  | some x =>
    rw [pinned] at h
    cases h
    obtain ⟨pin, fit⟩ := State.eligiblePin_eq_some pinned
    exact ⟨fit, by rw [if_pos ⟨y, pin, fit⟩]; exact pin⟩
  | none =>
    rw [pinned] at h
    obtain ⟨c, lead, rfl⟩ := Option.map_eq_some_iff.mp h
    obtain ⟨fit, -, best⟩ := State.leader_contenders lead
    exact ⟨fit, by rw [if_neg (State.eligiblePin_eq_none pinned)]; exact best⟩

theorem State.freshChoice_eq_none (h : s.freshChoice = none) (y : Connector) : s.eligible y = false := by
  unfold State.freshChoice at h
  cases pinned : s.eligiblePin with
  | some x => rw [pinned] at h; cases h
  | none =>
    rw [pinned] at h
    have empty := (leader_spec s.contenders).1.mp (Option.map_eq_none_iff.mp h)
    by_contra fit
    have : (y, s.liveScore y) ∈ s.contenders := mem_contenders.mpr ⟨by simpa using fit, rfl⟩
    rw [empty] at this
    cases this

/-! ### A PRIMARY whose target is lost (R118) -/

theorem State.solePrimary.completePrimary {q : PrimaryRequest} (sole : s.solePrimary q) (c : ResultCode) :
    (s.completePrimary q.target c).path.inFlight = none ∧ (s.completePrimary q.target c).unheld q.slot ∧
      (s.completePrimary q.target c).answered q.slot c := by
  obtain ⟨flight, unheld⟩ := sole
  rcases State.completePrimary_cases s q.target c with ⟨o, same, -, e⟩ | ⟨none, -⟩
  · obtain rfl : o = q := Option.some.inj (same.symm.trans flight)
    rw [e]
    exact ⟨rfl, unheld, State.answered_complete _ _ _ _⟩
  · exact absurd rfl (none q flight)

theorem State.solePrimary.of_flights {q : PrimaryRequest} (h : s.solePrimary q) (path : t.path.inFlight = s.path.inFlight)
    (ports : t.ports = s.ports) (barrel : t.barrel = s.barrel) (singles : t.meas = s.meas) : t.solePrimary q :=
  ⟨path.trans h.1, State.unheld_of_flights h.2 (fun o => congrArg (fun v : PerPort PortRecord => (v.get o).inFlight) ports)
    (congrArg Barrel.inFlight barrel) rfl (congrArg Measurement.singles singles)⟩

/-- A PRIMARY whose target is lost ends in the evaluation, unless the path is opening on the target (R116, R118). -/
theorem State.evaluate_answers_lost {q : PrimaryRequest} (sole : s.solePrimary q) (gone : s.eligible q.target = false)
    (cause : (s.lossCause q.target).isSome = true) (calm : s.path.state ≠ .opening q.target) :
    s.evaluate.path.inFlight = none ∧ s.evaluate.unheld q.slot ∧ s.evaluate.answered q.slot .lost := by
  have later : ∀ v : State, v.solePrimary q → v.path.state.connector ≠ some q.target → v.lossCause q.target = s.lossCause q.target →
      v.dropLostPrimary.path.inFlight = none ∧ v.dropLostPrimary.unheld q.slot ∧ v.dropLostPrimary.answered q.slot .lost := by
    intro v mine off same
    have drops : v.dropLostPrimary = v.completePrimary q.target .lost := by
      rw [State.dropLostPrimary, mine.1]
      exact if_pos ⟨off, same ▸ cause⟩
    rw [drops]
    exact mine.completePrimary .lost
  have lost : ∀ y, s.evaluatePath = s.losePath y → s.evaluate.path.inFlight = none ∧ s.evaluate.unheld q.slot ∧
      s.evaluate.answered q.slot .lost := by
    intro y e
    rw [State.evaluate, e]
    have opened : ∃ v : State, s.losePath y = v.completePrimary y .lost ∧ v.solePrimary q ∧ v.path.state = .opening y ∧
        v.lossCause q.target = s.lossCause q.target := by
      unfold State.losePath
      refine ⟨_, rfl, ?_⟩
      split
      · exact ⟨sole.of_flights rfl rfl rfl rfl, rfl, rfl⟩
      · exact ⟨sole.of_flights rfl rfl rfl rfl, rfl, rfl⟩
    obtain ⟨v, e, mine, opening, same⟩ := opened
    rw [e]
    by_cases here : y = q.target
    · subst here
      have done := mine.completePrimary .lost
      have drops : (v.completePrimary q.target .lost).dropLostPrimary = v.completePrimary q.target .lost := by
        rw [State.dropLostPrimary, done.1]
      rw [drops]
      exact done
    · have other : v.completePrimary y .lost = v := by
        rcases State.completePrimary_cases v y .lost with ⟨o, flight, target, -⟩ | ⟨-, e⟩
        · obtain rfl : o = q := Option.some.inj (flight.symm.trans mine.1)
          exact absurd target.symm here
        · exact e
      rw [other]
      exact later v mine (by rw [opening]; exact fun h => here (Option.some.inj h)) same
  by_cases held : s.path.state = .closing q.target ∨ s.path.state = .closed q.target
  · exact lost _ (State.evaluatePath_of_lost held gone)
  · rw [not_or] at held
    rcases s.evaluatePath_cases with e | ⟨-, y, chosen, e⟩ | ⟨y, -, -, e⟩ | ⟨x, y, closed, -, -, -, e⟩
    · rw [State.evaluate, e]
      refine later s sole ?_ rfl
      cases path : s.path.state with
      | idle => exact fun h => nomatch h
      | closing y => exact fun h => held.1 (path.trans (congrArg PathState.closing (Option.some.inj h)))
      | closed y => exact fun h => held.2 (path.trans (congrArg PathState.closed (Option.some.inj h)))
      | opening y => exact fun h => calm (path.trans (congrArg PathState.opening (Option.some.inj h)))
    · rw [State.evaluate, e]
      refine later (s.enterClosing y) (sole.of_flights rfl rfl rfl rfl) (fun h => ?_) rfl
      obtain rfl : y = q.target := Option.some.inj h
      rw [(State.freshChoice_eq_some chosen).1] at gone
      cases gone
    · exact lost y e
    · rw [State.evaluate, e]
      refine later (s.openPath x) (sole.of_flights rfl rfl rfl rfl) (fun h => ?_) rfl
      obtain rfl : x = q.target := Option.some.inj h
      exact held.2 closed

/-- A lost PRIMARY stays answered after all that follows the event. -/
theorem lost_answers {q : PrimaryRequest} {pages : Bool} (sole : u.solePrimary q) (target : q.target = x) (path : u.path = s.path)
    (fit : s.eligible x = true) (gone : u.eligible x = false) (cause : (u.lossCause x).isSome = true)
    (calm : s.path.state ≠ .opening x) :
    (settle pages n s u).path.inFlight = none ∧ (settle pages n s u).answered q.slot .lost := by
  subst target
  have done := State.evaluate_answers_lost sole gone cause (path ▸ calm)
  rw [← State.reportOwners_of_lost path fit gone] at done
  have after := (trailing_flightless.and (trailing_answered q.slot .lost)).settle_of_owners (pages := pages) n done
  exact ⟨after.1, after.2.2⟩

/-! ### An engine at work -/

theorem State.apply_engine {g : Engine} (busy : g.state ≠ .free) (h : s.engine e = g) (p : LinePort) : (s.apply p).engine e = g := by
  unfold State.apply
  split
  · dsimp only
    have other : ∀ d, (s.engine d).state = .free → e ≠ d := fun d free same => by
      subst same
      rw [h] at free
      exact busy free
    split
    next free => rw [State.beginLease_engine_of_ne _ (other .e0 free), h]
    next =>
      split
      next free => rw [State.beginLease_engine_of_ne _ (other .e1 free), h]
      next => exact h
  · exact h

/-- An engine at work is given to nobody else. -/
theorem trailing_busy {g : Engine} (busy : g.state ≠ .free) (e : EngineId) : Trailing fun u => u.engine e = g :=
  .of_owners (fun u v same h => by rwa [State.engine, same.engines]) fun u p h =>
    State.apply_engine busy (by rw [State.engine, State.callSelection_engines]; exact h) p

end

end Sys2Proof.Machine
end

/-! # Detach (R2, R5, R13, R42, R49, R58, R116, R118) -/

section
namespace Sys2Proof.Machine

section
variable {s t u v w : State} {x y : Connector} {p : LinePort} {e : EngineId} {n : Nat} {q : QueueEntry} {f : OutFrame}

/-! ### The engine of a port that has left (R49, R42) -/

/-- Nothing of a port is left with the engines: its record, and its line, are those given, and it has no engine and no entry. -/
structure State.offEngines (s : State) (p : LinePort) (r : PortRecord) (l : Line) : Prop where
  port : s.port p = r
  line : s.line p = l
  unleased : s.engineOf p = none
  unqueued : s.queued p = false

theorem State.offEngines.aside {r : PortRecord} {l : Line} (h : s.offEngines p r l) (k : State.aside p s t) : t.offEngines p r l :=
  ⟨k.port.trans h.port, k.line.trans h.line, k.unleased h.unleased, k.unqueued h.unqueued⟩

theorem queued_eq_false_of (h : ∀ q ∈ s.queue, q.port ≠ p) : s.queued p = false :=
  State.queued_eq_false.mpr fun k mem => h ⟨p, k⟩ mem rfl

theorem State.offEngines_giveOut {r : PortRecord} {g : Line} {l : List QueueEntry} (h : s.offEngines p r g)
    (others : ∀ q ∈ l, q.port ≠ p) : (giveOut e l s).offEngines p r g := by
  induction l generalizing s with
  | nil => exact h
  | cons q l ih =>
    rw [giveOut]
    split
    next free =>
      have rest : ∀ z ∈ l, z.port ≠ p := fun z hz => others z (List.mem_cons_of_mem _ hz)
      have shorter : (s.withQueue l).offEngines p r g := ⟨h.port, h.line, h.unleased, queued_eq_false_of rest⟩
      exact ih (shorter.aside (State.aside_beginLease (s := s.withQueue l) (others q (List.mem_cons_self ..)) free q.cls)) rest
    · exact h

theorem mem_leaveQueue {l : List QueueEntry} : q ∈ leaveQueue l p ↔ q ∈ l ∧ q.port ≠ p := by
  simp [leaveQueue]

theorem State.lease_of_engineOf (h : s.engineOf p = some e) : (s.engine e).lease.map Lease.port = some p := by
  unfold State.engineOf at h
  split at h
  · cases h
    assumption
  · split at h
    · cases h
      assumption
    · cases h

/-- A port whose line is dropped has neither an engine nor an entry. -/
theorem State.offEngines_dropLine
    (distinct : ∀ l m, s.engines.e0.lease = some l → s.engines.e1.lease = some m → l.port ≠ m.port) : (s.dropLine p).offEngines p (s.port p) Line.cleared := by
  have others : ∀ q ∈ leaveQueue s.queue p, q.port ≠ p := fun q mem => (mem_leaveQueue.mp mem).2
  generalize ht : (s.withQueue (leaveQueue s.queue p)).setLine p Line.cleared = t
  have dropped : s.dropLine p = match t.engineOf p with
      | some e => (t.setEngine e Engine.freed).giveEngine e
      | none => t := by rw [← ht]; rfl
  have port : t.port p = s.port p := by rw [← ht]; rfl
  have line : t.line p = Line.cleared := by rw [← ht]; exact PerPort.get_set_self _ _ _
  have queue : t.queue = leaveQueue s.queue p := by rw [← ht]; rfl
  have engines : t.engines = s.engines := by rw [← ht]; rfl
  rw [dropped]
  cases lease : t.engineOf p with
  | none => exact ⟨port, line, lease, queued_eq_false_of (queue ▸ others)⟩
  | some e =>
    dsimp only
    have freed : (t.setEngine e Engine.freed).engineOf p = none := by
      rw [State.engineOf_eq_none]
      intro d
      by_cases here : d = e
      · subst here
        rw [State.engine_setEngine_self]
        exact fun h => nomatch h
      · rw [State.engine_setEngine_of_ne t _ here]
        intro same
        have mine : (t.engine e).lease.map Lease.port = some p := State.lease_of_engineOf lease
        rw [State.engine, engines] at same mine
        obtain ⟨a, ha, rfl⟩ := Option.map_eq_some_iff.mp same
        obtain ⟨b, hb, eq⟩ := Option.map_eq_some_iff.mp mine
        cases d <;> cases e
        · exact here rfl
        · exact distinct a b ha hb eq.symm
        · exact distinct b a hb ha eq
        · exact here rfl
    exact State.offEngines_giveOut (s := t.setEngine e Engine.freed) ⟨port, line, freed, queued_eq_false_of (queue ▸ others)⟩ (queue ▸ others)

/-- A lease of a port with a hail heeds it at once (R43, R44). -/
theorem State.beginLease_heeds (hail : (s.line p).hail = true) (e : EngineId) (k : LeaseKind) :
    ((s.beginLease e p k).engine e).lease = some ⟨p, k⟩ ∧ ((s.beginLease e p k).engine e).state = .heeding := by
  rw [State.beginLease_eq]
  generalize leased : s.withEngines (s.engines.set e ⟨.waitLine, some ⟨p, k⟩, false, [], none⟩) = w
  have line : (w.line p).hail = true := by rw [← leased]; exact hail
  have engine : w.engine e = ⟨.waitLine, some ⟨p, k⟩, false, [], none⟩ := by
    rw [← leased]
    cases e <;> rfl
  rw [State.missedBy, if_neg (by simp [line]), State.serve_hail line, State.beginHeed]
  have heeds : ((w.setEngine e { w.engine e with state := .heeding }).setLine p ((w.line p).enter .sending)).engine e =
      { w.engine e with state := .heeding } := State.engine_setEngine_self w e _
  rw [heeds, engine]
  exact ⟨rfl, rfl⟩

/-- A lease of a port without a hail, its slot filled and its line IDLE, begins to send (R43, R46). -/
theorem State.beginLease_sends (quiet : (s.line p).hail = false) (slot : (s.port p).slot = some f) (idle : (s.line p).cond = .idle)
    (e : EngineId) (k : LeaseKind) :
    (s.beginLease e p k).engine e =
      ⟨.sending, some ⟨p, k⟩, false, [], some ⟨f, (s.port p).tagCounter, sentBytes f (s.port p).tagCounter⟩⟩ := by
  rw [State.beginLease_eq]
  generalize leased : s.withEngines (s.engines.set e ⟨.waitLine, some ⟨p, k⟩, false, [], none⟩) = w
  obtain ⟨m, record, line, engine⟩ : ∃ m, (w.missedBy p k).port p = { s.port p with missedHail := m } ∧
      (w.missedBy p k).line p = s.line p ∧ (w.missedBy p k).engine e = ⟨.waitLine, some ⟨p, k⟩, false, [], none⟩ := by
    have engine : w.engine e = ⟨.waitLine, some ⟨p, k⟩, false, [], none⟩ := by
      rw [← leased]
      cases e <;> rfl
    unfold State.missedBy
    split
    · exact ⟨_, (State.port_setPort_self w p _).trans (by rw [← leased]; rfl), by rw [← leased]; rfl, engine⟩
    · exact ⟨(s.port p).missedHail, by rw [← leased]; rfl, by rw [← leased]; rfl, engine⟩
  generalize w.missedBy p k = x at record line engine
  rw [State.serve_send (by rw [line]; exact quiet) (by rw [record]; exact slot) (by rw [line]; exact idle), State.takeFrame,
    frameBytes_eq_sentBytes, record, engine]
  cases e <;> rfl

/-- The engine of a port that has left serves the head of the queue (R49, R42, R43). -/
theorem State.engine_dropLine {rest : List QueueEntry} (unqueued : s.queued p = false) (lease : s.engineOf p = some e) (queue : s.queue = q :: rest) :
    ((s.line q.port).hail = true →
      ((s.dropLine p).engine e).lease = some ⟨q.port, q.cls⟩ ∧ ((s.dropLine p).engine e).state = .heeding) ∧
    ((s.line q.port).hail = false → ∀ f, (s.port q.port).slot = some f → (s.line q.port).cond = .idle →
      (s.dropLine p).engine e = ⟨.sending, some ⟨q.port, q.cls⟩, false, [],
        some ⟨f, (s.port q.port).tagCounter, sentBytes f (s.port q.port).tagCounter⟩⟩) := by
  have out : ∀ z ∈ s.queue, z.port ≠ p := fun z mem same =>
    State.queued_eq_false.mp unqueued z.cls (by rw [← same]; exact mem)
  have whole : leaveQueue s.queue p = q :: rest := by
    rw [← queue, leaveQueue, List.filter_eq_self]
    exact fun z mem => decide_eq_true (out z mem)
  have ne : q.port ≠ p := out q (queue ▸ List.mem_cons_self ..)
  generalize hv : ((s.withQueue (leaveQueue s.queue p)).setLine p Line.cleared).setEngine e Engine.freed = v
  have dropped : s.dropLine p = v.giveEngine e := by
    rw [← hv, State.dropLine, show ((s.withQueue (leaveQueue s.queue p)).setLine p Line.cleared).engineOf p = some e from lease]
  have waiting : v.queue = q :: rest := by rw [← hv, ← whole]; rfl
  have free : (v.engine e).state = .free := by
    rw [← hv, State.engine_setEngine_self]
    rfl
  have line : (v.withQueue rest).line q.port = s.line q.port := by
    rw [← hv]
    exact State.line_setLine_of_ne (s.withQueue (leaveQueue s.queue p)) Line.cleared ne
  have port : (v.withQueue rest).port q.port = s.port q.port := by rw [← hv]; rfl
  rw [dropped]
  refine ⟨fun hail => ?_, fun quiet f slot idle => ?_⟩
  · rw [State.giveEngine_lasting waiting free (.inl ((congrArg Line.hail line).trans hail))]
    exact State.beginLease_heeds (by rw [line]; exact hail) e q.cls
  · rw [State.giveEngine_lasting waiting free (.inr (by
      rw [show v.port q.port = s.port q.port from port, slot]
      exact fun h => nomatch h))]
    have sends := State.beginLease_sends (s := v.withQueue rest) (by rw [line]; exact quiet) (by rw [port]; exact slot)
      (by rw [line]; exact idle) e q.cls
    rwa [port] at sends

/-! ### The detach event -/

/-- A PRIMARY in flight that shares its slot with no other request. -/
theorem State.solePrimary_iff {q : PrimaryRequest} : s.solePrimary q ↔ s.path.inFlight = some q ∧
    (∀ p r, (s.port p).inFlight = some r → r.slot ≠ q.slot) ∧ s.barrel.inFlight ≠ some q.slot ∧ q.slot ∉ s.meas.singles := by
  constructor
  · rintro ⟨flight, ports, barrel, -, singles⟩
    exact ⟨flight, ports, barrel, singles⟩
  · rintro ⟨flight, ports, barrel, singles⟩
    exact ⟨flight, ports, barrel, (fun r h => nomatch h), singles⟩

/-- The latest VD is the measurement unit's alone. -/
theorem trailing_latestVD (d : Nat) : Trailing fun u => u.latestVD = d :=
  .of_field State.latestVD d State.evaluate_latestVD (fun _ _ => rfl) (fun _ => rfl) (fun _ => rfl) (fun _ _ => rfl)
    (fun _ _ => rfl) fun u p => by rw [State.apply_latestVD, State.callSelection_latestVD]

/-- A detached line port before its line is dropped (R2, R58). -/
theorem State.detached_line (s : State) (p : LinePort) :
    ∃ c : State, s.detached (.line p) = c.dropLine p ∧ c.port p = PortRecord.cleared ∧ (∀ o, o ≠ p → c.port o = s.port o) ∧
      c.trackers = s.trackers.set (.line p) ⟨.empty, none, none⟩ ∧ c.engines = s.engines ∧ c.queue = s.queue ∧ c.lines = s.lines ∧
      c.path = s.path ∧ c.policy = s.policy ∧ c.barrel = s.barrel ∧ c.meas.droop.get (.line p) = 0 ∧ c.meas.singles = s.meas.singles := by
  generalize hb : (((s.setTracker (.line p) Tracker.cleared).clearDroop (.line p)).setPort p PortRecord.cleared).journal 0x02 (lineByte p)
    (le2 (s.port p).badFrame ++ le2 (s.port p).staleFrame ++ le2 (s.port p).missedHail) = b
  have mine : b.port p = PortRecord.cleared := by
    rw [← hb]
    exact State.port_setPort_self _ _ _
  have others : ∀ o, o ≠ p → b.port o = s.port o := fun o ne => by
    rw [← hb]
    exact State.port_setPort_of_ne _ _ ne
  have rest : b.trackers = s.trackers.set (.line p) ⟨.empty, none, none⟩ ∧ b.engines = s.engines ∧ b.queue = s.queue ∧
      b.lines = s.lines ∧ b.path = s.path ∧ b.policy = s.policy ∧ b.barrel = s.barrel ∧ b.meas.droop.get (.line p) = 0 ∧
      b.meas.singles = s.meas.singles := by
    subst hb
    exact ⟨rfl, rfl, rfl, rfl, rfl, rfl, rfl, PerConn.get_set_self _ _ _, rfl⟩
  cases flight : (s.port p).inFlight with
  | none =>
    refine ⟨b, ?_, mine, others, rest⟩
    rw [State.detached, State.portDetach, show (((s.setTracker (.line p) Tracker.cleared).clearDroop (.line p)).port p).inFlight = none from flight,
      ← hb]
    rfl
  | some q =>
    refine ⟨b.complete q.slot .lost (PortRecord.cleared.requestData q.kind), ?_, mine, others, rest⟩
    rw [State.detached, State.portDetach,
      show (((s.setTracker (.line p) Tracker.cleared).clearDroop (.line p)).port p).inFlight = some q from flight, ← hb]
    rfl

/-- Settles O17. -/
theorem detachExpiryClears : Obligations.DetachExpiryClears := by
  unfold Obligations.DetachExpiryClears
  refine ⟨fun s p n ok attached running => ?_, fun s n attached running => ?_⟩
  · have done : exec (.detachIntervalExpiry (.line p)) s = .next (s.settles (s.detached (.line p))) :=
      congrArg Host.Outcome.next (if_pos ⟨attached, by rw [running]; rfl⟩)
    obtain ⟨-, distinct, -, unplaced, -⟩ := ok
    obtain ⟨c, e, cleared, others, trackers, engines, queue, lines, path, policy, barrel, droop, singles⟩ := s.detached_line p
    have served := State.served_dropLine c p
    have off := State.offEngines_dropLine (s := c) (p := p) (by rw [engines]; exact distinct)
    rw [← e] at served off
    rw [cleared] at off
    have absent : (s.detached (.line p)).attached (.line p) = false := by
      rw [State.attached, State.tracker, served.trackers, trackers, PerConn.get_set_self]
      rfl
    have still : ((s.detached (.line p)).port p).unmoved := by
      rw [off.port]
      exact .inl rfl
    have aside : State.aside p (s.detached (.line p)) (s.settles (s.detached (.line p))) :=
      ((trailing_aside still (.inr (.inr absent))).settles ⟨.refl _, rfl⟩).1
    obtain ⟨port, line, unleased, unqueued⟩ := off.aside aside
    have follows : (s.setTracker (.line p) Tracker.cleared).Follows true (fun _ => True) [(0x02, connectorCode (some (.line p)),
        le2 (s.port p).badFrame ++ le2 (s.port p).staleFrame ++ le2 (s.port p).missedHail)] (s.detached (.line p)) :=
      (State.follows_clearDroop _ (.line p)).trans (State.follows_portDetach _ p)
    have samePath : (s.detached (.line p)).path = s.path := served.lined.path.trans path
    have samePolicy : (s.detached (.line p)).policy = s.policy := served.lined.policy.trans policy
    have gone : (s.detached (.line p)).eligible (.line p) = false := by
      rw [State.eligible, off.port]
      rfl
    have why : (s.detached (.line p)).lossCause (.line p) = some .detached := by
      rw [State.lossCause, off.port]
      rfl
    refine ⟨_, done, (trailing_trackers _).settles (served.trackers.trans trackers), port, line, unqueued, unleased,
      (trailing_droop _).settles ((congrArg (fun m => m.droop.get (.line p)) served.lined.meas).trans droop),
      (trailing_barrel _).settles (served.lined.barrel.trans barrel), fun d q rest lease waiting => ?_, fun fit =>
      ⟨fun held => lost_opens samePath samePolicy fit gone held,
        lost_journals (v := s.setTracker (.line p) Tracker.cleared) follows samePath fit gone why, fun q sole target calm => ?_⟩⟩
    · have clear : s.queued p = false := by
        by_contra queued
        rw [unplaced p (by simpa using queued)] at lease
        cases lease
      have hand := State.engine_dropLine (s := c) (p := p) (e := d) (q := q) (rest := rest) (by rw [State.queued, queue]; exact clear)
        ((State.engineOf_congr engines).trans lease) (queue.trans waiting)
      have ne : q.port ≠ p := fun same => State.queued_eq_false.mp clear q.cls (by rw [waiting, ← same]; exact List.mem_cons_self ..)
      rw [← e, others q.port ne, State.line, lines] at hand
      refine ⟨fun hail => ?_, fun quiet f slot idle => ?_⟩
      · obtain ⟨leased, heeding⟩ := hand.1 hail
        have kept := (trailing_busy (g := (s.detached (.line p)).engine d) (by rw [heeding]; decide) d).settles (s := s) rfl
        rw [kept]
        exact ⟨leased, heeding⟩
      · have sending := hand.2 quiet f slot idle
        refine (trailing_busy ?_ d).settles sending
        exact fun h => nomatch h
    · have mine : (s.detached (.line p)).solePrimary q := by
        obtain ⟨flight, ports, idle, single⟩ := State.solePrimary_iff.mp sole
        have sameBarrel : (s.detached (.line p)).barrel = s.barrel := served.lined.barrel.trans barrel
        have same : (s.detached (.line p)).meas.singles = s.meas.singles := (congrArg Measurement.singles served.lined.meas).trans singles
        refine State.solePrimary_iff.mpr ⟨(congrArg Path.inFlight samePath).trans flight, fun o r his => ?_, by rwa [sameBarrel], by rwa [same]⟩
        by_cases here : o = p
        · subst here
          rw [off.port] at his
          cases his
        · refine ports o r ?_
          rw [← others o here, ← served.field o PortRecord.inFlight fun _ => rfl]
          exact his
      exact lost_answers mine target samePath fit gone (by rw [why]; rfl) calm
  · have done : exec (.detachIntervalExpiry .barrel) s = .next (s.settles (s.detached .barrel)) :=
      congrArg Host.Outcome.next (if_pos ⟨attached, by rw [running]; rfl⟩)
    generalize hb : ((s.setTracker .barrel Tracker.cleared).clearDroop .barrel) = b at *
    have detached : s.detached .barrel = b.barrelDetach := by rw [← hb]; rfl
    rw [detached] at done
    have record : b.barrelDetach.barrel = Barrel.cleared := by
      rw [State.barrelDetach]
      unfold State.completeBarrel
      split
      · rfl
      next flight =>
        have empty : s.barrel.inFlight = none := by rw [← hb] at flight; exact flight
        show ({ Barrel.cleared with inFlight := b.barrel.inFlight } : Barrel) = Barrel.cleared
        rw [← hb, show ((s.setTracker .barrel Tracker.cleared).clearDroop .barrel).barrel.inFlight = none from empty]
        rfl
    have path : b.barrelDetach.path = s.path := by rw [State.barrelDetach_path, ← hb]; rfl
    have policy : b.barrelDetach.policy = s.policy := by rw [State.barrelDetach_policy, ← hb]; rfl
    have ports : b.barrelDetach.ports = s.ports := by rw [State.barrelDetach_ports, ← hb]; rfl
    have gone : b.barrelDetach.eligible .barrel = false := by
      rw [State.eligible, record]
      rfl
    have why : b.barrelDetach.lossCause .barrel = some .detached := by
      rw [State.lossCause, record]
      rfl
    have follows : (s.setTracker .barrel Tracker.cleared).Follows true (fun _ => True) [(0x02, 3, [])] b.barrelDetach := hb ▸
      (State.follows_clearDroop _ .barrel).trans (State.follows_barrelDetach _)
    obtain ⟨m, measured, droop, singles⟩ : ∃ m, b.barrelDetach.meas = m ∧ m.droop.get .barrel = 0 ∧ m.singles = s.meas.singles := by
      refine ⟨_, rfl, ?_, ?_⟩
      · rw [State.barrelDetach, State.completeBarrel_meas]
        show (b.meas.droop.set .barrel 0).get .barrel = 0
        exact PerConn.get_set_self _ _ _
      · rw [State.barrelDetach, State.completeBarrel_meas, ← hb]
        rfl
    refine ⟨_, done, (trailing_trackers _).settles (by rw [State.barrelDetach_trackers, ← hb]; rfl), (trailing_barrel _).settles record,
      (trailing_latestVD _).settles (by rw [State.barrelDetach_latestVD, ← hb]; rfl),
      (trailing_droop _).settles (by rw [measured]; exact droop), fun fit =>
      ⟨fun held => lost_opens path policy fit gone held,
        lost_journals (v := s.setTracker .barrel Tracker.cleared) follows path fit gone why, fun q sole target calm => ?_⟩⟩
    obtain ⟨flight, others, -, single⟩ := State.solePrimary_iff.mp sole
    have mine : b.barrelDetach.solePrimary q := State.solePrimary_iff.mpr ⟨(congrArg Path.inFlight path).trans flight,
      fun o r his => others o r (by rw [State.port, ports] at his; exact his), (by rw [record]; exact fun h => nomatch h),
      by rw [measured, singles]; exact single⟩
    exact lost_answers mine target path fit gone (by rw [why]; rfl) calm

end

end Sys2Proof.Machine
end

/-! # The eighth sample of an identification (R7 to R11) -/

section
namespace Sys2Proof.Machine

section
variable {s t u v w : State} {k : Fin 8} {code : ResultCode} {l : List (Byte × Byte × List Byte)} {x y : Exchange}

/-! ### What a publish leaves (R134, R136) -/

/-- The journal stands, and no attention cause is cleared. -/
structure Exchange.keepsJournal (x y : Exchange) : Prop where
  bytes : ∀ a, 0x410 ≤ a → a < 0x610 → readByte y.mem a = readByte x.mem a
  attn : ∀ c, x.attn &&& c = c → y.attn &&& c = c
  withheld : y.withheld = x.withheld

theorem Exchange.keepsJournal.trans {z : Exchange} (h : x.keepsJournal y) (k : y.keepsJournal z) : x.keepsJournal z :=
  ⟨fun a lo hi => (k.bytes a lo hi).trans (h.bytes a lo hi), fun c hc => k.attn c (h.attn c hc), k.withheld.trans h.withheld⟩

theorem Exchange.keepsJournal_complete (x : Exchange) (k : Fin 8) (c : ResultCode) (d : List Byte) : x.keepsJournal (x.complete k c d) where
  bytes a lo _ := x.readByte_complete_outside k c d a (.inr (by
    have := k.isLt
    simp only [slotAddress, Config.slotBase]
    omega))
  attn _ h := causes_kept h
  withheld := rfl

theorem State.journals.of_keepsJournal (h : s.journals t l) (kept : t.exch.keepsJournal u.exch) : s.journals u l := by
  intro i kind port d at_i
  have := h i kind port d at_i
  dsimp only at this ⊢
  split
  next room =>
    rw [if_pos room] at this
    refine ⟨kept.attn _ this.1, fun j hj => ?_⟩
    rw [kept.bytes _ (by omega) (by omega)]
    exact this.2 j hj
  next full =>
    rw [if_neg full] at this
    exact ⟨kept.attn _ this.1, kept.withheld ▸ this.2⟩

theorem State.publish_exch (s : State) :
    s.publish.exch = { s.exch with
      mem := writePage s.exch.mem Config.telemetryBase (s.exch.telemetrySeq + 2) s.telemetryPage
      telemetrySeq := s.exch.telemetrySeq + 2, attn := s.exch.attn ||| causeTelemetry } := rfl

theorem State.readByte_publish (s : State) {a : Nat} (h : a < 0x380 ∨ 0x400 ≤ a) : readByte s.publish.exch.mem a = readByte s.exch.mem a := by
  rw [State.publish_exch]
  refine readByte_writeBlock_outside _ _ _ _ ?_
  have length : (le2 (s.exch.telemetrySeq + 2).toNat ++ s.telemetryPage).length = 128 := by
    rw [List.length_append, State.telemetryPage, length_padTo]
    rfl
  rw [length]
  simp only [Config.telemetryBase]
  omega

theorem State.keepsJournal_publish (s : State) : s.exch.keepsJournal s.publish.exch where
  bytes _ lo _ := s.readByte_publish (.inr (by omega))
  attn _ h := causes_kept h
  withheld := rfl

theorem State.offSlot_publish (s : State) (k : Fin 8) : State.offSlot k s s.publish :=
  ⟨rfl, fun a ha => s.readByte_publish (.inl (by
    have := k.isLt
    have := ha.2
    simp only [slotAddress, Config.slotBase] at this
    omega))⟩

/-- The completions of the SINGLEs that wait. -/
def State.singlesEnded (s : State) (l : List (Fin 8)) : State := l.foldl (fun u k => u.complete k .ok u.meas.data) s

theorem State.singlesEnded_rest (s : State) (l : List (Fin 8)) : ∃ x, s.singlesEnded l = s.withExch x ∧ s.exch.keepsJournal x := by
  induction l generalizing s with
  | nil => exact ⟨s.exch, rfl, ⟨fun _ _ _ => rfl, fun _ h => h, rfl⟩⟩
  | cons k l ih =>
    obtain ⟨x, e, kept⟩ := ih (s.complete k .ok s.meas.data)
    exact ⟨x, e, (Exchange.keepsJournal_complete _ _ _ _).trans kept⟩

theorem State.offSlot_singlesEnded (s : State) {l : List (Fin 8)} (out : k ∉ l) : State.offSlot k s (s.singlesEnded l) := by
  induction l generalizing s with
  | nil => exact .refl s
  | cons j l ih =>
    rw [List.mem_cons, not_or] at out
    exact (State.offSlot_complete s (Ne.symm out.1) .ok s.meas.data).trans (ih _ out.2)

theorem State.publishSingle_eq (s : State) :
    s.publishSingle = if s.meas.singlePending then
      (s.publish.withMeas { s.publish.meas with singlePending := false, singles := [] }).singlesEnded s.meas.singles else s := rfl

theorem State.publish_with (s : State) (m : Measurement) (x : Exchange) :
    (s.publish.withMeas m).withExch x = ((s.withMeas m).withReg s.publish.reg).withExch x := by
  rw [State.publish]
  rfl

theorem State.publishSingle_rest (s : State) :
    ∃ m r x, s.publishSingle = ((s.withMeas m).withReg r).withExch x ∧ s.exch.keepsJournal x := by
  rw [State.publishSingle_eq]
  split
  · obtain ⟨x, e, kept⟩ := (s.publish.withMeas { s.publish.meas with singlePending := false, singles := [] }).singlesEnded_rest s.meas.singles
    exact ⟨{ s.publish.meas with singlePending := false, singles := [] }, s.publish.reg, x, e.trans (s.publish_with _ x),
      s.keepsJournal_publish.trans kept⟩
  · exact ⟨s.meas, s.reg, s.exch, rfl, ⟨fun _ _ _ => rfl, fun _ h => h, rfl⟩⟩

theorem State.offSlot_publishSingle (out : k ∉ s.meas.singles) : State.offSlot k s s.publishSingle := by
  rw [State.publishSingle_eq]
  split
  · exact ((s.offSlot_publish k).trans (State.offSlot_of_exch rfl)).trans (State.offSlot_singlesEnded _ out)
  · exact .refl s

theorem State.answered.of_offSlot (h : s.answered k code) (off : State.offSlot k s t) : t.answered k code := by
  obtain ⟨copy, state, result⟩ := h
  exact ⟨(congrArg Slot.copy off.1).trans copy, (off.2 _ ⟨by omega, by omega⟩).trans state, (off.2 _ ⟨by omega, by omega⟩).trans result⟩

/-! ### The outcome of an identification (R8, R9) -/

theorem matchId_eq (average n : Nat) (ids : List IdEntry) :
    matchId average n ids = (ids.findIdx? fun e => decide (e.lo ≤ average ∧ average ≤ e.hi)).map fun i => (n + i, (ids.getD i ⟨0, 0, 0⟩).amps) := by
  induction ids generalizing n with
  | nil => rfl
  | cons e ids ih =>
    rw [matchId, List.findIdx?_cons]
    by_cases here : e.lo ≤ average ∧ average ≤ e.hi
    · simp [here]
    · rw [if_neg here, ih, decide_eq_false here]
      cases ids.findIdx? fun e => decide (e.lo ≤ average ∧ average ≤ e.hi) with
      | none => rfl
      | some i => simp [Nat.add_assoc, Nat.add_comm 1 i]

theorem State.completeBarrel_barrel (s : State) (c : ResultCode) : (s.completeBarrel c).barrel = { s.barrel with inFlight := none } := by
  unfold State.completeBarrel
  split
  · rfl
  next none =>
    rw [← none]

/-- The record of D after an outcome. -/
theorem State.barrelOutcome_barrel (s : State) (i : StoredId) (amps : Nat) :
    (s.barrelOutcome i amps).barrel = match s.policy.barrelCause i.volts amps with
      | none => { s.barrel with
          stored := some i, refreshPending := false, cause := none, state := .bound, live := some (.ofBarrel i.volts amps), pathFault := false }
      | some c => { s.barrel with stored := some i, refreshPending := false, cause := some c, state := .unusable, live := none } := by
  unfold State.barrelOutcome
  cases s.policy.barrelCause i.volts amps <;> rfl

theorem State.barrelOutcome_singles (s : State) (i : StoredId) (amps : Nat) : (s.barrelOutcome i amps).meas.singles = s.meas.singles := by
  unfold State.barrelOutcome
  cases s.policy.barrelCause i.volts amps <;> rfl

/-- A REFRESH of D that shares its slot with no other request. -/
theorem State.completeBarrel_answers (flight : s.barrel.inFlight = some k) (sole : (s.withBarrel { s.barrel with inFlight := none }).unheld k)
    (c : ResultCode) : (s.completeBarrel c).unheld k ∧ (s.completeBarrel c).answered k c := by
  rw [State.completeBarrel, flight]
  exact ⟨sole, State.answered_complete _ _ _ _⟩

/-- D after an outcome, and its REFRESH (R8, R9, R11). -/
theorem State.identify_eq (s : State) :
    s.identify = (s.barrelOutcome s.identified (s.policy.classify (s.barrel.sum / Config.iddSamples)).2).completeBarrel
      (if (s.policy.barrelCause s.identified.volts (s.policy.classify (s.barrel.sum / Config.iddSamples)).2).isNone then .ok
        else .noUsableLevel) := by
  have state : (s.barrelOutcome s.identified (s.policy.classify (s.barrel.sum / Config.iddSamples)).2).barrel.state = .bound ↔
      (s.policy.barrelCause s.identified.volts (s.policy.classify (s.barrel.sum / Config.iddSamples)).2).isNone = true := by
    rw [State.barrelOutcome_barrel]
    cases s.policy.barrelCause s.identified.volts (s.policy.classify (s.barrel.sum / Config.iddSamples)).2 <;> simp
  rw [← if_congr state rfl rfl]
  rfl

/-- Settles O27. -/
theorem eighthSampleIdentifies : Obligations.EighthSampleIdentifies := by
  unfold Obligations.EighthSampleIdentifies
  intro s r identifying count average found amps entry volts bound outcome
  generalize hv : min 3300 r.toNat = v at *
  generalize hu : (s.enterResult .idd v).withBarrel { s.barrel with count := 8, sum := s.barrel.sum + v } = u
  have barrel : u.barrel = { s.barrel with count := 8, sum := s.barrel.sum + v } := hu ▸ rfl
  have sampled : (s.enterResult .idd v).barrelSample v = u.identify := by
    rw [State.barrelSample, show (s.enterResult .idd v).barrel = s.barrel from rfl, if_pos identifying, count, ← hu]
    rfl
  have done : exec (.iddCompletion r) s = .next ((s.enterResult .idd v).settles u.identify).publishSingle := by
    rw [← sampled, ← hv]
    show Host.Outcome.next _ = _
    rw [show (Channel.idd.result r) = min 3300 r.toNat from rfl, hv]
    rw [if_pos (show (s.enterResult .idd v).barrel.state = .identifying from identifying)]
  have classified : s.policy.classify average = (entry, amps) := by
    rw [Policy.classify, matchId_eq]
    show (match Option.map _ found with | some m => m | none => (255, s.policy.fallback)) = _
    cases h : found with
    | none => simp only [entry, amps, h]; rfl
    | some i => simp only [entry, amps, h, Nat.add_comm i 1]; rfl
  have cause : s.policy.barrelCause volts amps =
      if bound then none else some (if volts < s.policy.vinMin ∨ s.policy.vinMax < volts then .volts else .noCurrent) := by
    rw [Policy.barrelCause]
    by_cases out : volts < s.policy.vinMin ∨ s.policy.vinMax < volts
    · rw [if_pos out, if_pos out, if_neg]
      rintro ⟨low, high, -⟩
      omega
    · rw [if_neg out, if_neg out]
      by_cases zero : amps = 0
      · rw [if_pos zero, if_neg fun h => h.2.2 zero]
      · rw [if_neg zero, if_pos ⟨by omega, by omega, zero⟩]
  have sum : u.barrel.sum / Config.iddSamples = average := by rw [barrel, ← hv]; rfl
  have policy : u.policy = s.policy := hu ▸ rfl
  have identified : u.identified = ⟨average, entry, volts⟩ := by
    rw [State.identified, sum, policy, classified, show u.latestVD = s.latestVD from hu ▸ rfl]
    have : s.latestVD / 100 * 100 = volts := by omega
    rw [this]
  have identify : u.identify = (u.barrelOutcome ⟨average, entry, volts⟩ amps).completeBarrel (if bound then .ok else .noUsableLevel) := by
    rw [u.identify_eq, identified, sum, policy, classified]
    dsimp only
    rw [cause]
    by_cases b : bound
    · rw [if_pos b, if_pos b]; rfl
    · rw [if_neg b, if_neg b]; rfl
  have record : u.identify.barrel = { (u.barrelOutcome ⟨average, entry, volts⟩ amps).barrel with inFlight := none } := by
    rw [identify, State.completeBarrel_barrel]
  rw [State.barrelOutcome_barrel, policy] at record
  dsimp only at record
  rw [cause] at record
  have follows : (s.enterResult .idd v).Follows true (fun _ => True) [(0x12, 3, [BitVec.ofNat 8 entry, outcome] ++ le2 average ++ le2 volts ++
      le2 (if bound then amps else 0))] u.identify := by
    have sampled : (s.enterResult .idd v).Follows true (fun _ => True) [] u := hu ▸ State.follows_withBarrel_kept _ _ rfl
    have made := State.follows_identify (pages := true) (held := fun _ => True) u
    rw [identified, sum, policy, classified, State.barrelRecord, policy] at made
    dsimp only at made
    rw [cause] at made
    have byte : outcomeByte (if bound then none else some (if volts < s.policy.vinMin ∨ s.policy.vinMax < volts then .volts else .noCurrent)) =
        outcome := by
      simp only [outcome]
      split
      · rfl
      · split <;> rfl
    have isNone : (if bound then none else some (if volts < s.policy.vinMin ∨ s.policy.vinMax < volts then UnusableCause.volts
        else .noCurrent)).isNone = decide bound := by
      by_cases b : bound <;> simp [b]
    rw [byte, isNone, if_congr decide_eq_true_iff rfl rfl] at made
    exact sampled.trans made
  have settled : ((s.enterResult .idd v).settles u.identify).barrel = u.identify.barrel := (trailing_barrel _).settles rfl
  have kept : ((s.enterResult .idd v).settles u.identify).policy = s.policy := (trailing_policy _).settles (by
    rw [identify, State.completeBarrel_policy, State.barrelOutcome_policy]
    exact policy)
  have journal : s.journals ((s.enterResult .idd v).settles u.identify) [(0x12, 3, [BitVec.ofNat 8 entry, outcome] ++ le2 average ++
      le2 volts ++ le2 (if bound then amps else 0))] :=
    State.Follows.journals_of_more (s := s.enterResult .idd v) ((trailing_follows _ _).settles ⟨[], follows⟩) (State.heldIn_all _)
  have answers : ∀ k, s.barrel.inFlight = some k → (s.withBarrel { s.barrel with inFlight := none }).unheld k →
      ((s.enterResult .idd v).settles u.identify).unheld k ∧
        ((s.enterResult .idd v).settles u.identify).answered k (if bound then .ok else .noUsableLevel) := fun k flight sole =>
    (trailing_answered k _).settles (by
      rw [identify]
      refine State.completeBarrel_answers ?_ ?_ _
      · rw [State.barrelOutcome_barrel, policy, cause]
        by_cases b : bound
        · rw [if_pos b]
          exact (congrArg Barrel.inFlight barrel).trans flight
        · rw [if_neg b]
          exact (congrArg Barrel.inFlight barrel).trans flight
      · have ports : ∀ o, ((u.barrelOutcome ⟨average, entry, volts⟩ amps).port o).inFlight = (s.port o).inFlight := fun o => by
          rw [State.port, State.barrelOutcome_ports, ← hu]
          rfl
        refine State.unheld_of_flights sole ports rfl ?_ ?_
        · show (u.barrelOutcome _ amps).path.inFlight = s.path.inFlight
          rw [State.barrelOutcome_path, ← hu]
          rfl
        · show (u.barrelOutcome _ amps).meas.singles = s.meas.singles
          rw [State.barrelOutcome_singles, ← hu]
          rfl)
  generalize (s.enterResult .idd v).settles u.identify = t at done settled kept journal answers
  obtain ⟨m, g, x, publishes, journalled⟩ := t.publishSingle_rest
  have same : t.publishSingle.barrel = u.identify.barrel := by rw [publishes]; exact settled
  rw [record] at same
  refine ⟨_, done, ?_, ?_, ?_, ?_, ?_, ?_, fun k flight sole => ?_, ?_⟩
  · rw [same]
    split <;> rfl
  · rw [same]
    split <;> rfl
  · rw [same]
  · rw [same]
    split <;> exact (congrArg Barrel.released barrel :)
  · rw [publishes]
    exact kept
  · refine State.journals.of_keepsJournal journal ?_
    rw [publishes]
    exact journalled
  · obtain ⟨unheld, answered⟩ := answers k flight sole
    exact answered.of_offSlot (State.offSlot_publishSingle unheld.2.2.2)
  · rw [same]
    by_cases b : bound
    · rw [if_pos b, if_pos b]
      exact ⟨rfl, rfl, rfl, rfl⟩
    · rw [if_neg b, if_neg b]
      exact ⟨rfl, rfl, rfl⟩

end

end Sys2Proof.Machine
end

/-! # A path that closes stays closing; the end of the break (R106, R108, R117) -/

section
namespace Sys2Proof.Machine

section
variable {s t u v w : State} {x y : Connector} {p : LinePort} {r : PortRecord} {n : Nat} {pages : Bool}

/-! ### A connector that stays eligible -/

/-- The port states that are eligible while the path is CLOSING or CLOSED on the port (R106). -/
def PortState.serves : PortState → Bool
  | .asking => true
  | .shifting => true
  | k => k.selects

/-- The records make a connector eligible while the path is CLOSING or CLOSED on it. -/
def State.fit (s : State) : Connector → Prop
  | .line p => (s.port p).state.serves = true ∧ (s.port p).released = false ∧ (s.port p).pathFault = false
  | .barrel => s.barrel.eligible = true

theorem State.fit_of_eligible (h : s.eligible x = true) : s.fit x := by
  cases x with
  | line p =>
    simp only [State.eligible, Bool.and_eq_true, Bool.not_eq_true'] at h
    obtain ⟨⟨state, released⟩, fault⟩ := h
    refine ⟨?_, released, fault⟩
    cases kind : (s.port p).state <;> rw [kind] at state <;> first | rfl | cases state
  | barrel => exact h

theorem State.eligible_of_fit (h : s.fit x) (holds : s.path.state.holds x = true) : s.eligible x = true := by
  cases x with
  | line p =>
    obtain ⟨state, released, fault⟩ := h
    have : portStateEligible s.path.state p (s.port p).state = true := by
      cases kind : (s.port p).state <;> rw [kind] at state <;> first | rfl | exact holds | cases state
    simp [State.eligible, this, released, fault]
  | barrel => exact h

theorem trailing_serves (p : LinePort) : Trailing fun u => (u.port p).state.serves = true :=
  .of_record (R := fun r => r.state.serves = true) p
    (fun r w same h => by rw [show w.state = r.state from (congrArg PortRecord.state same).symm]; exact h)
    fun _ _ w calls h => by
      rcases calls.state with same | ⟨-, k⟩
      · rw [same]
        exact h
      · cases kind : w.state <;> rw [kind] at k <;> first | rfl | cases k

theorem trailing_released (p : LinePort) (b : Bool) : Trailing fun u => (u.port p).released = b :=
  .of_record (R := fun r => r.released = b) p (fun r w same h => (congrArg PortRecord.released same).symm.trans h)
    fun _ _ _ calls h => (congrArg PortRecord.released calls.core :).trans h

theorem trailing_fit (x : Connector) : Trailing fun u => u.fit x := by
  cases x with
  | barrel =>
    exact .of_owners (fun u v same h => by rwa [State.fit, same.barrel]) fun u o h => by
      rwa [State.fit, State.apply_barrel, State.callSelection_barrel]
  | line p => exact (trailing_serves p).and ((trailing_released p false).and (trailing_faultless p))

/-! ### The path under a predicate that stays -/

/-- A predicate on the path that evaluations keep where another predicate stays. -/
theorem Trailing.with_path {P : State → Prop} {Q : Path → Prop} (trails : Trailing P)
    (evaluate : ∀ u : State, P u → Q u.path → Q u.evaluate.path) : Trailing fun u => Q u.path ∧ P u where
  evaluate u h := ⟨evaluate u h.2 h.1, trails.evaluate u h.2⟩
  droop u x h := ⟨h.1, trails.droop u x h.2⟩
  budget u h := ⟨h.1, trails.budget u h.2⟩
  left u h := ⟨h.1, trails.left u h.2⟩
  prospect u v h := ⟨h.1, trails.prospect u v h.2⟩
  page u x h := ⟨h.1, trails.page u x h.2⟩
  call u p h := ⟨by rw [State.apply_path, State.callSelection_path]; exact h.1, trails.call u p h.2⟩

/-- A path that closes on an eligible connector, closes on (R110). -/
theorem State.evaluate_closing (h : s.path.state = .closing y) (fit : s.eligible y = true) :
    s.evaluate.path.sansFlight = s.path.sansFlight := by
  rw [State.evaluate, (State.dropLostPrimary_path _).1, State.evaluatePath, h]
  dsimp only
  rw [if_pos fit]

theorem trailing_closing {v : Path} (closing : v.state = .closing y) : Trailing fun u => u.path.sansFlight = v ∧ u.fit y :=
  (trailing_fit y).with_path (Q := fun a => a.sansFlight = v) fun u fit h => by
    have state : u.path.state = .closing y := (congrArg Path.state h :).trans closing
    have holds : u.path.state.holds y = true := by rw [state, PathState.holds_closing]; simp
    rw [State.evaluate_closing state (State.eligible_of_fit fit holds), h]

/-- Bits of ATTN that are set stay set: only the host clears them (R177). -/
theorem State.Goes.attn {held : Fin 8 → Prop} (goes : s.Goes true held t) (hs : s.heldIn held) {causes : BitVec 7}
    (h : s.exch.attn &&& causes = causes) : t.exch.attn &&& causes = causes := by
  obtain ⟨l, follows⟩ := goes
  exact (follows.logs hs).attn h

/-! ### Events that leave the records -/

/-- Owners whose records an event leaves report nothing (R82). -/
theorem State.reportOwners_of_records {a : Path} (quiet : (s.withPath a).Quiet t) : s.reportOwners t = t :=
  quiet.reportOwners

theorem State.findProspect_of_heldBy (prospective : ∀ x, t.prospective x = s.prospective x)
    (held : t.path.state.heldBy = s.path.state.heldBy) (pin : t.path.pin = s.path.pin) (dead : t.meas.dead = s.meas.dead)
    (policy : t.policy = s.policy) : t.findProspect = s.findProspect := by
  have scores : t.prospective = s.prospective := funext prospective
  simp only [State.findProspect, State.pinProspect, State.incumbent, State.prospects, scores, held, pin, dead, policy]

/-- An event that changes no claim role brings no call for selection (R95). -/
theorem settle_of_roles (roles : ∀ p, (s.concludes pages t).role p = s.role p) (n : Nat) :
    settle pages n s t = s.concludes pages t := by
  cases n with
  | zero => rfl
  | succ n =>
    have none : roleChanges s (s.concludes pages t) = [] :=
      List.filter_eq_nil_iff.mpr fun p _ => by rw [roles p]; simp
    rw [settle, none]
    rfl

theorem PathState.heldBy_holds {a b : PathState} (h : a.heldBy = b.heldBy) (x : Connector) : a.holds x = b.holds x := by
  have : ∀ c : PathState, c.holds x = decide (c.heldBy = some x) := fun c => by cases c <;> simp [PathState.holds, PathState.heldBy]
  rw [this, this, h]

/-- An event that changes nothing but the path, and no connector that it is CLOSING or CLOSED on: no prospect and no role
changes, and the event ends with its page rewrites (R94, R95). -/
theorem settle_of_heldBy {a : Path} (ok : s.prospectOk) (quiet : (s.withPath a).Quiet t) (held : a.state.heldBy = s.path.state.heldBy)
    (pin : a.pin = s.path.pin) (n : Nat) : ∃ g, settle true n s t = s.finish (t.withReg g) ∧ s.report t = t.withReg g := by
  have live : ∀ x, t.live x = s.live x := fun x => (quiet.live x).trans (by cases x <;> rfl)
  have prospective : ∀ x, t.prospective x = s.prospective x := fun x => (quiet.prospective x).trans (by cases x <;> rfl)
  have droops : ∀ l : List Connector, l.foldl (fun u x => s.reportDroop u x) t = t := fun l => by
    induction l with
    | nil => rfl
    | cons x l ih => rw [List.foldl_cons, State.reportDroop, if_neg (by rw [live x]; exact fun h => h rfl), ih]
  have target : t.path.state.heldBy = s.path.state.heldBy := by rw [quiet.state]; exact held
  have reported : ∃ g, s.report t = t.withReg g := by
    have budget : ∃ g, s.reportBudget t = t.withReg g := by
      unfold State.reportBudget
      split
      · dsimp only
        split
        · exact ⟨_, rfl⟩
        · exact ⟨_, rfl⟩
      · exact ⟨t.reg, rfl⟩
    obtain ⟨g, budget⟩ := budget
    refine ⟨g, ?_⟩
    unfold State.report
    dsimp only
    have same : t.findProspect = s.findProspect :=
      State.findProspect_of_heldBy prospective target (quiet.pin.trans pin) quiet.dead quiet.policy
    have prospect : (t.withReg g).findProspect = (t.withReg g).prospect := by
      show t.findProspect = t.prospect
      rw [same, quiet.prospect]
      exact ok.symm
    rw [State.reportOwners_of_records quiet, droops, budget, State.recomputeProspect, prospect]
    rfl
  obtain ⟨g, reported⟩ := reported
  have concluded : s.concludes true t = s.finish (t.withReg g) := by rw [State.concludes, if_pos rfl, reported]
  refine ⟨g, (settle_of_roles (fun p => ?_) n).trans concluded, reported⟩
  have prospect : t.prospect = s.prospect := quiet.prospect
  rw [concluded, State.role, State.finish_prospect, State.finish_path]
  show isPrimaryRole t.prospect t.path.state p = isPrimaryRole s.prospect s.path.state p
  rw [prospect, isPrimaryRole, isPrimaryRole, PathState.heldBy_holds target]

/-! ### The end of the break (R117) -/

/-- Settles O42: a fresh choice closes, and stays eligible through the calls that its new role brings; with no connector
eligible no prospect changes. -/
theorem breakExpiryChoosesAfresh : Obligations.BreakExpiryChoosesAfresh := by
  intro s x n ok opening timer
  have runs : exec .breakExpiry s = .next (s.settles s.breakEnds) := by
    show Host.Outcome.next s.breakExpires = _
    rw [State.breakExpires, opening, timer]
  let stopped := s.withPath { s.path with breakTimer := none }
  have eligible : ∀ y, stopped.eligible y = s.eligible y := fun y => by cases y <;> rfl
  have everywhere : ∀ u : State, u.heldIn fun _ => True := fun _ k out => absurd trivial out
  have goes : s.breakEnds.Goes true (fun _ => True) (s.settles s.breakEnds) := State.goes_settles s _
  constructor
  · intro none
    have fresh : stopped.freshChoice = Option.none := by
      cases chosen : stopped.freshChoice with
      | none => rfl
      | some y =>
        have := (State.freshChoice_eq_some chosen).1
        rw [eligible, none y] at this
        cases this
    let idle : Path := { s.path with breakTimer := Option.none, state := .idle }
    have ends : s.breakEnds =
        ((s.withPath idle).journal 0x0E 0xFF [connectorCode s.path.lastPrimary]).raise causeNoSource := by
      unfold State.breakEnds
      dsimp only
      split
      next y chosen =>
        rw [show s.withPath _ = stopped from rfl, fresh] at chosen
        cases chosen
      · rfl
    have quiet : (s.withPath idle).Quiet s.breakEnds := by
      rw [ends]
      exact ⟨rfl, rfl, rfl, rfl, rfl, fun _ => rfl, rfl⟩
    obtain ⟨g, settled, -⟩ := settle_of_heldBy ok quiet (by rw [opening]; rfl) rfl Config.reportDepth
    have path : (s.settles s.breakEnds).path = idle := by
      rw [show s.settles s.breakEnds = s.finish (s.breakEnds.withReg g) from settled, State.finish_path, ends]
      rfl
    refine ⟨_, runs, by rw [path], by rw [path], by rw [path], goes.attn (everywhere _) ?_, ?_⟩
    · rw [ends]
      exact causes_set _ _
    · have logged : (s.withPath idle).Follows true (fun _ => True) [(0x0E, 0xFF, [connectorCode s.path.lastPrimary])] s.breakEnds := by
        rw [ends]
        exact (State.follows_journal _ _ _ _).trans (State.follows_raise _)
      exact logged.journals_of_goes goes (everywhere _)
  · rintro ⟨z, hz⟩
    cases chosen : stopped.freshChoice with
    | none =>
      have := State.freshChoice_eq_none chosen z
      rw [eligible, hz] at this
      cases this
    | some y =>
      obtain ⟨fit, best⟩ := State.freshChoice_eq_some chosen
      have ends : s.breakEnds = stopped.enterClosing y := by
        unfold State.breakEnds
        dsimp only
        rw [show s.withPath _ = stopped from rfl, chosen]
      have closing : (stopped.enterClosing y).path.sansFlight.state = .closing y := rfl
      have after : (s.settles s.breakEnds).path.sansFlight = (stopped.enterClosing y).path.sansFlight :=
        ((trailing_closing closing).settles (by
          rw [ends]
          refine ⟨rfl, ?_⟩
          have := State.fit_of_eligible fit
          cases y <;> exact this)).1
      rw [eligible] at fit
      refine ⟨_, y, runs, fit, (congrArg Path.state after :), (congrArg Path.switches after :), (congrArg Path.softStart after :),
        (congrArg Path.breakTimer after :), (congrArg Path.checkDeferred after :), ?_⟩
      have live : ∀ x, stopped.liveScore x = s.liveScore x := fun x => by cases x <;> rfl
      simp only [eligible, live] at best
      exact best

end

end Sys2Proof.Machine
end

/-! # The close check (R112, R113, R82) -/

section
namespace Sys2Proof.Machine

section
variable {s t u v : State} {x y : Connector} {p : LinePort} {q : Policy} {r w : PortRecord} {n : Nat}

/-! ### Selections under the policy in force -/

/-- A property of the records of a port that no engine bears on, and that calls for selection under one policy keep. -/
theorem Trailing.of_policied {R : PortRecord → Prop} (p : LinePort) (q : Policy)
    (engines : ∀ r w, r.sansEngine = w.sansEngine → R r → R w) (call : ∀ r w, PortRecord.Calls q p r w → R r → R w) :
    Trailing fun u => u.policy = q ∧ R (u.port p) := by
  refine .of_owners (fun u v same h => ⟨same.policy.trans h.1, by rw [State.port, same.ports]; exact h.2⟩) fun u o h => ?_
  obtain ⟨policy, record⟩ := h
  refine ⟨by rw [State.apply_policy, State.callSelection_policy]; exact policy, ?_⟩
  refine engines _ _ ((State.served_apply _ o).port p).symm ?_
  by_cases here : p = o
  · subst here
    exact call _ _ (policy ▸ u.port_callSelection p) record
  · rwa [State.othersKept_callSelection u p here]

/-- The role bears on the operating amps of a claim alone (R90). -/
theorem composeClaim_role (q : Policy) (p : LinePort) (primary : Bool) (i : Image) (pin : Option Pin) :
    composeClaim q p primary i pin =
      (composeClaim q p false i pin).map fun c => { c with operating := claimOperating q primary c.limit } := by
  unfold composeClaim
  cases pin with
  | some n => rfl
  | none => cases winner q (.line p) i.levels <;> rfl

/-- Every claim that a selection of a record composes has this shared flag. -/
def PortRecord.shares (q : Policy) (p : LinePort) (b : Bool) (r : PortRecord) : Prop :=
  ∀ i primary c, r.blocked = false → r.image = some i → composeClaim q p primary i r.pin = some c → c.shared = b

theorem PortRecord.shares_of_core (h : r.shares q p b) (same : w.core = r.core) : w.shares q p b := by
  intro i primary c free image composed
  have images : w.image.map Image.bare = r.image.map Image.bare := (congrArg PortRecord.image same :)
  have pins : w.pin = r.pin := (congrArg PortRecord.pin same :)
  rw [image] at images
  obtain ⟨j, imaged, bare⟩ := Option.map_eq_some_iff.mp images.symm
  refine h j primary c ((congrArg PortRecord.blocked same :).symm.trans free) imaged ?_
  rw [composeClaim_congr bare, ← pins]
  exact composed

/-- A set path_fault flag stands while no selection changes the shared flag of the live contract (R82, R91). -/
theorem trailing_faulty {k : Contract} (p : LinePort) (q : Policy) :
    Trailing fun u => u.policy = q ∧ (u.port p).live = some k ∧ (u.port p).pathFault = true ∧ (u.port p).shares q p k.shared :=
  .of_policied (R := fun r => r.live = some k ∧ r.pathFault = true ∧ r.shares q p k.shared) p q
    (fun r w same h => by
      obtain ⟨live, fault, shares⟩ := h
      exact ⟨(congrArg PortRecord.live same).symm.trans live, (congrArg PortRecord.pathFault same).symm.trans fault,
        PortRecord.shares_of_core shares (PortRecord.core_of_sansEngine same.symm)⟩)
    fun r w calls h => by
      obtain ⟨live, fault, shares⟩ := h
      suffices kept : w.live = some k ∧ w.pathFault = true from ⟨kept.1, kept.2, PortRecord.shares_of_core shares calls.core⟩
      have applied : ∀ a b : PortRecord, r.blocked = false → a.live = some k → a.pathFault = true → PortRecord.Applied q p r a b →
          b.live = some k ∧ b.pathFault = true := fun a b free hl hf hb => by
        cases hb with
        | claims _ _ => exact ⟨hl, hf⟩
        | @stands i primary c l f image composed live' _ _ =>
          have same : (a.setShared c.shared).live = some k := by
            rw [PortRecord.setShared, PortRecord.setLive, hl, shares i primary c free image composed]
            rfl
          refine ⟨same, ?_⟩
          show (a.pathFault && decide (a.live = (a.setShared c.shared).live)) = true
          rw [same, hl, hf]
          simp
        | rests _ _ _ => exact ⟨hl, hf⟩
      cases calls with
      | unmoved _ => exact ⟨live, fault⟩
      | deferred _ _ => exact ⟨live, fault⟩
      | keeps _ _ _ _ _ => exact ⟨live, fault⟩
      | rested _ free k => exact applied (rescore q p r) _ free live fault k
      | retired _ free k =>
        exact applied (rescore q p r).retire _ free ((PortRecord.retire_live _).trans live)
          ((PortRecord.retire_pathFault _).trans fault) k

/-! ### The path once its switch has closed -/

/-- The path CLOSED on a connector or, once an evaluation opened it again, OPENING (R112, R116). -/
def Path.primaryOf (y : Connector) (a : Path) : Prop :=
  (a.state = .closed y ∨ a.state = .opening y) ∧ a.lastPrimary = some y ∧ a.softStart = none ∧ a.checkDeferred = false

theorem Path.primaryOf_of_sansFlight {a b : Path} (same : a.sansFlight = b.sansFlight) (h : b.primaryOf y) : a.primaryOf y := by
  obtain ⟨state, last, start, check⟩ := h
  have states : a.state = b.state := (congrArg Path.state same :)
  exact ⟨states ▸ state, (congrArg Path.lastPrimary same :).trans last, (congrArg Path.softStart same :).trans start,
    (congrArg Path.checkDeferred same :).trans check⟩

theorem trailing_primaryOf (y : Connector) : Trailing fun u => u.path.primaryOf y :=
  .of_path (Q := fun a => a.primaryOf y) fun u h => by
    have opened : ∀ x, u.path.state = .closing x ∨ u.path.state = .closed x → u.evaluate.path.sansFlight = u.openedPath x →
        u.evaluate.path.primaryOf y := fun x held same => by
      obtain ⟨state, last, -, -⟩ := h
      have here : x = y := by
        rcases state with state | state <;> rw [state] at held <;> simp at held
        exact held.symm
      subst here
      exact Path.primaryOf_of_sansFlight (b := u.openedPath x) same ⟨.inr rfl, last, rfl, rfl⟩
    rcases u.evaluate_path_cases with same | ⟨idle, -⟩ | ⟨x, held, -, same⟩ | ⟨x, z, closed, -, -, -, same⟩
    · exact Path.primaryOf_of_sansFlight same h
    · rcases h.1 with state | state <;> rw [state] at idle <;> cases idle
    · exact opened x held same
    · exact opened x (.inr closed) same

/-! ### A check that passes (R112) -/

theorem enterClosed_primaryOf (s : State) (y : Connector) (n : Nat) (v : State) : (settle true n v (s.enterClosed y)).path.primaryOf y := by
  refine (trailing_primaryOf y).settle n ?_
  rw [State.enterClosed_eq]
  refine (trailing_primaryOf y).evaluate _ ?_
  exact Path.primaryOf_of_sansFlight (State.completePrimary_path _ y .ok).1 ⟨.inl rfl, rfl, rfl, rfl⟩

theorem enterClosed_journals (s : State) (y : Connector) :
    s.journals (s.settles (s.enterClosed y)) [(0x0B, connectorByteOf y, [connectorCode s.path.lastPrimary, connectorByteOf y])] :=
  (State.follows_closedPath (pages := true) (held := fun _ => True) s y).journals_of_goes
    ((State.goes_evaluate _).trans (State.goes_settles s _)) s.heldIn_all

theorem enterClosed_answers {a : PrimaryRequest} (sole : s.solePrimary a) (target : a.target = y) :
    (s.settles (s.enterClosed y)).path.inFlight = none ∧ (s.settles (s.enterClosed y)).answered a.slot .ok := by
  subst target
  let closed := (s.withPath { s.path with
    state := .closed a.target, checkDeferred := false, softStart := none, lastPrimary := some a.target }).journal 0x0B
      (connectorByteOf a.target) [connectorCode s.path.lastPrimary, connectorByteOf a.target]
  have mine : closed.solePrimary a := sole.of_flights rfl rfl rfl rfl
  have trails := trailing_flightless.and (trailing_answered a.slot .ok)
  have after := trails.settle (pages := true) (s := s) Config.reportDepth
    (trails.evaluate _ (mine.completePrimary .ok))
  exact ⟨after.1, after.2.2⟩

/-- With its connector alone eligible no path opens. -/
theorem State.challenger_none (alone : ∀ z, z ≠ y → s.eligible z = false) : s.challenger y = none := by
  have score : s.challengerByScore y = none := by
    unfold State.challengerByScore
    split
    next c lead =>
      refine if_neg fun h => ?_
      have := (State.leader_contenders lead).1
      rw [alone _ h.1] at this
      cases this
    · rfl
  unfold State.challenger
  split
  next z pinned =>
    have here : z = y := by
      by_contra other
      have := (State.eligiblePin_eq_some pinned).2
      rw [alone z other] at this
      cases this
    rw [if_neg (not_not.mpr here), score]
    split <;> rfl
  · rw [score]
    split <;> rfl

theorem State.quiet_completePrimary (s : State) (y : Connector) (c : ResultCode) : s.Quiet (s.completePrimary y c) := by
  rcases State.completePrimary_cases s y c with ⟨a, -, -, e⟩ | ⟨-, e⟩ <;> rw [e] <;>
    exact ⟨rfl, rfl, rfl, rfl, rfl, fun _ => rfl, rfl⟩

theorem State.quiet_dropLostPrimary (s : State) : s.Quiet s.dropLostPrimary := by
  have stays : s.Quiet s := ⟨rfl, rfl, rfl, rfl, rfl, fun _ => rfl, rfl⟩
  unfold State.dropLostPrimary
  split
  · split
    · exact s.quiet_completePrimary _ _
    · exact stays
  · exact stays

theorem State.Quiet.eligible (quiet : s.Quiet t) (x : Connector) : t.eligible x = s.eligible x := by
  cases x with
  | line p =>
    have state : (t.port p).state = (s.port p).state := quiet.field p PortRecord.state fun _ => rfl
    have released : (t.port p).released = (s.port p).released := quiet.field p PortRecord.released fun _ => rfl
    have fault : (t.port p).pathFault = (s.port p).pathFault := quiet.field p PortRecord.pathFault fun _ => rfl
    simp only [State.eligible, quiet.state, state, released, fault]
  | barrel => exact (congrArg Barrel.eligible quiet.barrel :)

/-- The path bears on eligibility by the connector that it is CLOSING or CLOSED on alone (R106). -/
theorem State.eligible_withPath {a : Path} (held : a.state.heldBy = s.path.state.heldBy) (x : Connector) :
    (s.withPath a).eligible x = s.eligible x := by
  cases x with
  | line p =>
    show (portStateEligible a.state p (s.port p).state && _ && _) = _
    have : portStateEligible a.state p (s.port p).state = portStateEligible s.path.state p (s.port p).state := by
      cases (s.port p).state <;> first | rfl | exact PathState.heldBy_holds held _
    rw [this]
    rfl
  | barrel => rfl

theorem enterClosed_stays (ok : s.prospectOk) (closing : s.path.state = .closing y) (fit : s.eligible y = true)
    (alone : ∀ z, z ≠ y → s.eligible z = false) :
    (s.settles (s.enterClosed y)).path.state = .closed y ∧ (s.settles (s.enterClosed y)).path.switches = s.path.switches ∧
      (s.settles (s.enterClosed y)).reg.spTarget = (s.settles (s.enterClosed y)).budget := by
  let closed : Path := { s.path with state := .closed y, checkDeferred := false, softStart := none, lastPrimary := some y }
  have journalled : (s.withPath closed).Quiet (s.closedPath y) :=
    State.Quiet.trans (t := (s.withPath closed).journal 0x0B (connectorByteOf y) [connectorCode s.path.lastPrimary, connectorByteOf y])
      ⟨rfl, rfl, rfl, rfl, rfl, fun _ => rfl, rfl⟩ (State.quiet_completePrimary _ y .ok)
  have held : closed.state.heldBy = s.path.state.heldBy := by rw [closing]; rfl
  have eligible : ∀ z, (s.closedPath y).eligible z = s.eligible z := fun z =>
    (journalled.eligible z).trans (State.eligible_withPath held z)
  have state : (s.closedPath y).path.state = .closed y := journalled.state
  have stands : s.enterClosed y = (s.closedPath y).dropLostPrimary := by
    rw [State.enterClosed_eq, State.evaluate, State.evaluatePath, state]
    dsimp only
    rw [if_pos ((eligible y).trans fit), State.improve, State.challenger_none fun z other => (eligible z).trans (alone z other)]
  have path : (s.enterClosed y).path.sansFlight = closed.sansFlight := by
    rw [stands, (State.dropLostPrimary_path _).1]
    exact (State.completePrimary_path _ y .ok).1
  have quiet : (s.withPath closed).Quiet (s.enterClosed y) := by
    rw [stands]
    exact journalled.trans (State.quiet_dropLostPrimary _)
  obtain ⟨g, settled, reported⟩ := settle_of_heldBy ok quiet held rfl Config.reportDepth
  have settled : s.settles (s.enterClosed y) = s.finish ((s.enterClosed y).withReg g) := settled
  have target : g.spTarget = (s.enterClosed y).budget := by
    have figures := congrArg State.reg reported
    have named : budgetReports s (s.enterClosed y) = true := by
      rw [budgetReports, closing, show (s.enterClosed y).path.state = .closed y from (congrArg Path.state path :)]
      simp
    rw [State.report_reg, State.reportOwners_of_records quiet, if_pos named] at figures
    rw [← show _ = g from figures]
    split
    · exact Regulator.spTarget_pathLeft _ _
    · rfl
  rw [settled]
  refine ⟨?_, ?_, ?_⟩
  · rw [State.finish_path]
    exact (congrArg Path.state path :)
  · rw [State.finish_path]
    exact (congrArg Path.switches path :)
  · have same : (s.finish ((s.enterClosed y).withReg g)).budget = (s.enterClosed y).budget := by
      simp only [State.budget, State.finish_path, State.finish_policy, State.live, State.shifting, State.port, State.finish_ports,
        State.finish_barrel]
      rfl
    rw [State.finish_reg, same]
    exact target

/-! ### A check that fails (R113) -/

theorem failClose_path (s : State) (y : Connector) (n : Nat) : (s.failClose y n).path.sansFlight = s.openedPath y := by
  refine (State.completePrimary_path _ y .pathFault).1.trans ?_
  cases y <;> rfl

theorem failClose_settle (s : State) (y : Connector) (n : Nat) : (s.settles (s.failClose y n)).path.sansFlight = s.openedPath y :=
  (trailing_opening (y := y) rfl).settles (failClose_path s y n)

theorem failClose_answers {a : PrimaryRequest} (sole : s.solePrimary a) (target : a.target = y) (n : Nat) :
    (s.settles (s.failClose y n)).path.inFlight = none ∧ (s.settles (s.failClose y n)).answered a.slot .pathFault := by
  subst target
  have mine : (((s.openPath a.target).setPathFault a.target).journal 0x0D (connectorByteOf a.target)
      (le2 n ++ le2 (s.liveVolts a.target))).solePrimary a := by
    obtain ⟨flight, ports, barrel, singles⟩ := State.solePrimary_iff.mp sole
    refine State.solePrimary_iff.mpr ?_
    generalize a.target = y
    cases y with
    | line p =>
      have same := fun o => State.setPort_inFlight s p o (r := { s.port p with pathFault := true }) rfl
      exact ⟨flight, fun o r his => ports o r ((same o).symm.trans his), barrel, singles⟩
    | barrel => exact ⟨flight, ports, barrel, singles⟩
  have after := (trailing_flightless.and (trailing_answered a.slot .pathFault)).settle (pages := true) (s := s) Config.reportDepth
    (mine.completePrimary .pathFault)
  exact ⟨after.1, after.2.2⟩

theorem failClose_barrel (s : State) (n : Nat) : (s.settles (s.failClose .barrel n)).barrel.pathFault = true :=
  congrArg Barrel.pathFault ((trailing_barrel { s.barrel with pathFault := true }).settles (s := s)
    (State.completePrimary_barrel _ .barrel .pathFault))

/-- The flag of a failed check stands through the selection of the port's changed role (R113, R82, R91). -/
theorem failClose_faulty {k : Contract} (live : (s.port p).live = some k)
    (shares : ∀ i c, (s.port p).held = false → (s.port p).image = some i →
      composeClaim s.policy p false i (s.port p).pin = some c → c.shared = k.shared) (n : Nat) :
    ((s.settles (s.failClose (.line p) n)).port p).pathFault = true := by
  have record : (s.failClose (.line p) n).port p = { s.port p with pathFault := true } := by
    rw [State.port, State.failClose, State.completePrimary_ports]
    exact State.port_setPort_self (s.openPath (.line p)) p _
  refine ((trailing_faulty (k := k) p s.policy).settles (s := s) (t := s.failClose (.line p) n)
    ⟨State.completePrimary_policy _ (.line p) .pathFault, ?_⟩).2.2.1
  rw [record]
  refine ⟨live, rfl, fun i primary c free image composed => ?_⟩
  rw [composeClaim_role] at composed
  obtain ⟨a, alone, rfl⟩ := Option.map_eq_some_iff.mp composed
  refine shares i a ?_ image alone
  have free : ((s.port p).held || (s.port p).released || (s.port p).barred) = false := free
  simp only [Bool.or_eq_false_iff] at free
  exact free.1.1

theorem State.closePasses_iff {k : Contract} (live : s.live y = some k) (n : Nat) :
    s.closePasses y n = true ↔
      n ≤ k.volts + k.volts * s.policy.closeWindow / 100 ∧ k.volts ≤ n + k.volts * s.policy.closeWindow / 100 := by
  rw [State.closePasses, State.liveVolts, live]
  simp

/-- Settles O41. -/
theorem softStartExpiryChecksTheVoltage : Obligations.SoftStartExpiryChecksTheVoltage := by
  unfold Obligations.SoftStartExpiryChecksTheVoltage
  intro s y k closing live near moving sameShare checks
  have moves : s.railMoving y = true ↔ moving := by
    cases y with
    | line p => simp [State.railMoving, moving, Option.isSome_iff_ne_none]
    | barrel => simp [State.railMoving, moving]
  have checked : ∀ (c : Instr) (sample : Nat) (m : Measurement) (d : Nat), m.dead = s.meas.dead → m.singles = s.meas.singles →
      exec c s = .next (((s.withMeas m).withLatestVD d).settles (((s.withMeas m).withLatestVD d).closeCheck y sample)) →
      checks c sample := by
    intro c sample m d dead singles runs
    have sole : ∀ a, s.solePrimary a → ((s.withMeas m).withLatestVD d).solePrimary a := fun a h => by
      obtain ⟨flight, ports, barrel, single⟩ := State.solePrimary_iff.mp h
      exact State.solePrimary_iff.mpr ⟨flight, ports, barrel, by rwa [← singles] at single⟩
    have ok : s.prospectOk → ((s.withMeas m).withLatestVD d).prospectOk := fun h =>
      h.congr (fun x => by cases x <;> rfl) rfl rfl dead rfl rfl
    have eligible : ∀ x, ((s.withMeas m).withLatestVD d).eligible x = s.eligible x := fun x => by cases x <;> rfl
    have lives : ((s.withMeas m).withLatestVD d).live y = some k := by cases y <;> exact live
    have journals : ∀ t l, ((s.withMeas m).withLatestVD d).journals t l → s.journals t l := fun _ _ h => h
    have shape : (connectorByteOf y = connectorCode (some y)) := by cases y with | line p => cases p <;> rfl | barrel => rfl
    have path : ((s.withMeas m).withLatestVD d).path = s.path := rfl
    have policy : ((s.withMeas m).withLatestVD d).policy = s.policy := rfl
    have records : ∀ p, ((s.withMeas m).withLatestVD d).port p = s.port p := fun _ => rfl
    have passes : ((s.withMeas m).withLatestVD d).closePasses y sample = true ↔ near sample := State.closePasses_iff lives sample
    generalize (s.withMeas m).withLatestVD d = b at *
    constructor
    · intro close
      have check : b.closeCheck y sample = b.enterClosed y := if_pos (passes.mpr close)
      rw [check] at runs
      obtain ⟨-, last, start, deferred⟩ := enterClosed_primaryOf b y Config.reportDepth b
      have logged := journals _ _ (enterClosed_journals b y)
      rw [path, shape] at logged
      refine ⟨_, runs, last, start, deferred, logged, fun a h target => enterClosed_answers (sole a h) target,
        fun h fit alone => ?_⟩
      have stays := enterClosed_stays (ok h) (path ▸ closing) ((eligible y).trans fit) fun z other => (eligible z).trans (alone z other)
      rwa [path] at stays
    · intro far
      have check : b.closeCheck y sample = b.failClose y sample := if_neg fun h => far (passes.mp h)
      rw [check] at runs
      have opened := failClose_settle b y sample
      have logged := journals _ _ ((State.follows_failClose (pages := true) (held := fun _ => True) b y sample).journals_of_goes
        (State.goes_settles b _) b.heldIn_all)
      rw [State.liveVolts, lives, shape] at logged
      refine ⟨_, runs, pathOpened_of_sansFlight policy (by rw [path]) opened,
        (congrArg Path.lastPrimary opened :).trans (congrArg Path.lastPrimary path :), logged,
        fun a h target => failClose_answers (sole a h) target sample, ?_, fun shares => ?_⟩
      · rintro rfl
        exact failClose_barrel b sample
      · have faulty : ∀ p, y = .line p → ((b.settles (b.failClose y sample)).port p).pathFault = true := by
          rintro p rfl
          refine failClose_faulty (k := k) lives (fun i c => ?_) sample
          rw [records, policy]
          exact shares p i c rfl
        refine ⟨faulty, ?_⟩
        cases y with
        | line p =>
          have fault := faulty p rfl
          simp only [State.eligible, fault, Bool.not_true, Bool.and_false]
        | barrel =>
          have fault := failClose_barrel b sample
          simp only [State.eligible, Barrel.eligible, fault, Bool.not_true, Bool.and_false]
  refine ⟨fun n timer => ?_, fun r deferred rest => ?_⟩
  · have runs : exec .softStartExpiry s = .next (s.settles (s.softStartEnds y)) := by
      show Host.Outcome.next s.softStartExpires = _
      rw [State.softStartExpires, closing, timer]
    have rail : (s.withPath { s.path with softStart := none }).railMoving y = s.railMoving y := by cases y <;> rfl
    constructor
    · intro moved ok
      have ends : s.softStartEnds y = s.withPath { s.path with softStart := none, checkDeferred := true } :=
        if_pos (rail.trans (moves.mpr moved))
      have quiet : s.Quiet (s.withPath { s.path with softStart := none, checkDeferred := true }) :=
        ⟨rfl, rfl, rfl, rfl, rfl, fun _ => rfl, rfl⟩
      rw [ends, quiet.settles ok] at runs
      exact leads_of_finish runs
    · intro rest
      have ends : s.softStartEnds y = s.closeCheck y (s.meas.table.volts.get y).last :=
        if_neg fun h => rest (moves.mp (rail.symm.trans h))
      rw [ends] at runs
      exact checked _ _ s.meas s.latestVD rfl rfl runs
  · have idle : s.droopApplies y = false := by
      rw [← Bool.not_eq_true, State.droopApplies_iff]
      exact fun h => h.2.1 closing
    obtain ⟨m, sampled, -, dead, singles, -⟩ := s.sampled_eq y (min 25500 r.toNat)
    have runs := exec_voltageCompletion y r s
    rw [sampled] at runs
    generalize hb : (s.withMeas m).withLatestVD (if y = .barrel then min 25500 r.toNat else s.latestVD) = b at runs
    have applies : b.droopApplies y = false := (show b.droopApplies y = s.droopApplies y from hb ▸ rfl).trans idle
    have clears : b.checkDroop y (min 25500 r.toNat) = b.clearDroop y := if_neg (by rw [applies]; simp)
    have still : s.railMoving y = false := by
      rw [← Bool.not_eq_true, moves]
      exact rest
    have checks' : (b.clearDroop y).deferredCheck y (min 25500 r.toNat) =
        (b.clearDroop y).settles ((b.clearDroop y).closeCheck y (min 25500 r.toNat)) := by
      refine if_pos ⟨?_, ?_, ?_⟩
      · rw [← hb]
        exact closing
      · rw [← hb]
        exact deferred
      · rw [← hb]
        exact (by cases y <;> exact still)
    rw [clears, checks', ← hb] at runs
    exact checked _ _ { m with droop := m.droop.set y 0 } _ dead singles runs

end

end Sys2Proof.Machine
end

/-! # The end of a lapse, and cuts (R73, R74) -/

section
namespace Sys2Proof.Machine

section
variable {s t u v : State} {x y : Connector} {p : LinePort} {q : Policy} {r w : PortRecord} {n : Nat} {c k : Contract} {e : EngineId}

/-- A port in BASE or CLAIMED on a live contract that no claim can stand on. -/
theorem trailing_based (p : LinePort) (plain : c.negotiated = false) :
    Trailing fun u => (u.port p).live = some c ∧ ((u.port p).state = .base ∨ (u.port p).state = .claimed) :=
  .of_record (R := fun r => r.live = some c ∧ (r.state = .base ∨ r.state = .claimed)) p
    (fun r w same h => by
      rw [show w.live = r.live from (congrArg PortRecord.live same).symm, show w.state = r.state from (congrArg PortRecord.state same).symm]
      exact h)
    fun q r w calls h => by
      obtain ⟨live, state⟩ := h
      have unclaimable : ∀ l, r.live = some l → l.negotiated = false := fun l hl => by
        rw [live] at hl
        cases hl
        exact plain
      have applied : ∀ a b : PortRecord, a.live = r.live → PortRecord.Applied q p r a b →
          b.live = some c ∧ (b.state = .base ∨ b.state = .claimed) := fun a b ha hb => by
        refine ⟨((hb.live ha).2 unclaimable).trans live, ?_⟩
        cases hb with
        | claims _ _ => exact .inr rfl
        | stands _ _ hl carries _ =>
          rw [Contract.carries, unclaimable _ hl] at carries
          cases carries
        | rests _ _ _ =>
          left
          show a.resting = .base
          rw [PortRecord.resting, ha, live]
          exact if_neg (by rw [plain]; simp)
      cases calls with
      | unmoved _ => exact ⟨live, state⟩
      | deferred _ _ => exact ⟨live, state⟩
      | keeps _ _ _ _ _ => exact ⟨live, state⟩
      | rested _ _ k => exact applied (rescore q p r) _ rfl k
      | retired _ _ k => exact applied (rescore q p r).retire _ (PortRecord.retire_live _) k

/-- The record of a port whose lapse ran out (R73). -/
def PortRecord.lapsed (r : PortRecord) : PortRecord :=
  { r.stopLapse with live := some .base, pathFault := false, state := if r.state = .bound then .base else r.state }

theorem State.port_lapse (s : State) (p : LinePort) : (s.lapse p).port p = (s.port p).lapsed := State.port_setPort_self s p _

/-! ### Cuts (R74) -/

theorem PortRecord.cutTarget_staged {volts : Nat} (shifting : r.state = .shifting) (staged : r.staged = some c) (same : c.volts = volts) :
    r.cutTarget volts = some (.staged, c) := by
  rw [PortRecord.cutTarget, shifting, staged]
  exact if_pos same

theorem PortRecord.cutTarget_live {volts : Nat} (live : r.live = some c) (same : c.volts = volts)
    (other : r.state = .shifting → ∀ j, r.staged = some j → j.volts ≠ volts) : r.cutTarget volts = some (.live, c) := by
  rw [PortRecord.cutTarget, live]
  dsimp only
  rw [if_pos same]
  split
  next j shifting staged => rw [if_neg (other shifting j staged)]
  · rfl

theorem PortRecord.cutTarget_none {volts : Nat} (live : ∀ c, r.live = some c → c.volts ≠ volts)
    (staged : ∀ c, r.staged = some c → c.volts ≠ volts) : r.cutTarget volts = none := by
  rw [PortRecord.cutTarget]
  cases hl : r.live with
  | none =>
    dsimp only
    split
    next j _ hj => rw [if_neg (staged j hj)]
    · rfl
  | some c =>
    dsimp only
    rw [if_neg (live c hl)]
    split
    next j _ hj => rw [if_neg (staged j hj)]
    · rfl

/-- Settles O40. -/
theorem lapseExpiryFallsToBase : Obligations.LapseExpiryFallsToBase := by
  unfold Obligations.LapseExpiryFallsToBase
  refine ⟨fun s p k timer live notBase => ?_, ?_⟩
  · have runs : exec (.lapseExpiry p) s = .next (s.settles ((s.lapse p).apply p)) := congrArg Host.Outcome.next (if_pos timer)
    have served := State.served_apply (s.lapse p) p
    have record := s.port_lapse p
    have lapsed : ((s.lapse p).port p).live = some Contract.base := by rw [record]; rfl
    have stays : ((s.settles ((s.lapse p).apply p)).port p).live = some Contract.base :=
      (trailing_live_plain p (c := some .base) (by rintro k ⟨⟩; rfl)).settle_served (R := fun r => r.live = some Contract.base) (fun _ => Iff.rfl)
        served lapsed
    have core : ((s.settles ((s.lapse p).apply p)).port p).core = (s.port p).lapsed.core :=
      (trailing_core p _).settle_served (R := fun r => r.core = (s.port p).lapsed.core) (fun _ => Iff.rfl) served (by rw [record])
    refine ⟨_, runs, stays, (congrArg PortRecord.lapsing core :), (congrArg PortRecord.lapseTimer core :),
      (trailing_faultless p).settle_served (R := fun r => r.pathFault = false) (fun _ => Iff.rfl) served (by rw [record]; rfl), ?_, ?_,
      fun bound => ?_, fun shifting => ?_⟩
    · refine droop_settle fun same => notBase ?_
      have after : ((s.lapse p).apply p).live (.line p) = some Contract.base := (served.field p PortRecord.live fun _ => rfl).trans lapsed
      rw [after] at same
      exact Option.some.inj (live.symm.trans same)
    · have follows := State.follows_lapse (pages := true) (held := fun _ => True) s p
      rw [live] at follows
      exact State.Follows.journals_of_more ((trailing_follows s _).settles ⟨[], served.follows_of follows⟩) s.heldIn_all
    · exact ((trailing_based p (c := .base) rfl).settle_served (R := fun r => r.live = some Contract.base ∧ (r.state = .base ∨ r.state = .claimed))
        (fun _ => Iff.rfl) served ⟨lapsed, .inl (by rw [record]; exact if_pos bound)⟩).2
    · have state : (s.port p).lapsed.state = .shifting := by
        show (if (s.port p).state = .bound then PortState.base else (s.port p).state) = _
        rw [shifting]
        rfl
      have after := settle_served_calm (pages := true) (n := Config.reportDepth) (v := s) served (.inr (by rw [record]; exact state))
      rw [record] at after
      exact ⟨(congrArg PortRecord.state after :).trans state, (congrArg PortRecord.staged after :)⟩
  · intro s p e v a here receiving lease rx notEmpty notSettling volts amps n record
    have accepted := acceptFrame_kind (kind := 12) (tag := 7) (payload := [v, a]) (f := .cut volts amps) (by decide) (by decide) (by simp) rfl
    have negotiating : (s.port p).negotiating = true := by simp [PortRecord.negotiating, notEmpty, notSettling]
    have delivered : (s.idled p).deliver p 7 (.cut volts amps) = (s.idled p).takeCut p volts amps :=
      if_pos (by rw [show (s.idled p).port p = s.port p from rfl, negotiating]; rfl)
    have done := exec_endDelimiter_accepted here receiving lease (rx ▸ accepted)
    rw [delivered] at done
    have cuts : ∀ (t : LapseTarget) (c : Contract), (s.port p).cutTarget volts = some (t, c) →
        (s.idled p).takeCut p volts amps = ((s.idled p).setPort p
          (if t = .live then { (s.port p).setContract t (c.cut amps) with pathFault := false } else (s.port p).setContract t (c.cut amps))).journal
          0x06 (lineByte p) ([t.code, 0] ++ le2 volts ++ le2 amps ++ le2 (min c.limit amps)) := fun t c target => by
      rw [State.takeCut, show (s.idled p).port p = s.port p from rfl, target]
      rfl
    refine ⟨fun k shifting staged same => ?_, fun k live same other => ?_, fun live staged ok => ?_⟩
    · rw [cuts .staged k (PortRecord.cutTarget_staged shifting staged same)] at done
      generalize hv : ((s.idled p).setPort p (if LapseTarget.staged = .live then
        { (s.port p).setContract .staged (k.cut amps) with pathFault := false } else (s.port p).setContract .staged (k.cut amps))).journal
          0x06 (lineByte p) ([LapseTarget.staged.code, 0] ++ le2 volts ++ le2 amps ++ le2 (min k.limit amps)) = v at done
      have port : v.port p = { s.port p with staged := some (k.cut amps) } := by rw [← hv]; exact State.port_setPort_self _ p _
      have served := State.served_endLeaseOf v p
      have after := settle_served_calm (pages := true) (n := Config.reportDepth) (v := s) served (.inr (by rw [port]; exact shifting))
      rw [port] at after
      refine ⟨_, done, (congrArg PortRecord.staged after :), (congrArg PortRecord.state after :).trans shifting,
        (congrArg PortRecord.live after :), State.Follows.journals_of_more (s := s.idled p)
          ((trailing_follows _ _).settles ⟨[], served.follows_of ?_⟩) (State.heldIn_all _)⟩
      rw [← hv]
      exact (State.follows_setPort_kept (s.idled p) p _ (by rfl)).trans (State.follows_journal _ 0x06 (lineByte p) _)
    · rw [cuts .live k (PortRecord.cutTarget_live live same other)] at done
      generalize hv : ((s.idled p).setPort p (if LapseTarget.live = .live then
        { (s.port p).setContract .live (k.cut amps) with pathFault := false } else (s.port p).setContract .live (k.cut amps))).journal
          0x06 (lineByte p) ([LapseTarget.live.code, 0] ++ le2 volts ++ le2 amps ++ le2 (min k.limit amps)) = v at done
      have port : v.port p = { s.port p with live := some (k.cut amps), pathFault := false } := by
        rw [← hv]
        exact State.port_setPort_self _ p _
      have served := State.served_endLeaseOf v p
      have lives : ((s.settles (v.endLeaseOf p)).port p).live.map Contract.unshared = some (k.cut amps).unshared :=
        (trailing_live p _).settle_served (R := fun r => r.live.map Contract.unshared = some (k.cut amps).unshared) (fun _ => Iff.rfl) served
          (by rw [port]; rfl)
      have figures : ∀ l : Option Contract, l.map (fun l => (l.origin, l.level, l.volts, l.limit, l.operating, l.narrowed)) =
          (l.map Contract.unshared).map fun l => (l.origin, l.level, l.volts, l.limit, l.operating, l.narrowed) := fun l => by
        rw [Option.map_map]
        rfl
      refine ⟨_, done, by rw [figures, lives]; rfl,
        (trailing_faultless p).settle_served (R := fun r => r.pathFault = false) (fun _ => Iff.rfl) served (by rw [port]),
        fun less => ?_, State.Follows.journals_of_more (s := s.idled p)
          ((trailing_follows _ _).settles ⟨[], served.follows_of ?_⟩) (State.heldIn_all _)⟩
      · refine droop_settle fun unchanged => ?_
        have now : (v.endLeaseOf p).live (.line p) = some (k.cut amps) :=
          (served.field p PortRecord.live fun _ => rfl).trans (by rw [port])
        rw [now, show s.live (.line p) = some k from live] at unchanged
        have : k.limit = min k.limit amps := congrArg Contract.limit (Option.some.inj unchanged)
        omega
      · rw [← hv]
        exact (State.follows_setPort_kept (s.idled p) p _ (by rfl)).trans (State.follows_journal _ 0x06 (lineByte p) _)
    · refine leaseEnds_of_stale here receiving ok (rx ▸ accepted) ?_
      rw [delivered, State.takeCut, show (s.idled p).port p = s.port p from rfl, PortRecord.cutTarget_none live staged]

end

end Sys2Proof.Machine
end

/-! # The restart (R193) -/

section
namespace Sys2Proof.Machine

section
variable {s t u v : State} {p : LinePort} {x y : Exchange} {k : Fin 8} {l : List (Byte × Byte × List Byte)} {a : Nat}

/-! ### The slots (R193) -/

/-- A slot that is FREE and unmarked, with its state byte. -/
def Exchange.slotFree (x : Exchange) (k : Fin 8) : Prop :=
  (x.slot k).copy = .free ∧ (x.slot k).mark = false ∧ readByte x.mem (slotAddress k) = 0

theorem Exchange.slotFree_freeSlots (x : Exchange) (k : Fin 8) : x.freeSlots.slotFree k := by
  have free : ∀ (j : Fin 8) (y : Exchange), j = k ∨ y.slotFree k →
      ((y.setSlot j { y.slot j with copy := .free, mark := false }).write (slotAddress j) [SlotCopy.free.code]).slotFree k := by
    intro j y h
    by_cases here : j = k
    · subst here
      have written : ∀ v : Slot, ((y.setSlot j v).write (slotAddress j) [SlotCopy.free.code]).slot j = v := fun v =>
        y.slot_setSlot_self j v
      exact ⟨congrArg Slot.copy (written _), congrArg Slot.mark (written _),
        readByte_writeBlock_inside _ (slotAddress j) [SlotCopy.free.code] 0 (by decide)⟩
    · obtain ⟨copy, mark, byte⟩ := h.resolve_left here
      have kept : ∀ v : Slot, ((y.setSlot j v).write (slotAddress j) [SlotCopy.free.code]).slot k = y.slot k := fun v =>
        y.slot_setSlot_of_ne v fun e => here e.symm
      refine ⟨(congrArg Slot.copy (kept _)).trans copy, (congrArg Slot.mark (kept _)).trans mark,
        (readByte_writeBlock_outside _ (slotAddress j) [SlotCopy.free.code] (slotAddress k) ?_).trans byte⟩
      have := slotAddress_disjoint (fun e => here e.symm : k ≠ j)
      simp only [List.length_singleton]
      omega
  have each : ∀ (l : List (Fin 8)) (y : Exchange), k ∈ l ∨ y.slotFree k → (l.foldl (fun y k =>
      (y.setSlot k { y.slot k with copy := .free, mark := false }).write (slotAddress k) [SlotCopy.free.code]) y).slotFree k := by
    intro l
    induction l with
    | nil => exact fun y h => h.resolve_left List.not_mem_nil
    | cons j l ih =>
      refine fun y h => ih _ ?_
      rcases h with listed | free'
      · rcases List.mem_cons.mp listed with rfl | listed
        · exact .inr (free _ y (.inl rfl))
        · exact .inl listed
      · exact .inr (free j y (.inr free'))
  exact each slotIds x (.inl (mem_slotIds k))

theorem Exchange.slotFree_restart (x : Exchange) (k : Fin 8) : x.restart.slotFree k := by
  obtain ⟨copy, mark, byte⟩ := x.slotFree_freeSlots k
  have := slotAddress_bounds k
  unfold Exchange.restart
  generalize x.freeSlots = y at copy mark byte ⊢
  refine ⟨copy, mark, (readByte_writeBlock_outside _ _ _ _ ?_).trans byte⟩
  left
  simp only [Config.writeNumberAt]
  omega

theorem Exchange.slotFree.logs {pages : Bool} {time : Word} {held : Fin 8 → Prop} (free : x.slotFree k)
    (h : x.Logs pages time held l y) (out : ¬ held k) : y.slotFree k := by
  obtain ⟨copy, mark, byte⟩ := free
  exact ⟨by rw [h.slot out]; exact copy, by rw [h.slot out]; exact mark, (h.readByte_slot out (by omega)).trans byte⟩

/-! ### Attention causes -/

/-- The causes that only the host's own commands raise. -/
def hostCauses : BitVec 7 := causeSlotDone ||| causeTelemetry ||| causeSlotMisuse

theorem causes_clear {attn more : BitVec 7} (h : attn &&& hostCauses = 0) (other : more &&& hostCauses = 0) :
    (attn ||| more) &&& hostCauses = 0 := by
  revert attn more
  unfold hostCauses
  decide

/-- Work that completes no request raises none of them (R178, R184, R192). -/
theorem Exchange.Logs.attn_clear {pages : Bool} {time : Word} {held : Fin 8 → Prop} (h : x.Logs pages time held l y)
    (none : ∀ k, ¬ held k) (clear : x.attn &&& hostCauses = 0) : y.attn &&& hostCauses = 0 := by
  induction h with
  | refl => exact clear
  | @submit l y kind port data _ ih =>
    rcases y.submit_cases time kind port data with ⟨-, e⟩ | ⟨-, e⟩ <;> rw [e] <;> exact causes_clear ih (by decide)
  | complete k code data hk _ ih => exact absurd hk (none k)
  | noSource _ ih => exact causes_clear ih (by decide)
  | page c bytes _ _ _ ih => exact ih

/-! ### The steps of a restart -/

/-- The restart without the writes at its end. -/
def State.restarted (s : State) : State := linePorts.foldl s.restartCall (s.settlesWithin s.restartBlocks.evaluate)

/-- The pages are rewritten. -/
def State.pagesRewritten (s : State) : State := connectors.foldl (fun u x => u.rewritePage x) s

theorem State.restart_eq (s : State) : s.restart = s.restarted.writeDraft.pagesRewritten.writeTelemetry := rfl

/-- What all that follows an event keeps, a restart keeps from the clearing of the blocks on. -/
theorem Trailing.restarted {P : State → Prop} (trails : Trailing P) (h : P s.restartBlocks) : P s.restarted := by
  have called : ∀ (l : List LinePort) (u : State), P u → P (l.foldl s.restartCall u) := by
    intro l
    induction l with
    | nil => exact fun u h => h
    | cons p l ih =>
      refine fun u h => ih _ ?_
      unfold State.restartCall
      split
      · exact trails.settlesWithin (trails.call u p h)
      · exact h
  exact called linePorts _ (trails.settlesWithin (trails.evaluate _ h))

theorem State.goes_restarted (s : State) : s.restartBlocks.Goes true (fun _ => False) s.restarted :=
  (Trailing.of_goes (P := fun u => s.restartBlocks.Goes true (fun _ => False) u) fun _ _ goes h => h.trans goes).restarted
    (.refl _)

theorem State.goes_pagesRewritten (s : State) : s.Goes true (fun _ => False) s.pagesRewritten :=
  State.goes_foldl _ (fun u x => (State.follows_rewritePage u x).goes) connectors s

theorem State.pagesRewritten_rest (s : State) : ∃ x, s.pagesRewritten = s.withExch x := by
  have each : ∀ (l : List Connector) (u : State), (∃ x, u = s.withExch x) → ∃ x, l.foldl (fun u x => u.rewritePage x) u = s.withExch x := by
    intro l
    induction l with
    | nil => exact fun u h => h
    | cons y l ih =>
      rintro u ⟨x, rfl⟩
      exact ih _ ⟨_, rfl⟩
  exact each connectors s ⟨s.exch, rfl⟩

theorem Path.last_of_sansFlight {a b : Path} (same : a.sansFlight = b.sansFlight) : a.lastPrimary = b.lastPrimary :=
  (congrArg Path.lastPrimary same :)

/-- Only a path that closes changes the last primary (R112). -/
theorem trailing_lastPrimary (c : Option Connector) : Trailing fun u => u.path.lastPrimary = c :=
  .of_path (Q := fun a => a.lastPrimary = c) fun u h => by
    rcases u.evaluate_path_cases with same | ⟨-, y, -, same⟩ | ⟨y, -, -, same⟩ | ⟨z, y, -, -, -, -, same⟩
    · exact (Path.last_of_sansFlight same).trans h
    · exact (Path.last_of_sansFlight same).trans h
    · exact (Path.last_of_sansFlight (b := u.openedPath y) same).trans h
    · exact (Path.last_of_sansFlight (b := u.openedPath z) same).trans h

/-- The telemetry page lies above the slots and the draft (10.2). -/
theorem State.writeTelemetry_below (s : State) (low : a < 0x180) : readByte s.writeTelemetry.exch.mem a = readByte s.exch.mem a :=
  readByte_writeBlock_outside _ _ _ _ (.inl (Nat.lt_of_lt_of_le low (by decide)))

theorem Exchange.slotFree.writeDraft (h : s.exch.slotFree k) : s.writeDraft.exch.slotFree k := by
  have bounds := slotAddress_bounds k
  obtain ⟨copy, mark, byte⟩ := h
  refine ⟨copy, mark, (readByte_writeBlock_outside _ _ _ _ (.inr ?_)).trans byte⟩
  rw [length_draftBytes]
  exact Nat.le_trans (by decide) bounds.1

theorem Exchange.slotFree.writeTelemetry (h : s.exch.slotFree k) : s.writeTelemetry.exch.slotFree k := by
  have bounds := slotAddress_bounds k
  obtain ⟨copy, mark, byte⟩ := h
  exact ⟨copy, mark, (State.writeTelemetry_below _ (by omega)).trans byte⟩

theorem State.writeDraft_draft (s : State) {i : Nat} (hi : i < 100) :
    readByte s.writeDraft.exch.mem i = (draftBytes s.policy).getD i 0 := by
  have inside := readByte_writeBlock_inside s.exch.mem Config.draftBase (draftBytes s.policy) i (by rw [length_draftBytes]; exact hi)
  rw [show Config.draftBase + i = i by simp [Config.draftBase]] at inside
  exact inside

theorem State.restartBlocks_exch (s : State) : s.restartBlocks.exch = s.exch.restart := rfl

theorem State.unheld_restartBlocks (s : State) (k : Fin 8) : s.restartBlocks.unheld k := by
  refine ⟨fun p q h => ?_, (fun h => nomatch h), (fun q h => nomatch h), (fun h => nomatch h)⟩
  rw [State.port_restartBlocks] at h
  cases h

theorem Exchange.freeSlots_seq (x : Exchange) : x.freeSlots.telemetrySeq = x.telemetrySeq := by
  have each : ∀ (l : List (Fin 8)) (y : Exchange), (l.foldl (fun y k =>
      (y.setSlot k { y.slot k with copy := .free, mark := false }).write (slotAddress k) [SlotCopy.free.code]) y).telemetrySeq =
        y.telemetrySeq := by
    intro l
    induction l with
    | nil => exact fun y => rfl
    | cons j l ih => exact fun y => (ih _).trans rfl
  exact each slotIds x

theorem Exchange.restart_fields (x : Exchange) :
    x.restart.released = 0 ∧ x.restart.mask = 0 ∧ x.restart.attn = causeRestarted ∧ x.restart.telemetrySeq = x.telemetrySeq := by
  have seq := x.freeSlots_seq
  unfold Exchange.restart
  generalize x.freeSlots = y at seq ⊢
  exact ⟨rfl, rfl, rfl, seq⟩

/-- The Exchange Unit after a restart. -/
theorem State.restart_exch (s : State) :
    (∀ k, s.restart.exch.slotFree k ∧ s.restart.unheld k) ∧ s.restart.exch.released = 0 ∧ s.restart.exch.mask = 0 ∧
      s.restart.exch.attn &&& causeRestarted = causeRestarted ∧ s.restart.exch.attn &&& hostCauses = 0 ∧
      (∀ i, i < 100 → readByte s.restart.exch.mem i = (draftBytes s.policy).getD i 0) ∧
      s.restart.exch.telemetrySeq = s.exch.telemetrySeq + 2 := by
  have cleared : ∀ k, s.exch.restart.slotFree k := s.exch.slotFree_restart
  obtain ⟨released₀, mask₀, attn₀, seq₀⟩ := s.exch.restart_fields
  obtain ⟨l, first⟩ := s.goes_restarted
  have logs := first.logs fun k _ => s.unheld_restartBlocks k
  rw [s.restartBlocks_exch] at logs
  have idle := first.stays fun k _ => s.unheld_restartBlocks k
  have policy : s.restarted.policy = s.policy := (State.policy_of_fixed first.fixed).trans s.restartBlocks_policy
  rw [State.restart_eq]
  generalize s.restarted = u at logs idle policy
  generalize s.exch.restart = x at cleared seq₀ released₀ mask₀ attn₀ logs
  obtain ⟨m, second⟩ := u.writeDraft.goes_pagesRewritten
  have pages := second.logs idle
  have still := second.stays idle
  have draft : ∀ i, i < 100 → readByte u.writeDraft.exch.mem i = (draftBytes s.policy).getD i 0 := fun i hi =>
    policy ▸ u.writeDraft_draft hi
  have slots : ∀ k, u.writeDraft.exch.slotFree k := fun k => ((cleared k).logs logs not_false).writeDraft
  obtain ⟨released, mask, seq, -⟩ := logs.keeps
  have attn := logs.attn (causes := causeRestarted) (by rw [attn₀]; decide)
  have clear := logs.attn_clear (fun _ => not_false) (by rw [attn₀]; decide)
  obtain ⟨released', mask', seq', -⟩ := pages.keeps
  generalize u.writeDraft.pagesRewritten = v at pages still released' mask' seq'
  have drafted : ∀ i, i < 100 → readByte v.exch.mem i = (draftBytes s.policy).getD i 0 := fun i hi =>
    (pages.readByte_outside (.inl (by omega))).trans (draft i hi)
  refine ⟨fun k => ⟨((slots k).logs pages not_false).writeTelemetry, still k not_false⟩, released'.trans (released.trans released₀),
    mask'.trans (mask.trans mask₀), pages.attn attn, pages.attn_clear (fun _ => not_false) clear,
    fun i hi => (State.writeTelemetry_below _ (by omega)).trans (drafted i hi), ?_⟩
  exact congrArg (· + 2) (seq'.trans (seq.trans seq₀))

theorem State.restart_rest (s : State) : ∃ x, s.restart = s.restarted.withExch x := by
  obtain ⟨x, e⟩ := s.restarted.writeDraft.pagesRewritten_rest
  rw [State.restart_eq, e]
  exact ⟨_, rfl⟩

theorem Regulator.toAuto_settings (r : Regulator) (q : Policy) (closed : Bool) :
    (r.toAuto q closed).mode = .auto ∧ (r.toAuto q closed).saturation = r.saturation := by
  rcases r with ⟨_, _, _, _, mode, _, _, _, _, _⟩
  cases mode <;> exact ⟨rfl, rfl⟩

/-- Settles O46. -/
theorem restartClearsTheHostSide : Obligations.RestartClearsTheHostSide := by
  intro s
  obtain ⟨slots, released, mask, attn, clear, draft, seq⟩ := s.restart_exch
  have runs : exec .restart s = .next s.restart := (exec_spi s).2.2.2.2.1
  obtain ⟨l, follows⟩ := s.goes_restarted
  have core : ∀ p, (s.restarted.port p).core = (s.port p).restart.core := fun p =>
    (trailing_core p _).restarted (by rw [State.port_restartBlocks])
  have barrel : s.restarted.barrel = s.barrel.restart := (trailing_barrel _).restarted rfl
  have last : s.restarted.path.lastPrimary = s.path.lastPrimary := (trailing_lastPrimary _).restarted rfl
  have fixed := follows.fixed
  have policy := s.restartBlocks_policy
  have reg := s.restartBlocks_reg
  have measured : s.restartBlocks.meas = s.meas.restart := by simp [State.restartBlocks]
  have pin : s.restartBlocks.path.pin = none := by simp [State.restartBlocks, Path.restart]
  have same : s.restartBlocks.origin = s.origin ∧ s.restartBlocks.time = s.time ∧ s.restartBlocks.trackers = s.trackers := by
    simp [State.restartBlocks]
  obtain ⟨auto, count⟩ := s.reg.toAuto_settings s.policy s.pathClosed
  obtain ⟨x, e⟩ := s.restart_rest
  generalize s.restarted = m at core barrel last fixed e
  generalize s.restartBlocks = b at fixed policy reg measured pin same
  refine ⟨s.restart, runs, ?_⟩
  rw [e] at slots released mask attn clear draft seq ⊢
  have mode : m.meas.mode = .off := by
    rw [Measurement.mode, State.periodTimer_of_fixed fixed, State.singlePending_of_fixed fixed, measured]
    rfl
  refine ⟨fun k => ?_, ⟨released, mask, ?_, attn, clear⟩, fun p => ?_, (congrArg Barrel.released barrel :), (State.pin_of_fixed fixed).trans pin,
    last, (State.policy_of_fixed fixed).trans policy, (State.origin_of_fixed fixed).trans same.1, draft, ?_, mode, ?_, ?_, ?_,
    (State.time_of_fixed fixed).trans same.2.1, (State.trackers_of_fixed fixed).trans same.2.2, seq⟩
  · obtain ⟨⟨copy, mark, byte⟩, unheld⟩ := slots k
    exact ⟨copy, mark, byte, unheld⟩
  · rw [State.attnL, mask]
    exact decide_eq_true (BitVec.and_zero)
  · exact ⟨(congrArg PortRecord.held (core p) :), (congrArg PortRecord.released (core p) :), (congrArg PortRecord.pin (core p) :)⟩
  · exact (State.mode_of_fixed fixed).trans (reg ▸ auto)
  · exact (State.table_of_fixed fixed).trans (measured ▸ rfl)
  · exact (State.dead_of_fixed fixed).trans (measured ▸ rfl)
  · exact (State.saturation_of_fixed fixed).trans (reg ▸ count)

end

end Sys2Proof.Machine
end

/-! # PRIMARY (R109, R115, R118) -/

section
namespace Sys2Proof.Machine

section
variable {s t u v w : State} {p : LinePort} {q : Posting} {x y z : Connector} {k : Fin 8} {n : Nat}

/-! ### The challenger of a CLOSED path (R109) -/

/-- A connector that is ahead of all eligible ones is the leader. -/
theorem State.leader_eq (fit : s.eligible y = true)
    (top : ∀ z, s.eligible z = true → s.liveScore z ≤ s.liveScore y ∧
      (s.liveScore z = s.liveScore y → connectorNumber y ≤ connectorNumber z)) :
    leader s.contenders = some (y, s.liveScore y) := by
  have member : (y, s.liveScore y) ∈ s.contenders := mem_contenders.mpr ⟨fit, rfl⟩
  cases lead : leader s.contenders with
  | none => 
    rw [(leader_spec s.contenders).1.mp lead] at member
    cases member
  | some c =>
    obtain ⟨eligible, score, best⟩ := State.leader_contenders lead
    have same : s.liveScore c.1 = s.liveScore y := Nat.le_antisymm (top c.1 eligible).1 (best y fit).1
    have here : c.1 = y := connectorNumber_inj (Nat.le_antisymm ((best y fit).2 same.symm) ((top c.1 eligible).2 same))
    rw [← here, ← score]

theorem State.challenger_leads (unpinned : s.eligiblePin = none) (charged : s.meas.dead = false) (ne : y ≠ z) (fit : s.eligible y = true)
    (beyond : s.liveScore z + s.policy.switchMargin < s.liveScore y)
    (top : ∀ z, s.eligible z = true → s.liveScore z ≤ s.liveScore y ∧
      (s.liveScore z = s.liveScore y → connectorNumber y ≤ connectorNumber z)) : s.challenger z = some y := by
  rw [State.challenger, unpinned, charged]
  dsimp only
  rw [if_neg (by simp), State.challengerByScore, State.leader_eq fit top]
  exact if_pos ⟨ne, beyond⟩

/-- Nothing challenges the path while the battery is flat, or no live score is beyond the margin. -/
theorem State.challenger_stays (unpinned : s.eligiblePin = none)
    (h : s.meas.dead = true ∨ ∀ y, s.eligible y = true → s.liveScore y ≤ s.liveScore z + s.policy.switchMargin) :
    s.challenger z = none := by
  rw [State.challenger, unpinned]
  dsimp only
  rcases h with flat | near
  · rw [if_pos flat]
  · split
    · rfl
    · unfold State.challengerByScore
      split
      next c lead =>
        obtain ⟨eligible, score, -⟩ := State.leader_contenders lead
        exact if_neg fun h => absurd h.2 (by rw [score]; exact Nat.not_lt.mpr (near c.1 eligible))
      · rfl

theorem State.evaluate_improves (closed : w.path.state = .closed z) (fit : w.eligible z = true) (chall : w.challenger z = some y)
    (rest : w.atRest y = true) : w.evaluate.path.sansFlight = w.openedPath z := by
  rw [State.evaluate, (State.dropLostPrimary_path _).1, State.evaluatePath, closed]
  dsimp only
  rw [if_pos fit, State.improve, chall]
  dsimp only
  rw [if_pos rest]
  rfl

theorem State.evaluate_stays (closed : w.path.state = .closed z) (fit : w.eligible z = true) (chall : w.challenger z = none)
    (idle : w.path.inFlight = none) : w.evaluate = w := by
  have stays : w.evaluatePath = w := by
    rw [State.evaluatePath, closed]
    dsimp only
    rw [if_pos fit, State.improve, chall]
  rw [State.evaluate, stays, State.dropLostPrimary, idle]

/-! ### A PRIMARY in flight for an eligible connector (R118) -/

theorem State.lossCause_of_fit (h : s.fit x) : s.lossCause x = none := by
  cases x with
  | line p =>
    obtain ⟨state, released, -⟩ := h
    rw [State.lossCause]
    cases kind : (s.port p).state <;> rw [kind] at state <;> first | exact if_neg (by rw [released]; simp) | cases state
  | barrel =>
    have h : s.barrel.eligible = true := h
    simp only [Barrel.eligible, Bool.and_eq_true, Bool.or_eq_true, decide_eq_true_eq, Bool.not_eq_true'] at h
    obtain ⟨⟨⟨-, state⟩, released⟩, -⟩ := h
    rw [State.lossCause]
    rcases state with state | state <;> rw [state] <;> exact if_neg (by rw [released]; simp)

/-- An evaluation ends no PRIMARY whose target stays eligible, and leaves its slot be. -/
theorem State.evaluate_keeps_primary (flight : s.path.inFlight = some ⟨x, k⟩) (fit : s.fit x) :
    s.evaluate.path.inFlight = some ⟨x, k⟩ ∧ State.offSlot k s s.evaluate := by
  have dropped : ∀ v : State, v.path.inFlight = some ⟨x, k⟩ → v.fit x → v.dropLostPrimary = v := fun v hv here => by
    rw [State.dropLostPrimary, hv]
    exact if_neg fun h => by
      rw [State.lossCause_of_fit here] at h
      exact absurd h.2 (by simp)
  have kept : ∀ v : State, s.evaluatePath = v → v.path.inFlight = some ⟨x, k⟩ → v.fit x → State.offSlot k s v →
      s.evaluate.path.inFlight = some ⟨x, k⟩ ∧ State.offSlot k s s.evaluate := fun v e hv here off => by
    rw [State.evaluate, e, dropped v hv here]
    exact ⟨hv, off⟩
  have same : ∀ a : Path, (s.withPath a).fit x := fun a => by cases x <;> exact fit
  rcases s.evaluatePath_cases with e | ⟨-, y, -, e⟩ | ⟨y, held, gone, e⟩ | ⟨y, z, -, -, -, -, e⟩
  · exact kept s e flight fit (.refl s)
  · exact kept _ e flight (same _) (State.offSlot_of_exch rfl)
  · have other : y ≠ x := by
      rintro rfl
      rw [State.eligible_of_fit fit (by rcases held with h | h <;> rw [h] <;> simp [PathState.holds])] at gone
      cases gone
    have opened : State.offSlot k s (s.openPath y) := State.offSlot_of_exch rfl
    have stands : ∀ v : State, v.path.inFlight = some ⟨x, k⟩ → v.completePrimary y .lost = v := fun v hv => by
      rcases State.completePrimary_cases v y .lost with ⟨a, his, target, -⟩ | ⟨-, e⟩
      · rw [hv] at his
        cases his
        exact absurd target.symm other
      · exact e
    have here : (s.openPath y).fit x := same _
    unfold State.losePath at e
    dsimp only at e
    split at e
    · exact kept _ (e.trans (stands _ flight)) flight (by cases x <;> exact here) (opened.trans (State.offSlot_journal _ _ _ _))
    · exact kept _ (e.trans (stands _ flight)) flight here opened
  · exact kept _ e flight (same _) (State.offSlot_of_exch rfl)

theorem PortRecord.Calls.inFlight {c : Policy} {r a : PortRecord} (h : PortRecord.Calls c p r a) :
    a.inFlight = r.inFlight ∨ a.inFlight = none := by
  have applied : ∀ b : PortRecord, b.inFlight = r.inFlight → PortRecord.Applied c p r b a → a.inFlight = r.inFlight ∨ a.inFlight = none :=
    fun b hb ha => by
      cases ha with
      | claims _ _ => exact .inl hb
      | stands _ _ _ _ flight => exact flight
      | rests _ _ flight => exact flight
  cases h with
  | unmoved _ => exact .inl rfl
  | deferred _ _ => exact .inl rfl
  | keeps _ _ _ _ _ => exact .inl rfl
  | rested _ _ k => exact applied (rescore c p r) rfl k
  | retired _ _ k => exact applied (rescore c p r).retire (PortRecord.retire_inFlight _) k

/-- No request in flight on a port is from slot `k`. -/
def State.portsOff (s : State) (k : Fin 8) : Prop := ∀ p q, (s.port p).inFlight = some q → q.slot ≠ k

theorem trailing_portOff (p : LinePort) (k : Fin 8) : Trailing fun u => ∀ q, (u.port p).inFlight = some q → q.slot ≠ k :=
  .of_record (R := fun r => ∀ q, r.inFlight = some q → q.slot ≠ k) p
    (fun r w same h => by rwa [show w.inFlight = r.inFlight from (congrArg PortRecord.inFlight same).symm])
    fun _ r w calls h q hq => by
      rcases calls.inFlight with same | none
      · exact h q (same.symm.trans hq)
      · rw [none] at hq
        cases hq

theorem State.portsOff_call (h : s.portsOff k) (o : LinePort) : ((s.callSelection o).apply o).portsOff k := fun p =>
  (trailing_portOff p k).call s o (h p)

/-- A PRIMARY in flight from slot `k` for a connector that stays eligible goes on, and nothing touches its slot. -/
theorem trailing_primary (s : State) (x : Connector) (k : Fin 8) :
    Trailing fun u => u.path.inFlight = some ⟨x, k⟩ ∧ u.fit x ∧ u.portsOff k ∧ State.offSlot k s u where
  evaluate u h := by
    obtain ⟨flight, fit, ports, off⟩ := h
    obtain ⟨flight', off'⟩ := State.evaluate_keeps_primary flight fit
    exact ⟨flight', (trailing_fit x).evaluate u fit, fun p q hq => ports p q (by rwa [State.port, State.evaluate_ports] at hq), off.trans off'⟩
  droop u y h := ⟨h.1, (trailing_fit x).droop u y h.2.1, h.2.2⟩
  budget u h := ⟨h.1, (trailing_fit x).budget u h.2.1, h.2.2⟩
  left u h := ⟨h.1, (trailing_fit x).left u h.2.1, h.2.2⟩
  prospect u v h := ⟨h.1, (trailing_fit x).prospect u v h.2.1, h.2.2⟩
  page u y h := ⟨h.1, (trailing_fit x).page u y h.2.1, h.2.2.1, h.2.2.2.trans (u.offSlot_rewritePage y)⟩
  call u o h := by
    obtain ⟨flight, fit, ports, off⟩ := h
    refine ⟨by rw [State.apply_path, State.callSelection_path]; exact flight, (trailing_fit x).call u o fit, State.portsOff_call ports o,
      off.trans ((State.offSlot_callSelection u o (ports o)).trans (State.offSlot_of_exch (State.served_apply _ o).exch))⟩

/-! ### The request (R118) -/

/-- PRIMARY with none in flight, its slot ready, goes to the Path Controller at once (R183). -/
theorem exec_primary (ready : s.slotReady q.slot) (fits : RequestKind.portFits .primary q.port = true) (idle : s.path.inFlight = none) :
    ∃ y, s.exch.Took y q.slot (postedRequest q 0x08 []) ∧
      exec (.primary q) s =
        .next ((s.withExch y).settles ((s.withExch y).takePrimary q.slot (connectorOf q.port.toNat)).evaluate) := by
  obtain ⟨y, took, req⟩ := State.request_ready ready 0x08 []
  refine ⟨y, took, ?_⟩
  show Host.Outcome.next (s.request q 0x08 []) = _
  rw [req, State.checkRequest_of_kind (s.withExch y) q.slot (kind := .primary) rfl fits
    (show s.path.inFlight.isSome = false by rw [idle]; rfl)]
  rfl

/-- What stands after a PRIMARY that completed at once: the pin, no request in flight, the slot. -/
theorem primary_done {code : ResultCode} {data : List Byte} {a : Path} {y : Exchange} (took : s.exch.Took y q.slot (postedRequest q 0x08 []))
    (unheld : s.unheld q.slot) (idle : a.inFlight = none)
    (ht : settle true n v (((s.withExch y).withPath a).complete q.slot code data).evaluate = t) :
    t.path.pin = a.pin ∧ t.path.inFlight = none ∧ t.slotDone q 0x08 code data := by
  generalize hw : ((s.withExch y).withPath a).complete q.slot code data = w at ht
  have done : w.slotDone q 0x08 code data := by
    rw [← hw]
    exact State.slotDone_complete (u := (s.withExch y).withPath a) took.req
  have free : w.unheld q.slot := by
    rw [← hw]
    exact ⟨unheld.1, unheld.2.1, (fun b hb => by rw [show a.inFlight = some b from hb] at idle; cases idle), unheld.2.2.2⟩
  subst ht
  obtain ⟨l, goes⟩ : w.Goes true (fun _ => True) (settle true n v w.evaluate) := (State.goes_evaluate w).trans (goes_settle _ v _)
  refine ⟨(State.pin_of_fixed goes.fixed).trans (by rw [← hw]; rfl), trailing_flightless.settle n (trailing_flightless.evaluate w ?_),
    ((trailing_slotDone q 0x08 code data).settle n ((trailing_slotDone q 0x08 code data).evaluate w ⟨free, done⟩)).2⟩
  rw [← hw]
  exact idle

/-- Settles O55. -/
theorem primarySetsThePin : Obligations.PrimarySetsThePin := by
  unfold Obligations.PrimarySetsThePin
  intro s q ready idle resting margin
  have eligible : ∀ (y : Exchange) (a : Path) z, a.state = s.path.state → ((s.withExch y).withPath a).eligible z = s.eligible z :=
    fun y a z same => State.eligible_withPath (s := s.withExch y) (by rw [same]; rfl) z |>.trans (by cases z <;> rfl)
  have score : ∀ (y : Exchange) (a : Path) z, ((s.withExch y).withPath a).liveScore z = s.liveScore z := fun y a z => by cases z <;> rfl
  have rests : ∀ (y : Exchange) (a : Path) z, resting z → ((s.withExch y).withPath a).atRest z = true := fun y a z h => by
    cases z with
    | line p =>
      show (decide ((s.port p).state = .base) || decide ((s.port p).state = .bound)) = true
      rwa [Bool.or_eq_true, decide_eq_true_eq, decide_eq_true_eq]
    | barrel => exact decide_eq_true h
  constructor
  · intro all
    obtain ⟨y, took, runs⟩ := exec_primary ready (by rw [all]; decide) idle
    rw [show connectorOf q.port.toNat = none by rw [all]; decide] at runs
    let a : Path := { s.path with pin := none }
    have data : a.data = [s.path.state.code, connectorCode s.path.state.connector, 0xFF] := rfl
    obtain ⟨pin, -, done⟩ := primary_done (n := Config.reportDepth) (code := .ok) (data := a.data) (a := a) (v := s.withExch y) took ready.2.2 idle rfl
    refine ⟨_, runs, pin, data ▸ done, fun z closed fit => ?_⟩
    generalize hw : ((s.withExch y).withPath a).complete q.slot .ok a.data = w
    have fits : ∀ x, w.eligible x = s.eligible x := fun x => by
      rw [← hw]
      exact Eq.trans (by cases x <;> rfl) (eligible y a x rfl)
    have scores : ∀ x, w.liveScore x = s.liveScore x := fun x => by
      rw [← hw]
      cases x <;> rfl
    have path : w.path = a := by rw [← hw]; rfl
    have unpinned : w.eligiblePin = none := by rw [State.eligiblePin, path]
    have dead : w.meas.dead = s.meas.dead := by rw [← hw]; rfl
    have policy : w.policy = s.policy := by rw [← hw]; rfl
    have taken : (s.withExch y).takePrimary q.slot none = w := hw
    rw [taken]
    constructor
    · intro x charged ne fit' rest beyond top
      have chall : w.challenger z = some x := State.challenger_leads unpinned (dead.trans charged) ne ((fits x).trans fit')
        (by rw [scores, scores, policy]; exact beyond)
        (fun o ho => by rw [scores, scores]; exact top o ((fits o).symm.trans ho))
      have opened := State.evaluate_improves (by rw [path]; exact closed) ((fits z).trans fit) chall
        (by rw [← hw]; exact Eq.trans (by cases x <;> rfl) (rests y a x rest))
      exact pathOpened_of_sansFlight (v := w) policy (by rw [path])
        ((trailing_opening (v := w.openedPath z) rfl).settles (s := s.withExch y) opened)
    · intro unset ok near
      have same : a = s.path := by
        show { s.path with pin := none } = s.path
        rw [← unset]
      have stays : w.evaluate = w := State.evaluate_stays (by rw [path]; exact closed) ((fits z).trans fit)
        (State.challenger_stays unpinned (near.imp dead.trans fun h o ho => by
          rw [scores, scores, policy]
          exact h o ((fits o).symm.trans ho))) (by rw [path]; exact idle)
      have quiet : (s.withExch y).Quiet w := by
        rw [← hw]
        exact ⟨rfl, rfl, unset.symm, rfl, rfl, fun _ => rfl, rfl⟩
      rw [stays, quiet.settles (ok.congr (fun x => by cases x <;> rfl) rfl rfl rfl rfl rfl), State.finish_path, path, same]
  · intro x named
    obtain ⟨y, took, runs⟩ := exec_primary ready (by rw [RequestKind.portFits, named]; rfl) idle
    rw [named] at runs
    have known : (s.withExch y).eligible x = s.eligible x := by cases x <;> rfl
    refine ⟨fun unfit => ?_, fun fit closed => ?_, fun fit open_ => ?_⟩
    · rw [State.takePrimary, if_pos (known.trans unfit)] at runs
      obtain ⟨pin, flight, done⟩ := primary_done (n := Config.reportDepth) (code := .notEligible) (data := s.path.data) (a := s.path) (v := s.withExch y)
        took ready.2.2 idle rfl
      exact ⟨_, runs, pin, flight, done⟩
    · rw [State.takePrimary, if_neg (by rw [known, fit]; simp), if_pos (show (s.withExch y).path.state = .closed x from closed)] at runs
      let a : Path := { s.path with pin := some x }
      have data : a.data = [2, connectorCode (some x), connectorCode (some x)] := by
        show [s.path.state.code, connectorCode s.path.state.connector, connectorCode (some x)] = _
        rw [closed]
        rfl
      obtain ⟨pin, flight, done⟩ := primary_done (n := Config.reportDepth) (code := .ok) (data := a.data) (a := a) (v := s.withExch y) took
        ready.2.2 idle rfl
      exact ⟨_, runs, pin, flight, data ▸ done⟩
    · rw [State.takePrimary, if_neg (by rw [known, fit]; simp), if_neg (show ¬ (s.withExch y).path.state = .closed x from open_)] at runs
      generalize hw : (s.withExch y).withPath { s.path with pin := some x, inFlight := some ⟨x, q.slot⟩ } = w
      have taken : (s.withExch y).withPath { (s.withExch y).path with pin := some x, inFlight := some ⟨x, q.slot⟩ } = w := hw
      rw [taken] at runs
      have start : w.path.inFlight = some ⟨x, q.slot⟩ ∧ w.fit x ∧ w.portsOff q.slot ∧ State.offSlot q.slot w w := by
        have here := State.fit_of_eligible fit
        rw [← hw]
        exact ⟨rfl, by cases x <;> exact here, ready.2.2.1, .refl _⟩
      obtain ⟨flight, -, -, off⟩ := (trailing_primary w x q.slot).settles (s := s.withExch y)
        ((trailing_primary w x q.slot).evaluate w start)
      have waits : w.slotTaken q.slot := State.slotTaken_of (x := s.exch) (by rw [← hw]; exact took)
      obtain ⟨l, goes⟩ : w.Goes true (fun _ => True) ((s.withExch y).settles w.evaluate) :=
        (State.goes_evaluate w).trans (State.goes_settles _ _)
      refine ⟨_, runs, (State.pin_of_fixed goes.fixed).trans (by rw [← hw]; rfl), flight, waits.of_offSlot off, fun z closed fit' rest => ?_⟩
      have ne : x ≠ z := by
        rintro rfl
        exact open_ closed
      have fits : ∀ o, w.eligible o = s.eligible o := fun o => by
        rw [← hw]
        exact eligible y _ o rfl
      have chall : w.challenger z = some x := by
        have pinned : w.eligiblePin = some x := by
          rw [State.eligiblePin, show w.path.pin = some x by rw [← hw]; rfl]
          exact if_pos ((fits x).trans fit)
        rw [State.challenger, pinned]
        exact if_pos ne
      have opened := State.evaluate_improves (by rw [← hw]; exact closed) ((fits z).trans fit') chall
        (by rw [← hw]; exact rests y _ x rest)
      exact pathOpened_of_sansFlight (v := w) (by rw [← hw]; rfl) (by rw [← hw]; rfl)
        ((trailing_opening (v := w.openedPath z) rfl).settles (s := s.withExch y) opened)

end

end Sys2Proof.Machine
end

/-! # The choice of a selection (R63, R64, R85 to R91, R99) -/

section
namespace Sys2Proof.Machine

section
variable {s t u v : State} {p o : LinePort} {q : Policy} {r a w : PortRecord} {n L V A : Nat} {b : Bool} {x : Option Contract}

/-! ### What a selection of a record proposes -/

/-- A port whose selections come to these figures, in either role (R89, R90, R99). -/
def PortRecord.proposes (q : Policy) (p : LinePort) (L V A : Nat) (b : Bool) (r : PortRecord) : Prop :=
  r.blocked = false ∧ ∃ i, r.image = some i ∧ ∀ primary, composeClaim q p primary i r.pin = some ⟨L, V, A, claimOperating q primary A, b⟩

/-- A port whose selections find no candidate (R89). -/
def PortRecord.findsNone (q : Policy) (p : LinePort) (r : PortRecord) : Prop :=
  r.blocked = false ∧ ∃ i, r.image = some i ∧ ∀ primary, composeClaim q p primary i r.pin = none

/-- A selection rests on what no selection touches. -/
theorem PortRecord.composes_of_core {f : Bool → Option Claim} (same : w.core = r.core)
    (h : r.blocked = false ∧ ∃ i, r.image = some i ∧ ∀ primary, composeClaim q p primary i r.pin = f primary) :
    w.blocked = false ∧ ∃ i, w.image = some i ∧ ∀ primary, composeClaim q p primary i w.pin = f primary := by
  obtain ⟨free, i, image, composed⟩ := h
  have images : w.image.map Image.bare = r.image.map Image.bare := (congrArg PortRecord.image same :)
  have pins : w.pin = r.pin := (congrArg PortRecord.pin same :)
  rw [image] at images
  obtain ⟨j, imaged, bare⟩ := Option.map_eq_some_iff.mp images
  refine ⟨(congrArg PortRecord.blocked same :).trans free, j, imaged, fun primary => ?_⟩
  rw [composeClaim_congr bare, pins]
  exact composed primary

theorem PortRecord.proposes_of_core (same : w.core = r.core) (h : r.proposes q p L V A b) : w.proposes q p L V A b :=
  PortRecord.composes_of_core same h

theorem PortRecord.findsNone_of_core (same : w.core = r.core) (h : r.findsNone q p) : w.findsNone q p :=
  PortRecord.composes_of_core same h

theorem PortRecord.proposes_of_winner {i : Image} {c : Candidate} (free : r.blocked = false) (image : r.image = some i) (auto : r.pin = none)
    (won : winner q (.line p) i.levels = some c) :
    r.proposes q p c.index c.volts (claimLimit q (.line p) c.volts c.level) c.level.shared :=
  ⟨free, i, image, fun primary => by rw [auto, composeClaim, won]⟩

theorem PortRecord.proposes_of_pin {i : Image} {m : Pin} {l : Level} (free : r.blocked = false) (image : r.image = some i)
    (pin : r.pin = some m) (positive : 0 < m.level) (level : i.levels[m.level - 1]? = some l) :
    r.proposes q p m.level m.volts m.limit l.shared := by
  refine ⟨free, i, image, fun primary => ?_⟩
  have shared : pinShared (some i) m = l.shared := by
    rw [pinShared, Image.level, if_neg (by omega), level]
    rfl
  rw [pin, composeClaim, shared]

theorem PortRecord.findsNone_of_winner {i : Image} (free : r.blocked = false) (image : r.image = some i) (auto : r.pin = none)
    (lost : winner q (.line p) i.levels = none) : r.findsNone q p :=
  ⟨free, i, image, fun primary => by rw [auto, composeClaim, lost]⟩

/-! ### What a call for selection comes to -/

/-- The figures of a contract that a claim stands on. -/
def Contract.figures (l : Contract) : Origin × Option Nat × Nat × Nat × Nat × Bool :=
  (l.origin, l.level, l.volts, l.limit, l.operating, l.shared)

/-- The record has claimed these figures, the CLAIM in its slot, or is BOUND on them. -/
def PortRecord.chooses (q : Policy) (L V A : Nat) (b : Bool) (r : PortRecord) : Prop :=
  ∃ primary, r.state = .claimed ∧ r.slot = some (.claim L V A (claimOperating q primary A)) ∧
      r.staged = some ⟨.negotiated, some L, V, A, claimOperating q primary A, b, false⟩ ∨
    r.state = .bound ∧ r.live.map Contract.figures = some (.negotiated, some L, V, A, claimOperating q primary A, b)

theorem Contract.carries_figures {c : Contract} {k : Claim} (h : c.carries k = true) :
    c.origin = .negotiated ∧ c.level = some k.level ∧ c.volts = k.volts ∧ c.limit = k.limit ∧ c.operating = k.operating := by
  simpa [Contract.carries, Contract.negotiated, and_assoc] using h

/-- A selection is applied: the claim is made, or the live contract carries it already. -/
theorem PortRecord.Applied.chooses (h : r.proposes q p L V A b) (live : a.live = r.live) (applied : PortRecord.Applied q p r a w) :
    w.chooses q L V A b := by
  obtain ⟨-, j, image, composed⟩ := h
  have claims : ∀ {i primary k}, r.image = some i → composeClaim q p primary i r.pin = k →
      k = some ⟨L, V, A, claimOperating q primary A, b⟩ := fun {i primary k} hi hk => by
    rw [image] at hi
    cases hi
    rw [← hk, composed]
  cases applied with
  | @claims i primary k hi hk =>
    obtain rfl := Option.some.inj (claims hi hk)
    exact ⟨primary, .inl ⟨rfl, rfl, rfl⟩⟩
  | @stands i primary k c f hi hk hl carries _ =>
    obtain rfl := Option.some.inj (claims hi hk)
    obtain ⟨origin, level, volts, limit, operating⟩ := Contract.carries_figures carries
    refine ⟨primary, .inr ⟨rfl, ?_⟩⟩
    show (a.live.map fun c => { c with shared := b }).map Contract.figures = _
    rw [live, hl]
    simp only [Option.map_some, Contract.figures, origin, level, volts, limit, operating]
  | @rests i primary f hi hk _ => exact absurd (claims hi hk) (by simp)

/-- The staged contract of a record carries these figures. -/
def PortRecord.stages (L V A : Nat) (r : PortRecord) : Prop :=
  r.state = .claimed ∧ r.staged.map (fun k => (k.level, k.volts, k.limit)) = some (some L, V, A)

/-- A call for selection of a record in BASE, BOUND or CLAIMED: the choice is made, or the claim that has been made stands. -/
theorem PortRecord.Calls.chooses (h : r.proposes q p L V A b) (calls : PortRecord.Calls q p r w)
    (state : r.state = .base ∨ r.state = .bound ∨ r.state = .claimed) :
    w.chooses q L V A b ∨ (w = rescore q p r ∧ r.stages L V A) := by
  cases calls with
  | unmoved still =>
    obtain ⟨free, i, image, -⟩ := h
    rcases still with none | gone | gone | gone | gone | blocked
    · rw [image] at none
      cases none
    · rw [gone] at state
      simp at state
    · rw [gone] at state
      simp at state
    · rw [gone] at state
      simp at state
    · rw [gone] at state
      simp at state
    · rw [free] at blocked
      cases blocked.1
  | deferred _ shifting =>
    rw [shifting] at state
    simp at state
  | @keeps i primary k image claimed _ composed carries =>
    refine .inr ⟨rfl, claimed, ?_⟩
    obtain ⟨-, j, imaged, all⟩ := h
    rw [image] at imaged
    cases imaged
    obtain rfl := Option.some.inj (composed.symm.trans (all primary))
    unfold PortRecord.stagedCarries at carries
    split at carries
    next c staged =>
      obtain ⟨-, level, volts, limit, -⟩ := Contract.carries_figures carries
      rw [staged, Option.map_some, level, volts, limit]
    · cases carries
  | rested _ _ applied => exact .inl (PortRecord.Applied.chooses (a := rescore q p r) h rfl applied)
  | retired _ _ applied => exact .inl (PortRecord.Applied.chooses (a := (rescore q p r).retire) h (PortRecord.retire_live _) applied)

/-! ### The choice stands -/

theorem State.chose_iff : t.chose p L V A b ↔ ∃ operating, (operating = A ∨ operating = min t.policy.standby A / 50 * 50) ∧
    ((t.port p).state = .claimed ∧ t.sends p (.claim L V A operating) ∧
        (t.port p).staged = some ⟨.negotiated, some L, V, A, operating, b, false⟩ ∨
      (t.port p).state = .bound ∧ (t.port p).live.map Contract.figures = some (.negotiated, some L, V, A, operating, b)) := Iff.rfl

theorem claimOperating_cases (q : Policy) (primary : Bool) (A : Nat) :
    claimOperating q primary A = A ∨ claimOperating q primary A = min q.standby A / 50 * 50 := by
  cases primary
  · exact .inr rfl
  · exact .inl rfl

theorem PortRecord.chooses.chose (h : (t.port p).chooses t.policy L V A b) : t.chose p L V A b := by
  obtain ⟨primary, which⟩ := h
  exact State.chose_iff.mpr ⟨_, claimOperating_cases t.policy primary A,
    which.imp (fun ⟨state, slot, staged⟩ => ⟨state, .inl slot, staged⟩) id⟩

/-- The choice of a port rests on its record and on the frame that it sends. -/
theorem State.chose.congr (h : s.chose p L V A b) (policy : t.policy = s.policy) (state : (t.port p).state = (s.port p).state)
    (staged : (t.port p).staged = (s.port p).staged) (live : (t.port p).live = (s.port p).live)
    (sends : ∀ f, s.sends p f → t.sends p f) : t.chose p L V A b := by
  obtain ⟨operating, role, which⟩ := State.chose_iff.mp h
  refine State.chose_iff.mpr ⟨operating, policy ▸ role, ?_⟩
  rw [state, staged, live]
  exact which.imp (fun ⟨claimed, sent, terms⟩ => ⟨claimed, sends _ sent, terms⟩) id

theorem State.chose_apply (h : s.chose p L V A b) (o : LinePort) : (s.apply o).chose p L V A b := by
  have served := State.served_apply s o
  exact h.congr (State.apply_policy s o) (served.field p PortRecord.state fun _ => rfl) (served.field p PortRecord.staged fun _ => rfl)
    (served.field p PortRecord.live fun _ => rfl) fun f sent => State.sends_apply sent o

theorem State.chose.state (h : s.chose p L V A b) : (s.port p).state = .base ∨ (s.port p).state = .bound ∨ (s.port p).state = .claimed := by
  obtain ⟨_, -, which⟩ := State.chose_iff.mp h
  exact which.elim (fun h => .inr (.inr h.1)) fun h => .inr (.inl h.1)

/-- A selection that proposes these figures has chosen them. -/
def State.chosen (q : Policy) (p : LinePort) (L V A : Nat) (b : Bool) (u : State) : Prop :=
  u.policy = q ∧ (u.port p).proposes q p L V A b ∧ u.chose p L V A b

/-- The same of a port that was CLAIMED, whose claim may have been sent already. -/
def State.settledOn (q : Policy) (p : LinePort) (L V A : Nat) (b : Bool) (u : State) : Prop :=
  u.policy = q ∧ (u.port p).proposes q p L V A b ∧ ((u.port p).stages L V A ∨ u.chose p L V A b)

theorem State.callSelection_chose (policy : u.policy = q) (h : (u.port p).proposes q p L V A b)
    (state : (u.port p).state = .base ∨ (u.port p).state = .bound ∨ (u.port p).state = .claimed) :
    (u.callSelection p).chose p L V A b ∨
      ((u.callSelection p).port p = rescore q p (u.port p) ∧ (u.port p).stages L V A) := by
  have calls := u.port_callSelection p
  rw [policy] at calls
  refine (calls.chooses h state).imp (fun chosen => ?_) id
  exact PortRecord.chooses.chose (by rw [State.callSelection_policy, policy]; exact chosen)

theorem State.proposes_call (policy : u.policy = q) (h : (u.port p).proposes q p L V A b) (o : LinePort) :
    ((u.callSelection o).apply o).policy = q ∧ (((u.callSelection o).apply o).port p).proposes q p L V A b :=
  ⟨by rw [State.apply_policy, State.callSelection_policy]; exact policy,
    PortRecord.proposes_of_core ((trailing_core p (u.port p).core).call u o rfl) h⟩

theorem State.chose_call_of_ne (h : u.chose p L V A b) (ne : o ≠ p) : (u.callSelection o).chose p L V A b := by
  have same := State.othersKept_callSelection u p ne.symm
  exact h.congr (State.callSelection_policy u o) (by rw [same]) (by rw [same]) (by rw [same]) fun f sent =>
    State.sends_callSelection_of_ne sent ne

theorem trailing_chosen (q : Policy) (p : LinePort) (L V A : Nat) (b : Bool) : Trailing (State.chosen q p L V A b) := by
  refine .of_owners (fun u v same h => ?_) fun u o h => ?_
  · obtain ⟨policy, proposes, chose⟩ := h
    have port : v.port p = u.port p := by rw [State.port, same.ports, State.port]
    exact ⟨same.policy.trans policy, by rw [port]; exact proposes, chose.congr same.policy (by rw [port]) (by rw [port]) (by rw [port])
      fun f => State.sends_congr same.engines (by rw [port])⟩
  · obtain ⟨policy, proposes, chose⟩ := h
    obtain ⟨policy', proposes'⟩ := State.proposes_call policy proposes o
    refine ⟨policy', proposes', State.chose_apply ?_ o⟩
    by_cases here : o = p
    · subst here
      rcases State.callSelection_chose policy proposes chose.state with again | ⟨record, -⟩
      · exact again
      · exact chose.congr (State.callSelection_policy u o) (by rw [record]; rfl) (by rw [record]; rfl) (by rw [record]; rfl)
          fun f => State.sends_congr (State.callSelection_engines u o) (by rw [record]; rfl)
    · exact State.chose_call_of_ne chose here

theorem trailing_settledOn (q : Policy) (p : LinePort) (L V A : Nat) (b : Bool) : Trailing (State.settledOn q p L V A b) := by
  refine .of_owners (fun u v same h => ?_) fun u o h => ?_
  · obtain ⟨policy, proposes, which⟩ := h
    have port : v.port p = u.port p := by rw [State.port, same.ports, State.port]
    refine ⟨same.policy.trans policy, by rw [port]; exact proposes, which.imp (fun h => by rw [port]; exact h) fun chose => ?_⟩
    exact chose.congr same.policy (by rw [port]) (by rw [port]) (by rw [port]) fun f => State.sends_congr same.engines (by rw [port])
  · obtain ⟨policy, proposes, which⟩ := h
    obtain ⟨policy', proposes'⟩ := State.proposes_call policy proposes o
    refine ⟨policy', proposes', ?_⟩
    have served := State.served_apply (u.callSelection o) o
    have stages : ((u.callSelection o).port p).stages L V A → (((u.callSelection o).apply o).port p).stages L V A := fun h =>
      ⟨(served.field p PortRecord.state fun _ => rfl).trans h.1,
        (congrArg _ (served.field p PortRecord.staged fun _ => rfl)).trans h.2⟩
    by_cases here : o = p
    · subst here
      have state := which.elim (fun h => .inr (.inr h.1)) State.chose.state
      rcases State.callSelection_chose policy proposes state with again | ⟨record, staged⟩
      · exact .inr (State.chose_apply again o)
      · exact .inl (stages (by rw [record]; exact staged))
    · have same := State.othersKept_callSelection u p (Ne.symm here)
      exact which.imp (fun h => stages (by rw [same]; exact h)) fun chose => State.chose_apply (State.chose_call_of_ne chose here) o

/-! ### No candidate -/

theorem PortRecord.Applied.restsOn (h : r.findsNone q p) (applied : PortRecord.Applied q p r a w) :
    w.state = a.resting ∧ w.live = a.live ∧ w.staged = a.staged := by
  obtain ⟨-, j, image, composed⟩ := h
  cases applied with
  | @claims i primary k hi hk =>
    rw [image] at hi
    cases hi
    rw [composed] at hk
    cases hk
  | @stands i primary k c f hi hk _ _ _ =>
    rw [image] at hi
    cases hi
    rw [composed] at hk
    cases hk
  | rests _ _ _ => exact ⟨rfl, rfl, rfl⟩

/-- A call for selection without a candidate ends a claim that was made, and the port rests (R64). -/
theorem PortRecord.Calls.rests (h : r.findsNone q p) (calls : PortRecord.Calls q p r w)
    (state : r.state = .base ∨ r.state = .bound ∨ r.state = .claimed) :
    w.state = restingOn w.live ∧ w.staged = if r.state = .claimed then none else r.staged := by
  have idle : r.state = .base ∨ r.state = .bound → r.state ≠ .claimed := fun h => by rcases h with h | h <;> rw [h] <;> simp
  cases calls with
  | unmoved still =>
    obtain ⟨free, i, image, -⟩ := h
    rcases still with none | gone | gone | gone | gone | blocked
    · rw [image] at none
      cases none
    · rw [gone] at state
      simp at state
    · rw [gone] at state
      simp at state
    · rw [gone] at state
      simp at state
    · rw [gone] at state
      simp at state
    · rw [free] at blocked
      cases blocked.1
  | deferred _ shifting =>
    rw [shifting] at state
    simp at state
  | @keeps i primary k image _ _ composed _ =>
    obtain ⟨-, j, imaged, all⟩ := h
    rw [image] at imaged
    cases imaged
    rw [all] at composed
    cases composed
  | rested based _ applied =>
    obtain ⟨resting, live, staged⟩ := PortRecord.Applied.restsOn (a := rescore q p r) h applied
    rw [if_neg (idle based), resting, PortRecord.resting_eq, live]
    exact ⟨rfl, staged⟩
  | retired claimed _ applied =>
    obtain ⟨resting, live, staged⟩ := PortRecord.Applied.restsOn (a := (rescore q p r).retire) h applied
    rw [if_pos claimed, resting, PortRecord.resting_eq, live]
    exact ⟨rfl, staged⟩

/-- A port whose selections find no candidate rests on its live contract. -/
def State.restsOn (q : Policy) (p : LinePort) (x : Option Contract) (u : State) : Prop :=
  u.policy = q ∧ (u.port p).findsNone q p ∧ (u.port p).state = restingOn (u.port p).live ∧ (u.port p).staged = x

theorem restingOn_cases (x : Option Contract) : restingOn x = .base ∨ restingOn x = .bound := by
  unfold restingOn
  split
  · exact .inr rfl
  · exact .inl rfl

theorem trailing_restsOn (q : Policy) (p : LinePort) (x : Option Contract) : Trailing (State.restsOn q p x) :=
  .of_policied (R := fun r => r.findsNone q p ∧ r.state = restingOn r.live ∧ r.staged = x) p q
    (fun r w same h => by
      obtain ⟨finds, state, staged⟩ := h
      refine ⟨PortRecord.findsNone_of_core (PortRecord.core_of_sansEngine same.symm) finds, ?_, (congrArg PortRecord.staged same).symm.trans staged⟩
      rw [show w.state = r.state from (congrArg PortRecord.state same).symm, show w.live = r.live from (congrArg PortRecord.live same).symm]
      exact state)
    fun r w calls h => by
      obtain ⟨finds, state, staged⟩ := h
      have based := restingOn_cases r.live
      rw [← state] at based
      obtain ⟨state', staged'⟩ := calls.rests finds (based.imp id .inl)
      refine ⟨PortRecord.findsNone_of_core calls.core finds, state', staged'.trans ?_⟩
      rw [if_neg (by rcases based with h | h <;> rw [h] <;> simp)]
      exact staged

/-- The record that a selection without a candidate journals. -/
theorem State.follows_callSelection_none {held : Fin 8 → Prop} {i : Image} (finds : (u.port p).findsNone u.policy p)
    (image : (u.port p).image = some i) (state : (u.port p).state = .base ∨ (u.port p).state = .bound ∨ (u.port p).state = .claimed) :
    u.Follows true held [(0x11, lineByte p, [byte i.levels.length])] (u.callSelection p) := by
  obtain ⟨free, j, imaged, none⟩ := finds
  rw [image] at imaged
  cases imaged
  have outcome : (u.select p).2 = .noCandidate := by
    obtain ⟨primary, e⟩ := u.select_outcome image
    rw [e, none primary]
    rfl
  have scored : ((u.select p).1.port p).image.map (fun i => i.levels.length) = some i.levels.length := by
    rw [State.port_select]
    simp [rescore, image]
  have selected := State.follows_select (pages := true) (held := held) u p
  have record : ∀ v : State, (v.port p).image.map (fun i => i.levels.length) = some i.levels.length →
      v.Follows true held [(0x11, lineByte p, [byte i.levels.length])] (v.applyOutcome p .noCandidate) := fun v hv => by
    have := State.follows_applyOutcome (pages := true) (held := held) v p .noCandidate
    simp only [Outcome.records, hv] at this
    exact this
  unfold State.callSelection
  dsimp only
  rw [if_neg (by rw [image]; simp)]
  have anew := selected.trans (record _ scored)
  have retired := (selected.trans (State.follows_setPort_kept _ p _ (PortRecord.retire_inFlight _))).trans
    (record ((u.select p).1.setPort p ((u.select p).1.port p).retire) (by
      rw [State.port_setPort_self]
      unfold PortRecord.retire PortRecord.withdrawClaim
      split <;> exact scored))
  rcases state with h | h | h <;> rw [h] <;> dsimp only <;> rw [if_neg (by rw [free]; simp)]
  · rw [outcome]
    exact anew
  · rw [outcome]
    exact anew
  · rw [outcome]
    exact retired

end

end Sys2Proof.Machine
end

/-! # UNPIN, HOLD and RESUME (R63, R77, R102) -/

section
namespace Sys2Proof.Machine

section
variable {s t u v w : State} {p : LinePort} {q : Posting} {g : Policy} {r : PortRecord} {n L V A : Nat} {b : Bool} {k : Fin 8} {pages : Bool}

/-! ### A call for selection and what follows it -/

theorem call_chooses (policy : w.policy = g) (h : (w.port p).proposes g p L V A b)
    (state : (w.port p).state = .base ∨ (w.port p).state = .bound) :
    (settle pages n v ((w.callSelection p).apply p)).chose p L V A b := by
  obtain ⟨policy', proposes⟩ := State.proposes_call policy h p
  have calm : ¬ (w.port p).stages L V A := fun h => by
    rcases state with k | k <;> rw [PortRecord.stages, k] at h <;> cases h.1
  have chose := (State.callSelection_chose policy h (state.imp id .inl)).resolve_right fun h => calm h.2
  exact ((trailing_chosen g p L V A b).settle n ⟨policy', proposes, State.chose_apply chose p⟩).2.2

theorem call_settlesOn (policy : w.policy = g) (h : (w.port p).proposes g p L V A b) (state : (w.port p).state = .claimed) :
    ((settle pages n v ((w.callSelection p).apply p)).port p).stages L V A ∨
      (settle pages n v ((w.callSelection p).apply p)).chose p L V A b := by
  obtain ⟨policy', proposes⟩ := State.proposes_call policy h p
  refine ((trailing_settledOn g p L V A b).settle n ⟨policy', proposes, ?_⟩).2.2
  have served := State.served_apply (w.callSelection p) p
  rcases State.callSelection_chose policy h (.inr (.inr state)) with chose | ⟨record, staged⟩
  · exact .inr (State.chose_apply chose p)
  · refine .inl ⟨(served.field p PortRecord.state fun _ => rfl).trans (by rw [record]; exact staged.1), ?_⟩
    rw [served.field p PortRecord.staged fun _ => rfl, record]
    exact staged.2

theorem call_rests (policy : w.policy = g) (h : (w.port p).findsNone g p)
    (state : (w.port p).state = .base ∨ (w.port p).state = .bound ∨ (w.port p).state = .claimed) :
    ((settle pages n v ((w.callSelection p).apply p)).port p).state =
        restingOn ((settle pages n v ((w.callSelection p).apply p)).port p).live ∧
      ((settle pages n v ((w.callSelection p).apply p)).port p).staged = if (w.port p).state = .claimed then none else (w.port p).staged := by
  have calls := w.port_callSelection p
  rw [policy] at calls
  obtain ⟨rests, staged⟩ := calls.rests h state
  have served := State.served_apply (w.callSelection p) p
  have policy' : ((w.callSelection p).apply p).policy = g := by rw [State.apply_policy, State.callSelection_policy, policy]
  have core := (trailing_core p (w.port p).core).call w p rfl
  have after := (trailing_restsOn g p (if (w.port p).state = .claimed then none else (w.port p).staged)).settle (pages := pages) (s := v) n
    ⟨policy', PortRecord.findsNone_of_core core h, by
      rw [served.field p PortRecord.state fun _ => rfl, served.field p PortRecord.live fun _ => rfl]
      exact rests, (served.field p PortRecord.staged fun _ => rfl).trans staged⟩
  exact after.2.2

/-- In SHIFTING the call waits for the end of the shift (R63). -/
theorem trailing_deferred (p : LinePort) : Trailing fun u => (u.port p).state = .shifting ∧ (u.port p).deferred = true :=
  .of_record (R := fun r => r.state = .shifting ∧ r.deferred = true) p
    (fun _ _ same h => ⟨(congrArg PortRecord.state same).symm.trans h.1, (congrArg PortRecord.deferred same).symm.trans h.2⟩)
    fun _ _ _ calls h => ⟨(congrArg PortRecord.state (calls.shifting h.1).1 :).trans h.1, (calls.shifting h.1).2 h.2⟩

theorem State.callSelection_defers (state : (w.port p).state = .shifting) (image : (w.port p).image ≠ none) :
    w.callSelection p = w.setPort p { w.port p with deferred := true } := by
  unfold State.callSelection
  dsimp only
  rw [if_neg (by simpa using image), state]

theorem call_defers (state : (w.port p).state = .shifting) (image : (w.port p).image ≠ none) :
    ((settle pages n v ((w.callSelection p).apply p)).port p).state = .shifting ∧
      ((settle pages n v ((w.callSelection p).apply p)).port p).deferred = true := by
  refine (trailing_deferred p).settle_served (R := fun r => r.state = .shifting ∧ r.deferred = true) (fun _ => Iff.rfl)
    (State.served_apply _ p) ?_
  rw [State.callSelection_defers state image, State.port_setPort_self]
  exact ⟨state, rfl⟩

/-- A port that calls for selection leave be, or only defer, keeps its terms. -/
theorem call_keeps (calm : (w.port p).calm) :
    ((settle pages n v ((w.callSelection p).apply p)).port p).undeferred = (w.port p).undeferred :=
  (trailing_calm p calm).settle n ((PortRecord.undeferred_of_sansEngine ((State.served_apply _ p).port p)).trans
    (State.callSelection_calm calm).2)

theorem PortRecord.calm_of_blocked (blocked : r.blocked = true) : r.calm := by
  by_cases shifting : r.state = .shifting
  · exact .inr shifting
  · exact .inl (.inr (.inr (.inr (.inr (.inr ⟨blocked, shifting⟩)))))

/-! ### What an UNPIN or RESUME brings -/

/-- What a call for selection on the record of `s` with this pin makes of the port (R63, R64): it takes the winner's terms or
those of the pin, or rests without a candidate; in SHIFTING it is deferred; otherwise the port keeps its terms. -/
def State.selectionOf (s t : State) (p : LinePort) (pin : Option Pin) : Prop :=
  let r := s.port p
  (∀ i, r.image = some i → r.released = false → r.barred = false →
    let settledOn := fun (level volts limit : Nat) (shared : Bool) =>
      (r.state = .base ∨ r.state = .bound → t.chose p level volts limit shared) ∧
      (r.state = .claimed → (t.port p).state = .claimed ∧
          (t.port p).staged.map (fun k => (k.level, k.volts, k.limit)) = some (some level, volts, limit) ∨
        t.chose p level volts limit shared)
    (pin = none → winner s.policy (.line p) i.levels = none → r.state = .base ∨ r.state = .bound ∨ r.state = .claimed →
      (t.port p).state = restingOn (t.port p).live ∧ (t.port p).staged = (if r.state = .claimed then none else r.staged) ∧
      s.journals t [(0x11, connectorCode (some (.line p)), [BitVec.ofNat 8 i.levels.length])]) ∧
    (∀ c, pin = none → winner s.policy (.line p) i.levels = some c →
      let limit := min (min c.level.amps (s.policy.pathMax.get (.line p))) (s.policy.ceiling * 1000 / c.volts) / 50 * 50
      settledOn c.index c.volts limit c.level.shared) ∧
    ∀ n l, pin = some n → 0 < n.level → i.levels[n.level - 1]? = some l → settledOn n.level n.volts n.limit l.shared) ∧
  (r.state = .shifting → r.image ≠ none → (t.port p).state = .shifting ∧ (t.port p).deferred = true) ∧
  (r.state = .asking ∨ r.state = .faulted ∨ r.released = true ∨ r.barred = true ∨ r.image = none →
    (t.port p).state = r.state ∧ (t.port p).staged = r.staged ∧ (t.port p).live = r.live)

/-- The record `w` is `r` but for the pin, the held flag, which is clear, and the request in flight. -/
def PortRecord.freed (pin : Option Pin) (r w : PortRecord) : Prop := ∃ f, w = { r with held := false, pin := pin, inFlight := f }

theorem selectionOf_call {pin : Option Pin} {y : Exchange} {x : Request} (took : s.exch.Took y k x) (policy : w.policy = s.policy)
    (freed : PortRecord.freed pin (s.port p) (w.port p)) (follows : (s.withExch y).Follows true (fun _ => True) [] w) :
    s.selectionOf (v.settles ((w.callSelection p).apply p)) p pin := by
  obtain ⟨f, record⟩ := freed
  have image := congrArg PortRecord.image record
  have state : (w.port p).state = (s.port p).state := (congrArg PortRecord.state record :)
  have staged : (w.port p).staged = (s.port p).staged := (congrArg PortRecord.staged record :)
  have pinned := congrArg PortRecord.pin record
  refine ⟨fun i imaged unreleased unbarred => ?_, fun shifting imaged => ?_, fun which => ?_⟩
  · have free : (w.port p).blocked = false := by
      rw [record, PortRecord.blocked, unreleased, unbarred]
      rfl
    have imaged : (w.port p).image = some i := image.trans imaged
    have settled : ∀ L V A b, (w.port p).proposes s.policy p L V A b →
        ((s.port p).state = .base ∨ (s.port p).state = .bound → (v.settles ((w.callSelection p).apply p)).chose p L V A b) ∧
        ((s.port p).state = .claimed → ((v.settles ((w.callSelection p).apply p)).port p).stages L V A ∨
          (v.settles ((w.callSelection p).apply p)).chose p L V A b) := fun L V A b proposes =>
      ⟨fun based => call_chooses policy proposes (by rw [state]; exact based),
        fun claimed => call_settlesOn policy proposes (state.trans claimed)⟩
    refine ⟨fun auto lost which => ?_, fun c auto won => ?_, fun m l hm positive level => ?_⟩
    · have finds : (w.port p).findsNone s.policy p := PortRecord.findsNone_of_winner free imaged (pinned.trans auto) lost
      have based : (w.port p).state = .base ∨ (w.port p).state = .bound ∨ (w.port p).state = .claimed := by rw [state]; exact which
      obtain ⟨rests, terms⟩ := call_rests (pages := true) (n := Config.reportDepth) (v := v) policy finds based
      rw [state, staged] at terms
      refine ⟨rests, terms, took.journals (State.Follows.journals_of_more ((trailing_follows _ _).settles
        ⟨[], (State.served_apply _ p).follows_of ?_⟩) (State.heldIn_all _))⟩
      exact follows.trans (State.follows_callSelection_none (policy ▸ finds) imaged based)
    · exact settled _ _ _ _ (PortRecord.proposes_of_winner free imaged (pinned.trans auto) won)
    · exact settled _ _ _ _ (PortRecord.proposes_of_pin free imaged (pinned.trans hm) positive level)
  · exact call_defers (state.trans shifting) (by rw [image]; exact imaged)
  · have calm : (w.port p).calm := by
      rcases which with asking | faulted | out | bar | none
      · exact .inl (.inr (.inr (.inr (.inl (state.trans asking)))))
      · exact .inl (.inr (.inr (.inr (.inr (.inl (state.trans faulted))))))
      · exact PortRecord.calm_of_blocked (by rw [record, PortRecord.blocked, out]; simp)
      · exact PortRecord.calm_of_blocked (by rw [record, PortRecord.blocked, bar]; simp)
      · exact .inl (.inl (image.trans none))
    have after := call_keeps (pages := true) (n := Config.reportDepth) (v := v) calm
    rw [record] at after
    exact ⟨(congrArg PortRecord.state after :), (congrArg PortRecord.staged after :), (congrArg PortRecord.live after :)⟩

/-- A completed request stays completed through a call for selection and what follows it. -/
theorem slotDone_call {kind : Byte} {code : ResultCode} {data : List Byte} (unheld : w.unheld q.slot) (done : w.slotDone q kind code data) :
    (v.settles ((w.callSelection p).apply p)).slotDone q kind code data :=
  ((trailing_slotDone q kind code data).settles ((trailing_slotDone q kind code data).call w p ⟨unheld, done⟩)).2

theorem core_call (w : State) (p : LinePort) : ((v.settles ((w.callSelection p).apply p)).port p).core = (w.port p).core :=
  (trailing_core p _).settles ((trailing_core p _).call w p rfl)

/-- The state in which an UNPIN calls for selection (R102). -/
def State.unpinned (s : State) (p : LinePort) (k : Fin 8) : State :=
  ((s.setPort p { s.port p with pin := none }).completePort p [.pin] .lost).complete k .ok []

theorem State.port_unpinned (s : State) (p : LinePort) (k : Fin 8) :
    ∃ f, (s.unpinned p k).port p = { s.port p with pin := none, inFlight := f } ∧
      ((s.port p).inFlight.map PortRequest.kind = some .pin → f = none) := by
  obtain ⟨f, completed, -⟩ := (s.setPort p { s.port p with pin := none }).port_completePort p [.pin] .lost
  rw [State.port_setPort_self] at completed
  refine ⟨f, completed, fun kind => ?_⟩
  have idle := (s.setPort p { s.port p with pin := none }).completePort_inFlight p (kinds := [.pin]) .lost fun a ha => by
    rw [State.port_setPort_self] at ha
    rw [show (s.port p).inFlight = some a from ha] at kind
    rw [show a.kind = .pin from Option.some.inj kind]
    rfl
  rw [completed] at idle
  exact idle

theorem State.follows_unpinned {held : Fin 8 → Prop} (s : State) (p : LinePort) (k : Fin 8) (hk : held k) :
    s.Follows true held [] (s.unpinned p k) :=
  ((State.follows_setPort_kept s p _ (by rfl)).trans (State.follows_completePort _ p [.pin] .lost)).trans
    (State.follows_complete _ _ _ fun _ => hk)

/-- An UNPIN leaves its slot DONE, and that of a PIN that was in flight ends with LOST (R102). -/
theorem unpinned_slots {y : Exchange} (took : s.exch.Took y q.slot (postedRequest q 0x04 [])) (unheld : s.unheld q.slot) :
    ((s.withExch y).unpinned p q.slot).unheld q.slot ∧ ((s.withExch y).unpinned p q.slot).slotDone q 0x04 .ok [] ∧
      ∀ a : PortRequest, s.soleRequest p a → a.kind = .pin →
        ((s.withExch y).unpinned p q.slot).unheld a.slot ∧ ((s.withExch y).unpinned p q.slot).answered a.slot .lost := by
  have first := State.follows_setPort_kept (pages := true) (held := fun j => j ≠ q.slot) (s.withExch y) p { s.port p with pin := none } rfl
  have start := first.trans (State.follows_completePort _ p [.pin] .lost)
  have here : (s.withExch y).heldIn fun j => j ≠ q.slot := fun j hj => by
    rw [not_not] at hj
    exact hj ▸ unheld
  have posted := ((start.logs here).req q.slot).trans took.req
  refine ⟨start.stays here q.slot fun ne => ne rfl, State.slotDone_complete posted, fun a sole kind => ?_⟩
  have sole' : ((s.withExch y).setPort p { s.port p with pin := none }).soleRequest p a :=
    State.soleRequest.setPort (s := s.withExch y) sole rfl
  have ended := (sole'.completePort (kinds := [.pin]) (by rw [kind]; rfl) .lost).2
  exact (State.follows_complete (pages := true) (held := fun j => j ≠ a.slot) _ .ok [] fun _ =>
    Ne.symm (unheld.1 p a sole.1)).goes.answered ended

/-- Settles O53. -/
theorem unpinHoldAndResume : Obligations.UnpinHoldAndResume := by
  unfold Obligations.UnpinHoldAndResume
  intro s q p ready line negotiating r selects
  have free : ∀ (named : RequestKind) (y : Exchange), (named = .unpin ∨ named = .hold ∨ named = .resume) →
      (s.withExch y).busy q.port named = false := fun named y which => by rcases which with rfl | rfl | rfl <;> rfl
  refine ⟨fun pinned => ?_, fun unpinned => ?_, ?_, ?_⟩
  · obtain ⟨y, took, e⟩ := exec_forPort (c := .unpin q) rfl ready line (named := .unpin) rfl fun y => free .unpin y (.inl rfl)
    have e : exec (.unpin q) s = .next ((s.withExch y).settles ((((s.withExch y).unpinned p q.slot).callSelection p).apply p)) := by
      rw [e]
      show Host.Outcome.next ((s.withExch y).reqUnpin q.slot q.port) = _
      rw [State.reqUnpin, line]
      dsimp only
      rw [State.reqUnpinPort, if_neg (show ¬ ((s.withExch y).port p).negotiating = false by
        rw [show ((s.withExch y).port p).negotiating = true from negotiating]; simp),
        if_pos (show ((s.withExch y).port p).pinned = true from Option.isSome_iff_ne_none.mpr pinned)]
      rfl
    obtain ⟨unheld, done, ended⟩ := unpinned_slots (p := p) took ready.2.2
    obtain ⟨f, record, gone⟩ := (s.withExch y).port_unpinned p q.slot
    have follows := (s.withExch y).follows_unpinned (held := fun _ => True) p q.slot trivial
    generalize (s.withExch y).unpinned p q.slot = w at e unheld done ended record follows
    have policy : w.policy = s.policy := State.policy_of_fixed follows.fixed
    have core := core_call (v := s.withExch y) w p
    rw [record] at core
    refine ⟨_, e, (congrArg PortRecord.pin core :), slotDone_call unheld done, fun kind => ?_, fun a sole kind => ?_,
      (congrArg PortRecord.held core :), (trailing_policy s.policy).settles ((trailing_policy s.policy).call w p policy), fun freed => ?_,
      fun held => ?_⟩
    · exact (trailing_idle p).settles ((trailing_idle p).call w p (by rw [record]; exact gone kind))
    · exact ((trailing_answered a.slot .lost).settles ((trailing_answered a.slot .lost).call w p (ended a sole kind))).2
    · have freed : (s.port p).held = false := freed
      exact selectionOf_call took policy ⟨f, by rw [record, ← freed]; rfl⟩ follows
    · have after := call_keeps (pages := true) (n := Config.reportDepth) (v := s.withExch y) (w := w) (p := p) (PortRecord.calm_of_blocked (by
        rw [record, PortRecord.blocked, show ((s.withExch y).port p).held = true from held]
        rfl))
      rw [record] at after
      exact ⟨(congrArg PortRecord.state after :), (congrArg PortRecord.staged after :), (congrArg PortRecord.live after :)⟩
  · obtain ⟨y, took, e⟩ := exec_forPort (c := .unpin q) rfl ready line (named := .unpin) rfl fun y => free .unpin y (.inl rfl)
    refine ⟨_, ?_, took.refused (code := .ok) (data := [])⟩
    rw [e]
    show Host.Outcome.next ((s.withExch y).reqUnpin q.slot q.port) = _
    rw [State.reqUnpin, line]
    dsimp only
    rw [State.reqUnpinPort, if_neg (show ¬ ((s.withExch y).port p).negotiating = false by
      rw [show ((s.withExch y).port p).negotiating = true from negotiating]; simp),
      if_neg (show ¬ ((s.withExch y).port p).pinned = true by
        rw [show ((s.withExch y).port p).pinned = (s.port p).pin.isSome from rfl, show (s.port p).pin = none from unpinned]; simp)]
  · obtain ⟨y, took, e⟩ := exec_forPort (c := .hold q) rfl ready line (named := .hold) rfl fun y => free .hold y (.inr (.inl rfl))
    generalize hw : ((s.withExch y).setPort p { s.port p with held := true }).complete q.slot .ok [] = w
    have e : exec (.hold q) s = .next ((s.withExch y).settles (w.apply p)) := by
      rw [e]
      show Host.Outcome.next ((s.withExch y).reqHold q.slot q.port) = _
      rw [State.reqHold, line]
      dsimp only
      rw [State.reqHoldPort, if_pos (show ((s.withExch y).port p).negotiating = true from negotiating), ← hw]
      rfl
    have record : w.port p = { s.port p with held := true } := by
      rw [← hw]
      exact State.port_setPort_self _ p _
    have after : (((s.withExch y).settles (w.apply p)).port p).undeferred = (w.port p).undeferred :=
      settle_calm (PortRecord.calm_of_blocked (by rw [record]; rfl))
    rw [record] at after
    refine ⟨_, e, (congrArg PortRecord.held after :), ?_, (congrArg PortRecord.state after :), (congrArg PortRecord.staged after :),
      (congrArg PortRecord.pin after :)⟩
    refine slotDone_settle ?_ ?_
    · rw [← hw]
      exact State.unheld_of_flights (t := (s.withExch y).setPort p { s.port p with held := true }) ready.2.2
        (fun o => State.setPort_inFlight (s.withExch y) p o rfl) rfl rfl rfl
    · rw [← hw]
      exact State.slotDone_complete (u := (s.withExch y).setPort p { s.port p with held := true }) took.req
  · obtain ⟨y, took, e⟩ := exec_forPort (c := .resume q) rfl ready line (named := .resume) rfl fun y => free .resume y (.inr (.inr rfl))
    have e : exec (.resume q) s = .next ((s.withExch y).reqResumePort q.slot p) := by
      rw [e]
      show Host.Outcome.next ((s.withExch y).reqResume q.slot q.port) = _
      rw [State.reqResume, line]
    rw [State.reqResumePort, if_neg (show ¬ ((s.withExch y).port p).negotiating = false by
      rw [show ((s.withExch y).port p).negotiating = true from negotiating]; simp)] at e
    by_cases held : (s.port p).held = true
    · rw [if_pos (show ((s.withExch y).port p).held = true from held)] at e
      generalize hw : ((s.withExch y).setPort p { s.port p with held := false }).complete q.slot .ok [] = w
      have shape : ((s.withExch y).setPort p { (s.withExch y).port p with held := false }).complete q.slot .ok [] = w := hw
      rw [State.portEvent, shape] at e
      have record : w.port p = { s.port p with held := false } := by
        rw [← hw]
        exact State.port_setPort_self _ p _
      have unheld : w.unheld q.slot := by
        rw [← hw]
        exact State.unheld_of_flights (t := (s.withExch y).setPort p { s.port p with held := false }) ready.2.2
          (fun o => State.setPort_inFlight (s.withExch y) p o rfl) rfl rfl rfl
      have done : w.slotDone q 0x06 .ok [] := by
        rw [← hw]
        exact State.slotDone_complete (u := (s.withExch y).setPort p { s.port p with held := false }) took.req
      have follows : (s.withExch y).Follows true (fun _ => True) [] w := by
        rw [← hw]
        exact (State.follows_setPort_kept _ p _ (by rfl)).trans (State.follows_complete _ _ _ fun _ => trivial)
      have core := core_call (v := s.withExch y) w p
      rw [record] at core
      refine ⟨_, e, (congrArg PortRecord.held core :), slotDone_call unheld done, (congrArg PortRecord.pin core :), (fun h => ?_), fun _ => ?_⟩
      · rw [show (s.port p).held = false from h] at held
        cases held
      · exact selectionOf_call took (State.policy_of_fixed follows.fixed) ⟨(s.port p).inFlight, record⟩ follows
    · rw [if_neg (show ¬ ((s.withExch y).port p).held = true from held)] at e
      obtain ⟨done, alone, rest⟩ := took.refused (code := .ok) (data := [])
      rw [Bool.not_eq_true] at held
      exact ⟨_, e, held, done, rfl, fun _ => ⟨alone, rest⟩, fun h => absurd (held.symm.trans h) (by simp)⟩

end

end Sys2Proof.Machine
end

/-! # PIN (R63, R80, R97, R98) -/

section
namespace Sys2Proof.Machine

section
variable {s t u v w : State} {p o : LinePort} {q : Posting} {r : PortRecord} {n : Nat} {k : Fin 8} {pages : Bool}

/-! ### A PIN in flight (R80) -/

/-- A PIN in flight on a port alone in its slot, or completed with OK. -/
def State.pinOpen (p : LinePort) (k : Fin 8) (u : State) : Prop :=
  (u.soleRequest p ⟨.pin, k⟩ ∧ u.slotTaken k) ∨ ((u.port p).inFlight = none ∧ u.unheld k ∧ u.answered k .ok)

theorem State.soleRequest_iff {a : PortRequest} : s.soleRequest p a ↔ (s.port p).inFlight = some a ∧
    (∀ o b, o ≠ p → (s.port o).inFlight = some b → b.slot ≠ a.slot) ∧ s.barrel.inFlight ≠ some a.slot ∧
      (∀ b, s.path.inFlight = some b → b.slot ≠ a.slot) ∧ a.slot ∉ s.meas.singles := by
  constructor
  · rintro ⟨flight, ports, barrel, path, singles⟩
    exact ⟨flight, fun o b ne his => ports o b ((congrArg PortRecord.inFlight (State.port_setPort_of_ne s _ ne)).trans his), barrel, path,
      singles⟩
  · rintro ⟨flight, ports, barrel, path, singles⟩
    refine ⟨flight, fun o b his => ?_, barrel, path, singles⟩
    have his : ((s.setPort p { s.port p with inFlight := none }).port o).inFlight = some b := his
    by_cases here : o = p
    · subst here
      rw [State.port_setPort_self] at his
      cases his
    · rw [State.port_setPort_of_ne s _ here] at his
      exact ports o b here his

/-- A PIN in flight goes on where its port's request stays and the others' may only end. -/
theorem State.pinOpen_of_waits (sole : u.soleRequest p ⟨.pin, k⟩) (taken : u.slotTaken k) (off : State.offSlot k u v)
    (flight : (v.port p).inFlight = (u.port p).inFlight)
    (ports : ∀ o, o ≠ p → (v.port o).inFlight = (u.port o).inFlight ∨ (v.port o).inFlight = none)
    (barrel : v.barrel.inFlight = u.barrel.inFlight)
    (path : v.path.inFlight = u.path.inFlight ∨ v.path.inFlight = none) (singles : v.meas.singles = u.meas.singles) :
    v.pinOpen p k := by
  obtain ⟨mine, others, bar, pth, single⟩ := State.soleRequest_iff.mp sole
  refine .inl ⟨State.soleRequest_iff.mpr ⟨flight.trans mine, fun o b ne his => ?_, by rwa [barrel], fun b his => ?_, by rwa [singles]⟩,
    taken.of_offSlot off⟩
  · rcases ports o ne with same | gone
    · exact others o b ne (same.symm.trans his)
    · rw [gone] at his
      cases his
  · rcases path with same | gone
    · exact pth b (same.symm.trans his)
    · rw [gone] at his
      cases his

/-- A change of records alone leaves a PIN in flight as it is. -/
theorem State.pinOpen.of_records (h : u.pinOpen p k) (exch : v.exch = u.exch) (flights : ∀ o, (v.port o).inFlight = (u.port o).inFlight)
    (barrel : v.barrel.inFlight = u.barrel.inFlight) (path : v.path.inFlight = u.path.inFlight)
    (singles : v.meas.singles = u.meas.singles) : v.pinOpen p k := by
  rcases h with ⟨sole, taken⟩ | ⟨idle, unheld, answered⟩
  · exact State.pinOpen_of_waits sole taken (State.offSlot_of_exch exch) (flights p) (fun o _ => .inl (flights o)) barrel (.inl path) singles
  · refine .inr ⟨(flights p).trans idle, State.unheld_of_flights unheld flights barrel path singles, ?_⟩
    unfold State.answered at answered ⊢
    rwa [exch]

theorem State.pinOpen.setPort (h : u.pinOpen p k) (same : r.inFlight = (u.port o).inFlight) : (u.setPort o r).pinOpen p k :=
  h.of_records rfl (fun a => u.setPort_inFlight o a same) rfl rfl rfl

/-- A PIN completed stays completed. -/
theorem State.pinOpen_of_goes (idle : (v.port p).inFlight = none) (goes : u.Goes true (fun j => j ≠ k) v)
    (done : u.unheld k ∧ u.answered k .ok) : v.pinOpen p k :=
  .inr ⟨idle, goes.answered done⟩

/-- A completion with OK of the port's requests of some kinds, or with another code of kinds without PIN. -/
theorem State.pinOpen.completePort (h : u.pinOpen p k) {kinds : List PortRequestKind} {c : ResultCode}
    (fits : kinds.contains .pin = true → c = .ok) : (u.completePort p kinds c).pinOpen p k := by
  rcases h with ⟨sole, taken⟩ | ⟨idle, unheld, answered⟩
  · by_cases listed : kinds.contains .pin = true
    · obtain rfl := fits listed
      exact .inr (sole.completePort listed .ok)
    · have stays : u.completePort p kinds c = u := by
        rcases State.completePort_cases u p kinds c with ⟨a, his, contains, -⟩ | ⟨-, e⟩
        · rw [sole.1] at his
          cases his
          exact absurd contains listed
        · exact e
      rw [stays]
      exact .inl ⟨sole, taken⟩
  · refine State.pinOpen_of_goes ?_ (State.follows_completePort u p kinds c).goes ⟨unheld, answered⟩
    obtain ⟨f, record, kept⟩ := u.port_completePort p kinds c
    rw [record]
    exact kept.elim (fun same => same.trans idle) id

theorem State.pinOpen.applyOutcome (h : u.pinOpen p k) (out : Outcome) : (u.applyOutcome p out).pinOpen p k := by
  cases out with
  | claim c => exact h.setPort (by rfl)
  | noClaim shared =>
    have rested : ((u.setPort p ((u.port p).setShared shared)).toRest p).pinOpen p k := (h.setPort (by rfl)).setPort (by rfl)
    have refreshed := rested.completePort (kinds := [.refresh]) (c := .ok) fun _ => rfl
    unfold State.applyOutcome
    dsimp only
    split
    · exact refreshed.completePort fun _ => rfl
    · exact refreshed
  | noCandidate =>
    have rested : (u.toRest p).pinOpen p k := h.setPort (by rfl)
    refine State.pinOpen.completePort (u := (u.toRest p).journal _ _ _) ?_ fun listed => by cases listed
    rcases rested with ⟨sole, taken⟩ | ⟨idle, done⟩
    · exact .inl ⟨sole, taken.of_offSlot (State.offSlot_journal _ _ _ _)⟩
    · exact State.pinOpen_of_goes idle (State.follows_journal _ _ _ _).goes done

theorem State.pinOpen.callSelection (h : u.pinOpen p k) : (u.callSelection p).pinOpen p k := by
  have selected : (u.select p).1.pinOpen p k := by
    rw [State.select_state]
    exact (h.setPort (o := p) (r := rescore u.policy p (u.port p)) rfl).of_records rfl (fun _ => rfl) rfl rfl rfl
  have retired : ((u.select p).1.setPort p ((u.select p).1.port p).retire).pinOpen p k := selected.setPort (PortRecord.retire_inFlight _)
  unfold State.callSelection
  dsimp only
  split
  · exact h
  · split
    · exact h.setPort (by rfl)
    · split
      · exact h
      · exact selected.applyOutcome _
    · split
      · exact h
      · exact selected.applyOutcome _
    · split
      · exact h
      · split
        · split
          · exact selected
          · exact retired.applyOutcome _
        · exact retired.applyOutcome _
    all_goals exact h

theorem trailing_pinOpen (p : LinePort) (k : Fin 8) : Trailing (State.pinOpen p k) where
  evaluate u h := by
    rcases h with ⟨sole, taken⟩ | ⟨idle, done⟩
    · obtain ⟨-, -, -, path, -⟩ := State.soleRequest_iff.mp sole
      exact State.pinOpen_of_waits sole taken (State.offSlot_evaluate u path) (by rw [State.port, State.evaluate_ports]; rfl)
        (fun o _ => .inl (by rw [State.port, State.evaluate_ports]; rfl)) (by rw [State.evaluate_barrel]) u.evaluate_inFlight
        (by rw [State.evaluate_meas])
    · exact State.pinOpen_of_goes (by rw [State.port, State.evaluate_ports]; exact idle) (State.goes_evaluate u) done
  droop u x h := h.of_records rfl (fun _ => rfl) rfl rfl rfl
  budget u h := h.of_records rfl (fun _ => rfl) rfl rfl rfl
  left u h := h.of_records rfl (fun _ => rfl) rfl rfl rfl
  prospect u x h := h.of_records rfl (fun _ => rfl) rfl rfl rfl
  page u x h := by
    rcases h with ⟨sole, taken⟩ | ⟨idle, done⟩
    · exact .inl ⟨sole, taken.of_offSlot (u.offSlot_rewritePage x)⟩
    · exact State.pinOpen_of_goes idle (State.follows_rewritePage u x).goes done
  call u o h := by
    have served := State.served_apply (u.callSelection o) o
    suffices called : (u.callSelection o).pinOpen p k from
      called.of_records served.exch (fun a => served.field a PortRecord.inFlight fun _ => rfl) (congrArg Barrel.inFlight served.lined.barrel)
        (congrArg Path.inFlight served.lined.path) (congrArg Measurement.singles served.lined.meas)
    by_cases here : o = p
    · subst here
      exact h.callSelection
    · have same := State.othersKept_callSelection u p (Ne.symm here)
      rcases h with ⟨sole, taken⟩ | ⟨idle, done⟩
      · obtain ⟨-, others, -⟩ := State.soleRequest_iff.mp sole
        refine State.pinOpen_of_waits sole taken (State.offSlot_callSelection u o fun a his => others o a here his) (by rw [same])
          (fun a ne => ?_) (by rw [State.callSelection_barrel]) (.inl (by rw [State.callSelection_path])) (by rw [State.callSelection_meas])
        by_cases that : a = o
        · subst that
          exact (u.port_callSelection a).inFlight
        · exact .inl (by rw [State.othersKept_callSelection u a that])
      · exact State.pinOpen_of_goes (by rw [same]; exact idle) (State.goes_callSelection u o) done

/-! ### The request (R97, R98) -/

theorem clampPin_ok {g : Policy} {i : Image} {index volts limit : Nat} {l : Level} (positive : index ≠ 0) (level : i.levels[index - 1]? = some l)
    (usable : l.usable = true) (meets : max l.lo g.windowLo ≤ min l.hi g.windowHi) :
    clampPin g p i index volts limit = .ok ⟨index, min (min l.hi g.windowHi) (max (max l.lo g.windowLo) (volts / 100 * 100)),
      floor50 (min (usableAmps g (.line p) l) (max 50 limit))⟩ := by
  have level : i.level index = some l := (if_neg positive).trans level
  simp only [clampPin, level, usable, Bool.true_eq_false, if_false, Nat.not_lt.mpr meets]

/-- A PIN that is accepted stores its pin and calls for selection (R80). -/
theorem exec_pin_accepted {level : Byte} {volts limit : Half} {i : Image} {m : Pin} (ready : s.slotReady q.slot)
    (line : linePortOf q.port = some p) (negotiating : (s.port p).negotiating = true) (sound : (s.port p).state ≠ .faulted)
    (served : (s.port p).released = false) (idle : (s.port p).inFlight = none) (image : (s.port p).image = some i)
    (clamped : clampPin s.policy p i level.toNat volts.toNat limit.toNat = .ok m) :
    ∃ y x, s.exch.Took y q.slot x ∧
      exec (.pin q level volts limit) s = .next ((s.withExch y).portEvent p ((s.withExch y).portPin p q.slot m)) := by
  obtain ⟨y, took, e⟩ := exec_forPort (c := .pin q level volts limit) rfl ready line (named := .pin) rfl (State.portBusy_line line idle)
  refine ⟨y, _, took, e.trans ?_⟩
  generalize hr : postedRequest q kindPin ([level, 0] ++ le2 volts.toNat ++ le2 limit.toNat) = r
  have port : r.port = q.port := hr ▸ rfl
  have first : r.arg 6 = level.toNat := hr ▸ rfl
  have second : r.arg2 8 = volts.toNat := hr ▸ postedRequest_arg2 q kindPin level 0 volts (le2 limit.toNat)
  have third : r.arg2 10 = limit.toNat := hr ▸ postedRequest_arg2_next q kindPin level 0 volts limit
  show Host.Outcome.next ((s.withExch y).reqPin q.slot r) = _
  rw [State.reqPin, port, line]
  dsimp only
  rw [State.reqPinPort, if_neg (show ¬ ((s.withExch y).port p).negotiating = false by
      rw [show ((s.withExch y).port p).negotiating = true from negotiating]; simp),
    if_neg (show ¬ (((s.withExch y).port p).state = .faulted ∨ ((s.withExch y).port p).released = true) by
      rw [show ((s.withExch y).port p).released = false from served]
      exact fun h => h.elim sound (by simp)), show ((s.withExch y).port p).image = some i from image]
  dsimp only
  rw [first, second, third, show (s.withExch y).policy = s.policy from rfl, clamped]

/-- Settles O52. -/
theorem pinIsClampedAndStored : Obligations.PinIsClampedAndStored := by
  unfold Obligations.PinIsClampedAndStored
  intro s q level volts limit p i l ready line negotiating sound served idle image positive at_ usable lo hi amps meets
  have clamped := clampPin_ok (p := p) (g := s.policy) (volts := volts.toNat) (limit := limit.toNat) positive at_ usable meets
  have amps_eq : floor50 (min (usableAmps s.policy (.line p) l) (max 50 limit.toNat)) = min amps (max 50 limit.toNat) / 50 * 50 := rfl
  rw [amps_eq] at clamped
  obtain ⟨y, x, took, e⟩ := exec_pin_accepted ready line negotiating sound served idle image clamped
  generalize hm : (⟨level.toNat, min (min l.hi s.policy.windowHi) (max (max l.lo s.policy.windowLo) (volts.toNat / 100 * 100)),
    min amps (max 50 limit.toNat) / 50 * 50⟩ : Pin) = m at e
  generalize hw : (s.withExch y).setPort p { s.port p with pin := some m, inFlight := some ⟨.pin, q.slot⟩ } = w
  have e : exec (.pin q level volts limit) s = .next ((s.withExch y).settles ((w.callSelection p).apply p)) := by
    rw [e, ← hw]
    rfl
  have record : w.port p = { s.port p with pin := some m, inFlight := some ⟨.pin, q.slot⟩ } := by
    rw [← hw]
    exact State.port_setPort_self _ p _
  have others : ∀ o, o ≠ p → (w.port o).inFlight = (s.port o).inFlight := fun o ne => by
    rw [← hw, State.port_setPort_of_ne _ _ ne]
    rfl
  have taken : w.slotTaken q.slot := State.slotTaken_of (x := s.exch) (by rw [← hw]; exact took)
  obtain ⟨ports, barrel, path, singles⟩ := ready.2.2
  have sole : w.soleRequest p ⟨.pin, q.slot⟩ := State.soleRequest_iff.mpr ⟨by rw [record],
    fun o b ne his => ports o b ((others o ne).symm.trans his), by rw [← hw]; exact barrel, by rw [← hw]; exact path, by rw [← hw]; exact singles⟩
  have core := core_call (v := s.withExch y) w p
  rw [record] at core
  have open_ := (trailing_pinOpen p q.slot).settles (s := s.withExch y) ((trailing_pinOpen p q.slot).call w p (.inl ⟨sole, taken⟩))
  have calm : ∀ u : State, u.exch = w.exch → u.path = w.path → (u.port p).calm → (∀ o, o ≠ p → u.port o = w.port o) →
      ((s.withExch y).settles (u.apply p)).slotTaken q.slot := fun u exch path calm ports =>
    slotTaken_settle took ready.2.2 (exch.trans (by rw [← hw]; rfl)) (by rw [path, ← hw]; rfl) calm fun o ne => by
      rw [ports o ne]
      exact others o ne
  refine ⟨_, e, (congrArg PortRecord.pin core :).trans (congrArg some hm.symm), ?_, fun asking => ?_, fun shifting => ?_,
    (congrArg PortRecord.held core :), (congrArg PortRecord.barred core :)⟩
  · rcases open_ with ⟨mine, waits⟩ | ⟨none, -, done, -, result⟩
    · exact .inl ⟨mine.1, waits⟩
    · exact .inr ⟨none, done, result⟩
  · have still : (w.port p).unmoved := by
      rw [record]
      exact .inr (.inr (.inr (.inl asking)))
    have after := call_keeps (pages := true) (n := Config.reportDepth) (v := s.withExch y) (.inl still)
    rw [record] at after
    refine ⟨(congrArg PortRecord.state after :).trans asking, ?_⟩
    rw [State.callSelection_unmoved still]
    exact calm w rfl rfl (.inl still) fun _ _ => rfl
  · have imaged : (w.port p).image ≠ none := by
      rw [record, show (s.port p).image = some i from image]
      simp
    have state : (w.port p).state = .shifting := by rw [record]; exact shifting
    obtain ⟨state', deferred⟩ := call_defers (pages := true) (n := Config.reportDepth) (v := s.withExch y) state imaged
    refine ⟨state', deferred, ?_⟩
    rw [State.callSelection_defers state imaged]
    exact calm _ rfl rfl (by rw [State.port_setPort_self]; exact .inr state) fun o ne => State.port_setPort_of_ne _ _ ne

end

end Sys2Proof.Machine
end

/-! # A TENDER on the wire, and the choice that a lease's end leaves be (R26 to R28, R48) -/

section
namespace Sys2Proof.Machine

section
variable {s t u v w : State} {p o : LinePort} {q : Policy} {r : PortRecord} {e : EngineId} {f : OutFrame} {L V A : Nat} {b : Bool}

/-! ### The bytes of a TENDER (R26 to R28) -/

theorem decodeLevel_eq (a : Byte × Byte × Byte × Byte) : decodeLevel a.1 a.2.1 a.2.2.1 a.2.2.2 = levelOf a := by
  obtain ⟨flags, lo, hi, amps⟩ := a
  have usable : usableCodes (if flags.getLsbD 0 then LevelForm.span else LevelForm.fixed) lo.toNat hi.toNat amps.toNat =
      decide (50 ≤ lo.toNat ∧ lo.toNat ≤ hi.toNat ∧ hi.toNat ≤ 240 ∧ 1 ≤ amps.toNat ∧ amps.toNat ≤ 120 ∧
        (flags.getLsbD 0 = true ∨ hi = lo)) := by
    rw [Bool.eq_iff_iff]
    cases flags.getLsbD 0 <;> simp [usableCodes, ← BitVec.toNat_inj] <;> omega
  simp only [decodeLevel, levelOf, usable]

theorem decodeLevels_entries (entries : List (Byte × Byte × Byte × Byte)) :
    decodeLevels (entries.flatMap fun a => [a.1, a.2.1, a.2.2.1, a.2.2.2]) = entries.map levelOf := by
  induction entries with
  | nil => rfl
  | cons a l ih =>
    rw [List.flatMap_cons, List.map_cons, ← ih, ← decodeLevel_eq]
    rfl

theorem length_entries (entries : List (Byte × Byte × Byte × Byte)) :
    (entries.flatMap fun a => [a.1, a.2.1, a.2.2.1, a.2.2.2]).length = 4 * entries.length := by
  induction entries with
  | nil => rfl
  | cons a l ih =>
    rw [List.flatMap_cons, List.length_append, ih]
    simp only [List.length_cons, List.length_nil]
    omega

/-- A TENDER of one to six levels is accepted with its class and its levels. -/
theorem acceptFrame_tender {tag : Nat} {cls : Byte} {entries : List (Byte × Byte × Byte × Byte)} (positive : 0 < entries.length)
    (six : entries.length ≤ 6) (small : tag < 8) :
    acceptFrame (tenderBytes tag cls entries) = some (tag, .tender (decodeClass cls) (entries.map levelOf)) := by
  have length := length_entries entries
  have levels := decodeLevels_entries entries
  rw [tenderBytes]
  generalize (entries.flatMap fun a => [a.1, a.2.1, a.2.2.1, a.2.2.2]) = l at length levels
  have count : 1 + 4 * entries.length = (cls :: l).length := by rw [List.length_cons, length]; omega
  rw [count]
  refine acceptFrame_kind (kind := 8) (payload := cls :: l) (by decide) small (by rw [← count]; omega) ?_
  rw [decodePayload, if_pos rfl, if_pos (by omega), levels]

theorem State.deliver_tender (s : State) (p : LinePort) (tag : Nat) (cls : FeederClass) (levels : List Level) :
    s.deliver p tag (.tender cls levels) =
      if (s.port p).negotiating = true ∧ (tag = 7 ∨ (s.port p).askTag = some tag) then
        s.capture p ⟨cls, tag, s.time, levels⟩ (decide (tag ≠ 7))
      else s.countStaleFrame p := by
  simp only [State.deliver, Bool.and_eq_true, Bool.or_eq_true, decide_eq_true_eq]

/-! ### A frame in the slot through the end of a lease (R38, R48) -/

theorem State.sends_of_aside (h : s.sends p f) (aside : State.aside p s t) : t.sends p f := by
  rcases h with slot | ⟨d, tag, lease, sending, tx⟩
  · exact .inl (by rw [aside.port, slot])
  · have same := aside.engine d (by rw [sending]; simp)
    exact .inr ⟨d, tag, by rw [same, lease], by rw [same, sending], by rw [same, tx]⟩

/-- The queue is served on: the frame stays in the slot, or the engine sends it. -/
theorem State.sends_giveOut {l : List QueueEntry} (slot : (s.port p).slot = some f) : (giveOut e l s).sends p f := by
  induction l generalizing s with
  | nil => exact .inl slot
  | cons a l ih =>
    rw [giveOut]
    split
    next free =>
      by_cases here : a.port = p
      · have sends : ((s.withQueue l).beginLease e a.port a.cls).sends p f := by
          rw [here]
          exact State.sends_beginLease (s := s.withQueue l) slot e a.cls
        rcases (s.withQueue l).beginLease_cases e a.port a.cls with ⟨-, empty, -⟩ | ⟨-, busy, -⟩
        · rw [here] at empty
          exact absurd (slot.symm.trans empty) (by simp)
        · rw [giveOut_busy busy]
          exact sends
      · have aside := State.aside_beginLease (s := s.withQueue l) here free a.cls
        exact ih (by rw [aside.port]; exact slot)
    · exact .inl slot

theorem State.sends_endLeaseOf (slot : (s.port p).slot = some f) (o : LinePort) : (s.endLeaseOf o).sends p f := by
  unfold State.endLeaseOf
  split
  next d _ => exact State.sends_apply (State.sends_giveOut (s := s.setEngine d Engine.freed) slot) o
  · exact .inl slot

/-! ### What a selection has come to through the end of a lease -/

/-- A record that has chosen is on the way: the engine is given on, and all that follows leaves the choice be. -/
theorem settle_served_chosen {n : Nat} {pages : Bool} (policy : w.policy = q) (proposes : (w.port p).proposes q p L V A b)
    (chooses : (w.port p).chooses q L V A b) : (settle pages n v (w.endLeaseOf p)).chose p L V A b := by
  have served := State.served_endLeaseOf w p
  refine ((trailing_chosen q p L V A b).settle (s := v) (t := w.endLeaseOf p) n ⟨served.policy.trans policy, ?_, ?_⟩).2.2
  · exact PortRecord.proposes_of_core (PortRecord.core_of_sansEngine (served.port p)) proposes
  · obtain ⟨primary, which⟩ := chooses
    refine State.chose_iff.mpr ⟨_, by rw [served.policy, policy]; exact claimOperating_cases q primary A, ?_⟩
    rw [served.field p PortRecord.state fun _ => rfl, served.field p PortRecord.staged fun _ => rfl,
      served.field p PortRecord.live fun _ => rfl]
    exact which.imp (fun ⟨state, slot, staged⟩ => ⟨state, State.sends_endLeaseOf slot p, staged⟩) id

theorem settle_served_restsOn {n : Nat} {pages : Bool} (policy : w.policy = q) (finds : (w.port p).findsNone q p)
    (rests : (w.port p).state = restingOn (w.port p).live) :
    ((settle pages n v (w.endLeaseOf p)).port p).state = restingOn ((settle pages n v (w.endLeaseOf p)).port p).live := by
  have served := State.served_endLeaseOf w p
  refine ((trailing_restsOn q p (w.port p).staged).settle (s := v) (t := w.endLeaseOf p) n ⟨served.policy.trans policy, ?_, ?_, ?_⟩).2.2.1
  · exact PortRecord.findsNone_of_core (PortRecord.core_of_sansEngine (served.port p)) finds
  · rw [served.field p PortRecord.state fun _ => rfl, served.field p PortRecord.live fun _ => rfl]
    exact rests
  · exact served.field p PortRecord.staged fun _ => rfl

end

end Sys2Proof.Machine
end

/-! # The steps of a capture before its selection (R60, R61, R71, R72, R100) -/

section
namespace Sys2Proof.Machine

section
variable {s t u v w : State} {p o : LinePort} {q : Policy} {r : PortRecord} {i : Image} {pages : Bool} {held : Fin 8 → Prop}
  {c k : Contract} {m : Pin} {l : Level} {x : LapseTarget}

/-! ### The image and the end of the ask (R60 steps 1 to 4, R61) -/

/-- The record that has taken an image. -/
def PortRecord.imaged (i : Image) (r : PortRecord) : PortRecord := { r with image := some i, silent := false, barred := false }

/-- The record whose ask, if one is out, has ended. -/
def PortRecord.asked (r : PortRecord) : PortRecord := if r.state = .asking then r.endAsk else r

theorem PortRecord.asked_eq (r : PortRecord) : ∃ f timer tag, r.asked = { r with slot := f, timer := timer, askTag := tag } := by
  unfold PortRecord.asked PortRecord.endAsk PortRecord.withdrawAsk
  split
  · split <;> exact ⟨_, _, _, rfl⟩
  · exact ⟨_, _, _, rfl⟩

def State.asked (s : State) (p : LinePort) : State := if (s.port p).state = .asking then s.setPort p (s.port p).endAsk else s

theorem State.port_asked (s : State) (p : LinePort) : (s.asked p).port p = (s.port p).asked := by
  unfold State.asked PortRecord.asked
  split
  · exact State.port_setPort_self _ _ _
  · rfl

theorem State.follows_asked (s : State) (p : LinePort) : s.Follows pages held [] (s.asked p) := by
  unfold State.asked
  split
  · refine State.follows_setPort_kept _ _ _ ?_
    unfold PortRecord.endAsk PortRecord.withdrawAsk
    split <;> rfl
  · exact .refl s

theorem State.port_storeImage (s : State) (p : LinePort) (i : Image) (answer : Bool) :
    (s.storeImage p i answer).port p = (s.port p).imaged i := State.port_setPort_self _ _ _

/-! ### Coverage (R71, R72) -/

/-- The contract that a capture checks (R71). -/
def PortRecord.checked (r : PortRecord) : Option (LapseTarget × Contract) :=
  match r.state with
  | .asking => (r.live.filter Contract.negotiated).map (.live, ·)
  | .claimed => (r.live.filter Contract.negotiated).map (.live, ·)
  | .bound => (r.live.filter Contract.negotiated).map (.live, ·)
  | .shifting => (r.staged.filter Contract.negotiated).map (.staged, ·)
  | _ => none

/-- A contract narrowed to the amps that carry it (R72). -/
def Contract.narrow (c : Contract) (a : Nat) : Contract := { c with limit := a, operating := min c.operating a, narrowed := true }

/-- The record after the check of a contract (R71, R72). -/
def PortRecord.coveredBy (i : Image) (x : LapseTarget) (c : Contract) (r : PortRecord) : PortRecord :=
  if containingAmps i c.volts = [] then { r with lapsing := some x, lapseTimer := true }
  else if c.limit ≤ largest (containingAmps i c.volts) then r.cancelLapse x
  else (r.setContract x (c.narrow (largest (containingAmps i c.volts)))).cancelLapse x

/-- What the check of a contract journals. -/
def coverRecords (p : LinePort) (i : Image) (x : LapseTarget) (c : Contract) : List (Byte × Byte × List Byte) :=
  if containingAmps i c.volts = [] then [(0x07, lineByte p, [x.code, 1] ++ le2 c.limit)]
  else if c.limit ≤ largest (containingAmps i c.volts) then []
  else [(0x07, lineByte p, [x.code, 0] ++ le2 (largest (containingAmps i c.volts)))]

theorem State.port_coverContract (s : State) (p : LinePort) (i : Image) (x : LapseTarget) (c : Contract) :
    (s.coverContract p i x c).port p = (s.port p).coveredBy i x c := by
  unfold State.coverContract PortRecord.coveredBy
  dsimp only
  split
  · exact State.port_setPort_self _ _ _
  · split <;> exact State.port_setPort_self _ _ _

theorem State.follows_coverContract (s : State) (p : LinePort) (i : Image) (x : LapseTarget) (c : Contract) :
    s.Follows pages held (coverRecords p i x c) (s.coverContract p i x c) := by
  unfold State.coverContract coverRecords
  dsimp only
  split
  · exact (State.follows_setPort_kept s p _ (by rfl)).trans (State.follows_journal _ _ _ _)
  · split
    · exact State.follows_setPort_kept s p _ (PortRecord.cancelLapse_inFlight _ _)
    · exact (State.follows_setPort_kept s p _ (by
        rw [PortRecord.cancelLapse_inFlight, PortRecord.setContract_inFlight])).trans (State.follows_journal _ _ _ _)

theorem State.coverage_eq (s : State) (p : LinePort) (i : Image) :
    s.coverage p i = match (s.port p).checked with
      | some a => s.coverContract p i a.1 a.2
      | none => s := by
  have one : ∀ (x : LapseTarget) (k : Option Contract),
      (match k with
        | some c => if c.negotiated then s.coverContract p i x c else s
        | none => s) = match (k.filter Contract.negotiated).map (x, ·) with
      | some a => s.coverContract p i a.1 a.2
      | none => s := by
    intro x k
    cases k with
    | none => rfl
    | some c => cases h : c.negotiated <;> simp [Option.filter, h]
  unfold State.coverage PortRecord.checked
  dsimp only
  cases (s.port p).state with
  | asking => exact one _ _
  | claimed => exact one _ _
  | bound => exact one _ _
  | shifting => exact one _ _
  | empty => rfl
  | settling => rfl
  | base => rfl
  | faulted => rfl

/-- The record after the coverage check. -/
def PortRecord.covered (i : Image) (r : PortRecord) : PortRecord :=
  match r.checked with
  | some a => r.coveredBy i a.1 a.2
  | none => r

/-- What the coverage check journals. -/
def PortRecord.coverRecords (p : LinePort) (i : Image) (r : PortRecord) : List (Byte × Byte × List Byte) :=
  match r.checked with
  | some a => Sys2Proof.Machine.coverRecords p i a.1 a.2
  | none => []

theorem State.port_coverage (s : State) (p : LinePort) (i : Image) : (s.coverage p i).port p = (s.port p).covered i := by
  rw [State.coverage_eq, PortRecord.covered]
  cases (s.port p).checked with
  | none => rfl
  | some a => exact State.port_coverContract s p i a.1 a.2

theorem State.follows_coverage (s : State) (p : LinePort) (i : Image) :
    s.Follows pages held ((s.port p).coverRecords p i) (s.coverage p i) := by
  rw [State.coverage_eq, PortRecord.coverRecords]
  cases (s.port p).checked with
  | none => exact .refl s
  | some a => exact State.follows_coverContract s p i a.1 a.2

/-- The check bears on the contracts and the lapse alone. -/
theorem PortRecord.cancelLapse_eq (r : PortRecord) (x : LapseTarget) :
    ∃ lapsing timer, r.cancelLapse x = { r with lapsing := lapsing, lapseTimer := timer } := by
  unfold PortRecord.cancelLapse
  split <;> exact ⟨_, _, rfl⟩

theorem PortRecord.setContract_eq (r : PortRecord) (x : LapseTarget) (c : Contract) :
    ∃ live staged fault, r.setContract x c = { r with live := live, staged := staged, pathFault := fault } := by
  cases x <;> exact ⟨_, _, _, rfl⟩

theorem PortRecord.covered_eq (i : Image) (r : PortRecord) : ∃ live staged fault lapsing timer,
    r.covered i = { r with live := live, staged := staged, pathFault := fault, lapsing := lapsing, lapseTimer := timer } := by
  unfold PortRecord.covered
  split
  next a _ =>
    unfold PortRecord.coveredBy
    split
    · exact ⟨_, _, _, _, _, rfl⟩
    · split
      · obtain ⟨lapsing, timer, e⟩ := r.cancelLapse_eq a.1
        exact ⟨_, _, _, lapsing, timer, e⟩
      · obtain ⟨live, staged, fault, e⟩ := r.setContract_eq a.1 (a.2.narrow (largest (containingAmps i a.2.volts)))
        obtain ⟨lapsing, timer, e'⟩ := (r.setContract a.1 (a.2.narrow (largest (containingAmps i a.2.volts)))).cancelLapse_eq a.1
        exact ⟨live, staged, fault, lapsing, timer, by rw [e', e]⟩
  · exact ⟨_, _, _, _, _, rfl⟩

/-! ### The pin (R100) -/

/-- The pin after its re-check against an image. -/
def Pin.recheck (q : Policy) (p : LinePort) (i : Image) (m : Pin) : Option Pin :=
  if pinVoid i m = none then some (lowerPin q p i m) else none

/-- What the re-check of a pin journals. -/
def Pin.records (p : LinePort) (i : Image) (m : Pin) : List (Byte × Byte × List Byte) :=
  match pinVoid i m with
  | some why => [(0x10, lineByte p, [byte m.level, why.code] ++ le2 m.volts ++ le2 m.limit)]
  | none => []

/-- The record after the re-check of its pin. -/
def PortRecord.repinned (q : Policy) (p : LinePort) (i : Image) (r : PortRecord) : PortRecord := { r with pin := r.pin.bind (Pin.recheck q p i) }

def PortRecord.pinRecords (p : LinePort) (i : Image) (r : PortRecord) : List (Byte × Byte × List Byte) :=
  match r.pin with
  | some m => m.records p i
  | none => []

theorem State.port_recheckPin (s : State) (p : LinePort) (i : Image) :
    ∃ f, (s.recheckPin p i).port p = { (s.port p).repinned s.policy p i with inFlight := f } := by
  unfold State.recheckPin
  split
  next none =>
    refine ⟨(s.port p).inFlight, ?_⟩
    simp only [PortRecord.repinned, none, Option.bind_none]
    rw [← none]
  next m pin =>
    split
    next why void =>
      obtain ⟨f, e, -⟩ := ((s.setPort p { s.port p with pin := none }).journal 0x10 (lineByte p)
        ([byte m.level, why.code] ++ le2 m.volts ++ le2 m.limit)).port_completePort p [.pin] .lost
      refine ⟨f, e.trans ?_⟩
      rw [show ((s.setPort p { s.port p with pin := none }).journal 0x10 (lineByte p)
        ([byte m.level, why.code] ++ le2 m.volts ++ le2 m.limit)).port p = { s.port p with pin := none } from State.port_setPort_self _ _ _]
      simp [PortRecord.repinned, pin, Pin.recheck, void]
    next void =>
      refine ⟨(s.port p).inFlight, (State.port_setPort_self _ _ _).trans ?_⟩
      simp [PortRecord.repinned, pin, Pin.recheck, void]

theorem State.follows_recheckPin (s : State) (p : LinePort) (i : Image) :
    s.Follows pages held ((s.port p).pinRecords p i) (s.recheckPin p i) := by
  unfold State.recheckPin PortRecord.pinRecords
  cases (s.port p).pin with
  | none => exact .refl s
  | some m =>
    dsimp only
    unfold Pin.records
    cases pinVoid i m with
    | some why => exact State.follows_voidPin s p m why
    | none => exact State.follows_setPort_kept s p _ (by rfl)

/-! ### All steps before the selection -/

/-- The capture up to its selection. -/
def State.captured (s : State) (p : LinePort) (i : Image) (answer : Bool) : State :=
  (((s.storeImage p i answer).asked p).coverage p i).recheckPin p i

theorem State.capture_captured (s : State) (p : LinePort) (i : Image) (answer : Bool) :
    s.capture p i answer = (s.captured p i answer).captureSelection p := rfl

/-- The record of a capture before its selection. -/
def PortRecord.captured (q : Policy) (p : LinePort) (i : Image) (r : PortRecord) : PortRecord :=
  ((r.imaged i).asked.covered i).repinned q p i

/-- What a capture journals before its selection. -/
def PortRecord.captureRecords (p : LinePort) (i : Image) (answer : Bool) (r : PortRecord) : List (Byte × Byte × List Byte) :=
  tenderRecord p i answer :: (r.imaged i).asked.coverRecords p i ++ r.pinRecords p i

theorem PortRecord.covered_pin (i j : Image) (r : PortRecord) : ((r.imaged i).asked.covered j).pin = r.pin := by
  obtain ⟨_, _, _, _, _, covered⟩ := (r.imaged i).asked.covered_eq j
  obtain ⟨_, _, _, asked⟩ := (r.imaged i).asked_eq
  rw [covered, asked]
  rfl

theorem State.port_captured (s : State) (p : LinePort) (i : Image) (answer : Bool) :
    ∃ f, (s.captured p i answer).port p = { (s.port p).captured s.policy p i with inFlight := f } := by
  obtain ⟨f, e⟩ := (((s.storeImage p i answer).asked p).coverage p i).port_recheckPin p i
  have policy : (((s.storeImage p i answer).asked p).coverage p i).policy = s.policy :=
    (State.policy_of_fixed (State.follows_coverage (pages := true) (held := fun _ => True) _ p i).fixed).trans
      ((State.policy_of_fixed (State.follows_asked (pages := true) (held := fun _ => True) _ p).fixed).trans rfl)
  refine ⟨f, e.trans ?_⟩
  rw [policy, State.port_coverage, State.port_asked, State.port_storeImage]
  rfl

theorem State.follows_captured (s : State) (p : LinePort) (i : Image) (answer : Bool) :
    s.Follows pages held ((s.port p).captureRecords p i answer) (s.captured p i answer) := by
  have first := ((s.follows_storeImage (pages := pages) (held := held) p i answer).trans (State.follows_asked _ p)).trans
    ((State.follows_coverage ((s.storeImage p i answer).asked p) p i).trans
      (State.follows_recheckPin (((s.storeImage p i answer).asked p).coverage p i) p i))
  have pins : ((((s.storeImage p i answer).asked p).coverage p i).port p).pinRecords p i = (s.port p).pinRecords p i := by
    rw [State.port_coverage, State.port_asked, State.port_storeImage, PortRecord.pinRecords, PortRecord.covered_pin, PortRecord.pinRecords]
  rw [pins, State.port_asked, State.port_storeImage] at first
  exact first

/-- The fields of a record that a capture's steps before the selection keep, and those they set. -/
theorem PortRecord.captured_eq (q : Policy) (p : LinePort) (i : Image) (r : PortRecord) : ∃ slot timer tag live staged fault lapsing lapse,
    (r.captured q p i) = { r with
      image := some i, silent := false, barred := false, pin := r.pin.bind (Pin.recheck q p i), slot := slot, timer := timer, askTag := tag
      live := live, staged := staged, pathFault := fault, lapsing := lapsing, lapseTimer := lapse } := by
  obtain ⟨live, staged, fault, lapsing, lapse, covered⟩ := (r.imaged i).asked.covered_eq i
  obtain ⟨slot, timer, tag, asked⟩ := (r.imaged i).asked_eq
  refine ⟨slot, timer, tag, live, staged, fault, lapsing, lapse, ?_⟩
  rw [PortRecord.captured, covered, asked]
  rfl

end

end Sys2Proof.Machine
end

/-! # The selection of a capture, and what follows it (R60, R61, R63) -/

section
namespace Sys2Proof.Machine

section
variable {s t u v w : State} {p o : LinePort} {q : Policy} {r y : PortRecord} {i : Image} {pages answer : Bool} {held : Fin 8 → Prop}
  {c k : Contract} {m : Pin} {l : Level} {x : LapseTarget} {L V A : Nat} {b : Bool} {f : Option PortRequest}

/-! ### The selection of a capture -/

/-- The record whose claim, if one is out, has been retired (R60 step 7). -/
def PortRecord.retired (r : PortRecord) : PortRecord := if r.state = .claimed then r.retire else r

def State.retired (s : State) (p : LinePort) : State := if (s.port p).state = .claimed then s.setPort p (s.port p).retire else s

theorem State.port_retired (s : State) (p : LinePort) : (s.retired p).port p = (s.port p).retired := by
  unfold State.retired PortRecord.retired
  split
  · exact State.port_setPort_self _ _ _
  · rfl

theorem State.retired_policy (s : State) (p : LinePort) : (s.retired p).policy = s.policy := by
  unfold State.retired
  split <;> rfl

theorem PortRecord.retire_eq (r : PortRecord) : ∃ slot, r.retire =
    { r with slot := slot, staged := none, claimTag := none, timer := .stopped, claimAttempts := 0 } := by
  unfold PortRecord.retire PortRecord.withdrawClaim
  split <;> exact ⟨_, rfl⟩

theorem PortRecord.retired_eq (r : PortRecord) : ∃ slot staged tag timer attempts, r.retired =
    { r with slot := slot, staged := staged, claimTag := tag, timer := timer, claimAttempts := attempts } := by
  unfold PortRecord.retired
  split
  · obtain ⟨slot, e⟩ := r.retire_eq
    exact ⟨slot, _, _, _, _, e⟩
  · exact ⟨_, _, _, _, _, rfl⟩

theorem PortRecord.retired_core (r : PortRecord) : r.retired.core = r.core := by
  obtain ⟨_, _, _, _, _, e⟩ := r.retired_eq
  rw [e]
  rfl

theorem PortRecord.retired_live (r : PortRecord) : r.retired.live = r.live := by
  obtain ⟨_, _, _, _, _, e⟩ := r.retired_eq
  rw [e]

theorem PortRecord.retired_image (r : PortRecord) : r.retired.image = r.image := by
  obtain ⟨_, _, _, _, _, e⟩ := r.retired_eq
  rw [e]

/-- A port that a capture leads to a selection, unless it is held or released (R61). -/
def PortRecord.active (r : PortRecord) : Prop := r.state ≠ .shifting ∧ r.state ≠ .faulted

theorem State.captureSelection_active (active : (u.port p).active) :
    u.captureSelection p =
      if (u.port p).held then ((u.retired p).toRest p).completePort p [.refresh] .ok
      else if (u.port p).released then (u.retired p).toRest p
      else ((u.retired p).select p).1.applyOutcome p ((u.retired p).select p).2 := by
  obtain ⟨shifting, faulted⟩ := active
  unfold State.captureSelection
  dsimp only
  split
  next h => exact absurd h faulted
  next h => exact absurd h shifting
  · rfl

/-- What the selection of a capture makes of a record (R60 step 7, R61). -/
inductive PortRecord.Captures (q : Policy) (p : LinePort) (r : PortRecord) : PortRecord → Prop
  | stays (faulted : r.state = .faulted) : Captures q p r r
  | defers (shifting : r.state = .shifting) : Captures q p r { r with deferred := true }
  | rests {f : Option PortRequest} (active : r.active) (out : r.held = true ∨ r.released = true) :
      Captures q p r { r.retired with state := r.retired.resting, inFlight := f }
  | selects {w : PortRecord} (active : r.active) (free : r.held = false) (inService : r.released = false)
      (applied : PortRecord.Applied q p r.retired (rescore q p r.retired) w) : Captures q p r w

theorem State.port_captureSelection (image : (u.port p).image = some i) :
    PortRecord.Captures u.policy p (u.port p) ((u.captureSelection p).port p) := by
  by_cases faulted : (u.port p).state = .faulted
  · have : u.captureSelection p = u := by
      unfold State.captureSelection
      dsimp only
      rw [faulted]
    rw [this]
    exact .stays faulted
  · by_cases shifting : (u.port p).state = .shifting
    · have : u.captureSelection p = u.setPort p { u.port p with deferred := true } := by
        unfold State.captureSelection
        dsimp only
        rw [shifting]
      rw [this, State.port_setPort_self]
      exact .defers shifting
    · have active : (u.port p).active := ⟨shifting, faulted⟩
      have record := State.port_retired u p
      have rested : ((u.retired p).toRest p).port p = { (u.port p).retired with state := (u.port p).retired.resting } := by
        rw [State.toRest, State.port_setPort_self, record]
      rw [State.captureSelection_active active]
      split
      next out =>
        obtain ⟨f, e, -⟩ := ((u.retired p).toRest p).port_completePort p [.refresh] .ok
        rw [e, rested]
        exact .rests active (.inl out)
      next free =>
        split
        next out =>
          rw [rested]
          exact .rests active (.inr out)
        next inService =>
          have applied := (u.retired p).port_selectApply (p := p) (i := i) (by rw [record, PortRecord.retired_image, image])
          rw [record, State.retired_policy] at applied
          exact .selects active (by simpa using free) (by simpa using inService) applied

theorem PortRecord.Captures.core (h : PortRecord.Captures q p r y) : y.core = r.core := by
  cases h with
  | stays _ => rfl
  | defers _ => rfl
  | rests _ _ => exact r.retired_core
  | selects _ _ _ applied =>
    exact (PortRecord.Applied.core (r := r.retired) applied (PortRecord.core_rescore q p _)).trans r.retired_core

theorem PortRecord.Captures.live (h : PortRecord.Captures q p r y) : y.live.map Contract.unshared = r.live.map Contract.unshared := by
  cases h with
  | stays _ => rfl
  | defers _ => rfl
  | rests _ _ => exact congrArg _ r.retired_live
  | selects _ _ _ applied =>
    exact (PortRecord.Applied.live (r := r.retired) applied rfl).1.trans (congrArg _ r.retired_live)

theorem PortRecord.retired_unblocked (h : r.blocked = false) : r.retired.blocked = false := by
  obtain ⟨_, _, _, _, _, e⟩ := r.retired_eq
  rw [e]
  exact h

theorem PortRecord.Captures.chooses (h : PortRecord.Captures q p r y) (active : r.active) (proposes : r.proposes q p L V A b) :
    y.chooses q L V A b := by
  have free : r.held = false ∧ r.released = false := by
    have := proposes.1
    simp only [PortRecord.blocked, Bool.or_eq_false_iff] at this
    exact this.1
  cases h with
  | stays faulted => exact absurd faulted active.2
  | defers shifting => exact absurd shifting active.1
  | rests _ out => simp [free] at out
  | selects _ _ _ applied =>
    exact PortRecord.Applied.chooses (a := rescore q p r.retired) (PortRecord.proposes_of_core r.retired_core proposes) rfl applied

theorem PortRecord.Captures.rests_of (h : PortRecord.Captures q p r y) (active : r.active) (out : r.held = true ∨ r.findsNone q p) :
    y.state = restingOn y.live := by
  cases h with
  | stays faulted => exact absurd faulted active.2
  | defers shifting => exact absurd shifting active.1
  | rests _ _ => exact r.retired.resting_eq
  | selects _ free _ applied =>
    have finds : r.findsNone q p := out.resolve_left (by rw [free]; simp)
    obtain ⟨state, live, -⟩ := PortRecord.Applied.restsOn (a := rescore q p r.retired)
      (PortRecord.findsNone_of_core r.retired_core finds) applied
    rw [state, live]
    exact PortRecord.resting_eq _

/-! ### The whole of a capture, the lease's end, and what follows -/

/-- The state after an accepted TENDER whose image a port has taken. -/
def State.tendered (s : State) (p : LinePort) (i : Image) (answer : Bool) : State :=
  s.settles ((((s.idled p).captured p i answer).captureSelection p).endLeaseOf p)

/-- The record on which a capture's selection runs, and what it makes of it. -/
theorem State.captureSelection_captured (s : State) (p : LinePort) (i : Image) (answer : Bool) :
    ∃ f, PortRecord.Captures s.policy p { (s.port p).captured s.policy p i with inFlight := f }
      ((((s.idled p).captured p i answer).captureSelection p).port p) := by
  obtain ⟨f, record⟩ := (s.idled p).port_captured p i answer
  have record : ((s.idled p).captured p i answer).port p = { (s.port p).captured s.policy p i with inFlight := f } := record
  have policy : ((s.idled p).captured p i answer).policy = s.policy :=
    State.policy_of_fixed (State.follows_captured (pages := true) (held := fun _ => True) (s.idled p) p i answer).fixed
  have image : (((s.idled p).captured p i answer).port p).image = some i := by
    obtain ⟨_, _, _, _, _, _, _, _, e⟩ := (s.port p).captured_eq s.policy p i
    rw [record, e]
  have captures := State.port_captureSelection image
  rw [policy, record] at captures
  exact ⟨f, captures⟩

theorem State.captured_policy (s : State) (p : LinePort) (i : Image) (answer : Bool) :
    (((s.idled p).captured p i answer).captureSelection p).policy = s.policy := by
  obtain ⟨l, goes⟩ := (State.follows_captured (pages := true) (held := fun _ => True) (s.idled p) p i answer).goes.trans
    (State.goes_captureSelection _ p)
  exact State.policy_of_fixed goes.fixed

theorem tendered_core (s : State) (p : LinePort) (i : Image) (answer : Bool) :
    ((s.tendered p i answer).port p).core = ((s.port p).captured s.policy p i).core := by
  obtain ⟨f, captures⟩ := s.captureSelection_captured p i answer
  exact (trailing_core p _).settle_served (R := fun r => r.core = _)
    (fun r => by rw [show r.sansEngine.core = r.core from rfl]) (State.served_endLeaseOf _ p) (captures.core.trans rfl)

theorem tendered_live (s : State) (p : LinePort) (i : Image) (answer : Bool) :
    ((s.tendered p i answer).port p).live.map Contract.unshared = ((s.port p).captured s.policy p i).live.map Contract.unshared := by
  obtain ⟨f, captures⟩ := s.captureSelection_captured p i answer
  exact (trailing_live p _).settle_served (R := fun r => r.live.map Contract.unshared = _) (fun _ => Iff.rfl)
    (State.served_endLeaseOf _ p) (captures.live.trans rfl)

/-- A SHIFTING port goes on shifting, its selection deferred (R61). -/
theorem tendered_shifting (answer : Bool) (shifting : ((s.port p).captured s.policy p i).state = .shifting) :
    ((s.tendered p i answer).port p).state = .shifting ∧ ((s.tendered p i answer).port p).deferred = true ∧
      ((s.tendered p i answer).port p).live = ((s.port p).captured s.policy p i).live ∧
      ((s.tendered p i answer).port p).staged = ((s.port p).captured s.policy p i).staged := by
  obtain ⟨f, captures⟩ := s.captureSelection_captured p i answer
  have served := State.served_endLeaseOf (((s.idled p).captured p i answer).captureSelection p) p
  generalize h : (((s.idled p).captured p i answer).captureSelection p) = u at captures served
  generalize hr : u.port p = y at captures
  cases captures with
  | stays faulted => exact absurd (shifting.symm.trans faulted) (by simp)
  | defers _ =>
    have after : (((s.settles (u.endLeaseOf p))).port p).undeferred = _ := settle_served_calm served (.inr (by rw [hr]; exact shifting))
    rw [hr] at after
    have waits : ((s.settles (u.endLeaseOf p)).port p).state = .shifting ∧ ((s.settles (u.endLeaseOf p)).port p).deferred = true :=
      (trailing_deferred p).settle_served (R := fun r => r.state = .shifting ∧ r.deferred = true) (fun _ => Iff.rfl) served
        (by rw [hr]; exact ⟨shifting, rfl⟩)
    have whole : s.tendered p i answer = s.settles (u.endLeaseOf p) := by rw [State.tendered, h]
    rw [whole]
    exact ⟨waits.1, waits.2, (congrArg PortRecord.live after :), (congrArg PortRecord.staged after :)⟩
  | rests active _ => exact absurd shifting active.1
  | selects active _ _ _ => exact absurd shifting active.1

/-- A FAULTED port stays so (R61). -/
theorem tendered_faulted (answer : Bool) (faulted : ((s.port p).captured s.policy p i).state = .faulted) :
    ((s.tendered p i answer).port p).state = .faulted := by
  obtain ⟨f, captures⟩ := s.captureSelection_captured p i answer
  have served := State.served_endLeaseOf (((s.idled p).captured p i answer).captureSelection p) p
  generalize h : (((s.idled p).captured p i answer).captureSelection p) = u at captures served
  have whole : s.tendered p i answer = s.settles (u.endLeaseOf p) := by rw [State.tendered, h]
  have state : (u.port p).state = .faulted := by
    generalize hr : u.port p = y at captures
    cases captures with
    | stays _ => exact faulted
    | defers shifting => exact absurd (faulted.symm.trans shifting) (by simp)
    | rests active _ => exact absurd faulted active.2
    | selects active _ _ _ => exact absurd faulted active.2
  have after : (((s.settles (u.endLeaseOf p))).port p).sansEngine = _ :=
    settle_served_unmoved served (.inr (.inr (.inr (.inr (.inl state)))))
  rw [whole]
  exact (congrArg PortRecord.state after :).trans state

theorem tendered_chose (answer : Bool) (active : ((s.port p).captured s.policy p i).active)
    (proposes : ((s.port p).captured s.policy p i).proposes s.policy p L V A b) : (s.tendered p i answer).chose p L V A b := by
  obtain ⟨f, captures⟩ := s.captureSelection_captured p i answer
  exact settle_served_chosen (s.captured_policy p i answer) (PortRecord.proposes_of_core (captures.core.trans rfl) proposes)
    (captures.chooses active (PortRecord.proposes_of_core rfl proposes))

theorem tendered_rests (answer : Bool) (active : ((s.port p).captured s.policy p i).active)
    (finds : ((s.port p).captured s.policy p i).findsNone s.policy p) :
    ((s.tendered p i answer).port p).state = restingOn ((s.tendered p i answer).port p).live := by
  obtain ⟨f, captures⟩ := s.captureSelection_captured p i answer
  exact settle_served_restsOn (s.captured_policy p i answer) (PortRecord.findsNone_of_core (captures.core.trans rfl) finds)
    (captures.rests_of active (.inr (PortRecord.findsNone_of_core rfl finds)))

theorem tendered_held (answer : Bool) (active : ((s.port p).captured s.policy p i).active)
    (kept : ((s.port p).captured s.policy p i).held = true) :
    ((s.tendered p i answer).port p).state = restingOn ((s.tendered p i answer).port p).live := by
  obtain ⟨f, captures⟩ := s.captureSelection_captured p i answer
  have served := State.served_endLeaseOf (((s.idled p).captured p i answer).captureSelection p) p
  have rests := captures.rests_of active (.inl kept)
  have out : ((((s.idled p).captured p i answer).captureSelection p).port p).held = true :=
    (congrArg PortRecord.held captures.core :).trans kept
  generalize h : (((s.idled p).captured p i answer).captureSelection p) = u at rests served out
  have whole : s.tendered p i answer = s.settles (u.endLeaseOf p) := by rw [State.tendered, h]
  have calm : (u.port p).calm := PortRecord.calm_of_blocked (by rw [PortRecord.blocked, out]; rfl)
  have after : (((s.settles (u.endLeaseOf p))).port p).undeferred = _ := settle_served_calm served calm
  rw [whole]
  exact (congrArg PortRecord.state after :).trans (rests.trans (congrArg restingOn (congrArg PortRecord.live after :).symm))

theorem tendered_journals {j n : List (Byte × Byte × List Byte)} (records : (s.port p).captureRecords p i answer = j ++ n) :
    s.journals (s.tendered p i answer) j := by
  have first := State.follows_captured (pages := true) (held := fun _ => True) (s.idled p) p i answer
  rw [show ((s.idled p).port p).captureRecords p i answer = j ++ n from records] at first
  obtain ⟨m, goes⟩ := State.goes_captureSelection (pages := true) (held := fun _ => True) ((s.idled p).captured p i answer) p
  have whole := first.trans goes
  rw [List.append_assoc] at whole
  exact State.Follows.journals_of_more (s := s.idled p)
    ((trailing_follows _ _).settles ⟨n ++ m, (State.served_endLeaseOf _ p).follows_of whole⟩) (State.heldIn_all _)

end

end Sys2Proof.Machine
end

/-! # An accepted TENDER (R60, R61, R63, R71, R72, R100) -/

section
namespace Sys2Proof.Machine

section
variable {s t u v w : State} {p o : LinePort} {q : Policy} {r y : PortRecord} {i : Image} {pages answer : Bool} {held : Fin 8 → Prop}
  {c k : Contract} {m : Pin} {l : Level} {x : LapseTarget} {L V A a : Nat} {b : Bool} {f : Option PortRequest} {e : EngineId}

/-! ### A capture without a candidate -/

/-- What a capture journals whose selection finds no candidate. -/
theorem State.follows_captureSelection_none (active : (u.port p).active) (finds : (u.port p).findsNone u.policy p)
    (image : (u.port p).image = some i) : u.Follows pages held [(0x11, lineByte p, [byte i.levels.length])] (u.captureSelection p) := by
  obtain ⟨free, j, imaged, none⟩ := finds
  rw [image] at imaged
  cases imaged
  have record := State.port_retired u p
  have taken : ((u.retired p).port p).image = some i := by rw [record, PortRecord.retired_image, image]
  have pin : ((u.retired p).port p).pin = (u.port p).pin := by
    obtain ⟨_, _, _, _, _, e⟩ := (u.port p).retired_eq
    rw [record, e]
  have outcome : ((u.retired p).select p).2 = .noCandidate := by
    obtain ⟨primary, e⟩ := (u.retired p).select_outcome taken
    rw [e, pin, State.retired_policy, none primary]
    rfl
  have scored : (((u.retired p).select p).1.port p).image.map (fun i => i.levels.length) = some i.levels.length := by
    rw [State.port_select]
    simp [rescore, taken]
  have unclaimed : u.Follows pages held [] (u.retired p) := by
    unfold State.retired
    split
    · exact State.follows_setPort_kept u p _ (PortRecord.retire_inFlight _)
    · exact .refl u
  have applied := State.follows_applyOutcome (pages := pages) (held := held) ((u.retired p).select p).1 p .noCandidate
  simp only [Outcome.records, scored] at applied
  simp only [PortRecord.blocked, Bool.or_eq_false_iff] at free
  rw [State.captureSelection_active active, if_neg (by rw [free.1.1]; simp), if_neg (by rw [free.1.2]; simp), outcome]
  exact (unclaimed.trans (State.follows_select _ p)).trans applied

theorem tendered_noLevel {j : List (Byte × Byte × List Byte)} (records : (s.port p).captureRecords p i answer = j)
    (active : ((s.port p).captured s.policy p i).active) (finds : ((s.port p).captured s.policy p i).findsNone s.policy p) :
    s.journals (s.tendered p i answer) (j ++ [(0x11, lineByte p, [byte i.levels.length])]) := by
  have first := State.follows_captured (pages := true) (held := fun _ => True) (s.idled p) p i answer
  obtain ⟨f, record⟩ := (s.idled p).port_captured p i answer
  have record : ((s.idled p).captured p i answer).port p = { (s.port p).captured s.policy p i with inFlight := f } := record
  have policy : ((s.idled p).captured p i answer).policy = s.policy := State.policy_of_fixed first.fixed
  rw [show ((s.idled p).port p).captureRecords p i answer = j from records] at first
  have whole := first.trans (State.follows_captureSelection_none (i := i) (by rw [record]; exact active)
    (by rw [record, policy]; exact PortRecord.findsNone_of_core rfl finds) (by
      obtain ⟨_, _, _, _, _, _, _, _, e⟩ := (s.port p).captured_eq s.policy p i
      rw [record, e]))
  exact State.Follows.journals_of_more (s := s.idled p)
    ((trailing_follows _ _).settles ⟨[], by rw [List.append_nil]; exact (State.served_endLeaseOf _ p).follows_of whole⟩) (State.heldIn_all _)

/-! ### Coverage, in the terms of the statement (R71, R72) -/

theorem containingAmps_eq (i : Image) (volts : Nat) : containingAmps i volts = ampsAt i.levels volts := by
  unfold containingAmps ampsAt
  induction i.levels with
  | nil => rfl
  | cons l ls ih =>
    have same : (l.usable && decide (l.lo ≤ volts) && decide (volts ≤ l.hi)) = (l.usable && decide (l.lo ≤ volts ∧ volts ≤ l.hi)) := by
      rw [Bool.decide_and, Bool.and_assoc]
    rw [List.filterMap_cons, List.filter_cons, same]
    cases (l.usable && decide (l.lo ≤ volts ∧ volts ≤ l.hi)) with
    | false => exact ih
    | true => exact congrArg (l.amps :: ·) ih

theorem le_foldl_max {l : List Nat} {n : Nat} : l.foldl max n ≤ a ↔ n ≤ a ∧ ∀ b ∈ l, b ≤ a := by
  induction l generalizing n with
  | nil => simp
  | cons b l ih =>
    rw [List.foldl_cons, ih, max_le_iff, List.forall_mem_cons, and_assoc]

theorem largest_eq {l : List Nat} (mem : a ∈ l) (most : ∀ b ∈ l, b ≤ a) : largest l = a :=
  le_antisymm (le_foldl_max.mpr ⟨Nat.zero_le _, most⟩) ((le_foldl_max.mp (le_refl (l.foldl max 0))).2 a mem)

/-- The figures of a contract that a capture may lower (R72). -/
def Contract.lowered (k : Contract) (a : Nat) : Nat × Nat × Nat × Bool :=
  (k.volts, min k.limit a, if a < k.limit then min k.operating a else k.operating, k.narrowed || decide (a < k.limit))

def Contract.terms (k : Contract) : Nat × Nat × Nat × Bool := (k.volts, k.limit, k.operating, k.narrowed)

theorem Contract.terms_kept (h : k.limit ≤ a) : k.terms = k.lowered a := by
  rw [Contract.terms, Contract.lowered, if_neg (by omega), min_eq_left h, decide_eq_false (by omega), Bool.or_false]

theorem Contract.terms_narrow (h : ¬ k.limit ≤ a) : (k.narrow a).terms = k.lowered a := by
  rw [Contract.terms, Contract.lowered, if_pos (by omega), min_eq_right (by omega), decide_eq_true (by omega), Bool.or_true]
  rfl

/-- A contract that no usable level contains begins to lapse (R71). -/
theorem coveredBy_lapses (lost : ampsAt i.levels k.volts = []) :
    r.coveredBy i x k = { r with lapsing := some x, lapseTimer := true } ∧
      coverRecords p i x k = [(0x07, lineByte p, [x.code, 1] ++ le2 k.limit)] := by
  rw [PortRecord.coveredBy, coverRecords, containingAmps_eq, if_pos lost, if_pos lost]
  exact ⟨rfl, rfl⟩

/-- A contract that usable levels contain loses a lapse and is narrowed to the most amps of them (R71, R72). -/
theorem coveredBy_narrows (mem : a ∈ ampsAt i.levels k.volts) (most : ∀ b ∈ ampsAt i.levels k.volts, b ≤ a) :
    r.coveredBy i x k = if k.limit ≤ a then r.cancelLapse x else (r.setContract x (k.narrow a)).cancelLapse x := by
  rw [PortRecord.coveredBy, containingAmps_eq, if_neg (List.ne_nil_of_mem mem), largest_eq mem most]

theorem coverRecords_narrows (mem : a ∈ ampsAt i.levels k.volts) (most : ∀ b ∈ ampsAt i.levels k.volts, b ≤ a) (less : a < k.limit) :
    coverRecords p i x k = [(0x07, lineByte p, [x.code, 0] ++ le2 a)] := by
  rw [coverRecords, containingAmps_eq, if_neg (List.ne_nil_of_mem mem), largest_eq mem most, if_neg (by omega)]

theorem coveredBy_live (live : r.live = some k) (mem : a ∈ ampsAt i.levels k.volts) (most : ∀ b ∈ ampsAt i.levels k.volts, b ≤ a) :
    (r.coveredBy i .live k).live.map Contract.terms = some (k.lowered a) ∧
      (r.lapsing = some .live → (r.coveredBy i .live k).lapsing = none) := by
  rw [coveredBy_narrows mem most]
  by_cases less : k.limit ≤ a
  · rw [if_pos less]
    unfold PortRecord.cancelLapse
    split
    · exact ⟨by rw [← Contract.terms_kept less]; exact congrArg _ live, fun _ => rfl⟩
    next other => exact ⟨by rw [← Contract.terms_kept less, live]; rfl, fun h => absurd h other⟩
  · rw [if_neg less]
    unfold PortRecord.cancelLapse
    split
    · exact ⟨congrArg some (Contract.terms_narrow less), fun _ => rfl⟩
    next other => exact ⟨congrArg some (Contract.terms_narrow less), fun h => absurd h other⟩

theorem coveredBy_staged (staged : r.staged = some k) (mem : a ∈ ampsAt i.levels k.volts) (most : ∀ b ∈ ampsAt i.levels k.volts, b ≤ a) :
    (r.coveredBy i .staged k).staged.map Contract.terms = some (k.lowered a) ∧ (r.coveredBy i .staged k).live = r.live ∧
      (r.coveredBy i .staged k).lapsing = if r.lapsing = some .staged then none else r.lapsing := by
  rw [coveredBy_narrows mem most]
  by_cases less : k.limit ≤ a
  · rw [if_pos less]
    unfold PortRecord.cancelLapse
    split
    · exact ⟨by rw [← Contract.terms_kept less]; exact congrArg _ staged, rfl, rfl⟩
    · exact ⟨by rw [← Contract.terms_kept less, staged]; rfl, rfl, rfl⟩
  · rw [if_neg less]
    unfold PortRecord.cancelLapse
    split
    next same =>
      have same : r.lapsing = some .staged := same
      rw [if_pos same]
      exact ⟨congrArg some (Contract.terms_narrow less), rfl, rfl⟩
    next other =>
      have other : ¬ r.lapsing = some .staged := other
      rw [if_neg other]
      exact ⟨congrArg some (Contract.terms_narrow less), rfl, rfl⟩

/-! ### The captured record, in the terms of the statement -/

theorem PortRecord.asked_kept (i : Image) (r : PortRecord) : (r.imaged i).asked.state = r.state ∧ (r.imaged i).asked.live = r.live ∧
    (r.imaged i).asked.staged = r.staged ∧ (r.imaged i).asked.lapsing = r.lapsing := by
  obtain ⟨_, _, _, e⟩ := (r.imaged i).asked_eq
  rw [e]
  exact ⟨rfl, rfl, rfl, rfl⟩

/-- The live contract is checked in ASKING, CLAIMED and BOUND. -/
theorem PortRecord.checked_live (live : r.live = some k) (origin : k.origin = .negotiated)
    (state : r.state = .asking ∨ r.state = .claimed ∨ r.state = .bound) : (r.imaged i).asked.checked = some (.live, k) := by
  obtain ⟨same, lives, -, -⟩ := r.asked_kept i
  have negotiated : k.negotiated = true := by rw [Contract.negotiated, origin]; rfl
  rw [PortRecord.checked, same, lives, live]
  rcases state with h | h | h <;> rw [h] <;> simp [Option.filter, negotiated]

theorem PortRecord.checked_staged (staged : r.staged = some k) (origin : k.origin = .negotiated) (state : r.state = .shifting) :
    (r.imaged i).asked.checked = some (.staged, k) := by
  obtain ⟨same, -, stages, -⟩ := r.asked_kept i
  have negotiated : k.negotiated = true := by rw [Contract.negotiated, origin]; rfl
  rw [PortRecord.checked, same, stages, staged, state]
  simp [Option.filter, negotiated]

theorem PortRecord.unchecked (state : r.state = .base ∨ r.state = .faulted) : (r.imaged i).asked.checked = none := by
  obtain ⟨same, -, -, -⟩ := r.asked_kept i
  rw [PortRecord.checked, same]
  rcases state with h | h <;> rw [h]

/-- What a capture makes of the contracts is what the check of one of them makes of them. -/
theorem PortRecord.captured_checked (checked : (r.imaged i).asked.checked = some (x, k)) :
    r.captured q p i = ((r.imaged i).asked.coveredBy i x k).repinned q p i ∧
      r.captureRecords p i answer = tenderRecord p i answer :: Machine.coverRecords p i x k ++ r.pinRecords p i := by
  rw [PortRecord.captured, PortRecord.covered, PortRecord.captureRecords, PortRecord.coverRecords, checked]
  exact ⟨rfl, rfl⟩

theorem PortRecord.captureRecords_unchecked (state : r.state = .base ∨ r.state = .faulted) :
    r.captureRecords p i answer = tenderRecord p i answer :: r.pinRecords p i := by
  rw [PortRecord.captureRecords, PortRecord.coverRecords, PortRecord.unchecked state]
  rfl

/-- The levels that bear a pin (R100). -/
def bearing (levels : List Level) (m : Pin) : List Level :=
  levels.filter fun l => decide (m.level ≠ 0 ∧ levels[m.level - 1]? = some l) && l.usable && decide (l.lo ≤ m.volts ∧ m.volts ≤ l.hi)

theorem mem_bearing {levels : List Level} : l ∈ bearing levels m ↔
    m.level ≠ 0 ∧ levels[m.level - 1]? = some l ∧ l.usable = true ∧ l.lo ≤ m.volts ∧ m.volts ≤ l.hi := by
  simp only [bearing, List.mem_filter, Bool.and_eq_true, decide_eq_true_eq]
  constructor
  · rintro ⟨-, ⟨⟨positive, level⟩, usable⟩, range⟩
    exact ⟨positive, level, usable, range⟩
  · rintro ⟨positive, level, usable, range⟩
    exact ⟨List.mem_of_getElem? level, ⟨⟨positive, level⟩, usable⟩, range⟩

theorem pinVoid_of_bearing (mem : l ∈ bearing i.levels m) : pinVoid i m = none := by
  obtain ⟨positive, level, usable, lo, hi⟩ := mem_bearing.mp mem
  rw [pinVoid, Image.level_of_pos (Nat.pos_of_ne_zero positive), level]
  dsimp only
  rw [if_neg (by rw [usable]; simp), if_neg (by omega)]

theorem lowerPin_of_bearing (mem : l ∈ bearing i.levels m) :
    lowerPin q p i m = { m with
      limit := (if min l.amps (q.pathMax.get (.line p)) < m.limit then min l.amps (q.pathMax.get (.line p)) / 50 * 50 else m.limit) } := by
  obtain ⟨positive, level, -⟩ := mem_bearing.mp mem
  rw [lowerPin, Image.level_of_pos (Nat.pos_of_ne_zero positive), level]
  dsimp only
  rw [usableAmps, floor50]
  split <;> rfl

/-- The code of the reason why a pin is void. -/
theorem pinVoid_of_none (none : bearing i.levels m = []) : ∃ why, pinVoid i m = some why ∧
    why.code = match (if m.level = 0 then Option.none else i.levels[m.level - 1]?) with
      | Option.none => 1
      | some l => if l.usable = true then 3 else 2 := by
  rw [pinVoid, Image.level]
  cases level : (if m.level = 0 then Option.none else i.levels[m.level - 1]?) with
  | none => exact ⟨_, rfl, rfl⟩
  | some l =>
    have positive : m.level ≠ 0 := fun h => by rw [if_pos h] at level; cases level
    rw [if_neg positive] at level
    dsimp only
    cases usable : l.usable with
    | false => exact ⟨_, rfl, rfl⟩
    | true =>
      have outside : m.volts < l.lo ∨ l.hi < m.volts := by
        by_contra inside
        have : l ∈ bearing i.levels m := mem_bearing.mpr ⟨positive, level, usable, by omega, by omega⟩
        rw [none] at this
        cases this
      rw [if_neg (by simp), if_pos outside]
      exact ⟨_, rfl, rfl⟩

end

end Sys2Proof.Machine
end

/-! # An accepted TENDER, settled (R60, R61, R63, R71, R72, R100) -/

section
namespace Sys2Proof.Machine

section
variable {s t : State} {p : LinePort} {q : Policy} {r : PortRecord} {i : Image} {answer : Bool} {k : Contract} {m : Pin} {l : Level} {a : Nat}

/-! ### The clauses of a capture -/

theorem tendered_lapse (s : State) (p : LinePort) (i : Image) (answer : Bool) :
    ((s.tendered p i answer).port p).lapsing = ((s.port p).captured s.policy p i).lapsing ∧
      ((s.tendered p i answer).port p).lapseTimer = ((s.port p).captured s.policy p i).lapseTimer :=
  have core := tendered_core s p i answer
  ⟨(congrArg PortRecord.lapsing core :), (congrArg PortRecord.lapseTimer core :)⟩

theorem tendered_terms (s : State) (p : LinePort) (i : Image) (answer : Bool) :
    ((s.tendered p i answer).port p).live.map Contract.terms = ((s.port p).captured s.policy p i).live.map Contract.terms := by
  have unshared : ∀ x : Option Contract, x.map Contract.terms = (x.map Contract.unshared).map Contract.terms := fun x => by
    rw [Option.map_map]
    rfl
  rw [unshared, tendered_live, ← unshared]

/-- The live contract of an ASKING, CLAIMED or BOUND port is checked (R71, R72). -/
theorem tendered_coversLive (live : (s.port p).live = some k) (origin : k.origin = .negotiated)
    (state : (s.port p).state = .asking ∨ (s.port p).state = .claimed ∨ (s.port p).state = .bound) :
    (ampsAt i.levels k.volts = [] →
      ((s.tendered p i answer).port p).lapsing = some .live ∧ ((s.tendered p i answer).port p).lapseTimer = true ∧
        s.journals (s.tendered p i answer) [tenderRecord p i answer, (0x07, lineByte p, [0, 1] ++ le2 k.limit)]) ∧
    ∀ a, a ∈ ampsAt i.levels k.volts → (∀ b, b ∈ ampsAt i.levels k.volts → b ≤ a) →
      ((s.tendered p i answer).port p).live.map Contract.terms = some (k.lowered a) ∧
      ((s.port p).lapsing = some .live → ((s.tendered p i answer).port p).lapsing = none) ∧
      (a < k.limit → s.journals (s.tendered p i answer) [tenderRecord p i answer, (0x07, lineByte p, [0, 0] ++ le2 a)]) := by
  have checked := PortRecord.checked_live (i := i) live origin state
  obtain ⟨record, records⟩ := PortRecord.captured_checked (q := s.policy) (p := p) (answer := answer) checked
  obtain ⟨lapsing, timer⟩ := tendered_lapse s p i answer
  obtain ⟨-, lives, -, lapses⟩ := (s.port p).asked_kept i
  refine ⟨fun lost => ?_, fun a mem most => ⟨?_, fun was => ?_, fun less => ?_⟩⟩
  · obtain ⟨covered, journalled⟩ := coveredBy_lapses (p := p) (r := ((s.port p).imaged i).asked) (x := .live) lost
    rw [journalled] at records
    rw [lapsing, timer, record, covered]
    exact ⟨rfl, rfl, tendered_journals (n := (s.port p).pinRecords p i) records⟩
  · rw [tendered_terms, record]
    exact (coveredBy_live (lives.trans live) mem most).1
  · rw [lapsing, record]
    exact (coveredBy_live (lives.trans live) mem most).2 (lapses.trans was)
  · rw [coverRecords_narrows mem most less] at records
    exact tendered_journals (n := (s.port p).pinRecords p i) records

/-- The staged contract of a SHIFTING port is checked (R71, R72). -/
theorem tendered_coversStaged (staged : (s.port p).staged = some k) (origin : k.origin = .negotiated)
    (state : (s.port p).state = .shifting) :
    (ampsAt i.levels k.volts = [] →
      ((s.tendered p i answer).port p).lapsing = some .staged ∧ ((s.tendered p i answer).port p).lapseTimer = true ∧
        ((s.tendered p i answer).port p).staged = some k ∧
        s.journals (s.tendered p i answer) [tenderRecord p i answer, (0x07, lineByte p, [1, 1] ++ le2 k.limit)]) ∧
    ∀ a, a ∈ ampsAt i.levels k.volts → (∀ b, b ∈ ampsAt i.levels k.volts → b ≤ a) →
      ((s.tendered p i answer).port p).staged.map Contract.terms = some (k.lowered a) ∧
      ((s.tendered p i answer).port p).live = (s.port p).live ∧
      ((s.tendered p i answer).port p).lapsing = (if (s.port p).lapsing = some .staged then none else (s.port p).lapsing) ∧
      (a < k.limit → s.journals (s.tendered p i answer) [tenderRecord p i answer, (0x07, lineByte p, [1, 0] ++ le2 a)]) := by
  have checked := PortRecord.checked_staged (i := i) staged origin state
  obtain ⟨record, records⟩ := PortRecord.captured_checked (q := s.policy) (p := p) (answer := answer) checked
  obtain ⟨lapsing, timer⟩ := tendered_lapse s p i answer
  obtain ⟨-, lives, stages, lapses⟩ := (s.port p).asked_kept i
  have shifting : ((s.port p).captured s.policy p i).state = .shifting := by
    obtain ⟨_, _, _, _, _, _, _, _, e⟩ := (s.port p).captured_eq s.policy p i
    rw [e]
    exact state
  obtain ⟨-, -, live, terms⟩ := tendered_shifting answer shifting
  refine ⟨fun lost => ?_, fun a mem most => ⟨?_, ?_, ?_, fun less => ?_⟩⟩
  · obtain ⟨covered, journalled⟩ := coveredBy_lapses (p := p) (r := ((s.port p).imaged i).asked) (x := .staged) lost
    rw [journalled] at records
    rw [lapsing, timer, terms, record, covered]
    exact ⟨rfl, rfl, stages.trans staged, tendered_journals (n := (s.port p).pinRecords p i) records⟩
  · rw [terms, record]
    exact (coveredBy_staged (stages.trans staged) mem most).1
  · rw [live, record]
    exact (coveredBy_staged (stages.trans staged) mem most).2.1.trans lives
  · rw [lapsing, record]
    exact (coveredBy_staged (stages.trans staged) mem most).2.2.trans (by rw [lapses])
  · rw [coverRecords_narrows mem most less] at records
    exact tendered_journals (n := (s.port p).pinRecords p i) records

theorem PortRecord.captured_active (active : r.active) : (r.captured q p i).active := by
  obtain ⟨_, _, _, _, _, _, _, _, e⟩ := r.captured_eq q p i
  rw [e]
  exact active

theorem PortRecord.captured_free (held : r.held = false) (released : r.released = false) : (r.captured q p i).blocked = false := by
  obtain ⟨_, _, _, _, _, _, _, _, e⟩ := r.captured_eq q p i
  rw [e]
  simp [PortRecord.blocked, held, released]

theorem PortRecord.captured_image (q : Policy) (p : LinePort) (i : Image) (r : PortRecord) : (r.captured q p i).image = some i := by
  obtain ⟨_, _, _, _, _, _, _, _, e⟩ := r.captured_eq q p i
  rw [e]

theorem PortRecord.captured_pin (q : Policy) (p : LinePort) (i : Image) (r : PortRecord) :
    (r.captured q p i).pin = r.pin.bind (Pin.recheck q p i) := by
  obtain ⟨_, _, _, _, _, _, _, _, e⟩ := r.captured_eq q p i
  rw [e]

theorem tendered_pin (s : State) (p : LinePort) (i : Image) (answer : Bool) :
    ((s.tendered p i answer).port p).pin = (s.port p).pin.bind (Pin.recheck s.policy p i) :=
  (congrArg PortRecord.pin (tendered_core s p i answer) :).trans (PortRecord.captured_pin _ _ _ _)

/-- A pin that no level of the image bears is void (R100). -/
theorem tendered_voidsPin (pin : (s.port p).pin = some m) (lost : bearing i.levels m = []) :
    ((s.tendered p i answer).port p).pin = none ∧ ((s.port p).state = .base ∨ (s.port p).state = .faulted →
      let why : Byte := match (if m.level = 0 then none else i.levels[m.level - 1]?) with
        | none => 1
        | some l => if l.usable = true then 3 else 2
      s.journals (s.tendered p i answer) [tenderRecord p i answer, (0x10, lineByte p, [byte m.level, why] ++ le2 m.volts ++ le2 m.limit)]) := by
  obtain ⟨why, void, code⟩ := pinVoid_of_none lost
  refine ⟨by rw [tendered_pin, pin, Option.bind_some, Pin.recheck, void, if_neg (by simp)], fun state => ?_⟩
  intro reason
  have code : why.code = reason := code
  have records := PortRecord.captureRecords_unchecked (p := p) (i := i) (answer := answer) state
  rw [PortRecord.pinRecords, pin] at records
  dsimp only at records
  rw [Pin.records, void] at records
  dsimp only at records
  rw [code] at records
  exact tendered_journals (n := []) records

/-- A pin that a level bears stands, lowered to the level's amps, and the selection takes its terms (R99, R100). -/
theorem tendered_bearsPin (pin : (s.port p).pin = some m) (mem : l ∈ bearing i.levels m) :
    let amps := min l.amps (s.policy.pathMax.get (.line p))
    let limit := if amps < m.limit then amps / 50 * 50 else m.limit
    ((s.tendered p i answer).port p).pin = some { m with limit := limit } ∧
      ((s.port p).active → (s.port p).held = false → (s.port p).released = false →
        (s.tendered p i answer).chose p m.level m.volts limit l.shared) := by
  have stands : (s.port p).pin.bind (Pin.recheck s.policy p i) = some { m with
      limit := (if min l.amps (s.policy.pathMax.get (.line p)) < m.limit then min l.amps (s.policy.pathMax.get (.line p)) / 50 * 50
        else m.limit) } := by
    rw [pin, Option.bind_some, Pin.recheck, if_pos (pinVoid_of_bearing mem), lowerPin_of_bearing mem]
  obtain ⟨positive, level, -⟩ := mem_bearing.mp mem
  refine ⟨(tendered_pin s p i answer).trans stands, fun active held released => ?_⟩
  exact tendered_chose answer (PortRecord.captured_active active)
    (PortRecord.proposes_of_pin (PortRecord.captured_free held released) (PortRecord.captured_image _ _ _ _)
      ((PortRecord.captured_pin _ _ _ _).trans stands) (Nat.pos_of_ne_zero positive) level)

/-- A free port without a pin takes the winner's terms, or rests (R63, R64, R89 to R91). -/
theorem tendered_selects (active : (s.port p).active) (held : (s.port p).held = false) (released : (s.port p).released = false)
    (pin : (s.port p).pin = none) :
    (winner s.policy (.line p) i.levels = none →
      ((s.tendered p i answer).port p).state = restingOn ((s.tendered p i answer).port p).live ∧
        ((s.port p).state = .base →
          s.journals (s.tendered p i answer) [tenderRecord p i answer, (0x11, lineByte p, [byte i.levels.length])])) ∧
    ∀ c, winner s.policy (.line p) i.levels = some c →
      (s.tendered p i answer).chose p c.index c.volts (claimLimit s.policy (.line p) c.volts c.level) c.level.shared := by
  have active' := PortRecord.captured_active (q := s.policy) (p := p) (i := i) active
  have free := PortRecord.captured_free (q := s.policy) (p := p) (i := i) held released
  have image := PortRecord.captured_image s.policy p i (s.port p)
  have auto : ((s.port p).captured s.policy p i).pin = none := by rw [PortRecord.captured_pin, pin]; rfl
  refine ⟨fun lost => ?_, fun c won => tendered_chose answer active' (PortRecord.proposes_of_winner free image auto won)⟩
  have finds := PortRecord.findsNone_of_winner free image auto lost
  refine ⟨tendered_rests answer active' finds, fun base => ?_⟩
  have records := PortRecord.captureRecords_unchecked (p := p) (i := i) (answer := answer) (.inl base)
  rw [PortRecord.pinRecords, pin] at records
  exact tendered_noLevel records active' finds

/-- The image, and what a capture leaves of the port's flags and counts. -/
theorem tendered_image (s : State) (p : LinePort) (i : Image) (answer : Bool) :
    (∃ j, ((s.tendered p i answer).port p).image = some j ∧ j.bare = i.bare) ∧ ((s.tendered p i answer).port p).silent = false ∧
      ((s.tendered p i answer).port p).barred = false ∧ ((s.tendered p i answer).port p).held = (s.port p).held ∧
      ((s.tendered p i answer).port p).badFrame = (s.port p).badFrame ∧
      ((s.tendered p i answer).port p).staleFrame = (s.port p).staleFrame := by
  have core := tendered_core s p i answer
  obtain ⟨_, _, _, _, _, _, _, _, e⟩ := (s.port p).captured_eq s.policy p i
  rw [e] at core
  have images : ((s.tendered p i answer).port p).image.map Image.bare = some i.bare := (congrArg PortRecord.image core :)
  exact ⟨Option.map_eq_some_iff.mp images, (congrArg PortRecord.silent core :), (congrArg PortRecord.barred core :),
    (congrArg PortRecord.held core :), (congrArg PortRecord.badFrame core :), (congrArg PortRecord.staleFrame core :)⟩

/-! ### The frame on the wire -/

/-- The image of a TENDER's bytes. -/
def tenderImage (s : State) (tag : Nat) (cls : Byte) (entries : List (Byte × Byte × Byte × Byte)) : Image :=
  ⟨decodeClass cls, tag, s.time, entries.map levelOf⟩

theorem exec_tender {e : EngineId} {tag : Nat} {cls : Byte} {entries : List (Byte × Byte × Byte × Byte)}
    (here : s.attached (.line p) = true) (receiving : (s.line p).cond = .receiving) (lease : s.engineOf p = some e)
    (rx : (s.engine e).rx = tenderBytes tag cls entries) (positive : 0 < entries.length) (six : entries.length ≤ 6) (small : tag < 8)
    (mine : tag = 7 ∨ (s.port p).askTag = some tag) (negotiating : (s.port p).negotiating = true) :
    exec (.endDelimiter p) s = .next (s.tendered p (tenderImage s tag cls entries) (decide (tag ≠ 7))) := by
  have done := exec_endDelimiter_accepted here receiving lease (rx ▸ acceptFrame_tender positive six small)
  rw [State.deliver_tender, if_pos ⟨negotiating, mine⟩] at done
  exact done

theorem levelOf_bare (l : List (Byte × Byte × Byte × Byte)) : ((l.map levelOf).map Level.bare) = l.map levelOf := by
  rw [List.map_map]
  rfl

theorem tenderRecord_eq (s : State) (p : LinePort) (tag : Nat) (cls : Byte) (entries : List (Byte × Byte × Byte × Byte)) :
    tenderRecord p (tenderImage s tag cls entries) (decide (tag ≠ 7)) =
      (0x03, connectorCode (some (.line p)), [if cls = 1 then 1 else if cls = 2 then 2 else 0, BitVec.ofNat 8 entries.length,
        BitVec.ofNat 8 ((entries.map levelOf).countP fun l => l.usable), BitVec.ofNat 8 tag, if tag = 7 then 0 else 1]) := by
  have code : (decodeClass cls).code = if cls = 1 then 1 else if cls = 2 then 2 else 0 := by
    unfold decodeClass
    split
    · rfl
    · split <;> rfl
  have flag : (if decide (tag ≠ 7) = true then (1 : Byte) else 0) = if tag = 7 then 0 else 1 := by
    by_cases h : tag = 7 <;> simp [h]
  rw [tenderRecord, flag, ← code, show (tenderImage s tag cls entries).levels.length = entries.length from List.length_map _]
  rfl

/-- Settles O36. -/
theorem tenderIsCaptured : Obligations.TenderIsCaptured := by
  unfold Obligations.TenderIsCaptured
  refine ⟨fun s p e tag cls entries here receiving lease rx positive six small mine awake settled => ?_,
    fun s p e tag cls entries here receiving lease ok rx positive six small other => ?_⟩
  · intro levels n count tender active figures narrowed
    have negotiating : (s.port p).negotiating = true := by
      rw [PortRecord.negotiating, decide_eq_true awake, decide_eq_true settled]
      rfl
    have done := exec_tender here receiving lease rx positive six small mine negotiating
    have record := tenderRecord_eq s p tag cls entries
    have journal : s.journals (s.tendered p (tenderImage s tag cls entries) (decide (tag ≠ 7))) [tenderRecord p _ _] :=
      tendered_journals rfl
    obtain ⟨⟨j, image, bare⟩, silent, barred, held, bad, stale⟩ := tendered_image s p (tenderImage s tag cls entries) (decide (tag ≠ 7))
    have active_iff : active ↔ (s.port p).active := Iff.rfl
    have tender_eq : tenderRecord p (tenderImage s tag cls entries) (decide (tag ≠ 7)) = tender := record
    have count_eq : byte (tenderImage s tag cls entries).levels.length = count := by
      rw [show (tenderImage s tag cls entries).levels.length = entries.length from List.length_map _]
      rfl
    refine ⟨_, j, done, image, (congrArg Image.cls bare :), (congrArg Image.tag bare :), (congrArg Image.time bare :),
      (congrArg Image.levels bare).trans (levelOf_bare entries), tender_eq ▸ journal, silent, barred, held, bad, stale,
      fun k live origin act base => ?_, fun k staged origin shifting => ?_, fun m pin => ?_, fun faulted => ?_, fun shifting => ?_,
      fun act out => ?_, fun act free inService auto => ?_⟩
    · have state : (s.port p).state = .asking ∨ (s.port p).state = .claimed ∨ (s.port p).state = .bound := by
        obtain ⟨ns, nf⟩ := active_iff.mp act
        cases h : (s.port p).state <;> simp_all
      have covers := tendered_coversLive (i := tenderImage s tag cls entries) (answer := decide (tag ≠ 7)) live origin state
      rw [tender_eq] at covers
      exact covers
    · have covers := tendered_coversStaged (i := tenderImage s tag cls entries) (answer := decide (tag ≠ 7)) staged origin shifting
      rw [tender_eq] at covers
      exact covers
    · refine ⟨fun lost => ?_, fun l mem => ?_⟩
      · have voids := tendered_voidsPin (i := tenderImage s tag cls entries) (answer := decide (tag ≠ 7)) pin lost
        rw [tender_eq] at voids
        exact voids
      · exact tendered_bearsPin (i := tenderImage s tag cls entries) (answer := decide (tag ≠ 7)) pin mem
    · refine tendered_faulted _ ?_
      obtain ⟨_, _, _, _, _, _, _, _, e⟩ := (s.port p).captured_eq s.policy p (tenderImage s tag cls entries)
      rw [e]
      exact faulted
    · obtain ⟨state, deferred, -⟩ := tendered_shifting (s := s) (p := p) (i := tenderImage s tag cls entries) (decide (tag ≠ 7)) (by
        obtain ⟨_, _, _, _, _, _, _, _, e⟩ := (s.port p).captured_eq s.policy p (tenderImage s tag cls entries)
        rw [e]
        exact shifting)
      exact ⟨state, deferred⟩
    · refine tendered_held _ (PortRecord.captured_active (active_iff.mp act)) ?_
      obtain ⟨_, _, _, _, _, _, _, _, e⟩ := (s.port p).captured_eq s.policy p (tenderImage s tag cls entries)
      rw [e]
      exact out
    · have selects := tendered_selects (i := tenderImage s tag cls entries) (answer := decide (tag ≠ 7)) (active_iff.mp act) free inService auto
      rw [tender_eq, count_eq] at selects
      exact selects
  · refine leaseEnds_of_stale here receiving ok (rx ▸ acceptFrame_tender positive six (by omega)) ?_
    rw [State.deliver_tender, if_neg]
    rintro ⟨-, seven | mine⟩
    · omega
    · exact other mine

end

end Sys2Proof.Machine
end

/-! # Engines, entries and lines of the ports: what each operation of the Engine Queue keeps (3.1 to 3.5) -/

section
namespace Sys2Proof.Machine

section
variable {s t u v : State} {p o : LinePort} {d e : EngineId} {k : LeaseKind} {g : Engine} {l : Line} {b : Bool} {x : Option LinePort}

/-! ### Leases (R37) -/

/-- The two engines are leased to different ports. -/
def State.leasesApart (s : State) : Prop := ∀ l m, s.engines.e0.lease = some l → s.engines.e1.lease = some m → l.port ≠ m.port

theorem State.engineOf_iff (apart : s.leasesApart) : s.engineOf p = some e ↔ (s.engine e).lease.map Lease.port = some p := by
  refine ⟨State.lease_of_engineOf, fun h => ?_⟩
  unfold State.engineOf
  cases e with
  | e0 => exact if_pos h
  | e1 =>
    have other : s.engines.e0.lease.map Lease.port ≠ some p := fun h' => by
      obtain ⟨l, hl, rfl⟩ := Option.map_eq_some_iff.mp h'
      obtain ⟨m, hm, same⟩ := Option.map_eq_some_iff.mp h
      exact apart l m hl hm same.symm
    rw [if_neg other]
    exact if_pos h

theorem State.leasesApart_iff : s.leasesApart ↔
    ∀ d e, d ≠ e → ∀ p, (s.engine d).lease.map Lease.port = some p → (s.engine e).lease.map Lease.port ≠ some p := by
  refine ⟨fun apart d e ne p hd he => ?_, fun h l m hl hm same => ?_⟩
  · have first := (State.engineOf_iff apart).mpr hd
    rw [(State.engineOf_iff apart).mpr he] at first
    exact ne (Option.some.inj first).symm
  · exact h .e0 .e1 (by decide) l.port (by rw [State.engine]; exact congrArg (Option.map Lease.port) hl)
      (by rw [same]; exact congrArg (Option.map Lease.port) hm)

theorem State.enginesOk_iff : s.enginesOk ↔ (∀ e, (s.engine e).state = .free ↔ (s.engine e).lease = none) ∧ s.leasesApart ∧
    (s.queue.map QueueEntry.port).Nodup ∧ (∀ p, s.queued p = true → s.engineOf p = none) ∧
    ∀ p, (s.queued p = true ∨ (s.engineOf p).isSome = true) → s.attached (.line p) = true := Iff.rfl

theorem State.enginesOk.apart (h : s.enginesOk) : s.leasesApart := h.2.1

theorem State.enginesOk.unleased (h : s.enginesOk) (free : (s.engine e).state = .free) : (s.engine e).lease = none := (h.1 e).mp free

theorem State.enginesOk.busy (h : s.enginesOk) (lease : s.engineOf p = some e) : (s.engine e).state ≠ .free := fun free => by
  have := State.lease_of_engineOf lease
  rw [h.unleased free] at this
  cases this

theorem State.enginesOk.lone (h : s.enginesOk) (absent : s.attached (.line p) = false) : s.engineOf p = none ∧ s.queued p = false := by
  obtain ⟨-, -, -, -, there⟩ := h
  refine ⟨?_, ?_⟩
  · by_contra some
    rw [there p (.inr (Option.isSome_iff_ne_none.mpr some))] at absent
    cases absent
  · by_contra queued
    rw [there p (.inl (by simpa using queued))] at absent
    cases absent

/-- Engines, queue and attached ports are all that the exclusion speaks of. -/
theorem State.enginesOk.congr (h : s.enginesOk) (engines : t.engines = s.engines) (queue : t.queue = s.queue)
    (attached : ∀ p, s.attached (.line p) = true → t.attached (.line p) = true) : t.enginesOk := by
  obtain ⟨free, apart, nodup, lone, there⟩ := State.enginesOk_iff.mp h
  have engineOf : ∀ p, t.engineOf p = s.engineOf p := fun p => State.engineOf_congr engines
  have queued : ∀ p, t.queued p = s.queued p := fun p => by rw [State.queued, State.queued, queue]
  refine State.enginesOk_iff.mpr ⟨fun e => ?_, ?_, queue ▸ nodup, fun p => ?_, fun p => ?_⟩
  · rw [State.engine, engines]
    exact free e
  · rw [State.leasesApart, engines]
    exact apart
  · rw [queued, engineOf]
    exact lone p
  · rw [queued, engineOf]
    exact fun hp => attached p (there p hp)

/-! ### One engine changes -/

/-- A state in which only the engine `e` may differ, among what the exclusion speaks of. -/
structure State.oneEngine (e : EngineId) (s t : State) : Prop where
  others : ∀ d, d ≠ e → t.engine d = s.engine d
  queue : t.queue = s.queue
  trackers : t.trackers = s.trackers

theorem State.oneEngine.engineOf_of_ne (h : State.oneEngine e s t) (apart : s.leasesApart) (apart' : t.leasesApart)
    (here : (s.engine e).lease.map Lease.port ≠ some p) (there : (t.engine e).lease.map Lease.port ≠ some p) :
    t.engineOf p = s.engineOf p := by
  have same : ∀ d, t.engineOf p = some d ↔ s.engineOf p = some d := fun d => by
    rw [State.engineOf_iff apart, State.engineOf_iff apart']
    by_cases at' : d = e
    · subst at'
      exact ⟨fun h => absurd h there, fun h => absurd h here⟩
    · rw [h.others d at']
  cases hs : s.engineOf p with
  | some d => exact (same d).mpr hs
  | none =>
    cases ht : t.engineOf p with
    | none => rfl
    | some d => rw [(same d).mp ht] at hs; cases hs

/-- The engine keeps its lease. -/
theorem State.oneEngine.engineOf_of_lease (h : State.oneEngine e s t) (lease : (t.engine e).lease = (s.engine e).lease) :
    t.engineOf p = s.engineOf p := by
  have all : ∀ d, (t.engine d).lease = (s.engine d).lease := fun d => by
    by_cases at' : d = e
    · rw [at', lease]
    · rw [h.others d at']
  have first : t.engines.e0.lease = s.engines.e0.lease := all .e0
  have second : t.engines.e1.lease = s.engines.e1.lease := all .e1
  rw [State.engineOf, State.engineOf, first, second]

theorem State.enginesOk.of_lease (ok : s.enginesOk) (h : State.oneEngine e s t) (lease : (t.engine e).lease = (s.engine e).lease)
    (state : (t.engine e).state = .free ↔ (s.engine e).state = .free) : t.enginesOk := by
  obtain ⟨free, apart, nodup, lone, there⟩ := State.enginesOk_iff.mp ok
  have engineOf : ∀ p, t.engineOf p = s.engineOf p := fun p => h.engineOf_of_lease lease
  have queued : ∀ p, t.queued p = s.queued p := fun p => by rw [State.queued, State.queued, h.queue]
  refine State.enginesOk_iff.mpr ⟨fun d => ?_, ?_, by rw [h.queue]; exact nodup, fun p => ?_, fun p hp => ?_⟩
  · by_cases at' : d = e
    · subst at'
      rw [state, lease]
      exact free d
    · rw [h.others d at']
      exact free d
  · have all : ∀ d, (t.engine d).lease = (s.engine d).lease := fun d => by
      by_cases at' : d = e
      · rw [at', lease]
      · rw [h.others d at']
    intro l m hl hm
    exact apart l m ((all .e0).symm.trans hl) ((all .e1).symm.trans hm)
  · rw [queued, engineOf]
    exact lone p
  · rw [queued, engineOf] at hp
    rw [State.attached, State.tracker, h.trackers]
    exact there p hp

/-- The engine is freed. -/
theorem State.leasesApart.of_freed (apart : s.leasesApart) (h : State.oneEngine e s t) (lease : (t.engine e).lease = none) :
    t.leasesApart := by
  rw [State.leasesApart_iff] at apart ⊢
  intro c d ne p hc hd
  have notc : c ≠ e := fun same => by rw [same, lease] at hc; cases hc
  have notd : d ≠ e := fun same => by rw [same, lease] at hd; cases hd
  rw [h.others c notc] at hc
  rw [h.others d notd] at hd
  exact apart c d ne p hc hd

theorem State.oneEngine.engineOf_freed (h : State.oneEngine e s t) (apart : s.leasesApart) (lease : (t.engine e).lease = none) :
    t.engineOf p = if s.engineOf p = some e then none else s.engineOf p := by
  have apart' := apart.of_freed h lease
  split
  next mine =>
    cases ht : t.engineOf p with
    | none => rfl
    | some d =>
      have held := State.lease_of_engineOf ht
      by_cases at' : d = e
      · rw [at', lease] at held
        cases held
      · rw [h.others d at'] at held
        rw [(State.engineOf_iff apart).mpr held] at mine
        exact absurd (Option.some.inj mine) at'
  next other =>
    refine h.engineOf_of_ne apart apart' (fun hl => other ((State.engineOf_iff apart).mpr hl)) ?_
    rw [lease]
    exact fun hl => nomatch hl

theorem State.enginesOk.of_freed (ok : s.enginesOk) (h : State.oneEngine e s t) (freed : t.engine e = Engine.freed) : t.enginesOk := by
  obtain ⟨free, apart, nodup, lone, there⟩ := State.enginesOk_iff.mp ok
  have lease : (t.engine e).lease = none := by rw [freed]; rfl
  have engineOf : ∀ p, t.engineOf p = if s.engineOf p = some e then none else s.engineOf p := fun p => h.engineOf_freed apart lease
  have queued : ∀ p, t.queued p = s.queued p := fun p => by rw [State.queued, State.queued, h.queue]
  refine State.enginesOk_iff.mpr ⟨fun d => ?_, apart.of_freed h lease, by rw [h.queue]; exact nodup, fun p hp => ?_, fun p hp => ?_⟩
  · by_cases at' : d = e
    · subst at'
      rw [freed]
      exact ⟨fun _ => rfl, fun _ => rfl⟩
    · rw [h.others d at']
      exact free d
  · rw [queued] at hp
    rw [engineOf, lone p hp]
    simp
  · rw [State.attached, State.tracker, h.trackers]
    refine there p ?_
    rw [queued, engineOf] at hp
    refine hp.imp id fun some => ?_
    split at some
    · cases some
    · exact some

/-- A FREE engine is leased to a port that has none and no entry. -/
theorem State.leasesApart.of_leased (apart : s.leasesApart) (h : State.oneEngine e s t) (unleased : s.engineOf p = none)
    (lease : (t.engine e).lease = some ⟨p, k⟩) : t.leasesApart := by
  have outside := State.engineOf_eq_none.mp unleased
  rw [State.leasesApart_iff] at apart ⊢
  intro c d ne q hc hd
  by_cases atc : c = e
  · subst atc
    rw [lease] at hc
    cases hc
    rw [h.others d ne.symm] at hd
    exact outside d hd
  · rw [h.others c atc] at hc
    by_cases atd : d = e
    · subst atd
      rw [lease] at hd
      cases hd
      exact outside c hc
    · rw [h.others d atd] at hd
      exact apart c d ne q hc hd

theorem State.oneEngine.engineOf_leased (h : State.oneEngine e s t) (ok : s.enginesOk) (free : (s.engine e).state = .free)
    (unleased : s.engineOf p = none) (lease : (t.engine e).lease = some ⟨p, k⟩) :
    t.engineOf o = if o = p then some e else s.engineOf o := by
  have apart' := ok.apart.of_leased h unleased lease
  split
  next same =>
    subst same
    exact (State.engineOf_iff apart').mpr (by rw [lease]; rfl)
  next other =>
    refine h.engineOf_of_ne ok.apart apart' ?_ ?_
    · rw [ok.unleased free]
      exact fun hl => nomatch hl
    · rw [lease]
      exact fun hl => other (Option.some.inj hl).symm

theorem State.enginesOk.of_leased (ok : s.enginesOk) (h : State.oneEngine e s t) (free : (s.engine e).state = .free)
    (unleased : s.engineOf p = none) (unqueued : s.queued p = false) (here : s.attached (.line p) = true)
    (lease : (t.engine e).lease = some ⟨p, k⟩) (busy : (t.engine e).state ≠ .free) : t.enginesOk := by
  have engineOf : ∀ o, t.engineOf o = if o = p then some e else s.engineOf o := fun o => h.engineOf_leased ok free unleased lease
  obtain ⟨frees, apart, nodup, lone, there⟩ := State.enginesOk_iff.mp ok
  have queued : ∀ o, t.queued o = s.queued o := fun o => by rw [State.queued, State.queued, h.queue]
  refine State.enginesOk_iff.mpr ⟨fun d => ?_, apart.of_leased h unleased lease, by rw [h.queue]; exact nodup, fun o ho => ?_, fun o ho => ?_⟩
  · by_cases at' : d = e
    · subst at'
      rw [lease]
      exact ⟨fun hf => absurd hf busy, fun hn => nomatch hn⟩
    · rw [h.others d at']
      exact frees d
  · rw [queued] at ho
    have ne : o ≠ p := fun same => by rw [same, unqueued] at ho; cases ho
    rw [engineOf, if_neg ne]
    exact lone o ho
  · rw [State.attached, State.tracker, h.trackers]
    by_cases same : o = p
    · rw [same]
      exact here
    · rw [queued, engineOf, if_neg same] at ho
      exact there o ho

/-! ### A lease begins (R43) -/

theorem State.oneEngine_beginLease (s : State) (e : EngineId) (p : LinePort) (k : LeaseKind) : State.oneEngine e s (s.beginLease e p k) where
  others d ne := State.beginLease_engine_of_ne s ne p k
  queue := (s.beginLease_fields e p k).1
  trackers := (s.beginLease_fields e p k).2

theorem State.enginesOk_beginLease (ok : s.enginesOk) (free : (s.engine e).state = .free) (unleased : s.engineOf p = none)
    (unqueued : s.queued p = false) (here : s.attached (.line p) = true) (k : LeaseKind) : (s.beginLease e p k).enginesOk := by
  have one := s.oneEngine_beginLease e p k
  rcases s.beginLease_cases e p k with ⟨-, -, same⟩ | ⟨-, busy, lease⟩
  · refine ok.of_freed one ?_
    rw [same, State.missedBy_setEngine, State.engine_setEngine_self]
  · exact ok.of_leased one free unleased unqueued here lease busy

end

end Sys2Proof.Machine
end

/-! # Every port in its seat: served, waiting, or in need of nothing (3.1, R18, R19, R39 to R42) -/

section
namespace Sys2Proof.Machine

section
variable {s t u v : State} {p o : LinePort} {d e : EngineId} {k : LeaseKind} {g : Engine} {l : Line} {b : Bool} {x : Option LinePort}
  {q : QueueEntry} {rest : List QueueEntry}

/-! ### Seats -/

/-- The line of a port without an engine (3.1, R18). -/
def Line.free (l : Line) : Prop := (l.cond = .idle ∨ l.cond = .hailed ∨ l.cond = .stray) ∧ (l.hail = true ↔ l.cond = .hailed)

/-- The line of a port whose engine is in this state (3.1, R19). -/
def Line.leased (state : EngineState) (l : Line) : Prop := engineAgrees state l.cond ∧ (l.hail = true ↔ state = .heeding)

/-- The line of a port is as its engine has it; without one it is free, and a port that needs an engine waits (R39). -/
def State.inSeat (s : State) (p : LinePort) : Prop :=
  (∀ e, s.engineOf p = some e → (s.line p).leased (s.engine e).state) ∧
    (s.engineOf p = none → (s.line p).free ∧ (s.needsEngine p = true → s.queued p = true))

/-- HAIL entries stand ahead of SEND entries (R40). -/
def hailsLead (l : List QueueEntry) : Prop := l.Pairwise fun q r => q.cls = .send → r.cls = .send

/-- A port of its own that may not have applied yet: it has no engine and its line is free. -/
def State.seatBut (s : State) (x : Option LinePort) (p : LinePort) : Prop :=
  s.inSeat p ∨ x = some p ∧ s.engineOf p = none ∧ (s.line p).free

/-- The exclusion of the engines holds and, where asked, nobody waits for a FREE engine and every port is in its seat, but for
one that may not have applied. -/
def State.kept (b : Bool) (x : Option LinePort) (s : State) : Prop :=
  s.enginesOk ∧ (b = true → (s.queue ≠ [] → ∀ e, (s.engine e).state ≠ .free) ∧ hailsLead s.queue ∧ ∀ p, s.seatBut x p)

/-- The same while the engine `e` is given out. -/
def State.dealt (b : Bool) (x : Option LinePort) (e : EngineId) (s : State) : Prop :=
  s.enginesOk ∧ (b = true → (s.queue ≠ [] → ∀ d, d ≠ e → (s.engine d).state ≠ .free) ∧ hailsLead s.queue ∧ ∀ p, s.seatBut x p)

theorem engineAgrees_not_free {state : EngineState} {cond : LineCondition} (busy : state ≠ .free) (agrees : engineAgrees state cond) :
    cond ≠ .hailed := by
  cases state <;> simp_all [engineAgrees]

/-- The invariant of the statement, port by port. -/
theorem State.enginesServed_iff (ok : s.enginesOk) : s.enginesServed ↔
    (s.queue ≠ [] → ∀ e, (s.engine e).state ≠ .free) ∧ hailsLead s.queue ∧ ∀ p, s.inSeat p := by
  unfold State.enginesServed
  constructor
  · rintro ⟨busy, needs, leads, agrees, lines⟩
    refine ⟨busy, leads, fun p => ⟨fun e lease => ?_, fun free => ?_⟩⟩
    · obtain ⟨m, hm, rfl⟩ := Option.map_eq_some_iff.mp (State.lease_of_engineOf lease)
      have cond := agrees e m hm
      refine ⟨cond, ?_⟩
      rw [(lines m.port).2]
      constructor
      · rintro (hailed | ⟨d, hd, heeding⟩)
        · exact absurd hailed (engineAgrees_not_free (ok.busy lease) cond)
        · rw [lease] at hd
          cases hd
          exact heeding
      · exact fun heeding => .inr ⟨e, lease, heeding⟩
    · refine ⟨⟨(lines p).1 free, ?_⟩, fun needed => ?_⟩
      · rw [(lines p).2, free]
        simp
      · simp only [State.needsEngine, Bool.and_eq_true, Bool.or_eq_true] at needed
        obtain ⟨here, why⟩ := needed
        rcases needs p here (why.imp (fun h => Option.isSome_iff_ne_none.mp h) id) with queued | leased
        · exact queued
        · rw [free] at leased
          cases leased
  · rintro ⟨busy, leads, seats⟩
    refine ⟨busy, fun p here why => ?_, leads, fun e m hm => ?_, fun p => ⟨fun free => ((seats p).2 free).1.1, ?_⟩⟩
    · cases lease : s.engineOf p with
      | some e => exact .inr rfl
      | none =>
        refine .inl (((seats p).2 lease).2 ?_)
        simp only [State.needsEngine, Bool.and_eq_true, Bool.or_eq_true]
        exact ⟨here, why.imp (fun h => Option.isSome_iff_ne_none.mpr h) id⟩
    · exact ((seats m.port).1 e ((State.engineOf_iff ok.apart).mpr (by rw [hm]; rfl))).1
    · cases lease : s.engineOf p with
      | some e =>
        obtain ⟨cond, hail⟩ := (seats p).1 e lease
        rw [hail]
        constructor
        · exact fun heeding => .inr ⟨e, rfl, heeding⟩
        · rintro (hailed | ⟨d, hd, heeding⟩)
          · exact absurd hailed (engineAgrees_not_free (ok.busy lease) cond)
          · cases hd
            exact heeding
      | none =>
        rw [((seats p).2 lease).1.2]
        simp

theorem State.seatBut_none : s.seatBut none p ↔ s.inSeat p := by simp [State.seatBut]

theorem State.kept_iff : s.kept b none ↔ s.enginesOk ∧ (b = true → s.enginesServed) := by
  unfold State.kept
  constructor
  · rintro ⟨ok, h⟩
    exact ⟨ok, fun hb => (State.enginesServed_iff ok).mpr (by simpa only [State.seatBut_none] using h hb)⟩
  · rintro ⟨ok, h⟩
    exact ⟨ok, fun hb => by simpa only [State.seatBut_none] using (State.enginesServed_iff ok).mp (h hb)⟩

theorem State.seatBut.free (h : s.seatBut x p) (unleased : s.engineOf p = none) : (s.line p).free := by
  rcases h with h | ⟨-, -, h⟩
  · exact (h.2 unleased).1
  · exact h

/-- A port about which nothing has changed, but that it may need an engine no longer. -/
theorem State.seatBut.congr (h : s.seatBut x p) (engineOf : t.engineOf p = s.engineOf p)
    (state : ∀ d, s.engineOf p = some d → (t.engine d).state = (s.engine d).state) (line : t.line p = s.line p)
    (needs : t.needsEngine p = true → s.needsEngine p = true) (queued : s.queued p = true → t.queued p = true) : t.seatBut x p := by
  refine h.imp (fun h => ⟨fun d hd => ?_, fun free => ?_⟩) fun ⟨mine, unleased, free⟩ => ⟨mine, engineOf.trans unleased, line ▸ free⟩
  · rw [engineOf] at hd
    rw [line, state d hd]
    exact h.1 d hd
  · rw [engineOf] at free
    rw [line]
    exact ⟨(h.2 free).1, fun hn => queued ((h.2 free).2 (needs hn))⟩

theorem State.kept.weaken (h : s.kept b none) : s.kept b x := by
  obtain ⟨ok, h⟩ := h
  refine ⟨ok, fun hb => ?_⟩
  obtain ⟨busy, leads, seats⟩ := h hb
  exact ⟨busy, leads, fun p => .inl (State.seatBut_none.mp (seats p))⟩

theorem State.kept.dealt (h : s.kept b x) : s.dealt b x e := by
  obtain ⟨ok, h⟩ := h
  exact ⟨ok, fun hb => ⟨fun ne d _ => (h hb).1 ne d, (h hb).2⟩⟩

/-! ### A lease is served (R43 to R46) -/

theorem Line.free_hail (h : l.free) (hail : l.hail = true) : l.cond = .hailed := h.2.mp hail

/-- What the engine of a port with a free line makes of the line. -/
theorem State.serve_leased (lasts : s.occupied p) (free : (s.line p).free) :
    ((s.serve e p).line p).leased ((s.serve e p).engine e).state := by
  cases hail : (s.line p).hail with
  | true =>
    rw [State.serve_hail hail, State.beginHeed]
    have line : ((((s.setEngine e { s.engine e with state := .heeding }).setLine p ((s.line p).enter .sending)).line p)) = (s.line p).enter .sending :=
      State.line_setLine_self _ _ _
    have engine : ((((s.setEngine e { s.engine e with state := .heeding }).setLine p ((s.line p).enter .sending)).engine e)).state = .heeding := by
      show ((s.setEngine e { s.engine e with state := .heeding }).engine e).state = _
      rw [State.engine_setEngine_self]
    rw [line, engine]
    exact ⟨rfl, ⟨fun _ => rfl, fun _ => hail⟩⟩
  | false =>
    have filled : (s.port p).slot ≠ none := lasts.resolve_left (by rw [hail]; simp)
    obtain ⟨f, slot⟩ := Option.ne_none_iff_exists'.mp filled
    by_cases idle : (s.line p).cond = .idle
    · rw [State.serve_send hail slot idle, State.takeFrame]
      dsimp only
      rw [State.line_setLine_self]
      have engine : ∀ w : State, ∀ g : Engine, ∀ l : Line, (((w.setEngine e g).setLine p l).engine e) = g := fun w g l =>
        State.engine_setEngine_self w e g
      rw [engine]
      exact ⟨rfl, ⟨fun h => absurd (hail.symm.trans h) (by simp), fun h => nomatch h⟩⟩
    · rw [State.serve_wait hail slot idle, State.engine_setEngine_self]
      have stray : (s.line p).cond = .stray := by
        rcases free.1 with h | h | h
        · exact absurd h idle
        · exact absurd (hail.symm.trans (free.2.mpr h)) (by simp)
        · exact h
      exact ⟨stray, ⟨fun h => absurd (hail.symm.trans h) (by simp), fun h => nomatch h⟩⟩

theorem State.beginLease_line (lasts : s.occupied p) (free : (s.line p).free) (k : LeaseKind) :
    ((s.beginLease e p k).line p).leased ((s.beginLease e p k).engine e).state := by
  rw [State.beginLease_eq]
  generalize leased : s.withEngines (s.engines.set e ⟨.waitLine, some ⟨p, k⟩, false, [], none⟩) = w
  obtain ⟨r, missed, slot⟩ := State.missedBy_rest w p k
  have line : (w.missedBy p k).line p = s.line p := by rw [missed, ← leased]; rfl
  have filled : ((w.missedBy p k).port p).slot = (s.port p).slot := by
    rw [missed, State.port_setPort_self, slot, ← leased]
    rfl
  exact State.serve_leased (by rw [State.occupied, line, filled]; exact lasts) (by rw [line]; exact free)

theorem State.engineOf_beginLease (ok : s.enginesOk) (free : (s.engine e).state = .free) (unleased : s.engineOf p = none) (ne : o ≠ p)
    (k : LeaseKind) : (s.beginLease e p k).engineOf o = s.engineOf o := by
  have one := s.oneEngine_beginLease e p k
  rcases s.beginLease_cases e p k with ⟨-, -, same⟩ | ⟨-, -, lease⟩
  · rw [one.engineOf_freed ok.apart (by rw [same, State.missedBy_setEngine, State.engine_setEngine_self]; rfl), if_neg]
    intro mine
    exact ok.busy mine free
  · rw [one.engineOf_leased ok free unleased lease, if_neg ne]

/-- The port whose lease has begun is in its seat. -/
theorem State.seat_beginLease (ok : s.enginesOk) (free : (s.engine e).state = .free) (unleased : s.engineOf p = none)
    (line : (s.line p).free) (k : LeaseKind) : (s.beginLease e p k).inSeat p := by
  have one := s.oneEngine_beginLease e p k
  rcases s.beginLease_cases e p k with ⟨quiet, empty, same⟩ | ⟨lasts, -, lease⟩
  · have gone : (s.beginLease e p k).engineOf p = none := by
      rw [one.engineOf_freed ok.apart (by rw [same, State.missedBy_setEngine, State.engine_setEngine_self]; rfl), unleased]
      simp
    obtain ⟨slot, lines, -⟩ := (s.setEngine e Engine.freed).missedBy_kept p p k
    refine ⟨fun d hd => (by rw [gone] at hd; cases hd), fun _ => ⟨?_, fun needs => ?_⟩⟩
    · rw [same, State.line, lines]
      exact line
    · rw [State.needsEngine, same, slot, State.line, lines] at needs
      simp only [Bool.and_eq_true, Bool.or_eq_true] at needs
      obtain ⟨-, filled | hail⟩ := needs
      · have filled : (s.port p).slot.isSome = true := filled
        rw [empty] at filled
        cases filled
      · have hail : (s.line p).hail = true := hail
        rw [quiet] at hail
        cases hail
  · have mine : (s.beginLease e p k).engineOf p = some e := by rw [one.engineOf_leased ok free unleased lease, if_pos rfl]
    refine ⟨fun d hd => ?_, fun none => (by rw [mine] at none; cases none)⟩
    rw [mine] at hd
    cases hd
    exact State.beginLease_line lasts line k

/-- Beginning a lease leaves the other ports in their seats. -/
theorem State.seatBut_beginLease (ok : s.enginesOk) (free : (s.engine e).state = .free) (unleased : s.engineOf p = none) (ne : o ≠ p)
    (h : s.seatBut x o) (k : LeaseKind) : (s.beginLease e p k).seatBut x o := by
  obtain ⟨port, line⟩ := State.beginLease_port_of_ne s (p := p) ne e k
  obtain ⟨queue, trackers⟩ := s.beginLease_fields e p k
  refine h.congr (State.engineOf_beginLease ok free unleased ne k) (fun d hd => ?_) line (fun hn => ?_) fun hq => ?_
  · rw [State.beginLease_engine_of_ne s (fun same => ok.busy hd (by rw [same]; exact free)) p k]
  · rwa [State.needsEngine_congr (s := s) (by rw [State.attached, State.attached, State.tracker, State.tracker, trackers]) (by rw [port]) (by rw [line])] at hn
  · rwa [State.queued, queue]

/-! ### The queue is served (R42) -/

theorem State.queued_withQueue (s : State) (l : List QueueEntry) : (s.withQueue l).queued p = l.any fun q => decide (q.port = p) := rfl

theorem State.queued_of_cons (queue : s.queue = q :: rest) (ne : p ≠ q.port) : (s.withQueue rest).queued p = s.queued p := by
  rw [State.queued_withQueue, State.queued, queue, List.any_cons, decide_eq_false (fun h => ne h.symm), Bool.false_or]

/-- The head of the queue is taken out. -/
theorem State.enginesOk.tail (ok : s.enginesOk) (queue : s.queue = q :: rest) : (s.withQueue rest).enginesOk ∧
    (s.withQueue rest).engineOf q.port = none ∧ (s.withQueue rest).queued q.port = false ∧
      (s.withQueue rest).attached (.line q.port) = true := by
  obtain ⟨free, apart, nodup, lone, there⟩ := State.enginesOk_iff.mp ok
  rw [queue, List.map_cons, List.nodup_cons] at nodup
  have head : s.queued q.port = true := by rw [State.queued, queue]; simp
  have shrinks : ∀ p, (s.withQueue rest).queued p = true → s.queued p = true := fun p hp => by
    rw [State.queued, queue, List.any_cons, show rest.any (fun r => decide (r.port = p)) = true from hp, Bool.or_true]
  refine ⟨State.enginesOk_iff.mpr ⟨free, apart, nodup.2, fun p hp => lone p (shrinks p hp), fun p hp => there p (hp.imp (shrinks p) id)⟩,
    lone _ head, ?_, there _ (.inl head)⟩
  rw [State.queued_withQueue, Bool.eq_false_iff]
  intro h
  obtain ⟨r, mem, same⟩ := List.any_eq_true.mp h
  exact nodup.1 (List.mem_map.mpr ⟨r, mem, by simpa using same⟩)

/-- The engine is given out until a lease lasts or the queue is empty. -/
theorem State.kept_giveOut {l : List QueueEntry} (h : s.dealt b x e) (queue : s.queue = l) : (giveOut e l s).kept b x := by
  induction l generalizing s with
  | nil =>
    obtain ⟨ok, h⟩ := h
    exact ⟨ok, fun hb => ⟨fun ne => absurd queue ne, (h hb).2⟩⟩
  | cons q rest ih =>
    obtain ⟨ok, h⟩ := h
    rw [giveOut]
    split
    next free =>
      obtain ⟨ok', unleased, unqueued, here⟩ := ok.tail queue
      refine ih ⟨State.enginesOk_beginLease ok' free unleased unqueued here q.cls, fun hb => ?_⟩ (State.beginLease_fields _ e q.port q.cls).1
      obtain ⟨busy, leads, seats⟩ := h hb
      rw [queue] at leads
      refine ⟨fun _ d ne => ?_, ?_, fun o => ?_⟩
      · rw [State.beginLease_engine_of_ne _ ne]
        exact busy (by rw [queue]; simp) d ne
      · rw [(State.beginLease_fields _ e q.port q.cls).1]
        exact (List.pairwise_cons.mp leads).2
      · by_cases same : o = q.port
        · subst same
          exact .inl (State.seat_beginLease ok' free unleased ((seats q.port).free unleased) q.cls)
        · refine State.seatBut_beginLease ok' free unleased same ?_ q.cls
          exact (seats o).congr rfl (fun _ _ => rfl) rfl id fun hq => by rw [State.queued_of_cons queue same]; exact hq
    next busy' =>
      refine ⟨ok, fun hb => ?_⟩
      obtain ⟨busy, rest⟩ := h hb
      exact ⟨fun ne d => if same : d = e then same ▸ busy' else busy ne d same, rest⟩

theorem State.kept_giveEngine (h : s.dealt b x e) : (s.giveEngine e).kept b x := State.kept_giveOut h rfl

/-! ### A port applies (R39, R40) -/

theorem hailsLead_joinQueue {l : List QueueEntry} (h : hailsLead l) (p : LinePort) (k : LeaseKind) : hailsLead (joinQueue l p k) := by
  cases k with
  | send =>
    refine List.pairwise_append.mpr ⟨h, List.pairwise_singleton _ _, fun a _ c hc => ?_⟩
    rw [List.mem_singleton] at hc
    exact fun _ => by rw [hc]
  | hail =>
    have hails : ∀ a ∈ l.filter (fun e => decide (e.cls = .hail)), a.cls = .hail := fun a ha => by simpa using (List.mem_filter.mp ha).2
    have sends : ∀ a ∈ l.filter (fun e => decide (e.cls = .send)), a.cls = .send := fun a ha => by simpa using (List.mem_filter.mp ha).2
    refine List.pairwise_append.mpr ⟨?_, List.pairwise_cons.mpr ⟨fun _ _ hs => (nomatch hs), ?_⟩, fun a ha c hc hs => ?_⟩
    · exact List.Pairwise.sublist (List.filter_sublist ..) h
    · exact List.Pairwise.sublist (List.filter_sublist ..) h
    · rw [hails a ha] at hs
      cases hs

theorem map_port_joinQueue {l : List QueueEntry} (h : (l.map QueueEntry.port).Nodup) (out : p ∉ l.map QueueEntry.port) (k : LeaseKind) :
    ((joinQueue l p k).map QueueEntry.port).Nodup := by
  cases k with
  | send =>
    rw [joinQueue, List.map_append, List.nodup_append]
    refine ⟨h, by simp, fun a ha c hc => ?_⟩
    simp only [List.map_cons, List.map_nil, List.mem_singleton] at hc
    exact fun same => out (hc ▸ same ▸ ha)
  | hail =>
    have perm : (joinHail l p).Perm (⟨p, .hail⟩ :: l) := by
      have split : (l.filter (fun e => decide (e.cls = .hail)) ++ l.filter fun e => decide (e.cls = .send)).Perm l := by
        have other : (fun e : QueueEntry => decide (e.cls = .send)) = fun e => !decide (e.cls = .hail) := by
          funext e
          cases e.cls <;> rfl
        rw [other]
        exact List.filter_append_perm _ l
      exact List.perm_middle.trans (split.cons _)
    refine ((perm.map QueueEntry.port).nodup_iff).mpr ?_
    rw [List.map_cons, List.nodup_cons]
    exact ⟨out, h⟩

theorem State.not_mem_queue (unqueued : s.queued p = false) : p ∉ s.queue.map QueueEntry.port := fun mem => by
  obtain ⟨q, hq, rfl⟩ := List.mem_map.mp mem
  exact State.queued_eq_false.mp unqueued q.cls hq

theorem State.enginesOk_joinQueue (ok : s.enginesOk) (unleased : s.engineOf p = none) (unqueued : s.queued p = false)
    (here : s.attached (.line p) = true) (k : LeaseKind) : (s.withQueue (joinQueue s.queue p k)).enginesOk := by
  obtain ⟨free, apart, nodup, lone, there⟩ := State.enginesOk_iff.mp ok
  have joined : ∀ o, (s.withQueue (joinQueue s.queue p k)).queued o = true → o = p ∨ s.queued o = true := fun o ho => by
    obtain ⟨c, mem⟩ := State.queued_iff.mp ho
    rcases mem_joinQueue.mp mem with same | old
    · cases same
      exact .inl rfl
    · exact .inr (State.queued_iff.mpr ⟨c, old⟩)
  refine State.enginesOk_iff.mpr ⟨free, apart, map_port_joinQueue nodup (State.not_mem_queue unqueued) k, fun o ho => ?_, fun o ho => ?_⟩
  · rcases joined o ho with rfl | old
    · exact unleased
    · exact lone o old
  · rcases ho with ho | ho
    · rcases joined o ho with rfl | old
      · exact here
      · exact there o (.inl old)
    · exact there o (.inr ho)

/-- A port that has taken a FREE engine: all are in their seats. -/
theorem State.kept_beginLease (h : s.kept b (some p)) (free : (s.engine e).state = .free) (unleased : s.engineOf p = none)
    (unqueued : s.queued p = false) (here : s.attached (.line p) = true) (k : LeaseKind) : (s.beginLease e p k).kept b none := by
  obtain ⟨ok, h⟩ := h
  refine ⟨State.enginesOk_beginLease ok free unleased unqueued here k, fun hb => ?_⟩
  obtain ⟨busy, leads, seats⟩ := h hb
  have queue := (s.beginLease_fields e p k).1
  have empty : s.queue = [] := by
    by_contra ne
    exact busy ne e free
  refine ⟨fun ne => absurd (queue.trans empty) ne, by rw [queue]; exact leads, fun o => ?_⟩
  by_cases same : o = p
  · subst same
    exact .inl (State.seat_beginLease ok free unleased ((seats o).free unleased) k)
  · have := State.seatBut_beginLease ok free unleased same (seats o) k
    exact this.imp id fun ⟨mine, _⟩ => absurd (Option.some.inj mine).symm same

theorem State.kept_apply (h : s.kept b (some p)) : (s.apply p).kept b none := by
  unfold State.apply
  split
  next acts =>
    simp only [Bool.and_eq_true, Bool.not_eq_true', Option.isNone_iff_eq_none] at acts
    obtain ⟨⟨needs, unleased⟩, unqueued⟩ := acts
    have here : s.attached (.line p) = true := by
      rw [State.needsEngine, Bool.and_eq_true] at needs
      exact needs.1
    dsimp only
    split
    next free => exact State.kept_beginLease (e := .e0) h free unleased unqueued here _
    next busy0 =>
      split
      next free => exact State.kept_beginLease (e := .e1) h free unleased unqueued here _
      next busy1 =>
        obtain ⟨ok, h⟩ := h
        refine ⟨State.enginesOk_joinQueue ok unleased unqueued here _, fun hb => ?_⟩
        obtain ⟨-, leads, seats⟩ := h hb
        refine ⟨fun _ d => by cases d <;> assumption, hailsLead_joinQueue leads p _, fun o => ?_⟩
        by_cases same : o = p
        · subst same
          exact .inl ⟨fun d hd => (by rw [show s.engineOf o = some d from hd] at unleased; cases unleased), fun _ =>
            ⟨(seats o).free unleased, fun _ => State.queued_iff.mpr ⟨_, mem_joinQueue.mpr (.inl rfl)⟩⟩⟩
        · refine State.seatBut.congr (s := s) ?_ rfl (fun _ _ => rfl) rfl id fun hq => ?_
          · exact (seats o).imp id fun ⟨mine, _⟩ => absurd (Option.some.inj mine).symm same
          · obtain ⟨c, mem⟩ := State.queued_iff.mp hq
            exact State.queued_iff.mpr ⟨c, mem_joinQueue.mpr (.inr mem)⟩
  next still =>
    obtain ⟨ok, h⟩ := h
    refine ⟨ok, fun hb => ?_⟩
    obtain ⟨busy, leads, seats⟩ := h hb
    refine ⟨busy, leads, fun o => .inl ?_⟩
    rcases seats o with seat | ⟨mine, unleased, free⟩
    · exact seat
    · cases mine
      refine ⟨fun d hd => (by rw [unleased] at hd; cases hd), fun _ => ⟨free, fun needs => ?_⟩⟩
      rw [needs, unleased] at still
      simpa using still

/-! ### A lease ends (R37, R42, R48) -/

/-- The port of the lease that ends: its line is free; all others are in their seats. -/
def State.ending (b : Bool) (e : EngineId) (p : LinePort) (s : State) : Prop :=
  s.enginesOk ∧ s.engineOf p = some e ∧
    (b = true → (s.queue ≠ [] → ∀ d, (s.engine d).state ≠ .free) ∧ hailsLead s.queue ∧ (s.line p).free ∧ ∀ o, o ≠ p → s.inSeat o)

theorem State.oneEngine_setEngine (s : State) (e : EngineId) (g : Engine) : State.oneEngine e s (s.setEngine e g) :=
  ⟨fun _ ne => State.engine_setEngine_of_ne s g ne, rfl, rfl⟩

theorem State.ending.dealt (h : s.ending b e p) : (s.setEngine e Engine.freed).dealt b (some p) e := by
  obtain ⟨ok, lease, h⟩ := h
  have one := s.oneEngine_setEngine e Engine.freed
  have self : (s.setEngine e Engine.freed).engine e = Engine.freed := State.engine_setEngine_self s e _
  have engineOf : ∀ o, (s.setEngine e Engine.freed).engineOf o = if s.engineOf o = some e then none else s.engineOf o := fun o =>
    one.engineOf_freed ok.apart (by rw [self]; rfl)
  refine ⟨ok.of_freed one self, fun hb => ?_⟩
  obtain ⟨busy, leads, free, seats⟩ := h hb
  refine ⟨fun ne d hd => by rw [one.others d hd]; exact busy ne d, leads, fun o => ?_⟩
  by_cases same : o = p
  · subst same
    exact .inr ⟨rfl, by rw [engineOf, lease]; simp, free⟩
  · have other : s.engineOf o ≠ some e := fun ho => by
      have first := State.lease_of_engineOf ho
      rw [State.lease_of_engineOf lease] at first
      exact same (Option.some.inj first).symm
    refine State.seatBut.congr (s := s) (.inl (seats o same)) (by rw [engineOf, if_neg other]) (fun d hd => ?_) rfl id id
    rw [one.others d (fun same' => other (same' ▸ hd))]

theorem State.kept_endLease (h : s.ending b e p) : (s.endLease e p).kept b none := State.kept_apply (State.kept_giveEngine h.dealt)

end

end Sys2Proof.Machine
end

/-! # The terms line and the seats of the ports (2.2, 2.6, 3.4) -/

section
namespace Sys2Proof.Machine

section
variable {s t u v : State} {p o : LinePort} {d e : EngineId} {k : LeaseKind} {g : Engine} {l : Line} {b : Bool} {x : Option LinePort}
  {r : PortRecord}

/-! ### All but one port in their seats -/

/-- The exclusion of the engines holds, and, where asked, all is in order but perhaps at one port. -/
def State.around (b : Bool) (p : LinePort) (s : State) : Prop :=
  s.enginesOk ∧ (b = true → (s.queue ≠ [] → ∀ e, (s.engine e).state ≠ .free) ∧ hailsLead s.queue ∧ ∀ o, o ≠ p → s.inSeat o)

theorem State.kept.ok (h : s.kept b x) : s.enginesOk := h.1

theorem State.kept.seat (h : s.kept b none) (hb : b = true) (p : LinePort) : s.inSeat p := State.seatBut_none.mp ((h.2 hb).2.2 p)

theorem State.kept.around (h : s.kept b none) : s.around b p :=
  ⟨h.1, fun hb => ⟨(h.2 hb).1, (h.2 hb).2.1, fun o _ => h.seat hb o⟩⟩

theorem State.around.kept (h : s.around b p) (seat : b = true → s.inSeat p) : s.kept b none := by
  obtain ⟨ok, h⟩ := h
  refine ⟨ok, fun hb => ⟨(h hb).1, (h hb).2.1, fun o => .inl ?_⟩⟩
  by_cases same : o = p
  · rw [same]
    exact seat hb
  · exact (h hb).2.2 o same

theorem State.around.keptBut (h : s.around b p) (free : b = true → s.engineOf p = none → (s.line p).free)
    (leased : b = true → ∀ e, s.engineOf p = some e → (s.line p).leased (s.engine e).state) : s.kept b (some p) := by
  obtain ⟨ok, h⟩ := h
  refine ⟨ok, fun hb => ⟨(h hb).1, (h hb).2.1, fun o => ?_⟩⟩
  by_cases same : o = p
  · subst same
    cases lease : s.engineOf o with
    | none => exact .inr ⟨rfl, lease, free hb lease⟩
    | some e => exact .inl ⟨fun d hd => leased hb d hd, fun none => by rw [lease] at none; cases none⟩
  · exact .inl ((h hb).2.2 o same)

theorem State.around.ending (h : s.around b p) (lease : s.engineOf p = some e) (free : b = true → (s.line p).free) : s.ending b e p :=
  ⟨h.1, lease, fun hb => ⟨(h.2 hb).1, (h.2 hb).2.1, free hb, (h.2 hb).2.2⟩⟩

/-- What speaks of the other ports stands. -/
theorem State.inSeat.congr (h : s.inSeat p) (engineOf : t.engineOf p = s.engineOf p)
    (state : ∀ d, s.engineOf p = some d → (t.engine d).state = (s.engine d).state) (line : t.line p = s.line p)
    (needs : t.needsEngine p = true → s.needsEngine p = true) (queued : s.queued p = true → t.queued p = true) : t.inSeat p :=
  State.seatBut_none.mp ((State.seatBut_none.mpr h).congr engineOf state line needs queued)

theorem State.needsEngine_of_slot (trackers : t.trackers = s.trackers) (slot : (t.port p).slot = (s.port p).slot ∨ (t.port p).slot = none)
    (line : t.line p = s.line p) (h : t.needsEngine p = true) : s.needsEngine p = true := by
  rw [State.needsEngine, State.attached, State.tracker, trackers, line] at h
  rw [State.needsEngine, State.attached, State.tracker]
  simp only [Bool.and_eq_true, Bool.or_eq_true] at h ⊢
  refine ⟨h.1, h.2.imp (fun filled => ?_) id⟩
  rcases slot with same | none
  · rwa [same] at filled
  · rw [none] at filled
    cases filled

/-- A change at one port, its engine apart. -/
theorem State.around.congr (h : s.around b p) (engines : t.engines = s.engines) (queue : t.queue = s.queue) (trackers : t.trackers = s.trackers)
    (line : ∀ o, o ≠ p → t.line o = s.line o) (slot : ∀ o, o ≠ p → (t.port o).slot = (s.port o).slot) : t.around b p := by
  obtain ⟨ok, h⟩ := h
  refine ⟨ok.congr engines queue fun o ho => (by rwa [State.attached, State.tracker, trackers]), fun hb => ?_⟩
  obtain ⟨busy, leads, seats⟩ := h hb
  refine ⟨fun ne d => ?_, by rw [queue]; exact leads, fun o ne => ?_⟩
  · rw [queue] at ne
    rw [State.engine, engines]
    exact busy ne d
  · refine (seats o ne).congr (State.engineOf_congr engines) (fun d _ => by rw [State.engine, engines, State.engine]) (line o ne)
      (State.needsEngine_of_slot trackers (.inl (slot o ne)) (line o ne)) fun hq => ?_
    rwa [State.queued, queue]

theorem State.around_setLine (h : s.around b p) (l : Line) : (s.setLine p l).around b p :=
  h.congr rfl rfl rfl (fun _ ne => State.line_setLine_of_ne s l ne) fun _ _ => rfl

theorem State.around_setPort (h : s.around b p) (r : PortRecord) : (s.setPort p r).around b p :=
  h.congr rfl rfl rfl (fun _ _ => rfl) fun _ ne => by rw [State.port_setPort_of_ne s r ne]

/-- The engine of the port goes on under its lease. -/
theorem State.around_setEngine (h : s.around b p) (lease : s.engineOf p = some e) (same : g.lease = (s.engine e).lease)
    (busy : g.state ≠ .free) : (s.setEngine e g).around b p := by
  obtain ⟨ok, h⟩ := h
  have one := s.oneEngine_setEngine e g
  have self : (s.setEngine e g).engine e = g := State.engine_setEngine_self s e g
  have engineOf : ∀ o, (s.setEngine e g).engineOf o = s.engineOf o := fun o => one.engineOf_of_lease (by rw [self, same])
  refine ⟨ok.of_lease one (by rw [self, same]) ⟨fun f => absurd f (by rw [self]; exact busy), fun f => absurd f (ok.busy lease)⟩, fun hb => ?_⟩
  obtain ⟨waits, leads, seats⟩ := h hb
  refine ⟨fun ne d => ?_, leads, fun o ne => ?_⟩
  · by_cases at' : d = e
    · rw [at', self]
      exact busy
    · rw [one.others d at']
      exact waits ne d
  · refine (seats o ne).congr (engineOf o) (fun d hd => ?_) rfl id id
    rw [one.others d]
    rintro rfl
    have first := State.lease_of_engineOf hd
    rw [State.lease_of_engineOf lease] at first
    exact ne (Option.some.inj first).symm

/-! ### The end of a lease (R48) -/

theorem State.kept_endLeaseOf (h : s.around b p) (free : b = true → (s.line p).free) (lease : b = true → s.engineOf p ≠ none) :
    (s.endLeaseOf p).kept b none := by
  unfold State.endLeaseOf
  cases held : s.engineOf p with
  | some e => exact State.kept_endLease (h.ending held free)
  | none => exact h.kept fun hb => absurd held (lease hb)

/-- The engine of a port goes on, or its lease ends (R46). -/
theorem State.kept_lineFreed (h : s.around b p) (free : b = true → (s.line p).free)
    (waits : b = true → ∀ e, s.engineOf p = some e → (s.engine e).state = .waitLine)
    (queued : b = true → s.engineOf p = none → s.needsEngine p = true → s.queued p = true) : (s.lineFreed p).kept b none := by
  unfold State.lineFreed
  cases held : s.engineOf p with
  | none =>
    exact h.kept fun hb => ⟨fun d hd => (by rw [held] at hd; cases hd), fun none => ⟨free hb, queued hb none⟩⟩
  | some e =>
    dsimp only
    split
    next waiting =>
      rcases s.serve_cases e p with ⟨-, -, same⟩ | ⟨lasts, busy, lease⟩
      · rw [same, State.engine_setEngine_self, if_pos (by rfl), State.endLease, State.setEngine_setEngine]
        exact State.kept_endLease (h.ending held free)
      · rw [if_neg busy]
        obtain ⟨r, g, l, rest⟩ := s.serve_rest e p
        have engine : (s.serve e p).engine e = g := by
          rw [rest]
          exact State.engine_setEngine_self (s.setPort p r) e g
        rw [engine] at lease busy
        have around : (s.serve e p).around b p := by
          rw [rest]
          exact State.around_setLine (State.around_setEngine (State.around_setPort h r) held lease busy) l
        refine around.kept fun hb => ?_
        have mine : (s.serve e p).engineOf p = some e := by
          rw [rest]
          exact ((s.setPort p r).oneEngine_setEngine e g).engineOf_of_lease (by rw [State.engine_setEngine_self]; exact lease) |>.trans held
        refine ⟨fun d hd => ?_, fun none => by rw [mine] at none; cases none⟩
        rw [mine] at hd
        cases hd
        exact State.serve_leased lasts (free hb)
    next other => exact h.kept fun hb => absurd (waits hb e held) other

/-! ### Conditions of the line and engines (3.1) -/

theorem State.inSeat.unleased (h : s.inSeat p) (ok : s.enginesOk) (cond : (s.line p).cond = .idle ∨ (s.line p).cond = .hailed) :
    s.engineOf p = none := by
  cases lease : s.engineOf p with
  | none => rfl
  | some e =>
    have agrees := (h.1 e lease).1
    have busy := ok.busy lease
    cases state : (s.engine e).state <;> rw [state] at agrees busy <;> rcases cond with c | c <;> rw [c] at agrees <;> simp_all [engineAgrees]

theorem State.inSeat.leased (h : s.inSeat p)
    (cond : (s.line p).cond = .heeded ∨ (s.line p).cond = .receiving ∨ (s.line p).cond = .sending) : s.engineOf p ≠ none := fun none => by
  rcases (h.2 none).1.1 with c | c | c <;> rw [c] at cond <;> simp at cond

/-- A line on which a frame is awaited or received has no hail, and neither has a stray one. -/
theorem State.inSeat.hail (h : s.inSeat p) (cond : (s.line p).cond = .heeded ∨ (s.line p).cond = .receiving ∨ (s.line p).cond = .stray) :
    (s.line p).hail = false := by
  rw [Bool.eq_false_iff]
  intro hail
  cases lease : s.engineOf p with
  | none =>
    have := (h.2 lease).1.2.mp hail
    rw [this] at cond
    simp at cond
  | some e =>
    obtain ⟨agrees, heeding⟩ := h.1 e lease
    rw [heeding.mp hail] at agrees
    have agrees : (s.line p).cond = .sending := agrees
    rw [agrees] at cond
    simp at cond

/-- The state of a port's engine, by its line. -/
theorem State.inSeat.waits (h : s.inSeat p) (ok : s.enginesOk) (stray : (s.line p).cond = .stray) (lease : s.engineOf p = some e) :
    (s.engine e).state = .waitLine := by
  have agrees := (h.1 e lease).1
  have busy := ok.busy lease
  rw [stray] at agrees
  cases state : (s.engine e).state <;> rw [state] at agrees busy <;> simp_all [engineAgrees]

theorem Line.free_enter (hail : l.hail = false) : (l.enter .idle).free :=
  ⟨.inl rfl, ⟨fun h => absurd (hail.symm.trans h) (by simp), fun h => nomatch h⟩⟩

/-! ### What breaks a frame (R25, R31, R45) -/

theorem State.port_countBadFrame_slot (s : State) (p o : LinePort) : ((s.countBadFrame p).port o).slot = (s.port o).slot := by
  by_cases same : o = p
  · subst same
    rw [State.countBadFrame, State.port_setPort_self]
  · rw [State.countBadFrame, State.port_setPort_of_ne s _ same]

theorem State.kept_breakFrame (h : s.kept b none) (cond : (s.line p).cond = .heeded ∨ (s.line p).cond = .receiving) :
    (s.breakFrame p).kept b none := by
  refine State.kept_endLeaseOf (State.around_setPort (State.around_setLine h.around _) _) (fun hb => ?_) fun hb => ?_
  · have line : (((s.setLine p ((s.line p).enter .idle)).countBadFrame p).line p) = (s.line p).enter .idle := State.line_setLine_self s p _
    rw [line]
    exact Line.free_enter ((h.seat hb p).hail (cond.imp id .inl))
  · exact (h.seat hb p).leased (cond.imp id .inl)

theorem State.kept_endStray (h : s.kept b none) (stray : (s.line p).cond = .stray) : (s.endStray p).kept b none := by
  have ended : ∀ w : State, w = s.setLine p ((s.line p).enter .idle) ∨ w = (s.setLine p ((s.line p).enter .idle)).countBadFrame p →
      (w.lineFreed p).kept b none := fun w hw => by
    have around : w.around b p := by
      rcases hw with rfl | rfl
      · exact State.around_setLine h.around _
      · exact State.around_setPort (State.around_setLine h.around _) _
    have engines : w.engines = s.engines := by rcases hw with rfl | rfl <;> rfl
    have trackers : w.trackers = s.trackers := by rcases hw with rfl | rfl <;> rfl
    have queue : w.queue = s.queue := by rcases hw with rfl | rfl <;> rfl
    have line : w.line p = (s.line p).enter .idle := by rcases hw with rfl | rfl <;> exact State.line_setLine_self s p _
    have slot : (w.port p).slot = (s.port p).slot := by
      rcases hw with rfl | rfl
      · rfl
      · exact State.port_countBadFrame_slot _ p p
    have engineOf : w.engineOf p = s.engineOf p := State.engineOf_congr engines
    refine State.kept_lineFreed around (fun hb => ?_) (fun hb e he => ?_) fun hb none needs => ?_
    · rw [line]
      exact Line.free_enter ((h.seat hb p).hail (.inr (.inr stray)))
    · rw [State.engine, engines]
      exact (h.seat hb p).waits h.ok stray (engineOf ▸ he)
    · rw [State.queued, queue]
      refine ((h.seat hb p).2 (engineOf ▸ none)).2 ?_
      rw [← needs]
      exact (State.needsEngine_congr (by rw [State.attached, State.attached, State.tracker, State.tracker, trackers]) slot (by rw [line]; rfl)).symm
  unfold State.endStray
  dsimp only
  split
  · exact ended _ (.inl rfl)
  · exact ended _ (.inr rfl)

/-! ### Pulses (R18, R41) -/

/-- A line whose condition and hail stand. -/
theorem State.kept_setLine_same (h : s.kept b none) (cond : l.cond = (s.line p).cond) (hail : l.hail = (s.line p).hail) :
    (s.setLine p l).kept b none := by
  refine (State.around_setLine h.around l).kept fun hb => ?_
  obtain ⟨leased, unleased⟩ := h.seat hb p
  have line : (s.setLine p l).line p = l := State.line_setLine_self s p l
  refine ⟨fun e he => ?_, fun none => ⟨?_, fun needs => (unleased none).2 ?_⟩⟩
  · rw [line, Line.leased, cond, hail]
    exact leased e he
  · rw [line, Line.free, cond, hail]
    exact (unleased none).1
  · rw [← needs]
    exact (State.needsEngine_congr (s := s) (t := s.setLine p l) rfl rfl (by rw [line, hail])).symm

/-- A free line of a port that needs no more than before. -/
theorem State.kept_setLine_free (h : s.kept b none) (unleased : b = true → s.engineOf p = none) (free : l.free)
    (hail : l.hail = false) : (s.setLine p l).kept b none := by
  refine (State.around_setLine h.around l).kept fun hb => ?_
  have line : (s.setLine p l).line p = l := State.line_setLine_self s p l
  have none : (s.setLine p l).engineOf p = none := unleased hb
  refine ⟨fun e he => (by rw [none] at he; cases he), fun _ => ⟨by rw [line]; exact free, fun needs => ((h.seat hb p).2 (unleased hb)).2 ?_⟩⟩
  rw [State.needsEngine, line, hail, Bool.or_false, Bool.and_eq_true] at needs
  rw [State.needsEngine, Bool.and_eq_true, Bool.or_eq_true]
  exact ⟨needs.1, .inl needs.2⟩

theorem mem_raiseClass {l : List QueueEntry} : (∃ k, (⟨o, k⟩ : QueueEntry) ∈ raiseClass l p) ↔ ∃ k, (⟨o, k⟩ : QueueEntry) ∈ l := by
  unfold raiseClass
  split
  next any =>
    obtain ⟨q, mem, rfl⟩ : ∃ q ∈ l, q = ⟨p, .send⟩ := by simpa using any
    constructor
    · rintro ⟨k, h⟩
      rcases mem_joinQueue (k := .hail).mp h with same | old
      · cases same
        exact ⟨_, mem⟩
      · exact ⟨k, (mem_leaveQueue.mp old).1⟩
    · rintro ⟨k, h⟩
      by_cases same : o = p
      · subst same
        exact ⟨_, mem_joinQueue (k := .hail).mpr (.inl rfl)⟩
      · exact ⟨k, mem_joinQueue (k := .hail).mpr (.inr (mem_leaveQueue.mpr ⟨h, same⟩))⟩
  · exact Iff.rfl

theorem State.queued_raiseClass (s : State) (p o : LinePort) : (s.withQueue (raiseClass s.queue p)).queued o = s.queued o := by
  rw [Bool.eq_iff_iff, State.queued_iff, State.queued_iff]
  exact mem_raiseClass

theorem nodup_raiseClass {l : List QueueEntry} (h : (l.map QueueEntry.port).Nodup) (p : LinePort) :
    ((raiseClass l p).map QueueEntry.port).Nodup := by
  unfold raiseClass
  split
  · refine map_port_joinQueue (k := .hail) (h.sublist ((List.filter_sublist ..).map _)) fun mem => ?_
    obtain ⟨q, hq, same⟩ := List.mem_map.mp mem
    exact (mem_leaveQueue.mp hq).2 same
  · exact h

theorem hailsLead_raiseClass {l : List QueueEntry} (h : hailsLead l) (p : LinePort) : hailsLead (raiseClass l p) := by
  unfold raiseClass
  split
  · exact hailsLead_joinQueue (List.Pairwise.sublist (List.filter_sublist ..) h) p .hail
  · exact h

theorem State.kept_raiseClass (h : s.kept b x) (p : LinePort) : (s.withQueue (raiseClass s.queue p)).kept b x := by
  obtain ⟨ok, h⟩ := h
  obtain ⟨free, apart, nodup, lone, there⟩ := State.enginesOk_iff.mp ok
  have queued := s.queued_raiseClass p
  refine ⟨State.enginesOk_iff.mpr ⟨free, apart, nodup_raiseClass nodup p, fun o => ?_, fun o => ?_⟩, fun hb => ?_⟩
  · rw [queued]
    exact lone o
  · rw [queued]
    exact there o
  · obtain ⟨busy, leads, seats⟩ := h hb
    refine ⟨fun ne => busy fun empty => ne ?_, hailsLead_raiseClass leads p, fun o => ?_⟩
    · show raiseClass s.queue p = []
      rw [empty]
      rfl
    · exact (seats o).congr rfl (fun _ _ => rfl) rfl id fun hq => by rw [queued]; exact hq

/-- The third spaced pulse (R18, R39 to R41). -/
theorem State.kept_hailSeen (h : s.kept b none) (idle : (s.line p).cond = .idle) (time : Nat) : (s.hailSeen p time).kept b none := by
  unfold State.hailSeen
  dsimp only
  generalize hl : ({ (s.line p).enter .hailed with hail := true, lastPulse := some time } : Line) = l
  have free : l.free := by
    rw [← hl]
    exact ⟨.inr (.inl rfl), ⟨fun _ => rfl, fun _ => rfl⟩⟩
  have around := State.around_setLine (p := p) h.around l
  have line : (s.setLine p l).line p = l := State.line_setLine_self s p l
  split
  next queued =>
    refine State.kept_raiseClass (around.kept fun hb => ?_) p
    have none : (s.setLine p l).engineOf p = none := (h.seat hb p).unleased h.ok (.inl idle)
    exact ⟨fun e he => (by rw [none] at he; cases he), fun _ => ⟨by rw [line]; exact free, fun _ => queued⟩⟩
  next =>
    refine State.kept_apply (around.keptBut (fun _ _ => by rw [line]; exact free) fun hb e he => ?_)
    have none : (s.setLine p l).engineOf p = none := (h.seat hb p).unleased h.ok (.inl idle)
    rw [none] at he
    cases he

theorem State.kept_notePulse (h : s.kept b none) (p : LinePort) (time : Nat) : (s.notePulse p time).kept b none :=
  State.kept_setLine_same h rfl rfl

theorem State.kept_takePulse (h : s.kept b none) (p : LinePort) (time : Nat) : (s.takePulse p time).kept b none := by
  have noted := State.kept_notePulse h p time
  have line := s.line_notePulse p time
  have cond : ((s.notePulse p time).line p).cond = (s.line p).cond := by rw [line]
  unfold State.takePulse
  dsimp only
  split
  next idle =>
    split
    · exact State.kept_hailSeen h idle time
    · exact State.kept_setLine_same h rfl rfl
  · exact noted
  · exact h
  next heeded =>
    refine State.kept_endLeaseOf (State.around_setPort (State.around_setLine noted.around _) _) (fun hb => ?_) fun hb => ?_
    · rw [State.countMissedHail]
      show ((State.setLine _ p _).line p).free
      rw [State.line_setLine_self]
      exact Line.free_enter ((noted.seat hb p).hail (.inl (cond.trans heeded)))
    · exact (noted.seat hb p).leased (.inl (cond.trans heeded))
  next receiving => exact State.kept_breakFrame noted (.inr (cond.trans receiving))
  next stray => exact State.kept_endStray noted (cond.trans stray)

theorem State.kept_withdrawHail (h : s.kept b none) (p : LinePort) : (s.withdrawHail p).kept b none := by
  unfold State.withdrawHail
  split
  next hailed =>
    exact State.kept_setLine_free h (fun hb => (h.seat hb p).unleased h.ok (.inr hailed))
      ⟨.inl rfl, ⟨fun h => (nomatch h), fun h => (nomatch h)⟩⟩ rfl
  · exact h

/-! ### The engine's own work on the line (R19, R44, R45) -/

/-- The engine of a port goes on, and its line with it. -/
theorem State.kept_onward (h : s.kept b none) (lease : s.engineOf p = some e) (same : g.lease = (s.engine e).lease) (busy : g.state ≠ .free)
    (leased : b = true → l.leased g.state) : ((s.setEngine e g).setLine p l).kept b none := by
  refine (State.around_setLine (State.around_setEngine h.around lease same busy) l).kept fun hb => ?_
  have self : ((s.setEngine e g).setLine p l).engine e = g := State.engine_setEngine_self s e g
  have mine : ((s.setEngine e g).setLine p l).engineOf p = some e :=
    ((s.oneEngine_setEngine e g).engineOf_of_lease (by rw [State.engine_setEngine_self]; exact same)).trans lease
  refine ⟨fun d hd => ?_, fun none => by rw [mine] at none; cases none⟩
  rw [mine] at hd
  cases hd
  rw [self, State.line_setLine_self]
  exact leased hb

theorem State.kept_endHeed (h : s.kept b none) (p : LinePort) : (s.endHeed p).kept b none := by
  unfold State.endHeed
  split
  next e lease =>
    split
    · exact State.kept_onward h lease rfl (fun h => nomatch h) fun _ => ⟨rfl, ⟨fun h => (nomatch h), fun h => (nomatch h)⟩⟩
    · exact h
  · exact h

theorem State.kept_endHeedWait (h : s.kept b none) (p : LinePort) : (s.endHeedWait p).kept b none := by
  unfold State.endHeedWait
  split
  next e lease =>
    split
    next awaiting =>
      refine State.kept_endLease (State.around.ending (State.around_setPort (State.around_setLine h.around _) _) lease fun hb => ?_)
      show ((s.setLine p _).line p).free
      rw [State.line_setLine_self]
      have agrees := ((h.seat hb p).1 e lease).1
      rw [awaiting.1] at agrees
      exact Line.free_enter ((h.seat hb p).hail (.inl agrees))
    · exact h
  · exact h

/-! ### Symbols (R25, R31) -/

theorem State.kept_takeStart (h : s.kept b none) (p : LinePort) : (s.takeStart p).kept b none := by
  have stray : (s.line p).cond = .idle ∨ (s.line p).cond = .hailed →
      (s.setLine p { (s.line p).enter .stray with hail := false }).kept b none := fun cond =>
    State.kept_setLine_free h (fun hb => (h.seat hb p).unleased h.ok cond)
      ⟨.inr (.inr rfl), ⟨fun h => (nomatch h), fun h => (nomatch h)⟩⟩ rfl
  unfold State.takeStart
  split
  next heeded =>
    split
    next e lease =>
      exact State.kept_onward h lease rfl (fun h => nomatch h) fun hb =>
        ⟨rfl, ⟨fun hail => absurd (((h.seat hb p).hail (.inl heeded)).symm.trans hail) (by simp), fun h => (nomatch h)⟩⟩
    · exact h
  next receiving => exact State.kept_breakFrame h (.inr receiving)
  next idle => exact stray (.inl idle)
  next hailed => exact stray (.inr hailed)
  · exact h
  · exact h

/-- The engine of a receiving port gathers. -/
theorem State.kept_gather (h : s.kept b none) (lease : s.engineOf p = some e) (same : g.lease = (s.engine e).lease)
    (state : g.state = (s.engine e).state) : (s.setEngine e g).kept b none := by
  have busy : g.state ≠ .free := state ▸ h.ok.busy lease
  refine (State.around_setEngine h.around lease same busy).kept fun hb => ?_
  have self : (s.setEngine e g).engine e = g := State.engine_setEngine_self s e g
  have engineOf : (s.setEngine e g).engineOf p = s.engineOf p :=
    (s.oneEngine_setEngine e g).engineOf_of_lease (by rw [self]; exact same)
  refine (h.seat hb p).congr engineOf (fun d hd => ?_) rfl id id
  rw [lease] at hd
  cases hd
  rw [self, state]

theorem State.kept_takeData (h : s.kept b none) (p : LinePort) (v : Byte) : (s.takeData p v).kept b none := by
  unfold State.takeData
  dsimp only
  split
  next receiving =>
    split
    next e lease =>
      split
      · exact State.kept_gather h lease rfl rfl
      · refine State.kept_endLease (State.around.ending (State.around_setPort (State.around_setLine h.around _) _) lease fun hb => ?_)
        show ((s.setLine p _).line p).free
        rw [State.line_setLine_self]
        exact ⟨.inr (.inr rfl), ⟨fun hail => absurd (((h.seat hb p).hail (.inr (.inl receiving))).symm.trans hail) (by simp),
          fun h => (nomatch h)⟩⟩
    · exact h
  next heeded => exact State.kept_breakFrame h (.inl heeded)
  next stray =>
    split
    · exact h
    · split
      · exact State.kept_endStray h stray
      · exact State.kept_setLine_same h rfl rfl
  · exact h
  · exact h
  · exact h

theorem State.kept_takeError (h : s.kept b none) (p : LinePort) : (s.takeError p).kept b none := by
  unfold State.takeError
  split
  next heeded => exact State.kept_breakFrame h (.inl heeded)
  next receiving => exact State.kept_breakFrame h (.inr receiving)
  · exact h

theorem State.kept_takeSilence (h : s.kept b none) (p : LinePort) : (s.takeSilence p).kept b none := by
  unfold State.takeSilence
  split
  next receiving => exact State.kept_breakFrame h (.inr receiving)
  · exact h

theorem State.kept_takeStraySilence (h : s.kept b none) (p : LinePort) : (s.takeStraySilence p).kept b none := by
  unfold State.takeStraySilence
  split
  next stray => exact State.kept_endStray h stray
  · exact h

end

end Sys2Proof.Machine
end

/-! # Every step keeps the engines exclusive and the ports in their seats (2.2, 3.1 to 3.5) -/

section
namespace Sys2Proof.Machine

section
variable {s t u v w c : State} {p o : LinePort} {d e : EngineId} {k : LeaseKind} {g : Engine} {l : Line} {b : Bool} {x : Option LinePort}
  {r : PortRecord} {y : Connector}

/-! ### What the seats rest on -/

/-- Engines, queue and lines stand, the same ports are attached, and no slot has been filled. -/
structure State.seatsSame (s t : State) : Prop where
  engines : t.engines = s.engines
  queue : t.queue = s.queue
  lines : t.lines = s.lines
  attached : ∀ p, t.attached (.line p) = s.attached (.line p)
  slot : ∀ p, (t.port p).slot = (s.port p).slot ∨ (t.port p).slot = none

theorem State.seatsSame.trans (h : s.seatsSame t) (k : t.seatsSame u) : s.seatsSame u where
  engines := k.engines.trans h.engines
  queue := k.queue.trans h.queue
  lines := k.lines.trans h.lines
  attached p := (k.attached p).trans (h.attached p)
  slot p := by
    rcases k.slot p with same | none
    · rw [same]
      exact h.slot p
    · exact .inr none

/-- A change of neither trackers, engines, queue, lines nor ports. -/
theorem State.seatsSame_of (trackers : t.trackers = s.trackers) (engines : t.engines = s.engines) (queue : t.queue = s.queue)
    (lines : t.lines = s.lines) (ports : t.ports = s.ports) : s.seatsSame t :=
  ⟨engines, queue, lines, fun p => by rw [State.attached, State.attached, State.tracker, State.tracker, trackers],
    fun p => .inl (by rw [State.port, ports, State.port])⟩

theorem State.seatsSame_setPort (s : State) (p : LinePort) (r : PortRecord) (slot : r.slot = (s.port p).slot) : s.seatsSame (s.setPort p r) :=
  ⟨rfl, rfl, rfl, fun _ => rfl, fun o => .inl (by
    by_cases same : o = p
    · subst same
      rw [State.port_setPort_self, slot]
    · rw [State.port_setPort_of_ne s r same])⟩

theorem State.kept.congr (h : s.kept b x) (same : s.seatsSame t) : t.kept b x := by
  obtain ⟨ok, h⟩ := h
  refine ⟨ok.congr same.engines same.queue fun p hp => by rw [same.attached, hp], fun hb => ?_⟩
  obtain ⟨busy, leads, seats⟩ := h hb
  have line : ∀ p, t.line p = s.line p := fun p => by rw [State.line, same.lines, State.line]
  refine ⟨fun ne d => ?_, by rw [same.queue]; exact leads, fun p => ?_⟩
  · rw [same.queue] at ne
    rw [State.engine, same.engines]
    exact busy ne d
  · refine (seats p).congr (State.engineOf_congr same.engines) (fun d _ => by rw [State.engine, same.engines, State.engine]) (line p)
      (fun needs => ?_) fun hq => by rwa [State.queued, same.queue]
    rw [State.needsEngine, same.attached, line] at needs
    rw [State.needsEngine]
    simp only [Bool.and_eq_true, Bool.or_eq_true] at needs ⊢
    refine ⟨needs.1, needs.2.imp (fun filled => ?_) id⟩
    rcases same.slot p with eq | none
    · rwa [eq] at filled
    · rw [none] at filled
      cases filled

/-- An event on a port may fill its slot. -/
theorem State.kept.work (h : s.kept b none) (trackers : t.trackers = s.trackers) (engines : t.engines = s.engines) (queue : t.queue = s.queue)
    (lines : t.lines = s.lines) (others : State.othersKept p s t) : t.kept b (some p) := by
  have around := h.around.congr (p := p) engines queue trackers (fun o _ => by rw [State.line, lines, State.line]) fun o ne => by rw [others o ne]
  have line : t.line p = s.line p := by rw [State.line, lines, State.line]
  have engineOf : t.engineOf p = s.engineOf p := State.engineOf_congr engines
  refine around.keptBut (fun hb none => ?_) fun hb e lease => ?_
  · rw [line]
    exact ((h.seat hb p).2 (engineOf ▸ none)).1
  · rw [line, State.engine, engines]
    exact (h.seat hb p).1 e (engineOf ▸ lease)

theorem State.kept_call (h : s.kept b none) (p : LinePort) : ((s.callSelection p).apply p).kept b none :=
  State.kept_apply (h.work (by simp) (by simp) (by simp) (by simp) s.othersKept_callSelection)

theorem trailing_kept (b : Bool) : Trailing (State.kept b none) :=
  .of_owners (fun _ _ same h => h.congr (State.seatsSame_of same.trackers same.engines same.queue same.lines same.ports))
    fun _ p h => State.kept_call h p

theorem blind_kept (b : Bool) : Blind (State.kept b none) := fun _ _ h => h.congr (State.seatsSame_of rfl rfl rfl rfl rfl)

/-! ### The line brings a frame, or has sent one (R30, R47) -/

/-- The Negotiation Unit takes a frame of a port, or the report of one, and the lease ends. -/
theorem State.kept_taken (h : s.kept b none) (lease : s.engineOf p = some e) (hail : b = true → (s.line p).hail = false)
    (trackers : t.trackers = s.trackers) (engines : t.engines = s.engines) (queue : t.queue = s.queue)
    (lines : t.lines = (s.idled p).lines) (others : State.othersKept p s t) : (t.endLeaseOf p).kept b none := by
  have line : ∀ o, t.line o = (s.idled p).line o := fun o => by rw [State.line, lines, State.line]
  refine State.kept_endLeaseOf (h.around.congr (p := p) engines queue trackers (fun o ne => ?_) fun o ne => by rw [others o ne])
    (fun hb => ?_) fun _ => ?_
  · rw [line]
    exact State.line_setLine_of_ne s _ ne
  · rw [line, State.idled, State.line_setLine_self]
    exact Line.free_enter (hail hb)
  · rw [State.engineOf_congr engines, lease]
    simp

/-! ### Presence (R1 to R5) -/

theorem State.seatsSame_setTracker (s : State) (y : Connector) (v : Tracker) (same : v.state = .attached ↔ (s.tracker y).state = .attached) :
    s.seatsSame (s.setTracker y v) := by
  refine ⟨rfl, rfl, rfl, fun p => ?_, fun _ => .inl rfl⟩
  by_cases here : (.line p : Connector) = y
  · subst here
    rw [State.attached, State.attached, State.tracker_setTracker_self, decide_eq_decide.mpr same]
  · rw [State.attached, State.attached, State.tracker_setTracker_of_ne _ _ here]

theorem State.seatsSame_ownerSettling (s : State) (y : Connector) (start : Bool) : s.seatsSame (s.ownerSettling y start) := by
  cases y with
  | line p => exact State.seatsSame_setPort s p _ rfl
  | barrel => exact State.seatsSame_of rfl rfl rfl rfl rfl

theorem State.kept_startSettling (h : s.kept b none) (empty : (s.tracker y).state = .empty) : (s.startSettling y).kept b none :=
  h.congr ((State.seatsSame_setTracker s y _ (by rw [empty]; simp)).trans (State.seatsSame_ownerSettling _ y true))

theorem State.kept_abandonSettling (h : s.kept b none) (settling : (s.tracker y).state = .settling) : (s.abandonSettling y).kept b none :=
  h.congr ((State.seatsSame_setTracker s y _ (by rw [settling]; simp [Tracker.cleared])).trans (State.seatsSame_ownerSettling _ y false))

/-- A port that becomes attached, its line IDLE. -/
theorem State.kept_attach (h : s.kept b none) (settling : (s.tracker (.line p)).state = .settling) :
    ((((s.setTracker (.line p) ⟨.attached, none, none⟩).setLine p Line.cleared).portAttach p).apply p).kept b none := by
  have absent : s.attached (.line p) = false := by rw [State.attached, settling]; rfl
  obtain ⟨unleased, unqueued⟩ := h.ok.lone absent
  have ok : (s.setTracker (.line p) ⟨.attached, none, none⟩).enginesOk := h.ok.congr rfl rfl fun o ho => by
    by_cases same : o = p
    · subst same
      rw [State.attached, State.tracker_setTracker_self]
      rfl
    · rw [State.attached, State.tracker_setTracker_of_ne _ _ (by simpa using same)]
      exact ho
  have around : (s.setTracker (.line p) ⟨.attached, none, none⟩).around b p := by
    refine ⟨ok, fun hb => ⟨(h.2 hb).1, (h.2 hb).2.1, fun o ne => ?_⟩⟩
    refine (h.seat hb o).congr rfl (fun _ _ => rfl) rfl (fun needs => ?_) id
    rw [State.needsEngine, State.attached, State.tracker_setTracker_of_ne _ _ (by simpa using ne)] at needs
    exact needs
  refine State.kept_apply (State.around.keptBut (State.around_setPort (State.around_setLine around _) _) (fun _ _ => ?_) fun hb e lease => ?_)
  · show ((State.setLine _ p _).line p).free
    rw [State.line_setLine_self]
    exact ⟨.inl rfl, ⟨fun h => (nomatch h), fun h => (nomatch h)⟩⟩
  · have lease : s.engineOf p = some e := lease
    rw [unleased] at lease
    cases lease

theorem State.queued_leaveQueue (s : State) (p o : LinePort) :
    (s.withQueue (leaveQueue s.queue p)).queued o = true ↔ o ≠ p ∧ s.queued o = true := by
  rw [State.queued_iff, State.queued_iff]
  constructor
  · rintro ⟨k, mem⟩
    obtain ⟨old, ne⟩ := mem_leaveQueue.mp mem
    exact ⟨ne, k, old⟩
  · rintro ⟨ne, k, mem⟩
    exact ⟨k, mem_leaveQueue.mpr ⟨mem, ne⟩⟩

/-- A port that has left, without engine and entry. -/
theorem State.enginesOk.leave (ok : s.enginesOk) (unleased : s.engineOf p = none) (engines : t.engines = s.engines)
    (queue : t.queue = leaveQueue s.queue p) (attached : ∀ o, o ≠ p → t.attached (.line o) = s.attached (.line o)) : t.enginesOk := by
  obtain ⟨free, apart, nodup, lone, there⟩ := State.enginesOk_iff.mp ok
  have engineOf : ∀ o, t.engineOf o = s.engineOf o := fun o => State.engineOf_congr engines
  have queued : ∀ o, t.queued o = true ↔ o ≠ p ∧ s.queued o = true := fun o => by
    rw [State.queued, queue]
    exact s.queued_leaveQueue p o
  refine State.enginesOk_iff.mpr ⟨fun e => ?_, ?_, ?_, fun o ho => ?_, fun o ho => ?_⟩
  · rw [State.engine, engines]
    exact free e
  · rw [State.leasesApart, engines]
    exact apart
  · rw [queue]
    exact nodup.sublist ((List.filter_sublist ..).map _)
  · rw [engineOf]
    exact lone o ((queued o).mp ho).2
  · rw [engineOf, queued] at ho
    rcases ho with ⟨ne, ho⟩ | ho
    · rw [attached o ne]
      exact there o (.inl ho)
    · have ne : o ≠ p := fun same => by rw [same, unleased] at ho; cases ho
      rw [attached o ne]
      exact there o (.inr ho)

/-- The line of a port that has left is dropped, its engine given on (R49, R42). -/
theorem State.kept_dropLine (h : s.kept b none) (engines : c.engines = s.engines) (queue : c.queue = s.queue) (lines : c.lines = s.lines)
    (gone : c.attached (.line p) = false) (attached : ∀ o, o ≠ p → c.attached (.line o) = s.attached (.line o))
    (others : ∀ o, o ≠ p → c.port o = s.port o) : (c.dropLine p).kept b none := by
  generalize ht : (c.withQueue (leaveQueue c.queue p)).setLine p Line.cleared = t
  have dropped : c.dropLine p = match t.engineOf p with
      | some e => (t.setEngine e Engine.freed).giveEngine e
      | none => t := by rw [← ht]; rfl
  have tengines : t.engines = s.engines := by rw [← ht]; exact engines
  have tqueue : t.queue = leaveQueue s.queue p := by rw [← ht]; exact congrArg (leaveQueue · p) queue
  have tattached : ∀ o, t.attached (.line o) = c.attached (.line o) := fun o => by rw [← ht]; rfl
  have line : t.line p = Line.cleared := by rw [← ht]; exact State.line_setLine_self _ _ _
  have aside : ∀ o, o ≠ p → t.line o = s.line o ∧ t.port o = s.port o := fun o ne => by
    rw [← ht]
    exact ⟨(State.line_setLine_of_ne _ _ ne).trans (by show c.line o = _; rw [State.line, lines, State.line]), others o ne⟩
  have engineOf : ∀ o, t.engineOf o = s.engineOf o := fun o => State.engineOf_congr tengines
  have queued : ∀ o, t.queued o = true ↔ o ≠ p ∧ s.queued o = true := fun o => by
    rw [State.queued, tqueue]
    exact s.queued_leaveQueue p o
  have needs : ∀ o, o ≠ p → t.needsEngine o = true → s.needsEngine o = true := fun o ne hn => by
    rwa [State.needsEngine_congr (s := s) ((tattached o).trans (attached o ne)) (by rw [(aside o ne).2]) (by rw [(aside o ne).1])] at hn
  have still : t.needsEngine p = false := by rw [State.needsEngine, tattached, gone, Bool.false_and]
  have cleared : Line.cleared.free := ⟨.inl rfl, ⟨fun h => (nomatch h), fun h => (nomatch h)⟩⟩
  have leads : b = true → hailsLead t.queue := fun hb => by
    rw [tqueue]
    exact List.Pairwise.sublist (List.filter_sublist ..) (h.2 hb).2.1
  have busy : b = true → t.queue ≠ [] → ∀ e, (t.engine e).state ≠ .free := fun hb ne e => by
    rw [State.engine, tengines]
    refine (h.2 hb).1 (fun empty => ne ?_) e
    rw [tqueue, empty]
    rfl
  rw [dropped]
  cases lease : t.engineOf p with
  | none =>
    refine ⟨h.ok.leave ((engineOf p).symm.trans lease) tengines tqueue fun o ne => (tattached o).trans (attached o ne), fun hb =>
      ⟨busy hb, leads hb, fun o => .inl ?_⟩⟩
    by_cases same : o = p
    · subst same
      exact ⟨fun d hd => (by rw [lease] at hd; cases hd), fun _ => ⟨by rw [line]; exact cleared, fun hn => by rw [still] at hn; cases hn⟩⟩
    · exact (h.seat hb o).congr (engineOf o) (fun d _ => by rw [State.engine, tengines, State.engine]) (aside o same).1 (needs o same)
        fun hq => (queued o).mpr ⟨same, hq⟩
  | some e =>
    have mine : s.engineOf p = some e := (engineOf p).symm.trans lease
    have one := s.oneEngine_setEngine e Engine.freed
    have freedOf : ∀ o, (s.setEngine e Engine.freed).engineOf o = if s.engineOf o = some e then none else s.engineOf o := fun o =>
      one.engineOf_freed h.ok.apart (by rw [State.engine_setEngine_self]; rfl)
    have fengines : (t.setEngine e Engine.freed).engines = (s.setEngine e Engine.freed).engines := by
      show t.engines.set e Engine.freed = s.engines.set e Engine.freed
      rw [tengines]
    have fengineOf : ∀ o, (t.setEngine e Engine.freed).engineOf o = if s.engineOf o = some e then none else s.engineOf o := fun o =>
      (State.engineOf_congr fengines).trans (freedOf o)
    refine State.kept_giveEngine ⟨?_, fun hb => ⟨fun ne d hd => ?_, leads hb, fun o => .inl ?_⟩⟩
    · refine State.enginesOk.leave (s := s.setEngine e Engine.freed) (p := p) (h.ok.of_freed one (State.engine_setEngine_self s e _))
        (by rw [freedOf, mine]; simp) fengines tqueue fun o ne => ?_
      exact (tattached o).trans (attached o ne)
    · rw [State.engine_setEngine_of_ne t _ hd]
      exact busy hb ne d
    · by_cases same : o = p
      · subst same
        have none : (t.setEngine e Engine.freed).engineOf o = Option.none := by rw [fengineOf, mine]; simp
        refine ⟨fun d hd => (by rw [none] at hd; cases hd), fun _ => ⟨?_, fun hn => ?_⟩⟩
        · show (t.line o).free
          rw [line]
          exact cleared
        · have hn : t.needsEngine o = true := hn
          rw [still] at hn
          cases hn
      · have other : s.engineOf o ≠ some e := fun ho => by
          have first := State.lease_of_engineOf ho
          rw [State.lease_of_engineOf mine] at first
          exact same (Option.some.inj first).symm
        refine (h.seat hb o).congr (by rw [fengineOf, if_neg other]) (fun d hd => ?_) (aside o same).1 (needs o same)
          fun hq => (queued o).mpr ⟨same, hq⟩
        rw [State.engine_setEngine_of_ne t _ fun same' => other (by rw [← same']; exact hd), State.engine, tengines, State.engine]

theorem State.kept_detached (h : s.kept b none) (y : Connector) : (s.detached y).kept b none := by
  cases y with
  | line p =>
    obtain ⟨c, e, -, others, trackers, engines, queue, lines, -⟩ := s.detached_line p
    rw [e]
    refine State.kept_dropLine h engines queue lines ?_ (fun o ne => ?_) others
    · rw [State.attached, State.tracker, trackers, PerConn.get_set_self]
      rfl
    · rw [State.attached, State.attached, State.tracker, State.tracker, trackers, PerConn.get_set, if_neg (by simpa using ne)]
  | barrel =>
    have trackers : (s.detached .barrel).trackers = s.trackers.set .barrel Tracker.cleared := by simp [State.detached]; rfl
    refine h.congr ⟨by simp [State.detached], by simp [State.detached], by simp [State.detached], fun p => ?_, fun p => .inl ?_⟩
    · rw [State.attached, State.attached, State.tracker, State.tracker, trackers, PerConn.get_set, if_neg (by simp)]
    · rw [State.port, show (s.detached .barrel).ports = s.ports by simp [State.detached], State.port]

end

end Sys2Proof.Machine
end

/-! # The invariant of the engines, over every command -/

section
namespace Sys2Proof.Machine

section
variable {s t u v w : State} {p : LinePort} {e : EngineId} {b : Bool} {y : Connector}

/-! ### The seats through the events of the blocks -/

theorem State.PortWork.seats (h : s.PortWork p t) : t.engines = s.engines ∧ t.queue = s.queue ∧ t.lines = s.lines := by
  cases h <;> simp [State.releaseFaulted]

theorem State.BarrelWork.seats (h : s.BarrelWork t) : s.seatsSame t := by
  cases h <;> exact State.seatsSame_of (by simp) (by simp) (by simp) (by simp) (by simp)

theorem State.seatsSame_evaluate (s : State) : s.seatsSame s.evaluate :=
  State.seatsSame_of (by simp) (by simp) (by simp) (by simp) (by simp)

theorem State.seatsSame_completePrimary (s : State) (y : Connector) (c : ResultCode) : s.seatsSame (s.completePrimary y c) :=
  State.seatsSame_of (by simp) (by simp) (by simp) (by simp) (by simp)

theorem State.seatsSame_setPathFault (s : State) (y : Connector) : s.seatsSame (s.setPathFault y) := by
  cases y with
  | line p => exact State.seatsSame_setPort s p _ rfl
  | barrel => exact State.seatsSame_of rfl rfl rfl rfl rfl

theorem State.seatsSame_closeCheck (s : State) (y : Connector) (v : Nat) : s.seatsSame (s.closeCheck y v) := by
  unfold State.closeCheck
  split
  · exact State.seatsSame_of (by simp) (by simp) (by simp) (by simp) (by simp)
  · have opened : s.seatsSame (s.openPath y) := State.seatsSame_of rfl rfl rfl rfl rfl
    have faulted := opened.trans (State.seatsSame_setPathFault _ y)
    exact (faulted.trans (State.seatsSame_of (t := ((s.openPath y).setPathFault y).journal 0x0D (connectorByteOf y)
      (le2 v ++ le2 (s.liveVolts y))) rfl rfl rfl rfl rfl)).trans (State.seatsSame_completePrimary _ y .pathFault)

theorem State.PathWork.seats (h : s.PathWork t) : s.seatsSame t := by
  cases h with
  | softStart y closing =>
    have stopped : s.seatsSame (s.withPath { s.path with softStart := none }) := State.seatsSame_of rfl rfl rfl rfl rfl
    unfold State.softStartEnds
    dsimp only
    split
    · exact stopped.trans (State.seatsSame_of rfl rfl rfl rfl rfl)
    · exact stopped.trans (State.seatsSame_closeCheck _ y _)
  | check y v closing => exact State.seatsSame_closeCheck s y v
  | breakEnds y opening => exact State.seatsSame_of (by simp) (by simp) (by simp) (by simp) (by simp)
  | primary k x =>
    refine State.seatsSame.trans ?_ (State.seatsSame_evaluate _)
    unfold State.takePrimary
    split
    · exact State.seatsSame_of rfl rfl rfl rfl rfl
    · split
      · exact State.seatsSame_of rfl rfl rfl rfl rfl
      · split <;> exact State.seatsSame_of rfl rfl rfl rfl rfl

theorem State.seatsSame_deliverIin (s : State) (y : Connector) (v : Nat) : s.seatsSame (s.deliverIin y v) := by
  unfold State.deliverIin
  dsimp only
  split
  · exact State.seatsSame_of rfl rfl rfl rfl rfl
  · split <;> exact State.seatsSame_of rfl rfl rfl rfl rfl

theorem State.seatsSame_forget (s : State) (j : Fin 8) : s.seatsSame (s.forget j) :=
  ⟨rfl, rfl, rfl, fun _ => rfl, fun p => .inl (by rw [State.port_forget, PortRecord.forget_rest])⟩

/-! ### The seats through adoption and restart -/

theorem State.adoptPin_slot (s : State) (p : LinePort) : ((s.adoptPin p).port p).slot = (s.port p).slot := by
  unfold State.adoptPin
  split
  next m i hm hi =>
    split
    · obtain ⟨f, e, -⟩ := ((s.setPort p { s.port p with pin := none }).journal 0x10 (lineByte p)
        ([byte m.level, VoidReason.volts.code] ++ le2 m.volts ++ le2 m.limit)).port_completePort p [.pin] .lost
      refine (congrArg PortRecord.slot e).trans ?_
      show ((s.setPort p { s.port p with pin := none }).port p).slot = _
      rw [State.port_setPort_self]
    · rw [State.port_setPort_self]
  · rfl

theorem State.seatsSame_adoptPin (s : State) (p : LinePort) : s.seatsSame (s.adoptPin p) :=
  ⟨by simp, by simp, by simp, fun o => by rw [State.attached, State.attached, State.tracker, State.tracker, State.adoptPin_trackers], fun o => .inl (by
    by_cases same : o = p
    · subst same
      exact s.adoptPin_slot o
    · rw [s.othersKept_adoptPin o same])⟩

theorem State.seatsSame_adoptImages (s : State) : s.seatsSame s.adoptImages := by
  have rescored : ∀ (l : List LinePort) (u : State), u.seatsSame (l.foldl (fun u p => u.setPort p (rescore u.policy p (u.port p))) u) := by
    intro l
    induction l with
    | nil => exact fun u => State.seatsSame_of rfl rfl rfl rfl rfl
    | cons p l ih => exact fun u => (State.seatsSame_setPort u p (rescore u.policy p (u.port p)) rfl).trans (ih _)
  have pinned : ∀ (l : List LinePort) (u : State), u.seatsSame (l.foldl (fun u p => u.adoptPin p) u) := by
    intro l
    induction l with
    | nil => exact fun u => State.seatsSame_of rfl rfl rfl rfl rfl
    | cons p l ih => exact fun u => (State.seatsSame_adoptPin u p).trans (ih _)
  exact (rescored linePorts s).trans (pinned linePorts _)

theorem State.seatsSame_barrelAdopt (s : State) : s.seatsSame s.barrelAdopt :=
  State.seatsSame_of (by simp) (by simp) (by simp) (by simp) (by simp)

theorem State.kept_adoptCall (h : s.kept b none) (p : LinePort) : (s.adoptCall p).kept b none := by
  refine (trailing_kept b).settlesWithin (State.kept_apply (h.work (by simp) (by simp) (by simp) (by simp) ?_))
  exact (s.othersKept_setPort _).trans (State.othersKept_callSelection _)

theorem State.kept_adoptEffects (h : s.kept b none) (old : Policy) : (s.adoptEffects old).kept b none := by
  have settled : ∀ v u : State, u.kept b none → (v.settlesWithin u).kept b none := fun v u => (trailing_kept b).settlesWithin
  refine State.adoptEffects_keeps (P := State.kept b none) (fun u x hu => ?_) (fun u hu => ?_) (fun u hu => ?_) (fun u hu => ?_) (fun u p hu => State.kept_adoptCall hu p)
    (fun u hu => ?_) (fun u hu => hu.congr (State.seatsSame_of rfl rfl rfl rfl rfl)) s h
  · unfold State.enableChange
    split
    next settling => exact State.kept_abandonSettling hu settling
    · exact settled _ _ (State.kept_detached hu x)
    next empty =>
      split
      · exact State.kept_startSettling hu empty
      · exact hu
    · exact hu
  · unfold State.adoptMeasurement
    dsimp only
    split
    · exact settled _ _ (hu.congr (State.seatsSame_of rfl rfl rfl rfl rfl))
    · exact hu.congr (State.seatsSame_of rfl rfl rfl rfl rfl)
  · unfold State.adoptBarrel
    split
    · exact hu
    · exact settled _ _ (hu.congr u.seatsSame_barrelAdopt)
  · exact settled _ _ (hu.congr u.seatsSame_adoptImages)
  · exact settled _ _ (hu.congr u.seatsSame_evaluate)

theorem State.seatsSame_restartBlocks (s : State) : s.seatsSame s.restartBlocks :=
  ⟨by simp [State.restartBlocks], by simp [State.restartBlocks], by simp [State.restartBlocks],
    fun p => by rw [State.attached, State.attached, State.tracker, State.tracker, show s.restartBlocks.trackers = s.trackers by simp [State.restartBlocks]],
    fun p => .inl (by rw [State.port_restartBlocks, PortRecord.restart])⟩

theorem State.kept_restart (h : s.kept b none) : s.restart.kept b none := by
  refine (blind_kept b).restart ?_ fun u p hu => (trailing_kept b).settlesWithin (State.kept_call hu p)
  exact (trailing_kept b).settlesWithin (h.congr (s.seatsSame_restartBlocks.trans (State.seatsSame_evaluate _)))

theorem State.kept_install (h : s.kept b none) (p : Proposal) : (s.install p).kept b none := by
  have installed : ((s.withPolicy p.clamped).withOrigin .adopted).kept b none := h.congr (State.seatsSame_of rfl rfl rfl rfl rfl)
  rw [State.install]
  exact (blind_kept b).journal ((blind_kept b).writeDraft installed)

theorem State.kept_reqAdopt (h : s.kept b none) (k : Fin 8) : (s.reqAdopt k).kept b none :=
  (blind_kept b).reqAdopt (fun p _ => State.kept_adoptEffects (State.kept_install h p) _) h

/-! ### Attach -/

theorem State.kept_attachEvent (h : s.kept b none) (settling : (s.tracker y).state = .settling) : (s.attachEvent y).kept b none := by
  cases y with
  | line p => exact (trailing_kept b).settles (State.kept_attach h settling)
  | barrel =>
    have same : s.seatsSame (s.setTracker .barrel ⟨.attached, none, none⟩).barrelAttach := by
      refine ⟨rfl, rfl, rfl, fun p => ?_, fun p => .inl rfl⟩
      show (s.setTracker .barrel _).attached (.line p) = _
      rw [State.attached, State.attached, State.tracker_setTracker_of_ne _ _ (by simp)]
    exact (trailing_kept b).settles (h.congr same)

theorem State.kept_reqRegulate (h : s.kept b none) (k : Fin 8) (mode target : Nat) : (s.reqRegulate k mode target).kept b none := by
  unfold State.reqRegulate
  split <;> exact h.congr (State.seatsSame_of rfl rfl rfl rfl rfl)

theorem kept_reset (b : Bool) : State.reset.kept b none := by
  obtain ⟨-, -, -, -, -, -, -, ok, served, -⟩ := resetIsSafe
  exact State.kept_iff.mpr ⟨ok, fun _ => served⟩

/-! ### The commands of the line -/

theorem exec_line_kept {c : Instr} (hc : lineWork c = true) (h : exec c s = .next t) (hs : s.kept b none) : t.kept b none := by
  have attached : ∀ p u, u.kept b none → (s.ifAttached p u).kept b none := fun p u hu => by
    unfold State.ifAttached
    split
    · exact hu
    · exact hs
  have finished : ∀ u : State, u.kept b none → (s.finish u).kept b none := fun u hu => (blind_kept b).finish hu
  cases c with
  | hailPulse p time => cases h; exact finished _ (attached p _ (State.kept_takePulse hs p time))
  | hailWithdrawn p => cases h; exact finished _ (attached p _ (State.kept_withdrawHail hs p))
  | heedEnd p => cases h; exact finished _ (State.kept_endHeed hs p)
  | heedWaitExpiry p => cases h; exact finished _ (State.kept_endHeedWait hs p)
  | startDelimiter p => cases h; exact finished _ (attached p _ (State.kept_takeStart hs p))
  | dataSymbol p v => cases h; exact finished _ (attached p _ (State.kept_takeData hs p v))
  | lineError p => cases h; exact finished _ (attached p _ (State.kept_takeError hs p))
  | lineSilence p => cases h; exact finished _ (attached p _ (State.kept_takeSilence hs p))
  | straySilence p => cases h; exact finished _ (attached p _ (State.kept_takeStraySilence hs p))
  | _ => cases hc

/-- A port whose engine sends has no hail. -/
theorem State.inSeat.sending (h : s.inSeat p) (lease : s.engineOf p = some e) (sending : (s.engine e).state = .sending) :
    (s.line p).hail = false := by
  rw [Bool.eq_false_iff]
  intro hail
  have heeding := (h.1 e lease).2.mp hail
  rw [sending] at heeding
  cases heeding

theorem State.kept_received (h : s.kept b none) (cond : (s.line p).cond = .receiving) (lease : s.engineOf p = some e) (tag : Nat)
    (f : FeederFrame) : (s.settles (((s.setLine p ((s.line p).enter .idle)).deliver p tag f).endLeaseOf p)).kept b none :=
  (trailing_kept b).settles (State.kept_taken h lease (fun hb => (h.seat hb p).hail (.inr (.inl cond))) (by simp) (by simp) (by simp)
    (by simp [State.idled]) (State.othersKept_deliver (s.setLine p _) tag f))

theorem State.kept_sent (h : s.kept b none) (lease : s.engineOf p = some e) (sending : (s.engine e).state = .sending) (f : OutFrame)
    (tag : Nat) : (s.settles (((s.setLine p ((s.line p).enter .idle)).txReport p f tag).endLeaseOf p)).kept b none :=
  (trailing_kept b).settles (State.kept_taken h lease (fun hb => (h.seat hb p).sending lease sending) (by simp) (by simp) (by simp)
    (by simp [State.idled]) (State.othersKept_txReport (s.setLine p _) f tag))

theorem invariant_kept (b : Bool) : Invariant (State.kept b none) where
  blind := blind_kept b
  pending _ _ h := h.congr (State.seatsSame_of rfl rfl rfl rfl rfl)
  meas _ _ _ h := h.congr (State.seatsSame_of rfl rfl rfl rfl rfl)
  presence _ _ h := h.congr (State.seatsSame_of rfl rfl rfl rfl rfl)
  time _ _ h := h.congr (State.seatsSame_of rfl rfl rfl rfl rfl)
  latestVD _ _ h := h.congr (State.seatsSame_of rfl rfl rfl rfl rfl)
  saturation _ _ h := h.congr (State.seatsSame_of rfl rfl rfl rfl rfl)
  line _ _ _ hc h hs := exec_line_kept hc h hs
  badFrame _ _ _ cond h := State.kept_breakFrame h cond
  stray _ _ _ cond h := State.kept_endStray h cond
  received _ _ _ tag f _ cond lease h := State.kept_received h cond lease tag f
  sent _ _ _ f tag lease sending h := State.kept_sent h lease sending f tag
  port _ _ _ work h := (trailing_kept b).settles
    (State.kept_apply (h.work work.trackers work.seats.1 work.seats.2.1 work.seats.2.2 work.othersKept))
  barrel _ _ work h := (trailing_kept b).settles (h.congr work.seats)
  path _ _ work h := (trailing_kept b).settles (h.congr work.seats)
  dead _ _ h := (trailing_kept b).settles (h.congr (State.seatsSame_of rfl rfl rfl rfl rfl))
  starts _ _ empty h := State.kept_startSettling h empty
  abandons _ _ settling h := State.kept_abandonSettling h settling
  detachTimer s x v h := h.congr (State.seatsSame_setTracker s x _ Iff.rfl)
  attach _ _ settling h := State.kept_attachEvent h settling
  detach s x _ h := (trailing_kept b).settles (State.kept_detached h x)
  iin s x v _ h := h.congr (s.seatsSame_deliverIin x v)
  regulate _ k mode target h := State.kept_reqRegulate h k mode target
  forget s j h := h.congr (s.seatsSame_forget j)
  adopt _ k h := State.kept_reqAdopt h k
  restart _ h := State.kept_restart h
  reset := kept_reset b

end

/-- Settles O10. -/
theorem stepKeepsEnginesExclusive : Obligations.StepKeepsEnginesExclusive := by
  unfold Obligations.StepKeepsEnginesExclusive
  intro s t ok h
  have exclusive := (invariant_kept false).step h (State.kept_iff.mpr ⟨ok, fun no => nomatch no⟩)
  refine ⟨exclusive.1, fun served => ?_⟩
  exact (State.kept_iff.mp ((invariant_kept true).step h (State.kept_iff.mpr ⟨ok, fun _ => served⟩))).2 rfl

end Sys2Proof.Machine
end

/-! # The blocks' own work does not look at single pending (R133, R134) -/

section
namespace Sys2Proof.Machine

section
variable {s t u v w : State} {p : LinePort} {e : EngineId} {x y : Connector} {k : LeaseKind} {o : Outcome} {c : ResultCode}

/-- The state with single pending set. -/
def State.pend (s : State) : State := s.withMeas { s.meas with singlePending := true }

/-! ### Engines -/

theorem State.serve_pend (s : State) (e : EngineId) (p : LinePort) : s.pend.serve e p = (s.serve e p).pend := by
  unfold State.serve
  rw [show s.pend.line p = s.line p from rfl, show s.pend.port p = s.port p from rfl]
  split
  · rfl
  · cases (s.port p).slot with
    | none => rfl
    | some f =>
      dsimp only
      split <;> rfl

theorem State.missedBy_pend (s : State) (p : LinePort) (k : LeaseKind) : s.pend.missedBy p k = (s.missedBy p k).pend := by
  unfold State.missedBy
  rw [show s.pend.line p = s.line p from rfl]
  split <;> rfl

theorem State.beginLease_pend (s : State) (e : EngineId) (p : LinePort) (k : LeaseKind) :
    s.pend.beginLease e p k = (s.beginLease e p k).pend := by
  rw [State.beginLease_eq, State.beginLease_eq, ← State.serve_pend, ← State.missedBy_pend]
  rfl

theorem State.apply_pend (s : State) (p : LinePort) : s.pend.apply p = (s.apply p).pend := by
  unfold State.apply
  rw [show s.pend.needsEngine p = s.needsEngine p from rfl, show s.pend.engineOf p = s.engineOf p from rfl,
    show s.pend.queued p = s.queued p from rfl, show s.pend.line p = s.line p from rfl, show s.pend.engines = s.engines from rfl]
  split
  · dsimp only
    split
    · exact s.beginLease_pend _ _ _
    · split
      · exact s.beginLease_pend _ _ _
      · rfl
  · rfl

/-! ### Selections -/

theorem State.completePort_pend (s : State) (p : LinePort) (kinds : List PortRequestKind) (c : ResultCode) :
    s.pend.completePort p kinds c = (s.completePort p kinds c).pend := by
  unfold State.completePort
  rw [show s.pend.port p = s.port p from rfl]
  cases (s.port p).inFlight with
  | none => rfl
  | some q =>
    dsimp only
    split <;> rfl

theorem State.recomputeProspect_pend (s : State) : s.pend.recomputeProspect = s.recomputeProspect.pend := rfl

theorem State.select_pend (s : State) (p : LinePort) : s.pend.select p = ((s.select p).1.pend, (s.select p).2) := by
  unfold State.select
  dsimp only
  rw [show (s.pend.setPort p (rescore s.pend.policy p (s.pend.port p))).recomputeProspect =
    ((s.setPort p (rescore s.policy p (s.port p))).recomputeProspect).pend from rfl]
  generalize (s.setPort p (rescore s.policy p (s.port p))).recomputeProspect = t
  rw [show t.pend.port p = t.port p from rfl, show t.pend.policy = t.policy from rfl, show t.pend.role p = t.role p from rfl]
  cases (t.port p).image with
  | none => rfl
  | some i => rfl

theorem State.applyOutcome_pend (s : State) (p : LinePort) (o : Outcome) : s.pend.applyOutcome p o = (s.applyOutcome p o).pend := by
  cases o with
  | claim c => rfl
  | noClaim shared =>
    simp only [State.applyOutcome]
    rw [show ((s.pend.setPort p ((s.pend.port p).setShared shared)).toRest p) = ((s.setPort p ((s.port p).setShared shared)).toRest p).pend from rfl,
      State.completePort_pend]
    generalize ((s.setPort p ((s.port p).setShared shared)).toRest p).completePort p [.refresh] .ok = t
    rw [show t.pend.matchesPin p = t.matchesPin p from rfl]
    split
    · exact t.completePort_pend _ _ _
    · rfl
  | noCandidate =>
    simp only [State.applyOutcome]
    rw [show (s.pend.toRest p).journal 0x11 (lineByte p) [byte (((s.pend.port p).image.map fun i => i.levels.length).getD 0)] =
      ((s.toRest p).journal 0x11 (lineByte p) [byte (((s.port p).image.map fun i => i.levels.length).getD 0)]).pend from rfl]
    exact State.completePort_pend _ _ _ _

theorem State.callSelection_pend (s : State) (p : LinePort) : s.pend.callSelection p = (s.callSelection p).pend := by
  have free : ∀ b : Bool, (if b then s.pend else (s.select p).1.pend.applyOutcome p (s.select p).2) =
      (if b then s else (s.select p).1.applyOutcome p (s.select p).2).pend := fun b => by
    split
    · rfl
    · exact State.applyOutcome_pend _ _ _
  unfold State.callSelection
  rw [show s.pend.port p = s.port p from rfl, State.select_pend]
  dsimp only
  split
  · rfl
  · cases (s.port p).state with
    | shifting => rfl
    | base => exact free _
    | bound => exact free _
    | claimed =>
      dsimp only
      split
      · rfl
      · rw [show (s.select p).1.pend.port p = (s.select p).1.port p from rfl,
          show (s.select p).1.pend.setPort p ((s.select p).1.port p).retire =
            ((s.select p).1.setPort p ((s.select p).1.port p).retire).pend from rfl]
        cases (s.select p).2 with
        | claim c =>
          dsimp only
          split
          · rfl
          · exact State.applyOutcome_pend _ _ _
        | noClaim shared =>
          dsimp only
          exact State.applyOutcome_pend _ _ _
        | noCandidate =>
          dsimp only
          exact State.applyOutcome_pend _ _ _
    | empty => rfl
    | settling => rfl
    | asking => rfl
    | faulted => rfl

/-! ### The path -/

theorem State.completePrimary_pend (s : State) (y : Connector) (c : ResultCode) : s.pend.completePrimary y c = (s.completePrimary y c).pend := by
  unfold State.completePrimary
  rw [show s.pend.path = s.path from rfl]
  cases s.path.inFlight with
  | none => rfl
  | some q =>
    dsimp only
    split <;> rfl

theorem State.losePath_pend (s : State) (y : Connector) : s.pend.losePath y = (s.losePath y).pend := by
  unfold State.losePath
  dsimp only
  rw [← State.completePrimary_pend, show s.pend.path = s.path from rfl]
  split <;> rfl

theorem State.evaluatePath_pend (s : State) : s.pend.evaluatePath = s.evaluatePath.pend := by
  unfold State.evaluatePath
  rw [show s.pend.path = s.path from rfl]
  cases s.path.state with
  | idle =>
    dsimp only
    rw [show s.pend.freshChoice = s.freshChoice from rfl]
    cases s.freshChoice <;> rfl
  | closing y =>
    dsimp only
    rw [show s.pend.eligible y = s.eligible y from rfl]
    split
    · rfl
    · exact s.losePath_pend y
  | closed z =>
    dsimp only
    rw [show s.pend.eligible z = s.eligible z from rfl]
    split
    · unfold State.improve
      rw [show s.pend.challenger z = s.challenger z from rfl]
      cases s.challenger z with
      | none => rfl
      | some y =>
        dsimp only
        rw [show s.pend.atRest y = s.atRest y from rfl]
        split <;> rfl
    · exact s.losePath_pend z
  | opening y => rfl

theorem State.evaluate_pend (s : State) : s.pend.evaluate = s.evaluate.pend := by
  unfold State.evaluate
  rw [State.evaluatePath_pend]
  generalize s.evaluatePath = t
  unfold State.dropLostPrimary
  rw [show t.pend.path = t.path from rfl]
  cases t.path.inFlight with
  | none => rfl
  | some q =>
    dsimp only
    rw [show t.pend.lossCause q.target = t.lossCause q.target from rfl]
    split
    · exact t.completePrimary_pend _ _
    · rfl

/-! ### What follows an event -/

theorem State.reportOwners_pend (s t : State) : s.pend.reportOwners t.pend = (s.reportOwners t).pend := by
  unfold State.reportOwners
  rw [show ownerReports s.pend t.pend = ownerReports s t by funext x; cases x <;> rfl]
  split
  · exact t.evaluate_pend
  · rfl

theorem State.reportDroops_pend (s : State) (l : List Connector) (t : State) :
    l.foldl (fun u x => s.pend.reportDroop u x) t.pend = (l.foldl (fun u x => s.reportDroop u x) t).pend := by
  induction l generalizing t with
  | nil => rfl
  | cons x l ih =>
    have first : s.pend.reportDroop t.pend x = (s.reportDroop t x).pend := by
      unfold State.reportDroop
      rw [show s.pend.live x = s.live x by cases x <;> rfl, show t.pend.live x = t.live x by cases x <;> rfl]
      split <;> rfl
    rw [List.foldl_cons, List.foldl_cons, first, ih]

theorem State.reportBudget_pend (s t : State) : s.pend.reportBudget t.pend = (s.reportBudget t).pend := by
  have budget : t.pend.recomputeBudget = t.recomputeBudget.pend := rfl
  have reports : budgetReports s.pend t.pend = budgetReports s t := rfl
  unfold State.reportBudget
  rw [reports, budget, show leftClosed s.pend t.pend = leftClosed s t from rfl]
  split
  · dsimp only
    split <;> rfl
  · rfl

theorem State.report_pend (s t : State) : s.pend.report t.pend = (s.report t).pend := by
  unfold State.report
  dsimp only
  rw [State.reportOwners_pend, State.reportDroops_pend, State.reportBudget_pend, State.recomputeProspect_pend]

theorem State.finish_pend (s t : State) : s.pend.finish t.pend = (s.finish t).pend := by
  unfold State.finish
  generalize connectors = l
  induction l generalizing t with
  | nil => rfl
  | cons x l ih =>
    have first : s.pend.refreshPage t.pend x = (s.refreshPage t x).pend := by
      unfold State.refreshPage
      rw [show recordChanged s.pend t.pend x = recordChanged s t x by cases x <;> rfl]
      split
      · cases x <;> rfl
      · rfl
    rw [List.foldl_cons, List.foldl_cons, first, ih]

theorem settle_pend (pages : Bool) (n : Nat) (s t : State) : settle pages n s.pend t.pend = (settle pages n s t).pend := by
  have concludes : ∀ s t : State, s.pend.concludes pages t.pend = (s.concludes pages t).pend := fun s t => by
    unfold State.concludes
    rw [State.report_pend]
    split
    · exact State.finish_pend s _
    · rfl
  induction n generalizing s t with
  | zero => exact concludes s t
  | succ n ih =>
    simp only [settle]
    rw [concludes, show roleChanges s.pend (s.concludes pages t).pend = roleChanges s (s.concludes pages t) from rfl]
    generalize roleChanges s (s.concludes pages t) = l
    generalize s.concludes pages t = u
    induction l generalizing u with
    | nil => rfl
    | cons p l ihl =>
      rw [List.foldl_cons, List.foldl_cons, State.callSelection_pend, State.apply_pend, ih]
      exact ihl _

/-! ### An identification sample (R7 to R11) -/

theorem State.barrelOutcome_pend (s : State) (i : StoredId) (amps : Nat) : s.pend.barrelOutcome i amps = (s.barrelOutcome i amps).pend := by
  unfold State.barrelOutcome
  rw [show s.pend.policy = s.policy from rfl, show s.pend.barrel = s.barrel from rfl]
  cases s.policy.barrelCause i.volts amps <;> rfl

theorem State.completeBarrel_pend (s : State) (c : ResultCode) : s.pend.completeBarrel c = (s.completeBarrel c).pend := by
  unfold State.completeBarrel
  rw [show s.pend.barrel = s.barrel from rfl]
  cases s.barrel.inFlight <;> rfl

theorem State.identify_pend (s : State) : s.pend.identify = s.identify.pend := by
  unfold State.identify
  dsimp only
  rw [show s.pend.barrel = s.barrel from rfl, show s.pend.policy = s.policy from rfl, show s.pend.latestVD = s.latestVD from rfl,
    State.barrelOutcome_pend, ← State.completeBarrel_pend]
  rfl

theorem State.barrelSample_pend (s : State) (v : Nat) : s.pend.barrelSample v = (s.barrelSample v).pend := by
  unfold State.barrelSample
  rw [show s.pend.barrel = s.barrel from rfl]
  split
  · dsimp only
    rw [show (s.pend.withBarrel { s.barrel with count := s.barrel.count + 1, sum := s.barrel.sum + v }) =
      (s.withBarrel { s.barrel with count := s.barrel.count + 1, sum := s.barrel.sum + v }).pend from rfl]
    generalize s.withBarrel { s.barrel with count := s.barrel.count + 1, sum := s.barrel.sum + v } = t
    rw [show t.pend.barrel = t.barrel from rfl]
    split
    · exact t.identify_pend
    · rfl
  · rfl

end

end Sys2Proof.Machine
end

/-! # An IDD result, with and without single pending (R7, R134) -/

section
namespace Sys2Proof.Machine

section
variable {s t u : State} {k : Fin 8} {l : List (Fin 8)} {v : Nat} {r : Int}

/-! ### The sample and what it settles -/

/-- An IDD result as the identification takes it, with all that follows (R7). -/
def State.idSampled (s : State) (v : Nat) : State := if s.barrel.state = .identifying then s.settles (s.barrelSample v) else s

theorem exec_iddCompletion (r : Int) (s : State) :
    exec (.iddCompletion r) s = .next ((s.enterResult .idd (min 3300 r.toNat)).idSampled (min 3300 r.toNat)).publishSingle := rfl

theorem State.idSampled_pend (s : State) (v : Nat) : s.pend.idSampled v = (s.idSampled v).pend := by
  unfold State.idSampled State.settles
  rw [show s.pend.barrel = s.barrel from rfl, State.barrelSample_pend, settle_pend]
  split <;> rfl

theorem State.idSampled_fixed (s : State) (v : Nat) : (s.idSampled v).fixed = s.fixed := by
  unfold State.idSampled
  split
  · obtain ⟨m, goes⟩ := State.goes_barrelSample (pages := true) (held := fun _ => True) s v
    obtain ⟨n, follows⟩ := (trailing_follows s []).settles ⟨m, goes⟩
    exact follows.fixed
  · rfl

theorem State.publishSingle_of_not_pending (clear : s.meas.singlePending = false) : s.publishSingle = s := by
  rw [State.publishSingle_eq, clear]
  rfl

/-- A sample that does not complete the identification (R7). -/
theorem State.barrelSample_of_few (identifying : s.barrel.state = .identifying) (few : s.barrel.count < 7) :
    s.barrelSample v = s.withBarrel { s.barrel with count := s.barrel.count + 1, sum := s.barrel.sum + v } := by
  rw [State.barrelSample, if_pos identifying]
  dsimp only
  rw [if_neg]
  show ¬ 8 ≤ s.barrel.count + 1
  omega

theorem State.quiet_withBarrel {b : Barrel} (same : b.sansCount = s.barrel.sansCount) : s.Quiet (s.withBarrel b) where
  policy := rfl
  state := rfl
  pin := rfl
  dead := rfl
  prospect := rfl
  port _ := rfl
  barrel := same

/-! ### The completions of the SINGLEs that wait (R134) -/

/-- What the completions of slots change: the slots, and SLOT_DONE. -/
structure State.SlotsEnded (s t : State) : Prop where
  rest : ∃ x, t = s.withExch x
  written : t.exch.written = s.exch.written
  seq : t.exch.telemetrySeq = s.exch.telemetrySeq
  attn : ∀ c, s.exch.attn &&& c = c → t.exch.attn &&& c = c
  bytes : ∀ a, 0x180 ≤ a → readByte t.exch.mem a = readByte s.exch.mem a

theorem State.slotsEnded_singlesEnded (s : State) (l : List (Fin 8)) : s.SlotsEnded (s.singlesEnded l) := by
  induction l generalizing s with
  | nil => exact ⟨⟨_, rfl⟩, rfl, rfl, fun _ h => h, fun _ _ => rfl⟩
  | cons k l ih =>
    obtain ⟨⟨x, e⟩, written, seq, attn, bytes⟩ := ih (s.complete k .ok s.meas.data)
    refine ⟨⟨x, e⟩, written, seq, fun c h => attn c (causes_kept h), fun a ha => (bytes a ha).trans ?_⟩
    refine s.exch.readByte_complete_outside k _ _ a (.inr ?_)
    have := k.isLt
    simp only [slotAddress, Config.slotBase]
    omega

/-- A completed SINGLE, with the figure it returns (R133, R134). -/
def State.singleDone (s : State) (reload : Nat) (k : Fin 8) : Prop :=
  s.answered k .ok ∧ ∀ i, i < 16 → readByte s.exch.mem (slotAddress k + 16 + i) = (padTo 16 (le2 reload)).getD i 0

theorem State.singleDone_complete (s : State) (k : Fin 8) : (s.complete k .ok s.meas.data).singleDone s.meas.reload k :=
  ⟨State.answered_complete s k .ok _, s.exch.readByte_complete_data k .ok s.meas.data⟩

theorem State.singleDone.of_offSlot {reload : Nat} (h : s.singleDone reload k) (off : State.offSlot k s t) : t.singleDone reload k :=
  ⟨h.1.of_offSlot off, fun i hi => (off.2 _ ⟨by omega, by omega⟩).trans (h.2 i hi)⟩

theorem State.singleDone_singlesEnded (s : State) (waits : k ∈ l) : (s.singlesEnded l).singleDone s.meas.reload k := by
  induction l generalizing s with
  | nil => cases waits
  | cons j l ih =>
    by_cases later : k ∈ l
    · exact ih (s.complete j .ok s.meas.data) later
    · obtain rfl : k = j := (List.mem_cons.mp waits).resolve_right later
      exact (s.singleDone_complete k).of_offSlot (State.offSlot_singlesEnded _ later)

/-! ### The publish that single pending causes -/

/-- A publish of `s`, single pending cleared. -/
def State.publishedSingle (s : State) : State := s.publish.withMeas { s.publish.meas with singlePending := false, singles := [] }

theorem State.publishSingle_pend (s : State) : s.pend.publishSingle = (s.pend.publishedSingle).singlesEnded s.meas.singles := by
  rw [State.publishSingle_eq, show s.pend.meas.singlePending = true from rfl, if_pos rfl]
  rfl

theorem State.publishedSingle_reload (s : State) : s.pend.publishedSingle.meas.reload = s.meas.reload := rfl

theorem State.publishedSingle_slot (s : State) : s.pend.publishedSingle.exch.slot k = s.exch.slot k := by
  rw [show s.pend.publishedSingle.exch = s.pend.publish.exch from rfl, State.publish_exch]
  rfl

theorem State.publishedSingle_kept (s : State) :
    s.pend.publishedSingle.meas.droop = s.meas.droop ∧ s.pend.publishedSingle.meas.periodTimer = s.meas.periodTimer ∧
      s.pend.publishedSingle.ports = s.ports ∧ s.pend.publishedSingle.barrel = s.barrel ∧
      s.pend.publishedSingle.path = s.path ∧ s.pend.publishedSingle.exch.written = s.exch.written := by
  unfold State.publishedSingle
  rw [State.publish_eq]
  have same : s.pend.writeTelemetry.exch.written = s.exch.written := rfl
  generalize s.pend.writeTelemetry.exch = x at same
  exact ⟨rfl, rfl, rfl, rfl, rfl, same⟩

theorem State.published_pend (s : State) : s.published (s.pend.publishedSingle) := by
  obtain ⟨page, -⟩ := s.pend.writeTelemetry_bytes
  exact ⟨page, rfl, causes_set _ _, rfl, s.meas.table.get_emptied⟩

theorem State.published.of_slotsEnded (h : s.published t) (ended : t.SlotsEnded u) : s.published u := by
  obtain ⟨⟨x, e⟩, -, seq', attn', bytes⟩ := ended
  obtain ⟨page, seq, attn, reg, table⟩ := h
  exact ⟨fun i hi => (bytes _ (by omega)).trans (page i hi), seq'.trans seq, attn' _ attn, by rw [e]; exact reg, by rw [e]; exact table⟩

end

/-- Settles O26. -/
theorem iddSampleIsCounted : Obligations.IddSampleIsCounted := by
  unfold Obligations.IddSampleIsCounted
  refine ⟨fun s r clear => ?_, fun s r pending => ?_⟩
  · intro v u
    have entered : s.enterResult .idd v = u := s.enterResult_idd v
    have done : exec (.iddCompletion r) s = .next (u.idSampled v).publishSingle := by rw [exec_iddCompletion, ← entered]
    have idle : (u.idSampled v).publishSingle = u.idSampled v :=
      State.publishSingle_of_not_pending ((State.singlePending_of_fixed (u.idSampled_fixed v)).trans clear)
    rw [idle] at done
    refine ⟨fun other => ?_, fun identifying few ok => ?_⟩
    · have same : u.idSampled v = u := if_neg other
      rw [same] at done
      exact leads_of_records_kept done rfl rfl
    · have settled : u.idSampled v = u.settles (u.withBarrel { s.barrel with count := s.barrel.count + 1, sum := s.barrel.sum + v }) := by
        rw [State.idSampled, if_pos (show u.barrel.state = .identifying from identifying),
          State.barrelSample_of_few (s := u) (v := v) identifying few]
        rfl
      have quiet : u.Quiet (u.withBarrel { s.barrel with count := s.barrel.count + 1, sum := s.barrel.sum + v }) :=
        State.quiet_withBarrel rfl
      rw [settled, quiet.settles ok] at done
      exact leads_of_finish done
  · generalize hw : s.withMeas { s.meas with singlePending := false } = w
    have back : s = w.pend := by
      rw [← hw]
      show s = s.withMeas { s.meas with singlePending := true }
      rw [← pending]
      rfl
    have clear : w.meas.singlePending = false := hw ▸ rfl
    have meas : w.meas.singles = s.meas.singles ∧ w.meas.reload = s.meas.reload := hw ▸ ⟨rfl, rfl⟩
    generalize hv : min 3300 r.toNat = v
    generalize hu : (w.enterResult .idd v).idSampled v = u
    have fixed : u.fixed = (w.enterResult .idd v).fixed := hu ▸ State.idSampled_fixed _ v
    have first : exec (.iddCompletion r) w = .next u := by
      rw [exec_iddCompletion, hv, hu, State.publishSingle_of_not_pending ((State.singlePending_of_fixed fixed).trans clear)]
    have second : exec (.iddCompletion r) s = .next u.pend.publishSingle := by
      rw [exec_iddCompletion, hv, back, show w.pend.enterResult .idd v = (w.enterResult .idd v).pend from rfl, State.idSampled_pend, hu]
    have singles : u.meas.singles = s.meas.singles := (State.singles_of_fixed fixed).trans meas.1
    have reload : u.meas.reload = s.meas.reload := (State.reload_of_fixed fixed).trans meas.2
    rw [State.publishSingle_pend, singles] at second
    have ended := u.pend.publishedSingle.slotsEnded_singlesEnded s.meas.singles
    have published := u.published_pend.of_slotsEnded ended
    have others : ∀ k, k ∉ s.meas.singles → State.offSlot k u.pend.publishedSingle (u.pend.publishedSingle.singlesEnded s.meas.singles) :=
      fun k out => State.offSlot_singlesEnded _ out
    have answers : ∀ k, k ∈ s.meas.singles → (u.pend.publishedSingle.singlesEnded s.meas.singles).singleDone s.meas.reload k :=
      fun k waits => by
        rw [← reload, ← State.publishedSingle_reload]
        exact State.singleDone_singlesEnded _ waits
    refine ⟨u, _, first, second, published, ?_⟩
    generalize u.pend.publishedSingle.singlesEnded s.meas.singles = t at ended others answers
    obtain ⟨⟨x, e⟩, written, -, -, -⟩ := ended
    refine ⟨by rw [e]; rfl, by rw [e]; rfl, answers, fun k out => (others k out).1.trans u.publishedSingle_slot, ?_⟩
    obtain ⟨droop, timer, ports, barrel, path, same⟩ := u.publishedSingle_kept
    rw [e] at written ⊢
    exact ⟨droop, timer, ports, barrel, path, written.trans same⟩

end Sys2Proof.Machine
end

/-! # The steps of an adoption (R171) -/

section
namespace Sys2Proof.Machine

section
variable {P Q : State → Prop} {s t u : State} {x : Connector} {p : LinePort} {old : Policy} {held : Fin 8 → Prop}
  {l m : List (Byte × Byte × List Byte)}

/-- An adoption up to the evaluation of the path: all but the regulator's step. -/
def State.adopted (s : State) (old : Policy) : State :=
  (s.adoptTrackers old).adoptMeasurement.adoptBarrel.adoptSelector.adoptNegotiation.adoptPath

theorem State.adoptEffects_adopted (s : State) (old : Policy) : s.adoptEffects old = (s.adopted old).adoptRegulator := rfl

/-! ### The trackers' step (R4) -/

/-- What an adoption does to a connector whose bit it changes. -/
theorem State.enableChange_cases (s : State) (old : Policy) (x : Connector) :
    (old.enabled x = true ∧ s.policy.enabled x = false ∧ (s.tracker x).state = .settling ∧ s.enableChange old x = s.abandonSettling x) ∨
    (old.enabled x = true ∧ s.policy.enabled x = false ∧ (s.tracker x).state = .attached ∧
      s.enableChange old x = s.settlesWithin (s.detached x)) ∨
    (old.enabled x = false ∧ s.policy.enabled x = true ∧ (s.tracker x).state = .empty ∧ s.presence.get x = true ∧
      s.enableChange old x = s.startSettling x) ∨
    (s.enableChange old x = s ∧ (old.enabled x = s.policy.enabled x ∨
      old.enabled x = true ∧ s.policy.enabled x = false ∧ (s.tracker x).state = .empty ∨
      old.enabled x = false ∧ s.policy.enabled x = true ∧ ((s.tracker x).state = .empty → s.presence.get x = false))) := by
  unfold State.enableChange
  cases before : old.enabled x <;> cases after : s.policy.enabled x <;> cases state : (s.tracker x).state <;>
    cases present : s.presence.get x <;> simp_all

/-- A predicate that the three moves of a tracker keep. -/
theorem State.enableChange_keeps (abandon : ∀ u : State, P u → P (u.abandonSettling x)) (start : ∀ u : State, P u → P (u.startSettling x))
    (detach : ∀ u : State, P u → P (u.settlesWithin (u.detached x))) (u : State) (h : P u) : P (u.enableChange old x) := by
  rcases u.enableChange_cases old x with ⟨-, -, -, e⟩ | ⟨-, -, -, e⟩ | ⟨-, -, -, -, e⟩ | ⟨e, -⟩ <;> rw [e]
  · exact abandon u h
  · exact detach u h
  · exact start u h
  · exact h

/-- One connector's turn in the trackers' step, between those of the others. -/
theorem State.adoptTrackers_at (before : ∀ (u : State) y, y ≠ x → P u → P (u.enableChange old y))
    (here : ∀ u : State, P u → Q (u.enableChange old x)) (after : ∀ (u : State) y, y ≠ x → Q u → Q (u.enableChange old y)) (h : P s) :
    Q (s.adoptTrackers old) := by
  show Q ((((s.enableChange old (.line .a)).enableChange old (.line .b)).enableChange old (.line .c)).enableChange old .barrel)
  rcases x with (_ | _ | _) | _
  · exact after _ _ (by simp) (after _ _ (by simp) (after _ _ (by simp) (here _ h)))
  · exact after _ _ (by simp) (after _ _ (by simp) (here _ (before _ _ (by simp) h)))
  · exact after _ _ (by simp) (here _ (before _ _ (by simp) (before _ _ (by simp) h)))
  · exact here _ (before _ _ (by simp) (before _ _ (by simp) (before _ _ (by simp) h)))

theorem State.adoptTrackers_keeps (keeps : ∀ (u : State) y, P u → P (u.enableChange old y)) (h : P s) : P (s.adoptTrackers old) :=
  State.adoptTrackers_at (x := .barrel) (fun u y _ => keeps u y) (fun u => keeps u .barrel) (fun u y _ => keeps u y) h

/-- One port's turn in the calls for selection, between those of the others. -/
theorem State.adoptNegotiation_at (before : ∀ (u : State) o, o ≠ p → P u → P (u.adoptCall o)) (here : ∀ u : State, P u → Q (u.adoptCall p))
    (after : ∀ (u : State) o, o ≠ p → Q u → Q (u.adoptCall o)) (h : P s) : Q s.adoptNegotiation := by
  show Q (((s.adoptCall .a).adoptCall .b).adoptCall .c)
  cases p
  · exact after _ _ (by simp) (after _ _ (by simp) (here _ h))
  · exact after _ _ (by simp) (here _ (before _ _ (by simp) h))
  · exact here _ (before _ _ (by simp) (before _ _ (by simp) h))

/-! ### Predicates that the later steps keep -/

/-- A predicate that the steps of an adoption after the trackers' keep. -/
structure Stages (P : State → Prop) : Prop where
  measurement : ∀ u : State, P u → P u.adoptMeasurement
  barrel : ∀ u : State, P u → P u.adoptBarrel
  selector : ∀ u : State, P u → P u.adoptSelector
  call : ∀ (u : State) p, P u → P (u.adoptCall p)
  path : ∀ u : State, P u → P u.adoptPath

section
variable (stages : Stages P)
include stages

theorem Stages.negotiation (h : P u) : P u.adoptNegotiation := stages.call _ _ (stages.call _ _ (stages.call _ _ h))

theorem Stages.adopted (h : P (s.adoptTrackers old)) : P (s.adopted old) :=
  stages.path _ (stages.negotiation (stages.selector _ (stages.barrel _ (stages.measurement _ h))))

end

/-- A predicate that the primitive moves of these steps keep. -/
structure Adoptive (P : State → Prop) : Prop extends Trailing P where
  droops : ∀ u : State, P u → P (u.withMeas { u.meas with droop := ⟨0, 0, 0, 0⟩ })
  dead : ∀ (u : State) v, P u → P (u.deadChange false v)
  reclassified : ∀ u : State, P u → P u.barrelAdopt
  rescored : ∀ (u : State) p, P u → P (u.setPort p (rescore u.policy p (u.port p)))
  repinned : ∀ (u : State) p, P u → P (u.adoptPin p)
  unbarred : ∀ (u : State) p, P u → P (u.setPort p { u.port p with barred := false })

theorem Adoptive.and (h : Adoptive P) (k : Adoptive Q) : Adoptive fun u => P u ∧ Q u where
  toTrailing := h.toTrailing.and k.toTrailing
  droops u := .imp (h.droops u) (k.droops u)
  dead u v := .imp (h.dead u v) (k.dead u v)
  reclassified u := .imp (h.reclassified u) (k.reclassified u)
  rescored u p := .imp (h.rescored u p) (k.rescored u p)
  repinned u p := .imp (h.repinned u p) (k.repinned u p)
  unbarred u p := .imp (h.unbarred u p) (k.unbarred u p)

/-! ### A port's turn (R103) -/

theorem Trailing.adoptCall (trails : Trailing P) (h : P (u.setPort p { u.port p with barred := false })) : P (u.adoptCall p) :=
  trails.settlesWithin (trails.call _ p h)

section
variable (adopts : Adoptive P)
include adopts

theorem Adoptive.images (h : P u) : P u.adoptImages :=
  adopts.repinned _ _ (adopts.repinned _ _ (adopts.repinned _ _
    (adopts.rescored _ _ (adopts.rescored _ _ (adopts.rescored _ _ h)))))

theorem Adoptive.stages : Stages P where
  measurement u h := by
    unfold State.adoptMeasurement
    dsimp only
    split
    · exact adopts.settlesWithin (adopts.dead _ _ (adopts.droops u h))
    · exact adopts.droops u h
  barrel u h := by
    unfold State.adoptBarrel
    split
    · exact h
    · exact adopts.settlesWithin (adopts.reclassified u h)
  selector u h := adopts.settlesWithin (adopts.images h)
  call u p h := adopts.toTrailing.adoptCall (adopts.unbarred u p h)
  path u h := adopts.settlesWithin (adopts.evaluate u h)

end

/-! ### What an adoption leaves alone -/

/-- The state with everything masked that an adoption may change, once the policy is installed. -/
def State.frame (s : State) : State := { s.fixed with trackers := State.reset.trackers, meas := { s.fixed.meas with dead := false } }

/-- `t` comes of `s` by steps of an adoption that submitted the records `l`, completing no request but those in flight. -/
structure State.Adopts (held : Fin 8 → Prop) (s : State) (l : List (Byte × Byte × List Byte)) (t : State) : Prop where
  logs : s.heldIn held → s.exch.Logs true s.time held l t.exch
  stays : s.heldIn held → t.heldIn held
  frame : t.frame = s.frame

theorem State.Adopts.refl (s : State) : s.Adopts held [] s := ⟨fun _ => .refl, id, rfl⟩

theorem State.time_of_frame (h : t.frame = s.frame) : t.time = s.time := (congrArg State.time h :)

theorem State.Adopts.trans (h : s.Adopts held l t) (k : t.Adopts held m u) : s.Adopts held (l ++ m) u where
  logs hs := (h.logs hs).trans (State.time_of_frame h.frame ▸ k.logs (h.stays hs))
  stays hs := k.stays (h.stays hs)
  frame := k.frame.trans h.frame

theorem State.Follows.adopts {pages : Bool} (h : s.Follows pages held l t) : s.Adopts held l t where
  logs hs := (h.logs hs).allowPages
  stays := h.stays
  frame := by
    unfold State.frame
    rw [h.fixed]

theorem State.Goes.adopts {pages : Bool} (h : s.Goes pages held t) : ∃ l, s.Adopts held l t := h.imp fun _ => State.Follows.adopts

theorem State.adopts_setTracker (s : State) (x : Connector) (k : Tracker) : s.Adopts held [] (s.setTracker x k) :=
  ⟨fun _ => .refl, fun hs => hs, rfl⟩

theorem State.adopts_ownerSettling (s : State) (x : Connector) (start : Bool) : s.Adopts held [] (s.ownerSettling x start) := by
  cases x with
  | line p =>
    exact (State.follows_setPort_kept (pages := true) s p { s.port p with state := if start then .settling else .empty } rfl).adopts
  | barrel =>
    exact (State.follows_withBarrel_kept (pages := true) s { s.barrel with state := if start then .settling else .empty } rfl).adopts

theorem State.adopts_detached (s : State) (x : Connector) : ∃ l, s.Adopts held l (s.detached x) := by
  cases x with
  | line p =>
    exact ⟨_, (s.adopts_setTracker _ _).trans ((State.follows_clearDroop (pages := true) _ (.line p)).trans
      (State.follows_portDetach _ p)).adopts⟩
  | barrel =>
    exact ⟨_, (s.adopts_setTracker _ _).trans ((State.follows_clearDroop (pages := true) _ .barrel).trans
      (State.follows_barrelDetach _)).adopts⟩

theorem State.adopts_deadChange (s : State) (b : Bool) (v : Nat) :
    s.Adopts held [(0x14, 0xFF, [if b then 1 else 0, 0] ++ le2 v)] (s.deadChange b v) := by
  have flag : s.Adopts held [] (s.withMeas { s.meas with dead := b }) := ⟨fun _ => .refl, fun hs => hs, rfl⟩
  exact flag.trans (State.follows_journal (pages := true) _ _ _ _).adopts

theorem State.adopts_droops (s : State) : s.Adopts held [] (s.withMeas { s.meas with droop := ⟨0, 0, 0, 0⟩ }) :=
  ⟨fun _ => .refl, fun hs => hs, rfl⟩

theorem State.adopts_enableChange (s : State) (old : Policy) (x : Connector) : ∃ l, s.Adopts held l (s.enableChange old x) := by
  refine State.enableChange_keeps (P := fun u => ∃ l, s.Adopts held l u) (fun u => ?_) (fun u => ?_) (fun u => ?_) s ⟨[], .refl s⟩
  · rintro ⟨l, h⟩
    exact ⟨_, (h.trans (u.adopts_setTracker x _)).trans (State.adopts_ownerSettling _ x false)⟩
  · rintro ⟨l, h⟩
    exact ⟨_, (h.trans (u.adopts_setTracker x _)).trans (State.adopts_ownerSettling _ x true)⟩
  · rintro ⟨l, h⟩
    obtain ⟨m, k⟩ := u.adopts_detached (held := held) x
    obtain ⟨n, f⟩ := (State.goes_settlesWithin (held := held) u (u.detached x)).adopts
    exact ⟨_, (h.trans k).trans f⟩

/-- The records submitted first stand through the later steps. -/
theorem stages_adopts (held : Fin 8 → Prop) (s : State) (l : List (Byte × Byte × List Byte)) :
    Stages fun u => ∃ m, s.Adopts held (l ++ m) u := by
  have goes : ∀ {u v : State}, (∃ n, u.Adopts held n v) → (∃ m, s.Adopts held (l ++ m) u) → ∃ m, s.Adopts held (l ++ m) v := by
    rintro u v ⟨n, k⟩ ⟨m, h⟩
    exact ⟨m ++ n, by rw [← List.append_assoc]; exact h.trans k⟩
  refine ⟨fun u h => ?_, fun u h => ?_, fun u h => goes (State.goes_adoptSelector u).adopts h,
    fun u p h => goes (State.goes_adoptCall u p).adopts h, fun u h => goes (State.goes_adoptPath u).adopts h⟩
  · unfold State.adoptMeasurement
    dsimp only
    have cleared := goes ⟨_, u.adopts_droops⟩ h
    split
    · exact goes (State.goes_settlesWithin _ _).adopts (goes ⟨_, State.adopts_deadChange _ _ _⟩ cleared)
    · exact cleared
  · unfold State.adoptBarrel
    split
    · exact h
    · exact goes ((State.goes_barrelAdopt (pages := false) u).trans (State.goes_settlesWithin u _)).adopts h

/-- An adoption, whose records are those of the trackers' step first. -/
theorem State.adopts_adopted (h : s.Adopts held l (s.adoptTrackers old)) : ∃ m, s.Adopts held (l ++ m) (s.adopted old) :=
  (stages_adopts held s l).adopted ⟨[], by rwa [List.append_nil]⟩

theorem State.adopts_adoptTrackers (s : State) (old : Policy) : ∃ l, s.Adopts held l (s.adoptTrackers old) :=
  State.adoptTrackers_keeps (P := fun u => ∃ l, s.Adopts held l u) (fun u x => by
    rintro ⟨l, h⟩
    obtain ⟨m, k⟩ := u.adopts_enableChange (held := held) old x
    exact ⟨_, h.trans k⟩) ⟨[], .refl s⟩

end

end Sys2Proof.Machine
end

/-! # One line port through the steps of an adoption -/

section
namespace Sys2Proof.Machine

section
variable {P Q : State → Prop} {s t u v : State} {x y : Connector} {p o : LinePort} {old q : Policy} {r w : PortRecord} {R : PortRecord → Prop}

/-- What bears on one line port: its record, its line, the engines and the queue are the same. -/
structure State.portSame (p : LinePort) (s t : State) : Prop where
  policy : t.policy = s.policy
  port : t.port p = s.port p
  line : t.line p = s.line p
  engines : t.engines = s.engines
  queue : t.queue = s.queue

theorem State.portSame.trans (h : State.portSame p s t) (k : State.portSame p t u) : State.portSame p s u :=
  ⟨k.policy.trans h.policy, k.port.trans h.port, k.line.trans h.line, k.engines.trans h.engines, k.queue.trans h.queue⟩

theorem State.portSame_of (policy : t.policy = s.policy) (ports : t.ports = s.ports) (lines : t.lines = s.lines)
    (engines : t.engines = s.engines) (queue : t.queue = s.queue) : State.portSame p s t :=
  ⟨policy, by rw [State.port, ports, State.port], by rw [State.line, lines, State.line], engines, queue⟩

theorem State.portSame_setPort (s : State) (ne : o ≠ p) (r : PortRecord) : State.portSame p s (s.setPort o r) :=
  ⟨rfl, State.port_setPort_of_ne s r ne.symm, rfl, rfl, rfl⟩

/-- A predicate on one line port, its line and the engines, that an event of another connector keeps. -/
structure Ported (p : LinePort) (P : State → Prop) : Prop extends Trailing P where
  congr : ∀ u v, State.portSame p u v → P u → P v
  dropped : ∀ (u : State) o, o ≠ p → P u → P (u.dropLine o)

theorem Ported.and (h : Ported p P) (k : Ported p Q) : Ported p fun u => P u ∧ Q u where
  toTrailing := h.toTrailing.and k.toTrailing
  congr u v same := .imp (h.congr u v same) (k.congr u v same)
  dropped u o ne := .imp (h.dropped u o ne) (k.dropped u o ne)

/-- A property of the records of a port that no engine bears on, and that calls for selection keep. -/
theorem Ported.of_record (p : LinePort) (engines : ∀ r w, r.sansEngine = w.sansEngine → R r → R w)
    (call : ∀ q r w, PortRecord.Calls q p r w → R r → R w) : Ported p fun u => R (u.port p) where
  toTrailing := .of_record p engines call
  congr u v same h := by rw [same.port]; exact h
  dropped u o _ h := engines _ _ ((State.served_dropLine u o).port p).symm h

theorem Ported.of_policied (p : LinePort) (q : Policy) (engines : ∀ r w, r.sansEngine = w.sansEngine → R r → R w)
    (call : ∀ r w, PortRecord.Calls q p r w → R r → R w) : Ported p fun u => u.policy = q ∧ R (u.port p) where
  toTrailing := .of_policied p q engines call
  congr u v same h := by rw [same.port, same.policy]; exact h
  dropped u o _ h := ⟨(State.served_dropLine u o).policy.trans h.1, engines _ _ ((State.served_dropLine u o).port p).symm h.2⟩

section
variable (ported : Ported p P)
include ported

theorem Ported.detached (ne : x ≠ .line p) (h : P u) : P (u.detached x) := by
  cases x with
  | line o =>
    have ne : o ≠ p := fun e => ne (by rw [e])
    obtain ⟨c, e, -, others, -, engines, queue, lines, -, policy, -⟩ := u.detached_line o
    rw [e]
    exact ported.dropped c o ne (ported.congr u c
      ⟨policy, others p ne.symm, by rw [State.line, lines, State.line], engines, queue⟩ h)
  | barrel => exact ported.congr u _ (State.portSame_of (by simp [State.detached]) (by simp [State.detached]) (by simp [State.detached])
      (by simp [State.detached]) (by simp [State.detached])) h

/-- The turn of another connector in the trackers' step. -/
theorem Ported.enableChange (ne : x ≠ .line p) (h : P u) : P (u.enableChange old x) := by
  have owner : ∀ (v : State) (k : Tracker) (b : Bool), P v → P ((v.setTracker x k).ownerSettling x b) := fun v k b hv => by
    cases x with
    | line o =>
      have ne : o ≠ p := fun e => ne (by rw [e])
      exact ported.congr v _ (State.portSame.trans (t := v.setTracker (.line o) k) (State.portSame_of rfl rfl rfl rfl rfl)
        (State.portSame_setPort _ ne _)) hv
    | barrel => exact ported.congr v _ (State.portSame_of rfl rfl rfl rfl rfl) hv
  exact State.enableChange_keeps (fun v hv => owner v _ _ hv) (fun v hv => owner v _ _ hv)
    (fun v hv => ported.settlesWithin (ported.detached ne hv)) u h

theorem Ported.adoptMeasurement (h : P u) : P u.adoptMeasurement := by
  unfold State.adoptMeasurement
  dsimp only
  split
  · exact ported.settlesWithin (ported.congr u _ (State.portSame_of rfl rfl rfl rfl rfl) h)
  · exact ported.congr u _ (State.portSame_of rfl rfl rfl rfl rfl) h

theorem Ported.adoptBarrel (h : P u) : P u.adoptBarrel := by
  unfold State.adoptBarrel
  split
  · exact h
  · exact ported.settlesWithin (ported.congr u _ (State.portSame_of (by simp) (by simp) (by simp) (by simp) (by simp)) h)

theorem Ported.adoptCall_other (ne : o ≠ p) (h : P u) : P (u.adoptCall o) :=
  ported.toTrailing.adoptCall (ported.congr u _ (State.portSame_setPort u ne _) h)

theorem Ported.adoptPath (h : P u) : P u.adoptPath := ported.settlesWithin (ported.evaluate u h)

end

/-! ### The port's own turns -/

/-- The pin that an adoption leaves (R101). -/
def PortRecord.adoptedPin (q : Policy) (p : LinePort) (r : PortRecord) : Option Pin :=
  match r.pin, r.image with
  | some n, some i => if n.volts < q.windowLo ∨ q.windowHi < n.volts then none else some (lowerPin q p i n)
  | pin, _ => pin

theorem PortRecord.adoptedPin_some {n : Pin} {i : Image} (pin : r.pin = some n) (image : r.image = some i) :
    r.adoptedPin q p = if n.volts < q.windowLo ∨ q.windowHi < n.volts then none else some (lowerPin q p i n) := by
  rw [PortRecord.adoptedPin, pin, image]

theorem PortRecord.adoptedPin_of_none (h : r.pin = none ∨ r.image = none) : r.adoptedPin q p = r.pin := by
  rw [PortRecord.adoptedPin]
  rcases h with h | h
  · rw [h]
  · rw [h]
    cases r.pin <;> rfl

/-- A void pin ends a PIN in flight (R101, R100). -/
theorem State.port_voidPin (u : State) (p : LinePort) (n : Pin) (why : VoidReason) : ∃ f,
    (u.voidPin p n why).port p = { u.port p with pin := none, inFlight := f } ∧ (f = (u.port p).inFlight ∨ f = none) ∧
      f.map PortRequest.kind ≠ some .pin := by
  generalize hw : (u.setPort p { u.port p with pin := none }).journal 0x10 (lineByte p) ([byte n.level, why.code] ++ le2 n.volts ++ le2 n.limit) = w
  have record : w.port p = { u.port p with pin := none } := by
    rw [← hw]
    exact State.port_setPort_self u p _
  have e : u.voidPin p n why = w.completePort p [.pin] .lost := by rw [← hw]; rfl
  obtain ⟨f, after, flight⟩ := w.port_completePort p [.pin] .lost
  rw [e, after, record]
  rw [record] at flight
  refine ⟨f, rfl, flight, fun kind => ?_⟩
  obtain ⟨a, rfl, pinned⟩ := Option.map_eq_some_iff.mp kind
  have ended := w.completePort_inFlight p (kinds := [.pin]) .lost fun b hb => by
    rw [record] at hb
    obtain rfl : a = b := Option.some.inj ((flight.resolve_right (by simp)).trans hb)
    rw [pinned]
    rfl
  rw [after] at ended
  cases ended

theorem State.port_adoptPin (u : State) (p : LinePort) : ∃ f,
    (u.adoptPin p).port p = { u.port p with pin := (u.port p).adoptedPin u.policy p, inFlight := f } ∧
      (f = (u.port p).inFlight ∨ f = none) ∧
      ((u.port p).pin ≠ none → (u.port p).adoptedPin u.policy p = none → f.map PortRequest.kind ≠ some .pin) := by
  cases pin : (u.port p).pin with
  | none =>
    have e : u.adoptPin p = u := by rw [State.adoptPin, pin]
    rw [e, PortRecord.adoptedPin_of_none (.inl pin)]
    exact ⟨_, rfl, .inl rfl, fun h => absurd rfl h⟩
  | some n =>
    cases image : (u.port p).image with
    | none =>
      have e : u.adoptPin p = u := by rw [State.adoptPin, pin, image]
      rw [e, PortRecord.adoptedPin_of_none (.inr image)]
      exact ⟨_, rfl, .inl rfl, fun _ none => by rw [pin] at none; cases none⟩
    | some i =>
      have e : u.adoptPin p = if n.volts < u.policy.windowLo ∨ u.policy.windowHi < n.volts then u.voidPin p n .volts
          else u.setPort p { u.port p with pin := some (lowerPin u.policy p i n) } := by rw [State.adoptPin, pin, image]
      rw [e, PortRecord.adoptedPin_some pin image]
      split
      · obtain ⟨f, after, flight, kind⟩ := u.port_voidPin p n .volts
        exact ⟨f, after, flight, fun _ _ => kind⟩
      · exact ⟨(u.port p).inFlight, State.port_setPort_self u p _, .inl rfl, fun _ none => by cases none⟩

theorem State.adoptImages_same (u : State) : u.adoptImages.policy = u.policy ∧ u.adoptImages.engines = u.engines ∧
    u.adoptImages.lines = u.lines ∧ u.adoptImages.queue = u.queue ∧ u.adoptImages.trackers = u.trackers ∧
    u.adoptImages.barrel = u.barrel ∧ u.adoptImages.path = u.path ∧ u.adoptImages.meas = u.meas ∧ u.adoptImages.reg = u.reg := by
  simp [State.adoptImages, linePorts]

/-- What the images' step makes of the record of a port (R101, R103). -/
theorem State.port_adoptImages (u : State) (p : LinePort) : ∃ f,
    u.adoptImages.port p =
        { rescore u.policy p (u.port p) with pin := (rescore u.policy p (u.port p)).adoptedPin u.policy p, inFlight := f } ∧
      (f = (u.port p).inFlight ∨ f = none) ∧
      ((u.port p).pin ≠ none → (rescore u.policy p (u.port p)).adoptedPin u.policy p = none → f.map PortRequest.kind ≠ some .pin) := by
  have rescored : ∀ (w : State) o, o ≠ p → (w.setPort o (rescore w.policy o (w.port o))).port p = w.port p := fun w o ne =>
    State.port_setPort_of_ne w _ ne.symm
  generalize hv : linePorts.foldl (fun u p => u.setPort p (rescore u.policy p (u.port p))) u = v
  have policy : v.policy = u.policy := by subst hv; rfl
  have record : v.port p = rescore u.policy p (u.port p) := by
    subst hv
    show (((u.setPort .a (rescore u.policy .a (u.port .a))).setPort .b _).setPort .c _).port p = _
    cases p <;> rfl
  have pinned : ∃ w : State, w.policy = v.policy ∧ w.port p = v.port p ∧ u.adoptImages.port p = (w.adoptPin p).port p := by
    have others : ∀ (w : State) o, o ≠ p → (w.adoptPin o).port p = w.port p := fun w o ne => w.othersKept_adoptPin p ne.symm
    have e : u.adoptImages = ((v.adoptPin .a).adoptPin .b).adoptPin .c := by subst hv; rfl
    rw [e]
    cases p with
    | a => exact ⟨v, rfl, rfl, (others _ .c (by simp)).trans (others _ .b (by simp))⟩
    | b => exact ⟨v.adoptPin .a, by simp, others v .a (by simp), others _ .c (by simp)⟩
    | c => exact ⟨(v.adoptPin .a).adoptPin .b, by simp, (others _ .b (by simp)).trans (others v .a (by simp)), rfl⟩
  obtain ⟨w, wp, wr, e⟩ := pinned
  obtain ⟨f, e', flight, kind⟩ := w.port_adoptPin p
  rw [wp, policy, wr, record] at e' kind
  rw [wr, record] at flight
  exact ⟨f, e.trans e', flight, kind⟩

/-- A property of a port's record through the images' step. -/
theorem State.adoptImages_record (rescored : ∀ r, R r → R (rescore u.policy p r))
    (repinned : ∀ (r : PortRecord) pin f, R r → R { r with pin := pin, inFlight := f }) (h : R (u.port p)) : R (u.adoptImages.port p) := by
  obtain ⟨f, e, -⟩ := u.port_adoptImages p
  rw [e]
  exact repinned _ _ f (rescored _ h)

section
variable (ported : Ported p P)
include ported

/-- The calls for selection, of which the port's own clears its barred flag first. -/
theorem Ported.adoptNegotiation (own : ∀ u : State, P u → P (u.setPort p { u.port p with barred := false })) (h : P u) :
    P u.adoptNegotiation :=
  State.adoptNegotiation_at (fun _ _ ne => ported.adoptCall_other ne) (fun v hv => ported.toTrailing.adoptCall (own v hv))
    (fun _ _ ne => ported.adoptCall_other ne) h

/-- All steps after the trackers'. -/
theorem Ported.adopted (images : ∀ u : State, P u → P u.adoptImages)
    (own : ∀ u : State, P u → P (u.setPort p { u.port p with barred := false })) (h : P (s.adoptTrackers old)) : P (s.adopted old) :=
  ported.adoptPath (ported.adoptNegotiation own (ported.settlesWithin (images _ (ported.adoptBarrel (ported.adoptMeasurement h)))))

end

end

end Sys2Proof.Machine
end

/-! # The trackers and owners after an adoption (R4, R171) -/

section
namespace Sys2Proof.Machine

section
variable {P Q : State → Prop} {s t u v : State} {x y : Connector} {p o : LinePort} {e : EngineId} {old q : Policy} {r w : PortRecord}

/-! ### A port that has left -/

/-- The record and the line of a port are cleared, and no entry of it is queued (R58, R49). -/
def State.gone (p : LinePort) (s : State) : Prop := s.port p = PortRecord.cleared ∧ s.line p = Line.cleared ∧ s.queued p = false

theorem State.gone.aside (h : s.gone p) (k : State.aside p s t) : t.gone p :=
  ⟨k.port.trans h.1, k.line.trans h.2.1, k.unqueued h.2.2⟩

theorem State.gone_giveOut {l : List QueueEntry} (h : s.gone p) (others : ∀ q ∈ l, q.port ≠ p) : (giveOut e l s).gone p := by
  induction l generalizing s with
  | nil => exact h
  | cons q l ih =>
    rw [giveOut]
    split
    next free =>
      have rest : ∀ z ∈ l, z.port ≠ p := fun z hz => others z (List.mem_cons_of_mem _ hz)
      have shorter : (s.withQueue l).gone p := ⟨h.1, h.2.1, queued_eq_false_of rest⟩
      exact ih (shorter.aside (State.aside_beginLease (s := s.withQueue l) (others q (List.mem_cons_self ..)) free q.cls)) rest
    · exact h

/-- The line of a port is dropped, and its engine given out: another port that has left stays so. -/
theorem State.gone_dropLine_of (record : s.port p = PortRecord.cleared) (line : s.line p = Line.cleared ∨ o = p)
    (others : ∀ q ∈ leaveQueue s.queue o, q.port ≠ p) : (s.dropLine o).gone p := by
  generalize ht : (s.withQueue (leaveQueue s.queue o)).setLine o Line.cleared = t
  have dropped : s.dropLine o = match t.engineOf o with
      | some e => (t.setEngine e Engine.freed).giveEngine e
      | none => t := by rw [← ht]; rfl
  have queue : ∀ q ∈ t.queue, q.port ≠ p := by rw [← ht]; exact others
  have gone : t.gone p := by
    refine ⟨by rw [← ht]; exact record, ?_, queued_eq_false_of queue⟩
    by_cases here : o = p
    · rw [← ht, here]
      exact PerPort.get_set_self _ _ _
    · rw [← ht, State.line_setLine_of_ne _ _ (Ne.symm here)]
      exact line.resolve_right here
  rw [dropped]
  cases t.engineOf o with
  | none => exact gone
  | some e => exact State.gone_giveOut (s := t.setEngine e Engine.freed) gone queue

theorem State.gone_detached (s : State) (p : LinePort) : (s.detached (.line p)).gone p := by
  obtain ⟨c, e, cleared, -⟩ := s.detached_line p
  rw [e]
  exact State.gone_dropLine_of cleared (.inr rfl) fun q mem => (mem_leaveQueue.mp mem).2

theorem ported_gone (p : LinePort) : Ported p (State.gone p) where
  toTrailing := .of_owners (fun u v same h => ⟨by rw [State.port, same.ports]; exact h.1, by rw [State.line, same.lines]; exact h.2.1,
      by rw [State.queued, same.queue]; exact h.2.2⟩) fun u o h => by
    by_cases here : o = p
    · subst here
      have still : (u.port o).unmoved := by
        rw [h.1]
        exact .inl rfl
      rw [State.callSelection_unmoved still, State.apply_idle]
      · exact h
      · rw [State.needsEngine, h.1, h.2.1]
        exact Bool.and_false _
    · exact (h.aside (State.aside_callSelection here)).aside (State.aside_apply here)
  congr u v same h := ⟨same.port.trans h.1, same.line.trans h.2.1, by rw [State.queued, same.queue]; exact h.2.2⟩
  dropped u o _ h := State.gone_dropLine_of h.1 (.inl h.2.1) fun q mem same =>
    State.queued_eq_false.mp h.2.2 q.cls (by rw [← same]; exact (mem_leaveQueue.mp mem).1)

theorem State.gone_adoptImages (h : u.gone p) : u.adoptImages.gone p := by
  obtain ⟨-, -, lines, queue, -⟩ := u.adoptImages_same
  obtain ⟨f, e, flight, -⟩ := u.port_adoptImages p
  refine ⟨?_, by rw [State.line, lines]; exact h.2.1, by rw [State.queued, queue]; exact h.2.2⟩
  rw [h.1] at e flight
  have none : f = none := flight.elim id id
  rw [e, none]
  rfl

theorem State.gone_unbarred (h : u.gone p) : (u.setPort p { u.port p with barred := false }).gone p := by
  refine ⟨?_, h.2.1, h.2.2⟩
  rw [State.port_setPort_self, h.1]
  rfl

/-! ### The trackers -/

/-- The fields that the steps after the trackers' leave, but for those of the blocks they speak to. -/
theorem adoptive_tracker (x : Connector) (k : Tracker) : Adoptive fun u => u.tracker x = k where
  toTrailing := .of_owners (fun u v same h => by rwa [State.tracker, same.trackers]) fun u p h => by
    rwa [State.tracker, State.apply_trackers, State.callSelection_trackers]
  droops _ h := h
  dead _ _ h := h
  reclassified u h := by rwa [State.tracker, State.barrelAdopt_trackers]
  rescored _ _ h := h
  repinned u p h := by rwa [State.tracker, State.adoptPin_trackers]
  unbarred _ _ h := h

theorem State.detached_tracker_of_ne (u : State) (ne : y ≠ x) : (u.detached y).tracker x = u.tracker x := by
  have set : (u.trackers.set y Tracker.cleared).get x = u.trackers.get x := PerConn.get_set_of_ne _ _ ne.symm
  cases y with
  | line o => simp only [State.detached, State.tracker, State.portDetach_trackers]; exact set
  | barrel => simp only [State.detached, State.tracker, State.barrelDetach_trackers]; exact set

theorem State.detached_tracker (u : State) (x : Connector) : (u.detached x).tracker x = ⟨.empty, none, none⟩ := by
  have set : (u.trackers.set x Tracker.cleared).get x = Tracker.cleared := PerConn.get_set_self _ _ _
  cases x with
  | line o => simp only [State.detached, State.tracker, State.portDetach_trackers]; exact set
  | barrel => simp only [State.detached, State.tracker, State.barrelDetach_trackers]; exact set

theorem State.settled_tracker (u v : State) (x : Connector) : (u.settlesWithin v).tracker x = v.tracker x :=
  (adoptive_tracker x _).settlesWithin rfl

theorem State.moved_tracker_of_ne (u : State) (ne : y ≠ x) (k : Tracker) (b : Bool) :
    ((u.setTracker y k).ownerSettling y b).tracker x = u.tracker x := by
  have set : (u.trackers.set y k).get x = u.trackers.get x := PerConn.get_set_of_ne _ _ ne.symm
  cases y <;> exact set

theorem State.moved_tracker (u : State) (x : Connector) (k : Tracker) (b : Bool) : ((u.setTracker x k).ownerSettling x b).tracker x = k := by
  have set : (u.trackers.set x k).get x = k := PerConn.get_set_self _ _ _
  cases x <;> exact set

theorem State.enableChange_tracker_of_ne (u : State) (old : Policy) (ne : y ≠ x) : (u.enableChange old y).tracker x = u.tracker x :=
  State.enableChange_keeps (P := fun v => v.tracker x = u.tracker x) (fun v h => (v.moved_tracker_of_ne ne _ _).trans h)
    (fun v h => (v.moved_tracker_of_ne ne _ _).trans h) (fun v h => (v.settled_tracker _ x).trans ((v.detached_tracker_of_ne ne).trans h)) u rfl

theorem State.presence_of_frame (h : t.frame = s.frame) : t.presence = s.presence := (congrArg State.presence h :)
theorem State.policy_of_frame (h : t.frame = s.frame) : t.policy = s.policy := (congrArg State.policy h :)

theorem State.enableChange_frame (u : State) (old : Policy) (x : Connector) : (u.enableChange old x).frame = u.frame := by
  obtain ⟨_, h⟩ := u.adopts_enableChange (held := fun _ => True) old x
  exact h.frame

/-- The state in which a connector takes its turn in the trackers' step. -/
structure State.awaits (x : Connector) (s u : State) : Prop where
  frame : u.frame = s.frame
  tracker : u.tracker x = s.tracker x

theorem State.awaits_enableChange (ne : y ≠ x) (h : State.awaits x s u) : State.awaits x s (u.enableChange old y) :=
  ⟨(u.enableChange_frame old y).trans h.frame, (u.enableChange_tracker_of_ne old ne).trans h.tracker⟩

/-- One connector's turn, with what leads up to it and what it leads to. -/
theorem State.adoptTrackers_turn {B A : State → Prop} (before : ∀ (u : State) y, y ≠ x → B u → B (u.enableChange old y))
    (here : ∀ u : State, State.awaits x s u → B u → A (u.enableChange old x)) (after : ∀ (u : State) y, y ≠ x → A u → A (u.enableChange old y))
    (h : B s) : A (s.adoptTrackers old) :=
  State.adoptTrackers_at (P := fun u => State.awaits x s u ∧ B u) (fun u y ne ⟨w, b⟩ => ⟨State.awaits_enableChange ne w, before u y ne b⟩)
    (fun u ⟨w, b⟩ => here u w b) after ⟨⟨rfl, rfl⟩, h⟩

/-- The tracker of a connector after an adoption is what its own turn makes of it. -/
theorem State.adopted_tracker (k : Tracker) (here : ∀ u : State, State.awaits x s u → (u.enableChange old x).tracker x = k) :
    (s.adopted old).tracker x = k :=
  (adoptive_tracker x k).stages.adopted (State.adoptTrackers_turn (B := fun _ => True) (fun _ _ _ _ => trivial)
    (fun u w _ => here u w) (fun u y ne h => (u.enableChange_tracker_of_ne old ne).trans h) trivial)

end

end Sys2Proof.Machine
end

/-! # What the trackers' step leaves (R4) -/

section
namespace Sys2Proof.Machine

section
variable {P Q : State → Prop} {s t u v i : State} {x y : Connector} {p o : LinePort} {old q : Policy} {r w : PortRecord} {k : PortState}

/-! ### Records that no selection moves -/

theorem ported_state (p : LinePort) (unmoved : k = .empty ∨ k = .settling) : Ported p fun u => (u.port p).state = k :=
  .of_record (R := fun r => r.state = k) p (fun _ _ same h => (congrArg PortRecord.state same).symm.trans h) fun q r w calls h => by
    have other : k ≠ .base ∧ k ≠ .bound ∧ k ≠ .claimed := by rcases unmoved with e | e <;> rw [e] <;> simp
    cases calls with
    | unmoved _ => exact h
    | deferred _ _ => exact h
    | keeps _ claimed _ _ _ => exact absurd (h.symm.trans claimed) other.2.2
    | rested based _ _ => rcases based with b | b <;> exact absurd (h.symm.trans b) (by simp [other])
    | retired claimed _ _ => exact absurd (h.symm.trans claimed) other.2.2

theorem adopted_state (unmoved : k = .empty ∨ k = .settling) (h : ((s.adoptTrackers old).port p).state = k) :
    ((s.adopted old).port p).state = k :=
  (ported_state p unmoved).adopted (fun _ hu => State.adoptImages_record (R := fun r => r.state = k) (fun _ h => h) (fun _ _ _ h => h) hu)
    (fun u hu => by rw [State.port_setPort_self]; exact hu) h

theorem adopted_gone (h : (s.adoptTrackers old).gone p) : (s.adopted old).gone p :=
  (ported_gone p).adopted (fun _ => State.gone_adoptImages) (fun _ => State.gone_unbarred) h

theorem State.barrelAdopt_of_unjudged (h : s.barrel.state = .empty ∨ s.barrel.state = .settling) : s.barrelAdopt = s := by
  unfold State.barrelAdopt
  cases s.barrel.stored with
  | none => rfl
  | some i => rcases h with h | h <;> rw [h]

/-- A D that is not attached keeps its record. -/
theorem adoptive_barrel (b : Barrel) (unjudged : b.state = .empty ∨ b.state = .settling) : Adoptive fun u => u.barrel = b where
  toTrailing := trailing_barrel b
  droops _ h := h
  dead _ _ h := h
  reclassified u h := by rw [State.barrelAdopt_of_unjudged (by rw [h]; exact unjudged)]; exact h
  rescored _ _ h := h
  repinned u p h := by rwa [State.adoptPin_barrel]
  unbarred _ _ h := h

theorem State.enableChange_barrel (u : State) (old : Policy) (p : LinePort) : (u.enableChange old (.line p)).barrel = u.barrel :=
  State.enableChange_keeps (P := fun v => v.barrel = u.barrel) (x := .line p) (fun v h => h) (fun v h => h)
    (fun v h => (trailing_barrel _).settlesWithin (by simpa [State.detached] using h)) u rfl

theorem adopted_barrel {b : Barrel} (unjudged : b.state = .empty ∨ b.state = .settling) (h : (s.adoptTrackers old).barrel = b) :
    (s.adopted old).barrel = b :=
  (adoptive_barrel b unjudged).stages.adopted h

/-! ### A connector's turn -/

section
variable (s) (old)

theorem State.enableChange_same (u : State) (same : old.enabled x = u.policy.enabled x) : u.enableChange old x = u := by
  rcases u.enableChange_cases old x with ⟨a, b, -⟩ | ⟨a, b, -⟩ | ⟨a, b, -⟩ | ⟨e, -⟩
  · rw [same, b] at a; cases a
  · rw [same, b] at a; cases a
  · rw [← same, a] at b; cases b
  · exact e

end

theorem State.enableChange_abandons (before : old.enabled x = true) (after : u.policy.enabled x = false)
    (settling : (u.tracker x).state = .settling) : u.enableChange old x = u.abandonSettling x := by
  rw [State.enableChange, before, after, settling]

theorem State.enableChange_detaches (before : old.enabled x = true) (after : u.policy.enabled x = false)
    (attached : (u.tracker x).state = .attached) : u.enableChange old x = u.settlesWithin (u.detached x) := by
  rw [State.enableChange, before, after, attached]

theorem State.enableChange_leaves (before : old.enabled x = true) (after : u.policy.enabled x = false)
    (empty : (u.tracker x).state = .empty) : u.enableChange old x = u := by
  rw [State.enableChange, before, after, empty]

theorem State.enableChange_starts (before : old.enabled x = false) (after : u.policy.enabled x = true)
    (empty : (u.tracker x).state = .empty) : u.enableChange old x = if u.presence.get x then u.startSettling x else u := by
  rw [State.enableChange, before, after, empty]

theorem State.awaits.enabled (h : State.awaits x s u) : u.policy.enabled x = s.policy.enabled x := by
  rw [State.policy_of_frame h.frame]

theorem State.awaits.attachMs (h : State.awaits x s u) : u.policy.attachMs = s.policy.attachMs := by
  rw [State.policy_of_frame h.frame]

/-- The tracker of an adoption, by the table of R4. -/
theorem adopted_trackers (s : State) (old : Policy) (x : Connector) :
    (old.enabled x = s.policy.enabled x → (s.adopted old).tracker x = s.tracker x) ∧
    (old.enabled x = true → s.policy.enabled x = false →
      (s.adopted old).tracker x = if (s.tracker x).state = .empty then s.tracker x else ⟨.empty, none, none⟩) ∧
    (old.enabled x = false → s.policy.enabled x = true → (s.tracker x).state = .empty →
      (s.adopted old).tracker x = if s.presence.get x = true then ⟨.settling, some s.policy.attachMs, none⟩ else s.tracker x) := by
  refine ⟨fun same => State.adopted_tracker _ fun u w => ?_, fun before after => State.adopted_tracker _ fun u w => ?_,
    fun before after empty => State.adopted_tracker _ fun u w => ?_⟩
  · rw [State.enableChange_same old u (same.trans w.enabled.symm)]
    exact w.tracker
  · have off := w.enabled.trans after
    cases state : (s.tracker x).state with
    | empty =>
      rw [State.enableChange_leaves before off (by rw [w.tracker]; exact state)]
      exact w.tracker
    | settling =>
      rw [State.enableChange_abandons before off (by rw [w.tracker]; exact state)]
      exact u.moved_tracker x _ false
    | attached =>
      rw [State.enableChange_detaches before off (by rw [w.tracker]; exact state), State.settled_tracker]
      exact u.detached_tracker x
  · rw [State.enableChange_starts before (w.enabled.trans after) (by rw [w.tracker]; exact empty), State.presence_of_frame w.frame]
    split
    · rw [← w.attachMs]
      exact u.moved_tracker x _ true
    · exact w.tracker

theorem State.moved_state (u : State) (p : LinePort) (k : Tracker) (b : Bool) :
    (((u.setTracker (.line p) k).ownerSettling (.line p) b).port p).state = if b then .settling else .empty := by
  show (((u.setTracker (.line p) k).setPort p _).port p).state = _
  rw [State.port_setPort_self]

/-- A line port whose bit the adoption changes (R4, R57, R58). -/
theorem adopted_owner_line (s : State) (old : Policy) (p : LinePort) :
    (old.enabled (.line p) = true → s.policy.enabled (.line p) = false →
      ((s.tracker (.line p)).state = .settling → ((s.adopted old).port p).state = .empty) ∧
      ((s.tracker (.line p)).state = .attached → (s.adopted old).gone p)) ∧
    (old.enabled (.line p) = false → s.policy.enabled (.line p) = true → (s.tracker (.line p)).state = .empty →
      s.presence.get (.line p) = true → ((s.adopted old).port p).state = .settling) := by
  refine ⟨fun before after => ⟨fun settling => adopted_state (.inl rfl) ?_, fun attached => adopted_gone ?_⟩,
    fun before after empty present => adopted_state (.inr rfl) ?_⟩
  · refine State.adoptTrackers_turn (B := fun _ => True) (A := fun u => (u.port p).state = .empty) (fun _ _ _ _ => trivial) (fun u w _ => ?_)
      (fun u y ne h => (ported_state p (.inl rfl)).enableChange ne h) trivial
    rw [State.enableChange_abandons before (w.enabled.trans after) (by rw [w.tracker]; exact settling)]
    exact u.moved_state p _ false
  · refine State.adoptTrackers_turn (B := fun _ => True) (A := State.gone p) (fun _ _ _ _ => trivial) (fun u w _ => ?_)
      (fun u y ne h => (ported_gone p).enableChange ne h) trivial
    rw [State.enableChange_detaches before (w.enabled.trans after) (by rw [w.tracker]; exact attached)]
    exact (ported_gone p).settlesWithin (u.gone_detached p)
  · refine State.adoptTrackers_turn (B := fun _ => True) (A := fun u => (u.port p).state = .settling) (fun _ _ _ _ => trivial) (fun u w _ => ?_)
      (fun u y ne h => (ported_state p (.inr rfl)).enableChange ne h) trivial
    rw [State.enableChange_starts before (w.enabled.trans after) (by rw [w.tracker]; exact empty), State.presence_of_frame w.frame,
      if_pos present]
    exact u.moved_state p _ true

theorem State.detached_barrel_cleared (s : State) : (s.detached .barrel).barrel = Barrel.cleared := by
  generalize hb : (s.setTracker .barrel Tracker.cleared).clearDroop .barrel = b
  show (State.barrelDetach _).barrel = _
  rw [hb, State.barrelDetach]
  unfold State.completeBarrel
  split
  · rfl
  next flight =>
    have empty : b.barrel.inFlight = none := flight
    show ({ Barrel.cleared with inFlight := b.barrel.inFlight } : Barrel) = Barrel.cleared
    rw [empty]
    rfl

/-- D, where the adoption changes its bit (R4, R13). -/
theorem adopted_owner_barrel (s : State) (old : Policy) :
    (old.enabled .barrel = true → s.policy.enabled .barrel = false →
      ((s.tracker .barrel).state = .settling → (s.adopted old).barrel.state = .empty) ∧
      ((s.tracker .barrel).state = .attached → (s.adopted old).barrel = Barrel.cleared)) ∧
    (old.enabled .barrel = false → s.policy.enabled .barrel = true → (s.tracker .barrel).state = .empty →
      s.presence.get .barrel = true → (s.adopted old).barrel.state = .settling) := by
  have turn : ∀ {b : Barrel}, (∀ u : State, State.awaits .barrel s u → u.barrel = s.barrel → (u.enableChange old .barrel).barrel = b) →
      (s.adoptTrackers old).barrel = b := fun {b} here => by
    have other : ∀ (u : State) y, y ≠ Connector.barrel → ∀ a, u.barrel = a → (u.enableChange old y).barrel = a := fun u y ne a h => by
      cases y with
      | line p => exact (u.enableChange_barrel old p).trans h
      | barrel => exact absurd rfl ne
    exact State.adoptTrackers_turn (B := fun u => u.barrel = s.barrel) (A := fun u => u.barrel = b) (fun u y ne h => other u y ne _ h) here
      (fun u y ne h => other u y ne _ h) rfl
  refine ⟨fun before after => ⟨fun settling => ?_, fun attached => ?_⟩, fun before after empty present => ?_⟩
  · have e := turn (b := { s.barrel with state := .empty }) fun u w record => by
      rw [State.enableChange_abandons before (w.enabled.trans after) (by rw [w.tracker]; exact settling), ← record]
      rfl
    rw [adopted_barrel (.inl rfl) e]
  · refine adopted_barrel (.inl rfl) (turn fun u w record => ?_)
    rw [State.enableChange_detaches before (w.enabled.trans after) (by rw [w.tracker]; exact attached)]
    exact (trailing_barrel _).settlesWithin u.detached_barrel_cleared
  · have e := turn (b := { s.barrel with state := .settling }) fun u w record => by
      rw [State.enableChange_starts before (w.enabled.trans after) (by rw [w.tracker]; exact empty), State.presence_of_frame w.frame,
        if_pos present, ← record]
      rfl
    rw [adopted_barrel (.inr rfl) e]

theorem State.frame_adopted (s : State) (old : Policy) : (s.adopted old).frame = s.frame := by
  obtain ⟨_, h⟩ := s.adopts_adoptTrackers (held := fun _ => True) old
  obtain ⟨_, k⟩ := State.adopts_adopted h
  exact k.frame

theorem State.policy_adopted (s : State) (old : Policy) : (s.adopted old).policy = s.policy :=
  State.policy_of_frame (s.frame_adopted old)

end

end Sys2Proof.Machine
end

/-! # D, the dead-battery flag and the droop counters after an adoption (R14, R132, R137) -/

section
namespace Sys2Proof.Machine

section
variable {P Q : State → Prop} {s t u v : State} {x y : Connector} {p o : LinePort} {old q : Policy} {i : StoredId} {held : Fin 8 → Prop}

/-! ### Reclassification (R14) -/

theorem Policy.classify_identified (q : Policy) (average : Nat) : q.classify average = q.identified average := by
  unfold Policy.classify Policy.identified
  rw [matchId_eq]
  cases q.ids.findIdx? fun e => decide (e.lo ≤ average ∧ average ≤ e.hi) with
  | none => rfl
  | some i =>
    simp only [Option.map_some]
    rw [Nat.add_comm 1 i]

theorem Policy.barrelCause_binds (q : Policy) (volts amps : Nat) :
    q.barrelCause volts amps =
      if q.binds volts amps then none else some (if volts < q.vinMin ∨ q.vinMax < volts then .volts else .noCurrent) := by
  unfold Policy.barrelCause Policy.binds
  by_cases out : volts < q.vinMin ∨ q.vinMax < volts
  · have : ¬ (q.vinMin ≤ volts ∧ volts ≤ q.vinMax ∧ amps ≠ 0) := by omega
    simp [out, this]
  · by_cases zero : amps = 0
    · simp [out, zero]
    · have : q.vinMin ≤ volts ∧ volts ≤ q.vinMax ∧ amps ≠ 0 := by omega
      simp [out, zero, this]

/-- The outcome that R14 gives a stored identification. -/
def State.reclassified (s : State) (i : StoredId) : State :=
  s.barrelOutcome ⟨i.average, (s.policy.identified i.average).1, i.volts⟩ (s.policy.identified i.average).2

/-- A reclassification changes D, or it leaves it as it is (R14). -/
theorem State.reclassify_cases (s : State) (i : StoredId) :
    s.barrel.sameUnder s.policy i ∧ s.reclassify i = s ∨ ¬ s.barrel.sameUnder s.policy i ∧ s.reclassify i = s.reclassified i := by
  unfold State.reclassify Barrel.sameUnder State.reclassified
  simp only [Policy.classify_identified, Policy.barrelCause_binds]
  generalize s.policy.identified i.average = found
  have pair : (s.barrel.live.map fun k => (k.volts, k.limit)) = some (i.volts, found.2) ↔
      s.barrel.live.map Contract.volts = some i.volts ∧ s.barrel.live.map Contract.limit = some found.2 := by
    cases s.barrel.live <;> simp
  cases s.policy.binds i.volts found.2
  · simp only [Bool.false_eq_true, if_false, Option.isNone_some]
    split
    next same =>
      refine .inl ⟨?_, rfl⟩
      simp only [Bool.and_eq_true, decide_eq_true_eq, Option.isNone_iff_eq_none] at same
      grind
    next other =>
      refine .inr ⟨fun same => other ?_, rfl⟩
      simp only [Bool.and_eq_true, decide_eq_true_eq, Option.isNone_iff_eq_none]
      grind
  · simp only [if_true, Option.isNone_none]
    split
    next same =>
      refine .inl ⟨?_, rfl⟩
      simp only [Bool.and_eq_true, decide_eq_true_eq] at same
      simp only [pair]
      grind
    next other =>
      refine .inr ⟨fun same => other ?_, rfl⟩
      simp only [pair] at same
      simp only [Bool.and_eq_true, decide_eq_true_eq]
      grind

/-- What an adoption does to D (R14). -/
theorem State.barrelAdopt_cases (s : State) :
    (∃ i, s.reclassifies s.policy i ∧ s.barrelAdopt = s.reclassified i) ∨ ((∀ i, ¬ s.reclassifies s.policy i) ∧ s.barrelAdopt = s) := by
  by_cases judged : s.barrel.judged
  · cases stored : s.barrel.stored with
    | none =>
      refine .inr ⟨fun i h => ?_, by rw [State.barrelAdopt, stored]⟩
      rw [State.reclassifies, stored] at h
      cases h.2.1
    | some i =>
      have e : s.barrelAdopt = s.reclassify i := by
        unfold State.barrelAdopt
        rcases judged with bound | ⟨unusable, volts | none⟩
        · rw [stored, bound]
        · rw [stored, unusable, volts]
        · rw [stored, unusable, none]
      rcases s.reclassify_cases i with ⟨same, f⟩ | ⟨changed, f⟩
      · refine .inr ⟨fun j h => ?_, e.trans f⟩
        obtain ⟨-, here, changed⟩ := h
        rw [stored] at here
        cases here
        exact changed same
      · exact .inl ⟨i, ⟨judged, stored, changed⟩, e.trans f⟩
  · refine .inr ⟨fun i h => judged h.1, ?_⟩
    unfold State.barrelAdopt
    split
    · rfl
    · split
      next bound => exact absurd (.inl bound) judged
      next unusable volts => exact absurd (.inr ⟨unusable, .inl volts⟩) judged
      next unusable none => exact absurd (.inr ⟨unusable, .inr none⟩) judged
      · rfl

theorem State.reclassifies_congr (barrel : u.barrel = s.barrel) : u.reclassifies q i ↔ s.reclassifies q i := by
  rw [State.reclassifies, barrel, ← State.reclassifies]

/-- The record of D after an adoption that leaves its bit (R14). -/
theorem State.reclassified_barrel (s : State) (i : StoredId) :
    (s.reclassified i).barrel =
      let found := s.policy.identified i.average
      let b := { s.barrel with stored := some ⟨i.average, found.1, i.volts⟩, refreshPending := false }
      if s.policy.binds i.volts found.2 then
        { b with cause := none, state := .bound, live := some (.ofBarrel i.volts found.2), pathFault := false }
      else
        { b with cause := some (if i.volts < s.policy.vinMin ∨ s.policy.vinMax < i.volts then .volts else .noCurrent)
                 state := .unusable, live := none } := by
  rw [State.reclassified, State.barrelOutcome_barrel, Policy.barrelCause_binds]
  dsimp only
  cases s.policy.binds i.volts (s.policy.identified i.average).2 <;> rfl

/-! ### D through the steps -/

theorem State.adoptTrackers_barrel (same : old.enabled .barrel = s.policy.enabled .barrel) : (s.adoptTrackers old).barrel = s.barrel := by
  have other : ∀ (u : State) y, y ≠ Connector.barrel → u.barrel = s.barrel → (u.enableChange old y).barrel = s.barrel := fun u y ne h => by
    cases y with
    | line p => exact (u.enableChange_barrel old p).trans h
    | barrel => exact absurd rfl ne
  exact State.adoptTrackers_turn (x := .barrel) (B := fun u => u.barrel = s.barrel) (A := fun u => u.barrel = s.barrel) other
    (fun u w h => by rw [State.enableChange_same old u (same.trans w.enabled.symm)]; exact h) other rfl

theorem State.adoptTrackers_frame (s : State) (old : Policy) : (s.adoptTrackers old).frame = s.frame := by
  obtain ⟨_, h⟩ := s.adopts_adoptTrackers (held := fun _ => True) old
  exact h.frame

theorem State.adoptMeasurement_barrel (s : State) : s.adoptMeasurement.barrel = s.barrel := by
  unfold State.adoptMeasurement
  dsimp only
  split
  · exact (trailing_barrel _).settlesWithin rfl
  · rfl

theorem State.adoptBarrel_barrel (s : State) : s.adoptBarrel.barrel = s.barrelAdopt.barrel := by
  unfold State.adoptBarrel
  split
  next same => exact same.symm
  · exact (trailing_barrel _).settlesWithin rfl

theorem State.adoptCall_barrel (s : State) (p : LinePort) : (s.adoptCall p).barrel = s.barrel := (trailing_barrel _).adoptCall rfl

/-- D after the barrel machine's step. -/
theorem State.adopted_barrel_eq (s : State) (old : Policy) :
    (s.adopted old).barrel = (s.adoptTrackers old).adoptMeasurement.barrelAdopt.barrel := by
  have selected : (s.adoptTrackers old).adoptMeasurement.adoptBarrel.adoptSelector.barrel =
      (s.adoptTrackers old).adoptMeasurement.barrelAdopt.barrel :=
    ((trailing_barrel _).settlesWithin (State.adoptImages_same _).2.2.2.2.2.1).trans (State.adoptBarrel_barrel _)
  have called : (s.adoptTrackers old).adoptMeasurement.adoptBarrel.adoptSelector.adoptNegotiation.barrel =
      (s.adoptTrackers old).adoptMeasurement.adoptBarrel.adoptSelector.barrel :=
    (State.adoptCall_barrel _ _).trans ((State.adoptCall_barrel _ _).trans (State.adoptCall_barrel _ _))
  exact ((trailing_barrel _).settlesWithin (State.evaluate_barrel _)).trans (called.trans selected)

/-- D after an adoption that leaves its bit. -/
theorem adopted_barrel_same (same : old.enabled .barrel = s.policy.enabled .barrel) :
    (∃ i, s.reclassifies s.policy i ∧ (s.adopted old).barrel = (s.reclassified i).barrel) ∨
      ((∀ i, ¬ s.reclassifies s.policy i) ∧ (s.adopted old).barrel = s.barrel) := by
  generalize hu : (s.adoptTrackers old).adoptMeasurement = u
  have barrel : u.barrel = s.barrel := by
    rw [← hu, State.adoptMeasurement_barrel]
    exact State.adoptTrackers_barrel same
  have policy : u.policy = s.policy := by
    rw [← hu, State.adoptMeasurement_policy]
    exact State.policy_of_frame (s.adoptTrackers_frame old)
  rw [State.adopted_barrel_eq, hu]
  rcases u.barrelAdopt_cases with ⟨i, changed, e⟩ | ⟨kept, e⟩
  · refine .inl ⟨i, by rw [← policy]; exact (State.reclassifies_congr barrel).mp changed, ?_⟩
    rw [e, State.reclassified_barrel, State.reclassified_barrel, policy, barrel]
  · refine .inr ⟨fun i h => kept i (by rw [policy]; exact (State.reclassifies_congr barrel).mpr h), by rw [e, barrel]⟩

/-! ### The dead-battery flag and the droop counters -/

theorem trailing_dead (b : Bool) : Trailing fun u => u.meas.dead = b where
  evaluate u h := by rwa [State.evaluate_meas]
  droop _ _ h := h
  budget _ h := h
  left _ h := h
  prospect _ _ h := h
  page _ _ h := h
  call u p h := by rwa [State.apply_meas, State.callSelection_meas]

theorem trailing_droops : Trailing fun u => u.meas.droop = ⟨0, 0, 0, 0⟩ where
  evaluate u h := by rwa [State.evaluate_meas]
  droop u x h := by
    show u.meas.droop.set x 0 = _
    rw [h]
    rcases x with (_ | _ | _) | _ <;> rfl
  budget _ h := h
  left _ h := h
  prospect _ _ h := h
  page _ _ h := h
  call u p h := by rwa [State.apply_meas, State.callSelection_meas]

theorem State.adoptMeasurement_meas (s : State) :
    s.adoptMeasurement.meas.dead = (s.meas.dead && decide (s.policy.deadMv ≠ 0)) ∧ s.adoptMeasurement.meas.droop = ⟨0, 0, 0, 0⟩ := by
  unfold State.adoptMeasurement
  dsimp only
  split
  next clears =>
    refine ⟨((trailing_dead false).settlesWithin rfl).trans ?_, trailing_droops.settlesWithin rfl⟩
    rw [show s.policy.deadMv = 0 from clears.1]
    simp
  next keeps =>
    refine ⟨?_, rfl⟩
    show s.meas.dead = _
    cases dead : s.meas.dead
    · rfl
    · have : s.policy.deadMv ≠ 0 := fun zero => keeps ⟨zero, dead⟩
      simp [this]

theorem barrelOutcome_dead (s : State) (i : StoredId) (a : Nat) : (s.barrelOutcome i a).meas.dead = s.meas.dead := by
  unfold State.barrelOutcome
  cases s.policy.barrelCause i.volts a <;> rfl

theorem State.barrelAdopt_meas (s : State) : s.barrelAdopt.meas.dead = s.meas.dead ∧
    (s.meas.droop = ⟨0, 0, 0, 0⟩ → s.barrelAdopt.meas.droop = ⟨0, 0, 0, 0⟩) := by
  rcases s.barrelAdopt_cases with ⟨i, -, e⟩ | ⟨-, e⟩ <;> rw [e]
  · refine ⟨barrelOutcome_dead _ _ _, fun h => ?_⟩
    rw [State.reclassified]
    unfold State.barrelOutcome
    cases s.policy.barrelCause i.volts (s.policy.identified i.average).2 with
    | none => exact trailing_droops.droop s .barrel h
    | some c => exact h
  · exact ⟨rfl, id⟩

/-- A predicate on the measurement unit through the steps after its own. -/
theorem Trailing.after_measurement (trails : Trailing P) (congr : ∀ u v : State, v.meas = u.meas → P u → P v)
    (barrel : ∀ u : State, P u → P u.barrelAdopt) (h : P s.adoptMeasurement) :
    P s.adoptMeasurement.adoptBarrel.adoptSelector.adoptNegotiation.adoptPath := by
  have reclassified : P s.adoptMeasurement.adoptBarrel := by
    unfold State.adoptBarrel
    split
    · exact h
    · exact trails.settlesWithin (barrel _ h)
  have selected := trails.settlesWithin (s := s.adoptMeasurement.adoptBarrel) (congr _ _ (State.adoptImages_same _).2.2.2.2.2.2.2.1 reclassified)
  have called : ∀ (u : State) p, P u → P (u.adoptCall p) := fun u p hu => trails.adoptCall (congr u _ rfl hu)
  exact trails.settlesWithin (trails.evaluate _ (called _ _ (called _ _ (called _ _ selected))))

theorem adopted_meas (s : State) (old : Policy) :
    (s.adopted old).meas.dead = ((s.adoptTrackers old).meas.dead && decide (s.policy.deadMv ≠ 0)) ∧
      (s.adopted old).meas.droop = ⟨0, 0, 0, 0⟩ := by
  obtain ⟨dead, droops⟩ := (s.adoptTrackers old).adoptMeasurement_meas
  rw [State.policy_of_frame (s.adoptTrackers_frame old)] at dead
  exact ⟨(trailing_dead _).after_measurement (fun u v same h => by rw [same]; exact h) (fun u h => u.barrelAdopt_meas.1.trans h) dead,
    trailing_droops.after_measurement (fun u v same h => by rw [same]; exact h) (fun u h => u.barrelAdopt_meas.2 h) droops⟩

theorem State.detached_dead (s : State) (x : Connector) : (s.detached x).meas.dead = s.meas.dead := by
  cases x with
  | line p =>
    rw [State.detached, State.portDetach_meas]
    rfl
  | barrel =>
    rw [State.detached, State.barrelDetach, State.completeBarrel_meas]
    rfl

/-- The trackers' step leaves the flag. -/
theorem State.adoptTrackers_dead (s : State) (old : Policy) : (s.adoptTrackers old).meas.dead = s.meas.dead :=
  State.adoptTrackers_keeps (P := fun u => u.meas.dead = s.meas.dead) (fun u x h => State.enableChange_keeps (P := fun u => u.meas.dead = s.meas.dead)
    (x := x) (fun v hv => by cases x <;> exact hv) (fun v hv => by cases x <;> exact hv)
    (fun v hv => (trailing_dead _).settlesWithin ((v.detached_dead x).trans hv)) u h) rfl

end

end Sys2Proof.Machine
end

/-! # The record of a port that stays enabled (R101, R103, R172) -/

section
namespace Sys2Proof.Machine

section
variable {P Q E F G : State → Prop} {R : PortRecord → Prop} {s t u v : State} {x y : Connector} {p o : LinePort} {old q : Policy} {r w : PortRecord}

/-! ### Through the steps -/

/-- The trackers' step speaks to other connectors alone. -/
theorem Ported.adoptTrackers (ported : Ported p P) (same : old.enabled (.line p) = s.policy.enabled (.line p)) (h : P s) :
    P (s.adoptTrackers old) :=
  State.adoptTrackers_turn (x := .line p) (B := P) (A := P) (fun _ _ ne => ported.enableChange ne)
    (fun u w h => by rw [State.enableChange_same old u (same.trans w.enabled.symm)]; exact h) (fun _ _ ne => ported.enableChange ne) h

/-- A port that stays enabled, through its images' step and its own call for selection. -/
theorem adopted_call (early : Ported p E) (late : Ported p F) (final : Ported p G)
    (same : old.enabled (.line p) = s.policy.enabled (.line p)) (start : E s) (images : ∀ u : State, E u → F u.adoptImages)
    (here : ∀ u : State, F u → G (u.adoptCall p)) : G (s.adopted old) :=
  final.adoptPath (State.adoptNegotiation_at (fun _ _ ne => late.adoptCall_other ne) here (fun _ _ ne => final.adoptCall_other ne)
    (late.settlesWithin (images _ (early.adoptBarrel (early.adoptMeasurement (early.adoptTrackers same start))))))

/-- A property of the record that the port's own steps keep too. -/
theorem adopted_record (ported : Ported p fun u => R (u.port p)) (rescored : ∀ q r, R r → R (rescore q p r))
    (repinned : ∀ (r : PortRecord) pin f, R r → R { r with pin := pin, inFlight := f })
    (unbarred : ∀ r : PortRecord, R r → R { r with barred := false })
    (same : old.enabled (.line p) = s.policy.enabled (.line p)) (start : R (s.port p)) : R ((s.adopted old).port p) :=
  adopted_call ported ported ported same start (fun _ => State.adoptImages_record (rescored _) repinned)
    fun u h => ported.toTrailing.adoptCall (by rw [State.port_setPort_self]; exact unbarred _ h)

/-! ### What an adoption leaves of the record -/

/-- What no selection and no adoption touches. -/
def PortRecord.nub (r : PortRecord) : PortRecord := { r.core with pin := none, barred := false }

theorem PortRecord.nub_of_core (same : w.core = r.core) : w.nub = r.nub := by
  rw [PortRecord.nub, same, PortRecord.nub]

theorem PortRecord.nub_rescore (q : Policy) (p : LinePort) (r : PortRecord) : (rescore q p r).nub = r.nub :=
  PortRecord.nub_of_core (PortRecord.core_rescore q p r)

theorem ported_live (p : LinePort) (c : Option Contract) : Ported p fun u => (u.port p).live.map Contract.unshared = c :=
  .of_record (R := fun r => r.live.map Contract.unshared = c) p
    (fun r w same h => by rw [show w.live = w.sansEngine.live from rfl, ← same]; exact h) fun _ _ _ calls h => calls.live.1.trans h

theorem adopted_live (same : old.enabled (.line p) = s.policy.enabled (.line p)) :
    ((s.adopted old).port p).live.map Contract.unshared = (s.port p).live.map Contract.unshared :=
  adopted_record (R := fun r => r.live.map Contract.unshared = (s.port p).live.map Contract.unshared) (ported_live p _)
    (fun _ _ h => h) (fun _ _ _ h => h) (fun _ h => h) same rfl

/-- A record whose terms no call for selection changes, even with the barred flag clear. -/
def PortRecord.settled (r : PortRecord) : Prop :=
  r.state = .asking ∨ r.state = .faulted ∨ r.state = .shifting ∨ r.held = true ∨ r.released = true ∨ r.image = none

theorem PortRecord.settled.calm (h : r.settled) : r.calm := by
  rcases h with h | h | h | h | h | h
  · exact .inl (.inr (.inr (.inr (.inl h))))
  · exact .inl (.inr (.inr (.inr (.inr (.inl h)))))
  · exact .inr h
  · exact PortRecord.calm_of_blocked (by rw [PortRecord.blocked, h]; rfl)
  · exact PortRecord.calm_of_blocked (by rw [PortRecord.blocked, h]; simp)
  · exact .inl (.inl h)

/-- The terms of a port. -/
def PortRecord.terms (r : PortRecord) : PortState × Option Contract × Option Contract := (r.state, r.staged, r.live)

theorem PortRecord.settled_of_terms (same : w.terms = r.terms) (nub : w.nub = r.nub) (h : r.settled) : w.settled := by
  have state : w.state = r.state := congrArg Prod.fst same
  have held : w.held = r.held := (congrArg PortRecord.held nub :)
  have released : w.released = r.released := (congrArg PortRecord.released nub :)
  have image : w.image = none ↔ r.image = none := by
    have bare : w.image.map Image.bare = r.image.map Image.bare := (congrArg PortRecord.image nub :)
    rw [← Option.map_eq_none_iff (f := Image.bare), bare, Option.map_eq_none_iff]
  rwa [PortRecord.settled, state, held, released, image]

theorem PortRecord.Calls.settled (calls : PortRecord.Calls q p r w) (h : r.settled) : w.terms = r.terms := by
  have free : r.blocked = false → (r.held = true ∨ r.released = true) → False := fun free h => by
    rw [PortRecord.blocked] at free
    rcases h with h | h <;> rw [h] at free <;> simp at free
  cases calls with
  | unmoved _ => rfl
  | deferred _ _ => rfl
  | keeps _ _ _ _ _ => rfl
  | rested based unblocked applied =>
    exfalso
    have imaged : r.image ≠ none := by cases applied <;> simp_all
    rcases h with h | h | h | h | h | h
    · rcases based with b | b <;> rw [h] at b <;> cases b
    · rcases based with b | b <;> rw [h] at b <;> cases b
    · rcases based with b | b <;> rw [h] at b <;> cases b
    · exact free unblocked (.inl h)
    · exact free unblocked (.inr h)
    · exact imaged h
  | retired claimed unblocked applied =>
    exfalso
    have imaged : r.image ≠ none := by cases applied <;> simp_all
    rcases h with h | h | h | h | h | h
    · rw [h] at claimed; cases claimed
    · rw [h] at claimed; cases claimed
    · rw [h] at claimed; cases claimed
    · exact free unblocked (.inl h)
    · exact free unblocked (.inr h)
    · exact imaged h

theorem adopted_terms (same : old.enabled (.line p) = s.policy.enabled (.line p)) (settled : (s.port p).settled) :
    ((s.adopted old).port p).terms = (s.port p).terms := by
  refine (adopted_record (R := fun r => r.terms = (s.port p).terms ∧ r.nub = (s.port p).nub)
    (.of_record (R := fun r => r.terms = (s.port p).terms ∧ r.nub = (s.port p).nub) p (fun r w same h => ?_) fun q r w calls h => ?_)
    (fun q r h => ⟨h.1, (PortRecord.nub_rescore q p r).trans h.2⟩) (fun _ _ _ h => h) (fun _ h => h) same ⟨rfl, rfl⟩).1
  · refine ⟨?_, (PortRecord.nub_of_core (PortRecord.core_of_sansEngine same)).symm.trans h.2⟩
    have : w.sansEngine.terms = r.sansEngine.terms := by rw [same]
    exact this.trans h.1
  · exact ⟨(calls.settled (PortRecord.settled_of_terms h.1 h.2 settled)).trans h.1, (PortRecord.nub_of_core calls.core).trans h.2⟩

/-! ### The pin (R101) -/

theorem usableAmps_bare (q : Policy) (x : Connector) (l : Level) : usableAmps q x l.bare = usableAmps q x l := rfl

theorem lowerPin_congr {i j : Image} (same : i.bare = j.bare) (n : Pin) : lowerPin q p i n = lowerPin q p j n := by
  have levels : (i.level n.level).map Level.bare = (j.level n.level).map Level.bare := by rw [← Image.bare_level, same, Image.bare_level]
  unfold lowerPin
  cases hi : i.level n.level with
  | none =>
    rw [hi] at levels
    rw [Option.map_eq_none_iff.mp levels.symm]
  | some l =>
    rw [hi] at levels
    obtain ⟨m, hm, e⟩ := Option.map_eq_some_iff.mp levels.symm
    rw [hm]
    dsimp only
    rw [← usableAmps_bare, ← e, usableAmps_bare]

theorem PortRecord.adoptedPin_congr (pin : w.pin = r.pin) (image : w.image.map Image.bare = r.image.map Image.bare) :
    w.adoptedPin q p = r.adoptedPin q p := by
  cases hp : r.pin with
  | none => rw [PortRecord.adoptedPin_of_none (.inl hp), PortRecord.adoptedPin_of_none (.inl (pin.trans hp)), pin]
  | some n =>
    cases hi : r.image with
    | none =>
      rw [hi] at image
      rw [PortRecord.adoptedPin_of_none (.inr hi), PortRecord.adoptedPin_of_none (.inr (Option.map_eq_none_iff.mp image)), pin]
    | some i =>
      rw [hi] at image
      obtain ⟨j, hj, bare⟩ := Option.map_eq_some_iff.mp image
      rw [PortRecord.adoptedPin_some hp hi, PortRecord.adoptedPin_some (pin.trans hp) hj, lowerPin_congr bare]

theorem ported_core (p : LinePort) (c : PortRecord) : Ported p fun u => u.policy = q ∧ (u.port p).core = c :=
  .of_policied (R := fun r => r.core = c) p q (fun _ _ same h => (PortRecord.core_of_sansEngine same).symm.trans h)
    fun _ _ calls h => calls.core.trans h

/-- The record of the images' step, where no selection has changed what it rests on. -/
theorem State.adoptImages_core (h : u.policy = q ∧ (u.port p).core = r.core) :
    u.adoptImages.policy = q ∧ (u.adoptImages.port p).core = { r.core with pin := r.adoptedPin q p } := by
  obtain ⟨policy, core⟩ := h
  obtain ⟨f, e, -⟩ := u.port_adoptImages p
  refine ⟨u.adoptImages_same.1.trans policy, ?_⟩
  have rescored : (rescore q p (u.port p)).core = r.core := (PortRecord.core_rescore q p _).trans core
  have pin : (rescore q p (u.port p)).adoptedPin q p = r.adoptedPin q p :=
    PortRecord.adoptedPin_congr (congrArg PortRecord.pin rescored :) (congrArg PortRecord.image rescored :)
  rw [e, policy, pin, ← rescored]
  rfl

/-- What of the record no selection touches, after an adoption. -/
theorem adopted_core (same : old.enabled (.line p) = s.policy.enabled (.line p)) :
    ((s.adopted old).port p).core = { (s.port p).core with pin := (s.port p).adoptedPin s.policy p, barred := false } := by
  have turned := adopted_call (G := fun u => u.policy = s.policy ∧
      (u.port p).core = { (s.port p).core with pin := (s.port p).adoptedPin s.policy p, barred := false })
    (ported_core (q := s.policy) p (s.port p).core)
    (ported_core (q := s.policy) p { (s.port p).core with pin := (s.port p).adoptedPin s.policy p }) (ported_core p _) same ⟨rfl, rfl⟩
    (fun u h => State.adoptImages_core h) fun u h => (ported_core p _).toTrailing.adoptCall (by
      refine ⟨h.1, ?_⟩
      rw [State.port_setPort_self]
      show ({ (u.port p).core with barred := false } : PortRecord) = _
      rw [h.2])
  exact turned.2

/-! ### The image (R103) -/

/-- An image with the scores of a policy. -/
def Image.scored (q : Policy) (p : LinePort) (i : Image) : Image :=
  { i with levels := i.levels.map fun l => { l with score := levelScore q (.line p) l } }

theorem Image.scored_scored (q : Policy) (p : LinePort) (i : Image) : (i.scored q p).scored q p = i.scored q p := by
  unfold Image.scored
  rw [List.map_map]
  rfl

theorem Image.scored_bare (q : Policy) (p : LinePort) (i : Image) : i.bare.scored q p = i.scored q p := by
  unfold Image.scored Image.bare
  dsimp only
  rw [List.map_map]
  rfl

theorem rescore_scored (q : Policy) (p : LinePort) (r : PortRecord) : (rescore q p r).image = r.image.map (Image.scored q p) := rfl

theorem PortRecord.Calls.image (calls : PortRecord.Calls q p r w) : w.image = r.image ∨ w.image = (rescore q p r).image := by
  have applied : ∀ a : PortRecord, a.image = (rescore q p r).image → PortRecord.Applied q p r a w → w.image = (rescore q p r).image :=
    fun a ha h => by cases h <;> exact ha
  cases calls with
  | unmoved _ => exact .inl rfl
  | deferred _ _ => exact .inl rfl
  | keeps _ _ _ _ _ => exact .inr rfl
  | rested _ _ h => exact .inr (applied _ rfl h)
  | retired _ _ h => exact .inr (applied _ (by unfold PortRecord.retire PortRecord.withdrawClaim; split <;> rfl) h)

theorem adopted_image (same : old.enabled (.line p) = s.policy.enabled (.line p)) :
    ((s.adopted old).port p).image = (s.port p).image.map (Image.scored s.policy p) := by
  have scored : ∀ {i : Option Image}, (i.map (Image.scored s.policy p)).map (Image.scored s.policy p) = i.map (Image.scored s.policy p) :=
    fun {i} => by cases i <;> simp [Image.scored_scored]
  have late : Ported p fun u => u.policy = s.policy ∧ (u.port p).image = (s.port p).image.map (Image.scored s.policy p) :=
    .of_policied (R := fun r => r.image = (s.port p).image.map (Image.scored s.policy p)) p s.policy
      (fun _ _ same h => (congrArg PortRecord.image same).symm.trans h) fun r w calls h => by
        rcases calls.image with e | e
        · exact e.trans h
        · rw [e, rescore_scored, h, scored]
  refine (adopted_call (ported_core (q := s.policy) p (s.port p).core) late late same ⟨rfl, rfl⟩ (fun u h => ?_) fun u h =>
    late.toTrailing.adoptCall (by rw [State.port_setPort_self]; exact h)).2
  refine ⟨u.adoptImages_same.1.trans h.1, ?_⟩
  obtain ⟨f, e, -⟩ := u.port_adoptImages p
  have bare : (u.port p).image.map Image.bare = (s.port p).image.map Image.bare := (congrArg PortRecord.image h.2 :)
  have through : ∀ i : Option Image, i.map (Image.scored s.policy p) = (i.map Image.bare).map (Image.scored s.policy p) := fun i => by
    cases i <;> simp [Image.scored_bare]
  rw [e, h.1]
  show (u.port p).image.map (Image.scored s.policy p) = _
  rw [through, bare, ← through]

/-! ### A PIN in flight, and a shift -/

theorem ported_unpinned (p : LinePort) : Ported p fun u => (u.port p).inFlight.map PortRequest.kind ≠ some .pin :=
  .of_record (R := fun r => r.inFlight.map PortRequest.kind ≠ some .pin) p
    (fun r w same h => by rw [show w.inFlight = r.inFlight from (congrArg PortRecord.inFlight same).symm]; exact h) fun q r w calls h => by
      rcases calls.inFlight with e | e <;> rw [e]
      · exact h
      · simp

/-- A pin that the adoption makes void ends a PIN in flight (R101). -/
theorem adopted_void (same : old.enabled (.line p) = s.policy.enabled (.line p)) (pinned : (s.port p).pin ≠ none)
    (void : (s.port p).adoptedPin s.policy p = none) : ((s.adopted old).port p).inFlight.map PortRequest.kind ≠ some .pin := by
  refine adopted_call (ported_core (q := s.policy) p (s.port p).core) (ported_unpinned p) (ported_unpinned p) same ⟨rfl, rfl⟩
    (fun u h => ?_) fun u h => (ported_unpinned p).toTrailing.adoptCall (by rw [State.port_setPort_self]; exact h)
  obtain ⟨f, e, -, ended⟩ := u.port_adoptImages p
  have rescored : (rescore s.policy p (u.port p)).core = (s.port p).core := (PortRecord.core_rescore s.policy p _).trans h.2
  rw [e]
  refine ended (by rw [show (u.port p).pin = (s.port p).pin from (congrArg PortRecord.pin h.2 :)]; exact pinned) ?_
  rw [h.1, ← void]
  exact PortRecord.adoptedPin_congr (congrArg PortRecord.pin rescored :) (congrArg PortRecord.image rescored :)

theorem adopted_deferred (same : old.enabled (.line p) = s.policy.enabled (.line p)) (shifting : (s.port p).state = .shifting)
    (imaged : (s.port p).image ≠ none) : ((s.adopted old).port p).deferred = true := by
  have late : Ported p fun u => (u.port p).state = .shifting ∧ (u.port p).image ≠ none := by
    refine .of_record (R := fun r => r.state = .shifting ∧ r.image ≠ none) p (fun r w same h => ?_) fun q r w calls h => ?_
    · rw [show w.state = r.state from (congrArg PortRecord.state same).symm, show w.image = r.image from (congrArg PortRecord.image same).symm]
      exact h
    · refine ⟨(congrArg PortRecord.state (calls.shifting h.1).1 :).trans h.1, ?_⟩
      rcases calls.image with e | e <;> rw [e]
      · exact h.2
      · rw [rescore_scored]
        simpa using h.2
  have final : Ported p fun u => (u.port p).state = .shifting ∧ (u.port p).deferred = true :=
    .of_record (R := fun r => r.state = .shifting ∧ r.deferred = true) p
      (fun _ _ same h => ⟨(congrArg PortRecord.state same).symm.trans h.1, (congrArg PortRecord.deferred same).symm.trans h.2⟩)
      fun _ _ _ calls h => ⟨(congrArg PortRecord.state (calls.shifting h.1).1 :).trans h.1, (calls.shifting h.1).2 h.2⟩
  refine (adopted_call late late final same ⟨shifting, imaged⟩ (fun u h => State.adoptImages_record
    (R := fun r => r.state = .shifting ∧ r.image ≠ none) (fun r h => ⟨h.1, by rw [rescore_scored]; simpa using h.2⟩) (fun _ _ _ h => h) h)
    fun u h => ?_).2
  exact call_defers (by rw [State.port_setPort_self]; exact h.1) (by rw [State.port_setPort_self]; exact h.2)

/-- Every call of an adoption for selection clears the barred flag (R103). -/
theorem adopted_unbarred (s : State) (old : Policy) (p : LinePort) : ((s.adopted old).port p).barred = false := by
  have final : Ported p fun u => (u.port p).barred = false :=
    .of_record (R := fun r => r.barred = false) p (fun _ _ same h => (congrArg PortRecord.barred same).symm.trans h)
      fun _ _ _ calls h => (congrArg PortRecord.barred calls.core :).trans h
  refine final.adoptPath (State.adoptNegotiation_at (P := fun _ => True) (Q := fun u => (u.port p).barred = false) (p := p)
    (fun _ _ _ _ => trivial) (fun u _ => ?_)
    (fun _ _ ne => final.adoptCall_other ne) trivial)
  exact final.toTrailing.adoptCall (by rw [State.port_setPort_self])

end

end Sys2Proof.Machine
end

/-! # The call for selection of an adoption (R63, R64, R103) -/

section
namespace Sys2Proof.Machine

section
variable {P Q E F G : State → Prop} {R : PortRecord → Prop} {s t u v : State} {x y : Connector} {p o : LinePort} {e : EngineId} {old q : Policy}
  {r w : PortRecord} {f : OutFrame} {n L V A : Nat} {b : Bool} {l : List QueueEntry} {c : Option Contract}

/-! ### A frame on its way, through the events of other ports -/

theorem giveOut_engine_of_ne {d : EngineId} (ne : d ≠ e) (s : State) (l : List QueueEntry) : (giveOut e l s).engine d = s.engine d := by
  induction l generalizing s with
  | nil => rfl
  | cons a l ih =>
    rw [giveOut]
    split
    · rw [ih]
      exact State.beginLease_engine_of_ne (s.withQueue l) ne a.port a.cls
    · rfl

theorem State.sends_dropLine (h : s.sends p f) (ne : o ≠ p) : (s.dropLine o).sends p f := by
  generalize ht : (s.withQueue (leaveQueue s.queue o)).setLine o Line.cleared = t
  have dropped : s.dropLine o = match t.engineOf o with
      | some e => (t.setEngine e Engine.freed).giveEngine e
      | none => t := by rw [← ht]; rfl
  have here : t.sends p f := State.sends_congr (s := s) (by rw [← ht]; rfl) (by rw [← ht]; rfl) h
  rw [dropped]
  cases lease : t.engineOf o with
  | none => exact here
  | some e =>
    rcases here with slot | ⟨d, tag, mine, sending, tx⟩
    · exact State.sends_giveOut (s := t.setEngine e Engine.freed) slot
    · have other : d ≠ e := fun same => by
        have theirs := State.lease_of_engineOf lease
        rw [← same, mine] at theirs
        exact ne (Option.some.inj theirs).symm
      have kept : ((t.setEngine e Engine.freed).giveEngine e).engine d = t.engine d :=
        (giveOut_engine_of_ne other _ _).trans (State.engine_setEngine_of_ne t _ other)
      exact .inr ⟨d, tag, by rw [kept, mine], by rw [kept, sending], by rw [kept, tx]⟩

theorem State.chose_dropLine (h : s.chose p L V A b) (ne : o ≠ p) : (s.dropLine o).chose p L V A b := by
  have served := State.served_dropLine s o
  exact h.congr served.policy (served.field p PortRecord.state fun _ => rfl) (served.field p PortRecord.staged fun _ => rfl)
    (served.field p PortRecord.live fun _ => rfl) fun f sent => State.sends_dropLine sent ne

theorem State.chose_same (h : s.chose p L V A b) (same : State.portSame p s t) : t.chose p L V A b :=
  h.congr same.policy (by rw [same.port]) (by rw [same.port]) (by rw [same.port]) fun f => State.sends_congr same.engines (by rw [same.port])

theorem ported_chosen (q : Policy) (p : LinePort) (L V A : Nat) (b : Bool) : Ported p (State.chosen q p L V A b) where
  toTrailing := trailing_chosen q p L V A b
  congr u v same := fun ⟨policy, proposes, chose⟩ => ⟨same.policy.trans policy, by rw [same.port]; exact proposes, State.chose_same chose same⟩
  dropped u o ne := fun ⟨policy, proposes, chose⟩ => by
    have served := State.served_dropLine u o
    exact ⟨served.policy.trans policy, PortRecord.proposes_of_core (PortRecord.core_of_sansEngine (served.port p)) proposes,
      State.chose_dropLine chose ne⟩

theorem ported_settledOn (q : Policy) (p : LinePort) (L V A : Nat) (b : Bool) : Ported p (State.settledOn q p L V A b) where
  toTrailing := trailing_settledOn q p L V A b
  congr u v same := fun ⟨policy, proposes, which⟩ => ⟨same.policy.trans policy, by rw [same.port]; exact proposes,
    which.imp (fun h => by rw [same.port]; exact h) fun chose => State.chose_same chose same⟩
  dropped u o ne := fun ⟨policy, proposes, which⟩ => by
    have served := State.served_dropLine u o
    refine ⟨served.policy.trans policy, PortRecord.proposes_of_core (PortRecord.core_of_sansEngine (served.port p)) proposes,
      which.imp (fun h => ⟨(served.field p PortRecord.state fun _ => rfl).trans h.1, ?_⟩) fun chose => State.chose_dropLine chose ne⟩
    rw [served.field p PortRecord.staged fun _ => rfl]
    exact h.2

theorem ported_restsOn (q : Policy) (p : LinePort) (c : Option Contract) : Ported p (State.restsOn q p c) where
  toTrailing := trailing_restsOn q p c
  congr u v same h := by
    rw [State.restsOn, same.policy, same.port]
    exact h
  dropped u o _ := fun ⟨policy, finds, state, staged⟩ => by
    have served := State.served_dropLine u o
    refine ⟨served.policy.trans policy, PortRecord.findsNone_of_core (PortRecord.core_of_sansEngine (served.port p)) finds, ?_,
      (served.field p PortRecord.staged fun _ => rfl).trans staged⟩
    rw [served.field p PortRecord.state fun _ => rfl, served.field p PortRecord.live fun _ => rfl]
    exact state

/-! ### Selections before the port's own turn -/

/-- The shared flag that a level of an image, if there is one, gives a claim. -/
def Image.sharedAt (i : Option Image) (L : Nat) (b : Bool) : Prop := ∀ j l, i = some j → 0 < L → j.levels[L - 1]? = some l → l.shared = b

theorem Image.sharedAt_congr {i j : Option Image} (same : i.map Image.bare = j.map Image.bare) (h : Image.sharedAt i L b) :
    Image.sharedAt j L b := by
  intro a l ha positive level
  rw [ha] at same
  obtain ⟨d, hd, bare⟩ := Option.map_eq_some_iff.mp same
  have levels : d.levels.map Level.bare = a.levels.map Level.bare := (congrArg Image.levels bare :)
  have : (d.levels.map Level.bare)[L - 1]? = some l.bare := by rw [levels, List.getElem?_map, level]; rfl
  rw [List.getElem?_map] at this
  obtain ⟨m, hm, e⟩ := Option.map_eq_some_iff.mp this
  rw [← show m.shared = l.shared from (congrArg Level.shared e :)]
  exact h d m hd positive hm

/-- A claim takes its shared flag from its level (R90, R99). -/
theorem composeClaim_shared {i : Image} {primary : Bool} {pin : Option Pin} {k : Claim} (composed : composeClaim q p primary i pin = some k) :
    Image.sharedAt (some i) k.level k.shared ∧ k.operating = claimOperating q primary k.limit := by
  unfold composeClaim at composed
  cases pin with
  | some n =>
    cases composed
    refine ⟨fun j l same positive level => ?_, rfl⟩
    cases same
    show l.shared = pinShared (some i) n
    have positive : 0 < n.level := positive
    rw [pinShared, Image.level, if_neg (by omega), level]
    rfl
  | none =>
    dsimp only at composed
    split at composed
    · cases composed
    next c won =>
      cases composed
      refine ⟨fun j l same positive level => ?_, rfl⟩
      cases same
      obtain ⟨⟨-, here, -⟩, -⟩ := winner_spec won
      rw [here] at level
      rw [Option.some.inj level]

/-- The port rests, or it has chosen figures of its image. -/
def State.ready (p : LinePort) (u : State) : Prop :=
  ((u.port p).state = .base ∨ (u.port p).state = .bound) ∨ ∃ L V A b, u.chose p L V A b ∧ Image.sharedAt (u.port p).image L b

theorem State.ready.state (h : u.ready p) : (u.port p).state = .base ∨ (u.port p).state = .bound ∨ (u.port p).state = .claimed := by
  rcases h with based | ⟨_, _, _, _, chose, -⟩
  · exact based.imp id .inl
  · exact chose.state

theorem PortRecord.Applied.readies {a : PortRecord} (policy : u.policy = q) (image : a.image.map Image.bare = r.image.map Image.bare)
    (applied : PortRecord.Applied q p r a (u.port p)) : u.ready p := by
  generalize hw : u.port p = w at applied
  cases applied with
  | @claims i primary k hi composed =>
    obtain ⟨shared, operating⟩ := composeClaim_shared composed
    refine .inr ⟨k.level, k.volts, k.limit, k.shared, State.chose_iff.mpr ⟨k.operating, ?_, .inl ⟨by rw [hw]; rfl, .inl (by rw [hw]; rfl),
      by rw [hw]; rfl⟩⟩, ?_⟩
    · rw [policy, operating]
      exact claimOperating_cases q primary k.limit
    · refine Image.sharedAt_congr ?_ shared
      rw [← hi, ← image, hw]
      rfl
  | stands _ _ _ _ _ => exact .inl (.inr (by rw [hw]))
  | @rests i primary f hi _ _ =>
    refine .inl ?_
    rw [hw]
    show a.resting = _ ∨ a.resting = _
    rw [PortRecord.resting_eq]
    exact restingOn_cases _

theorem State.ready.congr (h : s.ready p) (policy : t.policy = s.policy) (state : (t.port p).state = (s.port p).state)
    (staged : (t.port p).staged = (s.port p).staged) (live : (t.port p).live = (s.port p).live)
    (image : (t.port p).image.map Image.bare = (s.port p).image.map Image.bare) (sends : ∀ f, s.sends p f → t.sends p f) : t.ready p := by
  rcases h with based | ⟨L, V, A, b, chose, shared⟩
  · exact .inl (by rw [state]; exact based)
  · exact .inr ⟨L, V, A, b, chose.congr policy state staged live sends, Image.sharedAt_congr image.symm shared⟩

theorem State.ready.served (h : s.ready p) (served : s.Served t) (sends : ∀ f, s.sends p f → t.sends p f) : t.ready p :=
  h.congr served.policy (served.field p PortRecord.state fun _ => rfl) (served.field p PortRecord.staged fun _ => rfl)
    (served.field p PortRecord.live fun _ => rfl) (by rw [served.field p PortRecord.image fun _ => rfl]) sends

theorem State.ready_callSelection (h : u.ready p) : (u.callSelection p).ready p := by
  have calls := u.port_callSelection p
  have policy := State.callSelection_policy u p
  have kept : ((u.callSelection p).port p = u.port p ∨ (u.callSelection p).port p = rescore u.policy p (u.port p)) →
      (u.callSelection p).ready p := fun record => by
    refine h.congr policy ?_ ?_ ?_ ?_ fun f => State.sends_congr (State.callSelection_engines u p) ?_
    · rcases record with e | e <;> rw [e]; rfl
    · rcases record with e | e <;> rw [e]; rfl
    · rcases record with e | e <;> rw [e]; rfl
    · rcases record with e | e <;> rw [e]
      exact rescore_image _ _ _
    · rcases record with e | e <;> rw [e]; rfl
  generalize hw : (u.callSelection p).port p = w at calls
  cases calls with
  | unmoved _ => exact kept (.inl hw)
  | deferred _ shifting =>
    rcases h.state with k | k | k <;> rw [shifting] at k <;> cases k
  | keeps _ _ _ _ _ => exact kept (.inr hw)
  | rested _ _ applied =>
    rw [← hw] at applied
    exact PortRecord.Applied.readies policy (rescore_image _ _ _) applied
  | retired _ _ applied =>
    rw [← hw] at applied
    refine PortRecord.Applied.readies policy ?_ applied
    rw [show (rescore u.policy p (u.port p)).retire.image = (rescore u.policy p (u.port p)).image by
      unfold PortRecord.retire PortRecord.withdrawClaim; split <;> rfl]
    exact rescore_image _ _ _

theorem ported_ready (p : LinePort) : Ported p (State.ready p) where
  toTrailing := .of_owners (fun u v same h => by
      have port : v.port p = u.port p := by rw [State.port, same.ports, State.port]
      exact h.congr same.policy (by rw [port]) (by rw [port]) (by rw [port]) (by rw [port]) fun f => State.sends_congr same.engines (by rw [port]))
    fun u o h => by
      have called : (u.callSelection o).ready p := by
        by_cases here : o = p
        · subst here
          exact State.ready_callSelection h
        · have same := State.othersKept_callSelection u p (Ne.symm here)
          exact h.congr (State.callSelection_policy u o) (by rw [same]) (by rw [same]) (by rw [same]) (by rw [same]) fun f sent =>
            State.sends_callSelection_of_ne sent here
      exact called.served (State.served_apply _ o) fun f sent => State.sends_apply sent o
  congr u v same h := h.congr same.policy (by rw [same.port]) (by rw [same.port]) (by rw [same.port]) (by rw [same.port]) fun f =>
    State.sends_congr same.engines (by rw [same.port])
  dropped u o ne h := h.served (State.served_dropLine u o) fun f sent => State.sends_dropLine sent ne

theorem State.ready_adoptImages (h : u.ready p) : u.adoptImages.ready p := by
  obtain ⟨policy, engines, -⟩ := u.adoptImages_same
  obtain ⟨f, e, -⟩ := u.port_adoptImages p
  exact h.congr policy (by rw [e]; rfl) (by rw [e]; rfl) (by rw [e]; rfl) (by rw [e]; exact rescore_image _ _ _) fun f =>
    State.sends_congr engines (by rw [e]; rfl)

end

end Sys2Proof.Machine
end

/-! # What the call for selection of an adoption comes to (R63, R64, R103) -/

section
namespace Sys2Proof.Machine

section
variable {P Q E F G : State → Prop} {R : PortRecord → Prop} {s t u v : State} {x y : Connector} {p o : LinePort} {old q : Policy}
  {r w : PortRecord} {n L V A : Nat} {b : Bool} {c : Option Contract}

/-! ### The turn of a port that is ready -/

/-- A port that is ready takes the figures that its selections propose. -/
theorem call_ready (ready : u.ready p) (policy : u.policy = q) (proposes : (u.port p).proposes q p L V A b)
    (level : ∃ i l, (u.port p).image = some i ∧ 0 < L ∧ i.levels[L - 1]? = some l ∧ l.shared = b) :
    State.chosen q p L V A b ((u.callSelection p).apply p) := by
  obtain ⟨policy', proposes'⟩ := State.proposes_call policy proposes p
  refine ⟨policy', proposes', State.chose_apply ?_ p⟩
  rcases State.callSelection_chose policy proposes ready.state with chose | ⟨record, claimed, staged⟩
  · exact chose
  rcases ready with based | ⟨L', V', A', b', chose, shared⟩
  · rcases based with k | k <;> rw [claimed] at k <;> cases k
  obtain ⟨operating, role, which⟩ := State.chose_iff.mp chose
  obtain ⟨-, sends, terms⟩ := which.resolve_right fun h => by
    rw [claimed] at h
    cases h.1
  rw [terms] at staged
  obtain ⟨rfl, rfl, rfl⟩ : L' = L ∧ V' = V ∧ A' = A := by simpa using staged
  obtain ⟨i, l, image, positive, here, rfl⟩ := level
  obtain rfl := shared i l image positive here
  exact chose.congr (State.callSelection_policy u p) (by rw [record]; rfl) (by rw [record]; rfl) (by rw [record]; rfl) fun f =>
    State.sends_congr (State.callSelection_engines u p) (by rw [record]; rfl)

/-- A port that is CLAIMED settles on the figures that its selections propose. -/
theorem call_settles (policy : u.policy = q) (proposes : (u.port p).proposes q p L V A b)
    (state : (u.port p).state = .base ∨ (u.port p).state = .bound ∨ (u.port p).state = .claimed) :
    State.settledOn q p L V A b ((u.callSelection p).apply p) := by
  obtain ⟨policy', proposes'⟩ := State.proposes_call policy proposes p
  refine ⟨policy', proposes', ?_⟩
  rcases State.callSelection_chose policy proposes state with chose | ⟨record, staged⟩
  · exact .inr (State.chose_apply chose p)
  · refine .inl ?_
    have served := State.served_apply (u.callSelection p) p
    refine ⟨(served.field p PortRecord.state fun _ => rfl).trans (by rw [record]; exact staged.1), ?_⟩
    rw [served.field p PortRecord.staged fun _ => rfl, record]
    exact staged.2

/-! ### An adoption on a port that stays enabled -/

/-- The record on which the port's own call for selection runs. -/
def PortRecord.readopted (q : Policy) (p : LinePort) (r : PortRecord) : PortRecord := { r with pin := r.adoptedPin q p, barred := false }

theorem State.unbarred_core (core : (u.port p).core = { r.core with pin := r.adoptedPin q p }) :
    ((u.setPort p { u.port p with barred := false }).port p).core = (r.readopted q p).core := by
  rw [State.port_setPort_self]
  show ({ (u.port p).core with barred := false } : PortRecord) = _
  rw [core]
  rfl

/-- A port in BASE or BOUND takes the terms that its selection proposes. -/
theorem adopted_chose (same : old.enabled (.line p) = s.policy.enabled (.line p))
    (state : (s.port p).state = .base ∨ (s.port p).state = .bound) (proposes : ((s.port p).readopted s.policy p).proposes s.policy p L V A b)
    (level : ∃ i l, (s.port p).image = some i ∧ 0 < L ∧ i.levels[L - 1]? = some l ∧ l.shared = b) : (s.adopted old).chose p L V A b := by
  obtain ⟨i, l, image, positive, here, flag⟩ := level
  have shared : Image.sharedAt (s.port p).image L b := fun j m hj _ hm => by
    rw [image] at hj
    cases hj
    rw [here] at hm
    cases hm
    exact flag
  refine (adopted_call (G := State.chosen s.policy p L V A b)
    ((ported_core (q := s.policy) p (s.port p).core).and (ported_ready p))
    ((ported_core (q := s.policy) p { (s.port p).core with pin := (s.port p).adoptedPin s.policy p }).and (ported_ready p))
    (ported_chosen s.policy p L V A b) same ⟨⟨rfl, rfl⟩, .inl state⟩
    (fun u h => ⟨State.adoptImages_core h.1, State.ready_adoptImages h.2⟩) fun u h => ?_).2.2
  obtain ⟨⟨policy, core⟩, ready⟩ := h
  refine (trailing_chosen s.policy p L V A b).settlesWithin ?_
  have after := State.unbarred_core core
  have bare : (u.port p).image.map Image.bare = (s.port p).image.map Image.bare := (congrArg PortRecord.image core :)
  refine call_ready (ready.congr rfl (by rw [State.port_setPort_self]) (by rw [State.port_setPort_self]) (by rw [State.port_setPort_self])
    (by rw [State.port_setPort_self]) fun f => State.sends_congr rfl (by rw [State.port_setPort_self])) policy
    (PortRecord.proposes_of_core after proposes) ?_
  rw [image] at bare
  obtain ⟨j, hj, e⟩ := Option.map_eq_some_iff.mp bare
  have levels : j.levels.map Level.bare = i.levels.map Level.bare := (congrArg Image.levels e :)
  have : (j.levels.map Level.bare)[L - 1]? = some l.bare := by rw [levels, List.getElem?_map, here]; rfl
  rw [List.getElem?_map] at this
  obtain ⟨m, hm, e'⟩ := Option.map_eq_some_iff.mp this
  exact ⟨j, m, by rw [State.port_setPort_self]; exact hj, positive, hm, (congrArg Level.shared e' :).trans flag⟩

theorem ported_selects (p : LinePort) : Ported p fun u => (u.port p).state.selects = true :=
  .of_record (R := fun r => r.state.selects = true) p
    (fun r w same h => by rw [show w.state = r.state from (congrArg PortRecord.state same).symm]; exact h) fun _ _ _ calls h => by
      rcases calls.state with same | ⟨-, k⟩
      · rw [same]
        exact h
      · exact k

theorem PortState.selects_iff {k : PortState} : k.selects = true ↔ k = .base ∨ k = .bound ∨ k = .claimed := by cases k <;> simp [PortState.selects]

/-- A port in CLAIMED keeps a claim that carries what its selection proposes, or takes the terms. -/
theorem adopted_settlesOn (same : old.enabled (.line p) = s.policy.enabled (.line p)) (state : (s.port p).state = .claimed)
    (proposes : ((s.port p).readopted s.policy p).proposes s.policy p L V A b) :
    ((s.adopted old).port p).stages L V A ∨ (s.adopted old).chose p L V A b := by
  refine (adopted_call (G := State.settledOn s.policy p L V A b)
    ((ported_core (q := s.policy) p (s.port p).core).and (ported_selects p))
    ((ported_core (q := s.policy) p { (s.port p).core with pin := (s.port p).adoptedPin s.policy p }).and (ported_selects p))
    (ported_settledOn s.policy p L V A b) same ⟨⟨rfl, rfl⟩, by rw [state]; rfl⟩
    (fun u h => ⟨State.adoptImages_core h.1, State.adoptImages_record (R := fun r => r.state.selects = true) (fun _ h => h) (fun _ _ _ h => h) h.2⟩)
    fun u h => ?_).2.2
  obtain ⟨⟨policy, core⟩, selects⟩ := h
  refine (trailing_settledOn s.policy p L V A b).settlesWithin (call_settles policy
    (PortRecord.proposes_of_core (State.unbarred_core core) proposes) ?_)
  rw [State.port_setPort_self]
  exact PortState.selects_iff.mp selects

/-! ### No candidate -/

theorem Ported.exists {α : Type} {K : α → State → Prop} (ported : ∀ a, Ported p (K a)) : Ported p fun u => ∃ a, K a u where
  evaluate u := Exists.imp fun a => (ported a).evaluate u
  droop u x := Exists.imp fun a => (ported a).droop u x
  budget u := Exists.imp fun a => (ported a).budget u
  left u := Exists.imp fun a => (ported a).left u
  prospect u v := Exists.imp fun a => (ported a).prospect u v
  page u x := Exists.imp fun a => (ported a).page u x
  call u o := Exists.imp fun a => (ported a).call u o
  congr u v same := Exists.imp fun a => (ported a).congr u v same
  dropped u o ne := Exists.imp fun a => (ported a).dropped u o ne

/-- A port that selects and has a staged contract only while CLAIMED, where asked. -/
def PortRecord.unstaged (d : Prop) (r : PortRecord) : Prop := r.state.selects = true ∧ (d → r.state = .claimed ∨ r.staged = none)

theorem PortRecord.Calls.unstaged {d : Prop} (calls : PortRecord.Calls q p r w) (h : r.unstaged d) : w.unstaged d := by
  refine ⟨?_, fun hd => ?_⟩
  · rcases calls.state with same | ⟨-, k⟩
    · rw [same]
      exact h.1
    · exact k
  have applied : ∀ a : PortRecord, a.staged = none → PortRecord.Applied q p r a w → w.state = .claimed ∨ w.staged = none := fun a ha k => by
    cases k with
    | claims _ _ => exact .inl rfl
    | stands _ _ _ _ _ => exact .inr ha
    | rests _ _ _ => exact .inr ha
  have before := h.2 hd
  cases calls with
  | unmoved _ => exact before
  | deferred _ _ => exact before
  | keeps _ _ _ _ _ => exact before
  | rested based _ k =>
    refine applied (rescore q p r) (before.resolve_left fun claimed => ?_) k
    rcases based with e | e <;> rw [claimed] at e <;> cases e
  | retired _ _ k => exact applied (rescore q p r).retire rfl k

theorem ported_unstaged (d : Prop) (p : LinePort) : Ported p fun u => (u.port p).unstaged d :=
  .of_record (R := PortRecord.unstaged d) p (fun r w same h => by
    rw [PortRecord.unstaged, show w.state = r.state from (congrArg PortRecord.state same).symm,
      show w.staged = r.staged from (congrArg PortRecord.staged same).symm]
    exact h) fun _ _ _ calls => calls.unstaged

/-- A port without a candidate rests, and a claim that was made has ended. -/
theorem adopted_rests (same : old.enabled (.line p) = s.policy.enabled (.line p))
    (state : (s.port p).state = .base ∨ (s.port p).state = .bound ∨ (s.port p).state = .claimed)
    (finds : ((s.port p).readopted s.policy p).findsNone s.policy p) :
    ((s.adopted old).port p).state = restingOn ((s.adopted old).port p).live ∧
      ((s.port p).state = .claimed → ((s.adopted old).port p).staged = none) := by
  have final : Ported p fun u => ∃ c : { c : Option Contract // (s.port p).state = .claimed → c = none }, State.restsOn s.policy p c.1 u :=
    .exists fun c => ported_restsOn s.policy p c.1
  obtain ⟨c, -, -, rests, staged⟩ := adopted_call
    (G := fun u => ∃ c : { c : Option Contract // (s.port p).state = .claimed → c = none }, State.restsOn s.policy p c.1 u)
    ((ported_core (q := s.policy) p (s.port p).core).and (ported_unstaged ((s.port p).state = .claimed) p))
    ((ported_core (q := s.policy) p { (s.port p).core with pin := (s.port p).adoptedPin s.policy p }).and
      (ported_unstaged ((s.port p).state = .claimed) p))
    final same ⟨⟨rfl, rfl⟩, PortState.selects_iff.mpr state, .inl⟩
    (fun u h => ⟨State.adoptImages_core h.1, State.adoptImages_record (R := PortRecord.unstaged _) (fun _ h => h) (fun _ _ _ h => h) h.2⟩)
    (by
      intro u h
      obtain ⟨⟨policy, core⟩, selects, unstaged⟩ := h
      have after := State.unbarred_core core
      generalize hw : u.setPort p { u.port p with barred := false } = w at after
      have record : w.port p = { u.port p with barred := false } := by
        rw [← hw]
        exact State.port_setPort_self u p _
      have called : u.adoptCall p = settle false Config.reportDepth u ((w.callSelection p).apply p) := by rw [← hw]; rfl
      have policy : w.policy = s.policy := by rw [← hw]; exact policy
      obtain ⟨rests, staged⟩ := call_rests (pages := false) (n := Config.reportDepth) (v := u) policy
        (PortRecord.findsNone_of_core after finds) (by rw [record]; exact PortState.selects_iff.mp selects)
      have kept := (ported_core (q := s.policy) p (w.port p).core).toTrailing.settle (s := u) (pages := false) Config.reportDepth
        ((ported_core (q := s.policy) p (w.port p).core).toTrailing.call w p ⟨policy, rfl⟩)
      rw [called]
      refine ⟨⟨if (w.port p).state = .claimed then none else (w.port p).staged, fun claimed => ?_⟩, kept.1,
        PortRecord.findsNone_of_core (kept.2.trans after) finds, rests, staged⟩
      rw [record]
      show (if (u.port p).state = .claimed then none else (u.port p).staged) = none
      split
      · rfl
      next other => exact (unstaged claimed).resolve_left other)
  exact ⟨rests, fun claimed => staged.trans (c.2 claimed)⟩

end

end Sys2Proof.Machine
end

/-! # A line port after an adoption (R101, R103, R172) -/

section
namespace Sys2Proof.Machine

section
variable {s t u : State} {p : LinePort} {old q : Policy} {r : PortRecord} {n : Pin} {i : Image} {l : Level}

theorem lowerPin_level (positive : n.level ≠ 0) (level : i.levels[n.level - 1]? = some l) :
    lowerPin q p i n = { n with limit :=
      (if min l.amps (q.pathMax.get (.line p)) < n.limit then min l.amps (q.pathMax.get (.line p)) / 50 * 50 else n.limit) } := by
  unfold lowerPin
  rw [Image.level, if_neg positive, level]
  dsimp only
  rw [show usableAmps q (.line p) l = min l.amps (q.pathMax.get (.line p)) from rfl]
  split <;> rfl

theorem Policy.outside_iff (q : Policy) (v : Nat) : q.outside v = true ↔ v < q.windowLo ∨ q.windowHi < v := decide_eq_true_iff

/-- A void pin, and one that stands with its limit lowered (R101). -/
theorem adopted_pin (same : old.enabled (.line p) = s.policy.enabled (.line p)) :
    ((s.adopted old).port p).pin = (s.port p).adoptedPin s.policy p := (congrArg PortRecord.pin (adopted_core same) :)

/-- The records of the ports that stay enabled (R101, R103, R172). -/
theorem adopted_port (s : State) (old : Policy) (p : LinePort) (same : old.enabled (.line p) = s.policy.enabled (.line p)) :
    s.adoptedPort (s.adopted old) p := by
  have policy := s.policy_adopted old
  have core := adopted_core same
  have pin := adopted_pin same
  have image := adopted_image same
  have free : (s.port p).held = false → (s.port p).released = false → ((s.port p).readopted s.policy p).blocked = false := by
    intro held released
    rw [PortRecord.blocked]
    show (((s.port p).held || (s.port p).released) || false) = false
    rw [held, released]
    rfl
  rw [State.adoptedPort, policy]
  refine ⟨?_, (congrArg PortRecord.barred core :), (congrArg PortRecord.held core :), (congrArg PortRecord.released core :),
    (congrArg PortRecord.silent core :), (congrArg PortRecord.lapsing core :), adopted_live same, fun none => ?_,
    fun n i l hn hi positive level => ⟨fun void => ?_, fun sound => ?_⟩,
    fun kept => ?_, fun shifting imaged => ?_,
    fun i hi held released => ⟨fun auto lost state => ?_, fun c auto won => ?_, fun n l hn positive level => ?_⟩⟩
  · exact image
  · rw [pin, PortRecord.adoptedPin_of_none (.inl none), none]
  · have gone : (s.port p).adoptedPin s.policy p = none := by
      rw [PortRecord.adoptedPin_some hn hi, if_pos ((s.policy.outside_iff n.volts).mp void)]
    exact ⟨pin.trans gone, adopted_void same (by rw [hn]; simp) gone⟩
  · have inside : ¬ (n.volts < s.policy.windowLo ∨ s.policy.windowHi < n.volts) := fun h => by
      rw [(s.policy.outside_iff n.volts).mpr h] at sound
      cases sound
    exact pin.trans (by rw [PortRecord.adoptedPin_some hn hi, if_neg inside, lowerPin_level positive level])
  · have settled : (s.port p).settled := by
      rcases kept with h | h | h | h | h
      · exact .inl h
      · exact .inr (.inl h)
      · exact .inr (.inr (.inr (.inl h)))
      · exact .inr (.inr (.inr (.inr (.inl h))))
      · exact .inr (.inr (.inr (.inr (.inr h))))
    have terms := adopted_terms same settled
    exact ⟨(congrArg Prod.fst terms :), (congrArg (fun x => x.2.1) terms :), (congrArg (fun x => x.2.2) terms :)⟩
  · have terms := adopted_terms same (.inr (.inr (.inl shifting)))
    exact ⟨(congrArg Prod.fst terms :).trans shifting, (congrArg (fun x => x.2.1) terms :), (congrArg (fun x => x.2.2) terms :),
      adopted_deferred same shifting imaged⟩
  · exact adopted_rests same state (PortRecord.findsNone_of_winner (free held released) hi (pin.symm.trans auto) lost)
  · have proposes := PortRecord.proposes_of_winner (r := (s.port p).readopted s.policy p) (free held released) hi (pin.symm.trans auto) won
    obtain ⟨⟨positive, level, -⟩, -⟩ := winner_spec won
    exact ⟨fun based => adopted_chose same based proposes ⟨i, c.level, hi, positive, level, rfl⟩,
      fun claimed => adopted_settlesOn same claimed proposes⟩
  · have proposes := PortRecord.proposes_of_pin (q := s.policy) (p := p) (r := (s.port p).readopted s.policy p) (free held released) hi
      (pin.symm.trans hn) positive level
    exact ⟨fun based => adopted_chose same based proposes ⟨i, l, hi, positive, level, rfl⟩,
      fun claimed => adopted_settlesOn same claimed proposes⟩

end

end Sys2Proof.Machine
end

/-! # An evaluation leaves nothing to do (R108 to R110) -/

section
namespace Sys2Proof.Machine

section
variable {s t u v : State} {x y z : Connector} {n : Nat} {pages : Bool}

/-- What an evaluation looks at is the same. -/
structure State.viewSame (s t : State) : Prop where
  state : t.path.state = s.path.state
  pin : t.path.pin = s.path.pin
  eligible : ∀ x, t.eligible x = s.eligible x
  rest : ∀ x, t.atRest x = s.atRest x
  score : ∀ x, t.liveScore x = s.liveScore x
  dead : t.meas.dead = s.meas.dead
  margin : t.policy.switchMargin = s.policy.switchMargin

theorem State.pathEvaluated_congr (same : s.viewSame t) (h : s.pathEvaluated) : t.pathEvaluated := by
  unfold State.pathEvaluated at *
  simp only [same.state, same.pin, same.eligible, same.rest, same.score, same.dead, same.margin]
  exact h

theorem State.Quiet.viewSame (quiet : s.Quiet t) : s.viewSame t where
  state := quiet.state
  pin := quiet.pin
  dead := quiet.dead
  margin := by rw [quiet.policy]
  score x := by rw [State.liveScore, quiet.live x, quiet.policy, State.liveScore]
  eligible := quiet.eligible
  rest x := by
    cases x with
    | line p => exact quiet.field p (fun r => decide (r.state = .base) || decide (r.state = .bound)) fun _ => rfl
    | barrel => exact (congrArg (fun b => decide (b.state = .bound)) quiet.barrel :)

/-- Owners that report nothing leave what an evaluation looks at (R82). -/
theorem State.viewSame_of_silent (path : t.path = s.path) (dead : t.meas.dead = s.meas.dead) (policy : t.policy = s.policy)
    (silent : ∀ x, ownerReports s t x = false) : s.viewSame t where
  state := by rw [path]
  pin := by rw [path]
  dead := dead
  margin := by rw [policy]
  eligible x := by
    cases fit : s.eligible x with
    | true =>
      by_contra lost
      rw [Bool.not_eq_true] at lost
      have := ownerReports_of_lost path fit lost
      rw [silent x] at this
      cases this
    | false =>
      by_contra gained
      rw [Bool.not_eq_false] at gained
      have quiet := silent x
      have back : ownerReports t s x = true := ownerReports_of_lost path.symm gained fit
      cases x with
      | line p =>
        simp only [ownerReports, Bool.or_eq_false_iff, decide_eq_false_iff_not, not_not] at quiet
        obtain ⟨⟨⟨state, live⟩, released⟩, fault⟩ := quiet
        simp [ownerReports, state, live, released, fault] at back
      | barrel =>
        simp only [ownerReports, Bool.or_eq_false_iff, decide_eq_false_iff_not, not_not] at quiet
        obtain ⟨⟨⟨⟨state, live⟩, released⟩, fault⟩, stored⟩ := quiet
        simp only [State.eligible, Barrel.eligible, Bool.and_eq_true] at gained
        obtain ⟨⟨⟨lives, -⟩, -⟩, -⟩ := gained
        rw [lives, Bool.true_and, decide_eq_false_iff_not, not_not] at stored
        simp [ownerReports, state, live, released, fault, stored] at back
  rest x := by
    have quiet := silent x
    cases x with
    | line p =>
      simp only [ownerReports, Bool.or_eq_false_iff, decide_eq_false_iff_not, not_not] at quiet
      obtain ⟨⟨⟨state, -⟩, -⟩, -⟩ := quiet
      simp only [State.atRest]
      generalize (t.port p).state = a at state
      generalize (s.port p).state = b at state
      cases a <;> cases b <;> simp_all [PortState.reported]
    | barrel =>
      simp only [ownerReports, Bool.or_eq_false_iff, decide_eq_false_iff_not, not_not] at quiet
      obtain ⟨⟨⟨⟨state, -⟩, -⟩, -⟩, -⟩ := quiet
      simp only [State.atRest]
      generalize t.barrel.state = a at state
      generalize s.barrel.state = b at state
      cases a <;> cases b <;> simp_all [BarrelState.reported]
  score x := by
    have quiet := silent x
    have live : t.live x = s.live x := by
      cases x with
      | line p =>
        simp only [ownerReports, Bool.or_eq_false_iff, decide_eq_false_iff_not, not_not] at quiet
        exact quiet.1.1.2.symm
      | barrel =>
        simp only [ownerReports, Bool.or_eq_false_iff, decide_eq_false_iff_not, not_not] at quiet
        exact quiet.1.1.1.2.symm
    rw [State.liveScore, live, policy, State.liveScore]

theorem State.pathEvaluated_of_opening (h : s.path.state = .opening y) : s.pathEvaluated := by
  refine ⟨fun idle => ?_, fun z closing => ?_, fun z closed => ?_⟩
  · rw [h] at idle; cases idle
  · rw [h] at closing; cases closing
  · rw [h] at closed; cases closed

theorem State.pathEvaluated_of_closing (h : s.path.state = .closing y) (fit : s.eligible y = true) : s.pathEvaluated := by
  refine ⟨fun idle => ?_, fun z closing => ?_, fun z closed => ?_⟩
  · rw [h] at idle; cases idle
  · rw [h] at closing; cases closing; exact fit
  · rw [h] at closed; cases closed

/-- CLOSED with no challenger at rest: the pin does not challenge, and no leader is beyond the margin (R109). -/
theorem State.pathEvaluated_of_closed (h : s.path.state = .closed z) (fit : s.eligible z = true)
    (calm : ∀ y, s.challenger z = some y → s.atRest y = false) : s.pathEvaluated := by
  refine ⟨fun idle => ?_, fun z closing => ?_, fun w closed => ?_⟩
  · rw [h] at idle; cases idle
  · rw [h] at closing; cases closing
  rw [h] at closed
  cases closed
  refine ⟨fit, fun y ne eligible rest => ⟨fun pin => ?_, fun pin charged top => ?_⟩⟩
  · have chall : s.challenger z = some y := by
      rw [State.challenger, State.eligiblePin, pin]
      dsimp only
      rw [if_pos eligible]
      exact if_pos ne
    rw [calm y chall] at rest
    cases rest
  · by_contra beyond
    have chall : s.challenger z = some y := by
      cases pinned : s.eligiblePin with
      | none => exact State.challenger_leads pinned charged ne eligible (by omega) top
      | some x =>
        obtain ⟨his, fits⟩ := State.eligiblePin_eq_some pinned
        obtain rfl : x = z := (pin x his).resolve_right (by rw [fits]; simp)
        rw [State.challenger, pinned, charged]
        dsimp only
        rw [if_neg (by simp), if_neg (by simp), State.challengerByScore, State.leader_eq eligible top]
        exact if_pos ⟨ne, by omega⟩
    rw [calm y chall] at rest
    cases rest

theorem State.pathEvaluated_evaluatePath (s : State) : s.evaluatePath.pathEvaluated := by
  have lost : ∀ y, (s.losePath y).pathEvaluated := fun y =>
    State.pathEvaluated_of_opening (y := y) ((congrArg Path.state (s.losePath_path y) :))
  rw [State.evaluatePath]
  cases state : s.path.state with
  | idle =>
    dsimp only
    cases chosen : s.freshChoice with
    | none =>
      refine ⟨fun _ => State.freshChoice_eq_none chosen, fun z closing => ?_, fun z closed => ?_⟩
      · rw [state] at closing; cases closing
      · rw [state] at closed; cases closed
    | some y =>
      have fit : (s.enterClosing y).fit y := by
        have := State.fit_of_eligible (State.freshChoice_eq_some chosen).1
        cases y <;> exact this
      have closing : (s.enterClosing y).path.state = .closing y := rfl
      exact State.pathEvaluated_of_closing closing (State.eligible_of_fit fit (by rw [closing, PathState.holds_closing]; simp))
  | closing y =>
    dsimp only
    split
    next fit => exact State.pathEvaluated_of_closing state fit
    · exact lost y
  | closed z =>
    dsimp only
    split
    next fit =>
      unfold State.improve
      split
      next y chall =>
        split
        · exact State.pathEvaluated_of_opening (y := z) rfl
        next rest =>
          exact State.pathEvaluated_of_closed state fit fun w hw => by
            rw [chall] at hw
            cases hw
            simpa using rest
      next none =>
        exact State.pathEvaluated_of_closed state fit fun w hw => by
          rw [none] at hw
          cases hw
    · exact lost z
  | opening y => exact State.pathEvaluated_of_opening state

theorem State.pathEvaluated_evaluate (s : State) : s.evaluate.pathEvaluated :=
  State.pathEvaluated_congr (State.quiet_dropLostPrimary _).viewSame s.pathEvaluated_evaluatePath

/-- After an evaluated state, or in one, the reports leave an evaluated one. -/
theorem State.pathEvaluated_report (h : t.pathEvaluated ∨
    s.pathEvaluated ∧ t.path = s.path ∧ t.meas.dead = s.meas.dead ∧ t.policy = s.policy) : (s.report t).pathEvaluated := by
  have owners : (s.reportOwners t).pathEvaluated := by
    unfold State.reportOwners
    split
    · exact t.pathEvaluated_evaluate
    next silent =>
      rcases h with h | ⟨h, path, dead, policy⟩
      · exact h
      · refine State.pathEvaluated_congr (State.viewSame_of_silent path dead policy fun x => ?_) h
        by_contra reports
        rw [Bool.not_eq_false] at reports
        exact silent (List.any_eq_true.mpr ⟨x, by rcases x with (_ | _ | _) | _ <;> decide, reports⟩)
  have blind : ∀ {u v : State}, v.path = u.path → v.meas.dead = u.meas.dead → v.policy = u.policy → v.ports = u.ports → v.barrel = u.barrel →
      u.viewSame v := fun {u v} path dead policy ports barrel => by
    refine State.viewSame_of_silent path dead policy fun x => ?_
    cases x with
    | line p => simp [ownerReports, State.port, ports]
    | barrel => simp [ownerReports, barrel]
  unfold State.report
  dsimp only
  generalize s.reportOwners t = w at owners ⊢
  have droops : (connectors.foldl (fun u x => s.reportDroop u x) w).pathEvaluated := by
    generalize connectors = l
    induction l generalizing w with
    | nil => exact owners
    | cons x l ih =>
      refine ih _ ?_
      dsimp only [State.reportDroop]
      split
      · exact State.pathEvaluated_congr (blind rfl rfl rfl rfl rfl) owners
      · exact owners
  generalize connectors.foldl (fun u x => s.reportDroop u x) w = a at droops ⊢
  have same : a.viewSame (s.reportBudget a).recomputeProspect := by
    unfold State.reportBudget
    dsimp only
    split
    · split
      · exact blind rfl rfl rfl rfl rfl
      · exact blind rfl rfl rfl rfl rfl
    · exact blind rfl rfl rfl rfl rfl
  exact State.pathEvaluated_congr same droops

/-- What follows an evaluated state leaves one (R110). -/
theorem pathEvaluated_settle (n : Nat) (h : t.pathEvaluated) : (settle false n s t).pathEvaluated :=
  settle_relates (pages := false) (P := State.pathEvaluated)
    (Q := fun s t => t.pathEvaluated ∨ s.pathEvaluated ∧ t.path = s.path ∧ t.meas.dead = s.meas.dead ∧ t.policy = s.policy)
    (fun _ _ h => State.pathEvaluated_report h)
    (fun u p h => .inr ⟨h, by rw [State.apply_path, State.callSelection_path], by rw [State.apply_meas, State.callSelection_meas],
      by rw [State.apply_policy, State.callSelection_policy]⟩) n (.inl h)

theorem adopted_pathEvaluated (s : State) (old : Policy) : (s.adopted old).pathEvaluated :=
  pathEvaluated_settle _ (State.pathEvaluated_evaluate _)

end

end Sys2Proof.Machine
end

/-! # The path through the steps of an adoption (R121, R172) -/

section
namespace Sys2Proof.Machine

section
variable {P : State → Prop} {s t u v : State} {x y : Connector} {p o : LinePort} {old : Policy} {a b : Path}

/-! ### A connector under watch -/

/-- What the path and the figures see of a port record. -/
def PortRecord.badge (r : PortRecord) : PortState × Option Contract × Bool × Bool := (r.state, r.live, r.released, r.pathFault)

/-- What the path and the figures see of a connector is the same. -/
structure State.ownerSame (x : Connector) (s t : State) : Prop where
  path : t.path = s.path
  policy : t.policy = s.policy
  reg : t.reg = s.reg
  line : ∀ p, x = .line p → (t.port p).badge = (s.port p).badge
  barrel : x = .barrel → t.barrel = s.barrel

/-- A predicate on the path, the regulator and one connector, that an event of another connector keeps. -/
structure Watching (x : Connector) (P : State → Prop) : Prop extends Trailing P where
  congr : ∀ u v, State.ownerSame x u v → P u → P v

/-- The records and the regulator are the same. -/
theorem State.ownerSame_of (path : t.path = s.path) (policy : t.policy = s.policy) (reg : t.reg = s.reg) (ports : t.ports = s.ports)
    (barrel : t.barrel = s.barrel) : State.ownerSame x s t :=
  ⟨path, policy, reg, fun p _ => by rw [State.port, ports, State.port], fun _ => barrel⟩

theorem State.ownerSame_setPort (s : State) (p : LinePort) (r : PortRecord) (same : x ≠ .line p ∨ r.badge = (s.port p).badge) :
    State.ownerSame x s (s.setPort p r) := by
  refine ⟨rfl, rfl, rfl, fun o e => ?_, fun _ => rfl⟩
  by_cases here : o = p
  · subst here
    rw [State.port_setPort_self]
    exact same.resolve_left fun ne => ne e
  · rw [State.port_setPort_of_ne s r here]

theorem State.ownerSame_moved (ne : y ≠ x) (k : Tracker) (b : Bool) : State.ownerSame x s ((s.setTracker y k).ownerSettling y b) := by
  cases y with
  | line p =>
    have others := State.ownerSame_setPort (x := x) (s.setTracker (.line p) k) p
      { s.port p with state := if b then .settling else .empty } (.inl ne.symm)
    exact ⟨rfl, rfl, rfl, others.line, fun _ => rfl⟩
  | barrel => exact ⟨rfl, rfl, rfl, fun _ _ => rfl, fun e => absurd e.symm ne⟩

theorem State.ownerSame_detached (ne : y ≠ x) : State.ownerSame x s (s.detached y) := by
  cases y with
  | line p =>
    refine ⟨by simp [State.detached], s.detached_policy _, s.detached_reg _, fun o e => ?_, fun _ => by simp [State.detached]⟩
    have other : o ≠ p := fun here => ne (by rw [e, here])
    obtain ⟨c, e', -, others, -⟩ := s.detached_line p
    have dropped := (State.served_dropLine c p).port o
    rw [← e', others o other] at dropped
    exact (congrArg PortRecord.badge dropped :)
  | barrel =>
    exact ⟨by simp [State.detached], s.detached_policy _, s.detached_reg _, fun o _ => by simp [State.detached, State.port],
      fun e => absurd e.symm ne⟩

theorem State.ownerSame_adoptImages (u : State) (x : Connector) : State.ownerSame x u u.adoptImages := by
  obtain ⟨policy, -, -, -, -, barrel, path, -, reg⟩ := u.adoptImages_same
  refine ⟨path, policy, reg, fun p _ => ?_, fun _ => barrel⟩
  obtain ⟨f, e, -⟩ := u.port_adoptImages p
  rw [e]
  rfl

section
variable (watching : Watching x P)
include watching

/-- The turn of another connector in the trackers' step. -/
theorem Watching.enableChange (ne : y ≠ x) (h : P u) : P (u.enableChange old y) :=
  State.enableChange_keeps (fun v => watching.congr v _ (State.ownerSame_moved ne _ _))
    (fun v => watching.congr v _ (State.ownerSame_moved ne _ _))
    (fun v h => watching.settlesWithin (watching.congr v _ (State.ownerSame_detached ne) h)) u h

theorem Watching.adoptMeasurement (h : P u) : P u.adoptMeasurement := by
  unfold State.adoptMeasurement
  dsimp only
  split
  · exact watching.settlesWithin (watching.congr u _ (State.ownerSame_of rfl rfl rfl rfl rfl) h)
  · exact watching.congr u _ (State.ownerSame_of rfl rfl rfl rfl rfl) h

theorem Watching.adoptBarrel_other (ne : x ≠ .barrel) (h : P u) : P u.adoptBarrel := by
  unfold State.adoptBarrel
  split
  · exact h
  · exact watching.settlesWithin (watching.congr u _
      ⟨by simp, by simp, by simp, fun _ _ => by simp [State.port], fun e => absurd e ne⟩ h)

theorem Watching.adoptCall (o : LinePort) (h : P u) : P (u.adoptCall o) :=
  watching.toTrailing.adoptCall (watching.congr u _ (State.ownerSame_setPort u o _ (.inr rfl)) h)

theorem Watching.adoptNegotiation (h : P u) : P u.adoptNegotiation :=
  watching.adoptCall _ (watching.adoptCall _ (watching.adoptCall _ h))

/-- The steps after D's. -/
theorem Watching.late (h : P u) : P u.adoptSelector.adoptNegotiation.adoptPath :=
  watching.settlesWithin (watching.evaluate _ (watching.adoptNegotiation
    (watching.settlesWithin (watching.congr u _ (u.ownerSame_adoptImages x) h))))

end

/-- An adoption, with the connector's own turns in the trackers' step and in D's. -/
theorem Watching.adopted {Q : State → Prop} (early : Watching x P) (late : Watching x Q) (own : ∀ u : State, P u → P (u.enableChange old x))
    (barrel : ∀ u : State, P u → Q u.adoptBarrel) (h : P s) : Q (s.adopted old) := by
  refine late.late (barrel _ (early.adoptMeasurement (State.adoptTrackers_keeps (fun u y hu => ?_) h)))
  by_cases here : y = x
  · subst here
    exact own u hu
  · exact early.enableChange here hu

/-! ### The path alone -/

theorem watching_path {Q : Path → Prop} (x : Connector) (evaluate : ∀ u : State, Q u.path → Q u.evaluate.path) :
    Watching x fun u => Q u.path where
  toTrailing := .of_path evaluate
  congr u v same h := by rw [same.path]; exact h

/-- A predicate that holds no connector in view stands after an adoption. -/
theorem Watching.stands (watching : ∀ x, Watching x P) (h : P s) : P (s.adopted old) :=
  (watching (.line .a)).adopted (watching (.line .a)) (fun _ => (watching .barrel).enableChange (by simp))
    (fun _ => (watching (.line .a)).adoptBarrel_other (by simp)) h

/-- A path that opens, opens on (R117). -/
theorem adopted_opening (h : s.path.state = .opening y) : (s.adopted old).path.sansFlight = s.path.sansFlight :=
  Watching.stands (P := fun u => u.path.sansFlight = s.path.sansFlight) (fun x => watching_path (Q := fun a => a.sansFlight = s.path.sansFlight) x fun u hu => by
    have opening : u.path.state = .opening y := (congrArg Path.state (show u.path.sansFlight = _ from hu) :).trans h
    rw [State.evaluate_opening opening, hu]) rfl

/-- A path that is CLOSING or CLOSED on a connector stays, or opens with the new break. -/
def State.staysOr (s : State) (y : Connector) (u : State) : Prop :=
  u.path.sansFlight = s.path.sansFlight ∨ u.path.sansFlight = s.openedPath y

theorem State.staysOr_evaluate (held : s.path.state = .closing y ∨ s.path.state = .closed y) (policy : u.policy = s.policy)
    (h : s.staysOr y u) : s.staysOr y u.evaluate := by
  rcases h with same | opened
  · have opens : ∀ x, (u.path.state = .closing x ∨ u.path.state = .closed x) → u.openedPath x = s.openedPath y := fun x his => by
      have state : u.path.state = s.path.state := (congrArg Path.state same :)
      have switches : u.path.switches = s.path.switches := (congrArg Path.switches same :)
      have here : x = y := by
        rw [state] at his
        rcases held with e | e <;> rw [e] at his <;> rcases his with k | k <;> cases k <;> rfl
      subst here
      have masked : ∀ w : State, w.openedPath x = { w.path.sansFlight with
          state := .opening x, switches := w.path.switches.set x false, softStart := none, checkDeferred := false
          breakTimer := some w.policy.breakMs } := fun _ => rfl
      rw [masked u, masked s, same, switches, policy]
    rcases u.evaluate_path_cases with e | ⟨idle, -⟩ | ⟨x, his, -, e⟩ | ⟨x, -, closed, -, -, -, e⟩
    · exact .inl (e.trans same)
    · rw [show u.path.state = s.path.state from (congrArg Path.state same :)] at idle
      rcases held with e | e <;> rw [e] at idle <;> cases idle
    · exact .inr (e.trans (opens x his))
    · exact .inr (e.trans (opens x (.inr closed)))
  · have opening : u.path.state = .opening y := (congrArg Path.state opened :)
    exact .inr ((State.evaluate_opening opening).trans opened)

theorem watching_staysOr (x : Connector) (held : s.path.state = .closing y ∨ s.path.state = .closed y) :
    Watching x fun u => s.staysOr y u ∧ u.policy = s.policy where
  toTrailing := (trailing_policy s.policy).with_path
    (Q := fun a => a.sansFlight = s.path.sansFlight ∨ a.sansFlight = s.openedPath y) fun u policy h => State.staysOr_evaluate held policy h
  congr u v same h := ⟨by rw [State.staysOr, same.path]; exact h.1, same.policy.trans h.2⟩

theorem adopted_staysOr (held : s.path.state = .closing y ∨ s.path.state = .closed y) : s.staysOr y (s.adopted old) :=
  (Watching.stands (fun x => watching_staysOr x held) ⟨.inl rfl, rfl⟩).1

/-! ### A connector that is lost stays lost -/

/-- The connector is not attached, or, once D is reclassified, D is UNUSABLE: an adoption does not make it eligible again. -/
def State.astray (judged : Bool) (s : State) : Connector → Prop
  | .line p => (s.port p).state = .empty ∨ (s.port p).state = .settling
  | .barrel => s.barrel.state = .empty ∨ s.barrel.state = .settling ∨ judged = true ∧ s.barrel.state = .unusable

theorem State.astray_ineligible {j : Bool} (h : s.astray j x) : s.eligible x = false := by
  cases x with
  | line p => rcases h with e | e <;> simp [State.eligible, e, portStateEligible]
  | barrel => rcases h with e | e | ⟨-, e⟩ <;> simp [State.eligible, Barrel.eligible, e]

theorem watching_astray (j : Bool) (x : Connector) : Watching x fun u => u.astray j x where
  toTrailing := by
    cases x with
    | barrel =>
      exact .of_owners (fun u v same h => by simpa only [State.astray, same.barrel] using h) fun u o h => by
        simpa only [State.astray, State.apply_barrel, State.callSelection_barrel] using h
    | line p =>
      exact .of_record (R := fun r => r.state = .empty ∨ r.state = .settling) p
        (fun r w same h => by rw [show w.state = r.state from (congrArg PortRecord.state same).symm]; exact h) fun q r w calls h => by
          rcases calls.state with same | ⟨selects, -⟩
          · rw [same]
            exact h
          · rcases h with e | e <;> rw [e] at selects <;> cases selects
  congr u v same h := by
    cases x with
    | barrel => simpa only [State.astray, same.barrel rfl] using h
    | line p => rw [State.astray, show (v.port p).state = (u.port p).state from congrArg Prod.fst (same.line p rfl)]; exact h

theorem watching_closing (closing : a.state = .closing y) : Watching y fun u => u.path.sansFlight = a ∧ u.fit y where
  toTrailing := trailing_closing closing
  congr u v same h := by
    refine ⟨by rw [same.path]; exact h.1, ?_⟩
    cases y with
    | barrel => rw [State.fit, same.barrel rfl]; exact h.2
    | line p =>
      have badge := same.line p rfl
      rw [State.fit, show (v.port p).state = (u.port p).state from congrArg Prod.fst badge,
        show (v.port p).released = (u.port p).released from congrArg (fun b => b.2.2.1) badge,
        show (v.port p).pathFault = (u.port p).pathFault from congrArg (fun b => b.2.2.2) badge]
      exact h.2

theorem Trailing.or {Q : State → Prop} (h : Trailing P) (k : Trailing Q) : Trailing fun u => P u ∨ Q u where
  evaluate u := .imp (h.evaluate u) (k.evaluate u)
  droop u x := .imp (h.droop u x) (k.droop u x)
  budget u := .imp (h.budget u) (k.budget u)
  left u := .imp (h.left u) (k.left u)
  prospect u v := .imp (h.prospect u v) (k.prospect u v)
  page u x := .imp (h.page u x) (k.page u x)
  call u p := .imp (h.call u p) (k.call u p)

theorem Watching.or {Q : State → Prop} (h : Watching x P) (k : Watching x Q) : Watching x fun u => P u ∨ Q u where
  toTrailing := h.toTrailing.or k.toTrailing
  congr u v same := .imp (h.congr u v same) (k.congr u v same)

/-- A connector whose tracker an adoption moves is not attached after. -/
theorem State.enableChange_astray (u : State) (old : Policy) (x : Connector) :
    u.enableChange old x = u ∨ (u.enableChange old x).astray false x := by
  rcases u.enableChange_cases old x with ⟨-, -, -, e⟩ | ⟨-, -, -, e⟩ | ⟨-, -, -, -, e⟩ | ⟨e, -⟩
  · rw [e]
    cases x with
    | line p => exact .inr (.inl (u.moved_state p _ false))
    | barrel => exact .inr (.inl rfl)
  · rw [e]
    refine .inr ((watching_astray false x).settlesWithin ?_)
    cases x with
    | line p => exact .inl (by rw [(u.gone_detached p).1]; rfl)
    | barrel => exact .inl (by rw [u.detached_barrel_cleared]; rfl)
  · rw [e]
    cases x with
    | line p => exact .inr (.inr (u.moved_state p _ true))
    | barrel => exact .inr (.inr (.inl rfl))
  · exact .inl e

/-- A path that closes on a connector eligible at first runs on, or the connector is lost for good (R172). -/
theorem adopted_closing (closing : s.path.state = .closing y) (fit : s.eligible y = true) :
    (s.adopted old).path.sansFlight = s.path.sansFlight ∨ (s.adopted old).eligible y = false := by
  have watched : ∀ j, Watching y fun u => u.astray j y ∨ u.path.sansFlight = s.path.sansFlight ∧ u.fit y := fun j =>
    (watching_astray j y).or (watching_closing closing)
  have after := (watched false).adopted (old := old) (watched true) (fun u hu => by
      rcases u.enableChange_astray old y with e | lost
      · rw [e]
        exact hu
      · exact .inl lost) (fun u hu => ?_) (.inr ⟨rfl, State.fit_of_eligible fit⟩)
  · exact after.symm.imp And.left State.astray_ineligible
  · have late : ∀ {v : State}, v.astray false y ∨ v.path.sansFlight = s.path.sansFlight ∧ v.fit y →
        v.astray true y ∨ v.path.sansFlight = s.path.sansFlight ∧ v.fit y := fun {v} h => by
      refine h.imp_left fun lost => ?_
      cases y with
      | line p => exact lost
      | barrel => exact lost.imp_right (.imp_right fun h => by cases h.1)
    by_cases here : y = .barrel
    · subst here
      unfold State.adoptBarrel
      split
      · exact late hu
      refine (watched true).settlesWithin ?_
      rcases u.barrelAdopt_cases with ⟨i, ⟨judged, -, -⟩, e⟩ | ⟨-, e⟩
      · rcases hu with lost | ⟨path, fits⟩
        · rw [State.barrelAdopt_of_unjudged (lost.imp_right (Or.rec id fun h => by cases h.1))]
          exact late (.inl lost)
        · have outcome : u.barrelAdopt.barrel = (u.reclassified i).barrel := by rw [e]
          rw [State.reclassified, State.barrelOutcome_barrel] at outcome
          have fits : u.barrel.eligible = true := fits
          simp only [Barrel.eligible, Bool.and_eq_true, Bool.not_eq_true'] at fits
          obtain ⟨⟨-, released⟩, -⟩ := fits
          cases cause : u.policy.barrelCause i.volts (u.policy.identified i.average).2 with
          | none =>
            rw [cause] at outcome
            refine .inr ⟨by rw [State.barrelAdopt_path]; exact path, ?_⟩
            rw [State.fit, outcome]
            simp [Barrel.eligible, released]
          | some c =>
            rw [cause] at outcome
            exact .inl (.inr (.inr ⟨rfl, by rw [outcome]⟩))
      · rw [e]
        exact late hu
    · exact late ((watched false).adoptBarrel_other here hu)

/-! ### The path (R121, R172) -/

theorem adopted_pin_path (s : State) (old : Policy) :
    (s.adopted old).path.pin = s.path.pin ∧ (s.adopted old).path.lastPrimary = s.path.lastPrimary := by
  refine ⟨(congrArg (fun u => u.path.pin) (s.frame_adopted old) :), Watching.stands (P := fun u => u.path.lastPrimary = s.path.lastPrimary)
    (fun x => ⟨trailing_lastPrimary _, fun u v same h => by rw [same.path]; exact h⟩) rfl⟩

theorem State.adoptedPath_of (policy : t.policy = s.policy) (pin : t.path.pin = s.path.pin)
    (last : t.path.lastPrimary = s.path.lastPrimary) (evaluated : t.pathEvaluated)
    (opening : ∀ y, s.path.state = .opening y → t.path.sansFlight = s.path.sansFlight)
    (stays : ∀ y, s.path.state = .closing y ∨ s.path.state = .closed y → s.staysOr y t)
    (closing : ∀ y, s.path.state = .closing y → s.eligible y = true → t.path.sansFlight = s.path.sansFlight ∨ t.eligible y = false) :
    s.adoptedPath t := by
  have opens : ∀ y, t.path.sansFlight = s.openedPath y → t.path.state = .opening y ∧ t.path.switches = s.path.switches.set y false ∧
      t.path.breakTimer = some t.policy.breakMs := fun y same =>
    ⟨(congrArg Path.state same :), (congrArg Path.switches same :), by rw [policy]; exact (congrArg Path.breakTimer same :)⟩
  have state : t.path.sansFlight = s.path.sansFlight → t.path.state = s.path.state := fun same => (congrArg Path.state same :)
  have switches : t.path.sansFlight = s.path.sansFlight → t.path.switches = s.path.switches := fun same => (congrArg Path.switches same :)
  refine ⟨pin, last, evaluated, fun y his => ?_, fun y his fit => ⟨fun still => ?_, fun lost => ?_⟩, fun z his fit => ⟨?_, fun lost => ?_⟩⟩
  · have same := opening y his
    exact ⟨(state same).trans his, switches same, (congrArg Path.breakTimer same :)⟩
  · rcases closing y his fit with same | lost
    · exact ⟨(state same).trans his, switches same, (congrArg Path.softStart same :), (congrArg Path.checkDeferred same :)⟩
    · rw [lost] at still
      cases still
  · rcases stays y (.inl his) with same | opened
    · have := evaluated.2.1 y ((state same).trans his)
      rw [lost] at this
      cases this
    · exact opens y opened
  · rcases stays z (.inr his) with same | opened
    · exact .inl ⟨(state same).trans his, switches same⟩
    · exact .inr (opens z opened)
  · rcases stays z (.inr his) with same | opened
    · have := (evaluated.2.2 z ((state same).trans his)).1
      rw [lost] at this
      cases this
    · exact opens z opened

/-- The path after an adoption (R121, R172). -/
theorem adopted_path (s : State) (old : Policy) : s.adoptedPath (s.adopted old) :=
  State.adoptedPath_of (s.policy_adopted old) (adopted_pin_path s old).1 (adopted_pin_path s old).2 (adopted_pathEvaluated s old)
    (fun _ => adopted_opening) (fun _ => adopted_staysOr) fun _ => adopted_closing

end

end Sys2Proof.Machine
end

/-! # The regulator and its target after an adoption (R141, R155, R160) -/

section
namespace Sys2Proof.Machine

section
variable {P Q : State → Prop} {s t u v : State} {x y z : Connector} {p o : LinePort} {old : Policy}

/-! ### The counts and the output -/

/-- An event leaves the path state, or leaves the path not CLOSED. -/
def State.narrows (s t : State) : Prop := t.path.state = s.path.state ∨ t.pathClosed = false

theorem State.narrows.trans (h : s.narrows t) (k : t.narrows u) : s.narrows u := by
  rcases k with same | opened
  · rcases h with same' | opened
    · exact .inl (same.trans same')
    · exact .inr ((State.pathClosed_congr same).trans opened)
  · exact .inr opened

theorem State.narrows_evaluate (s : State) : s.narrows s.evaluate := by
  have opens : ∀ {a : Path}, s.evaluate.path.sansFlight = a → a.state.primary = none → s.evaluate.pathClosed = false := fun {a} e none => by
    rw [State.pathClosed, show s.evaluate.path.state = a.state from (congrArg Path.state e :), none]
    rfl
  rcases s.evaluate_path_cases with e | ⟨-, y, -, e⟩ | ⟨x, -, -, e⟩ | ⟨x, -, -, -, -, -, e⟩
  · exact .inl (congrArg Path.state e :)
  · exact .inr (opens e rfl)
  · exact .inr (opens e rfl)
  · exact .inr (opens e rfl)

theorem State.narrows_reportOwners (s t : State) : t.narrows (s.reportOwners t) := by
  unfold State.reportOwners
  split
  · exact t.narrows_evaluate
  · exact .inl rfl

/-- What a path that left CLOSED makes of the counts and the output, between the first state of an adoption and another (R155). -/
structure State.counts (s u : State) : Prop where
  closed : u.pathClosed = true → s.pathClosed = true ∧ u.reg.output = s.reg.output ∧ u.reg.iacc = s.reg.iacc
  same : u.pathClosed = s.pathClosed → u.reg.transfer = s.reg.transfer ∧ u.reg.overdraw = s.reg.overdraw
  left : s.pathClosed = true → u.pathClosed = false → u.reg.transfer = false ∧ u.reg.overdraw = 0

theorem State.counts.of_rest (h : s.counts u) (reg : v.reg = u.reg) (path : v.path.state = u.path.state) : s.counts v := by
  have closed := State.pathClosed_congr path
  exact ⟨by rw [closed, reg]; exact h.closed, by rw [closed, reg]; exact h.same, by rw [closed, reg]; exact h.left⟩

theorem State.counts_report (h : s.counts u) (reg : v.reg = u.reg) (narrows : u.narrows v) : s.counts (u.report v) := by
  have narrows := narrows.trans (u.narrows_reportOwners v)
  have path := State.pathClosed_congr (congrArg Path.state (u.report_path v))
  rcases narrows with same | opened
  · have stays : leftClosed u (u.reportOwners v) = false := by simp [leftClosed, same]
    have closed := path.trans (State.pathClosed_congr same)
    have kept : ∀ {α : Type} (f : Regulator → α), (∀ r n, f (Regulator.setTarget r n) = f r) → f (u.report v).reg = f u.reg := fun f target => by
      rw [State.report_reg, stays, reg]
      split
      · exact target _ _
      · rfl
    have transfer := kept Regulator.transfer fun _ _ => rfl
    have overdraw := kept Regulator.overdraw fun _ _ => rfl
    refine ⟨?_, ?_, ?_⟩
    · rw [closed, kept Regulator.output fun _ _ => rfl, kept Regulator.iacc fun _ _ => rfl]
      exact h.closed
    · rw [closed, transfer, overdraw]
      exact h.same
    · rw [closed, transfer, overdraw]
      exact h.left
  · have now := path.trans opened
    refine ⟨fun closed => ?_, fun same => ?_, fun was _ => ?_⟩
    · rw [now] at closed
      cases closed
    · have before : u.pathClosed = false := by
        cases closed : u.pathClosed with
        | false => rfl
        | true =>
          rw [now, (h.closed closed).1] at same
          cases same
      have stays : leftClosed u (u.reportOwners v) = false := by rw [leftClosed, before, Bool.false_and]
      rw [State.report_reg, stays, reg]
      have start := h.same (before.trans (now.symm.trans same))
      split
      · exact start
      · exact start
    · have waits := State.report_waits (s := u) (t := v) (W := Regulator.uncounted) (fun _ _ _ h => h) Regulator.uncounted_pathLeft
        (fun before => by
          rw [reg]
          obtain ⟨transfer, overdraw⟩ := h.left was before
          exact ⟨overdraw, transfer⟩) now
      exact ⟨waits.2, waits.1⟩

theorem counts_settle (n : Nat) (h : s.counts u) (reg : v.reg = u.reg) (narrows : u.narrows v) : s.counts (settle false n u v) :=
  settle_relates (pages := false) (P := fun w => s.counts w) (Q := fun u v => s.counts u ∧ v.reg = u.reg ∧ u.narrows v)
    (fun _ _ ⟨h, reg, narrows⟩ => State.counts_report h reg narrows)
    (fun u p h => ⟨h, by rw [State.apply_reg, State.callSelection_reg], .inl (by rw [State.apply_path, State.callSelection_path])⟩)
    n ⟨h, reg, narrows⟩

theorem State.detached_path (u : State) (x : Connector) : (u.detached x).path = u.path := by cases x <;> simp [State.detached]

theorem stages_counts (s : State) : Stages s.counts where
  measurement u h := by
    have cleared : s.counts (u.withMeas { u.meas with droop := ⟨0, 0, 0, 0⟩ }) := h.of_rest rfl rfl
    unfold State.adoptMeasurement
    dsimp only
    split
    · exact counts_settle _ cleared rfl (.inl rfl)
    · exact cleared
  barrel u h := by
    unfold State.adoptBarrel
    split
    · exact h
    · exact counts_settle _ h (by simp) (.inl (by simp))
  selector u h := by
    obtain ⟨-, -, -, -, -, -, path, -, reg⟩ := u.adoptImages_same
    exact counts_settle _ h reg (.inl (by rw [path]))
  call u p h := counts_settle _ h (by simp) (.inl (by simp))
  path u h := counts_settle _ h (by simp) u.narrows_evaluate

theorem adopted_counts (s : State) (old : Policy) : s.counts (s.adopted old) :=
  (stages_counts s).adopted (State.adoptTrackers_keeps (P := s.counts) (fun u x h =>
    State.enableChange_keeps (P := s.counts) (fun v h => h.of_rest (by cases x <;> rfl) (by cases x <;> rfl))
      (fun v h => h.of_rest (by cases x <;> rfl) (by cases x <;> rfl))
      (fun v h => counts_settle _ h (v.detached_reg x) (.inl (by rw [State.detached_path]))) u h)
    ⟨fun closed => ⟨closed, rfl, rfl⟩, fun _ => ⟨rfl, rfl⟩, fun closed opened => by rw [closed] at opened; cases opened⟩)

/-! ### SPf -/

/-- What bears on the target of a line port (R141). -/
def PortRecord.source (r : PortRecord) : Option Contract × Bool := (r.live.map Contract.unshared, decide (r.state = .shifting))

/-- The target while the path is CLOSED on a line port with that record (R141). -/
def PortRecord.feed (q : Policy) (p : LinePort) (r : PortRecord) : Nat :=
  match r.live with
  | some c => budgetOf q (.line p) c (decide (r.state = .shifting))
  | none => 0

theorem PortRecord.feed_of_source {q : Policy} {r w : PortRecord} (same : w.source = r.source) : w.feed q p = r.feed q p := by
  have live : w.live.map Contract.unshared = r.live.map Contract.unshared := congrArg Prod.fst same
  have shifting : decide (w.state = .shifting) = decide (r.state = .shifting) := congrArg Prod.snd same
  unfold PortRecord.feed
  rw [shifting]
  cases hw : w.live <;> cases hr : r.live <;> rw [hw, hr] at live
  · cases live
  · cases live
  next c d =>
    have same : c.unshared = d.unshared := Option.some.inj live
    have limit : c.limit = d.limit := (congrArg Contract.limit same :)
    have volts : c.volts = d.volts := (congrArg Contract.volts same :)
    simp only [budgetOf, budgetRaw, limit, volts]

theorem State.budget_of_closed (closed : u.path.state = .closed (.line p)) : u.budget = (u.port p).feed u.policy p := by
  rw [State.budget, closed]
  rfl

theorem watching_source (p : LinePort) (a : Option Contract × Bool) : Watching (.line p) fun u => (u.port p).source = a where
  toTrailing := .of_record (R := fun r => r.source = a) p (fun r w same h => (congrArg PortRecord.source same).symm.trans h)
    fun q r w calls h => by
      have shifting : decide (w.state = .shifting) = decide (r.state = .shifting) := by
        have moving : ∀ k : PortState, k.selects = true → k ≠ .shifting := fun k selects shifting => by
          rw [shifting] at selects
          cases selects
        rcases calls.state with same | ⟨before, after⟩
        · rw [same]
        · rw [decide_eq_false (moving _ after), decide_eq_false (moving _ before)]
      exact (Prod.ext calls.live.1 shifting).trans h
  congr u v same h := by
    have badge := same.line p rfl
    exact (congrArg (fun b : PortState × Option Contract × Bool × Bool => (b.2.1.map Contract.unshared, decide (b.1 = .shifting))) badge).trans h

/-- SPf, while the path is CLOSED on a line port that stays: as at first, or at the target of that port (R144). -/
def State.fed (s : State) (p : LinePort) (u : State) : Prop :=
  u.path.state ≠ .closed (.line p) ∨ u.astray false (.line p) ∨
    (u.port p).source = (s.port p).source ∧ (u.reg.spf = s.reg.spf ∨ u.reg.spf = min s.reg.spf ((s.port p).feed s.policy p))

theorem Regulator.spf_pathLeft (r : Regulator) (q : Policy) : (r.pathLeft q).spf = r.spf := by
  rw [Regulator.pathLeft_eq]
  split <;> rfl

/-- SPf never rises in an adoption (R142). -/
theorem watching_spf (x : Connector) (n : Nat) : Watching x fun u => u.reg.spf ≤ n where
  evaluate u h := by rwa [State.evaluate_reg]
  droop _ _ h := h
  budget u h := (Nat.min_le_left u.reg.spf u.budget).trans h
  left u h := (Regulator.spf_pathLeft u.reg u.policy).trans_le h
  prospect _ _ h := h
  page _ _ h := h
  call u p h := by rwa [State.apply_reg, State.callSelection_reg]
  congr u v same h := by rwa [same.reg]

theorem State.fed.of_trailing (h : s.fed p u) (narrows : u.narrows v) (reg : v.reg.spf = u.reg.spf)
    (astray : u.astray false (.line p) → v.astray false (.line p)) (source : (v.port p).source = (u.port p).source ∨ v.astray false (.line p)) :
    s.fed p v := by
  rcases h with open' | lost | ⟨same, spf⟩
  · refine .inl fun closed => ?_
    rcases narrows with state | opened
    · exact open' (state.symm.trans closed)
    · rw [State.pathClosed, closed] at opened
      cases opened
  · exact .inr (.inl (astray lost))
  · rcases source with keeps | lost
    · exact .inr (.inr ⟨keeps.trans same, by rw [reg]; exact spf⟩)
    · exact .inr (.inl lost)

theorem watching_fed (s : State) (p : LinePort) : Watching (.line p) fun u => s.fed p u ∧ u.policy = s.policy where
  evaluate u h := ⟨h.1.of_trailing u.narrows_evaluate (by rw [State.evaluate_reg]) (fun lost => (watching_astray _ _).evaluate u lost)
    (.inl (by rw [State.port, State.evaluate_ports]; rfl)), by rw [State.evaluate_policy]; exact h.2⟩
  droop _ _ h := h
  budget u h := by
    refine ⟨?_, h.2⟩
    by_cases closed : u.path.state = .closed (.line p)
    · rcases h.1 with open' | lost | ⟨same, spf⟩
      · exact absurd closed open'
      · exact .inr (.inl lost)
      · refine .inr (.inr ⟨same, .inr ?_⟩)
        show min u.reg.spf u.budget = _
        rw [State.budget_of_closed closed, PortRecord.feed_of_source same, h.2]
        rcases spf with e | e <;> rw [e]
        rw [Nat.min_assoc, Nat.min_self]
    · exact .inl closed
  left u h := ⟨h.1.of_trailing (.inl rfl) (Regulator.spf_pathLeft _ _) id (.inl rfl), h.2⟩
  prospect _ _ h := h
  page _ _ h := h
  call u o h := ⟨h.1.of_trailing (.inl (by rw [State.apply_path, State.callSelection_path]))
      (by rw [State.apply_reg, State.callSelection_reg]) (fun lost => (watching_astray _ _).call u o lost)
      (.inl ((watching_source p _).call u o rfl)), by rw [State.apply_policy, State.callSelection_policy]; exact h.2⟩
  congr u v same h := ⟨h.1.of_trailing (.inl (by rw [same.path])) (by rw [same.reg]) (fun lost => (watching_astray _ _).congr u v same lost)
    (.inl ((watching_source p _).congr u v same rfl)), same.policy.trans h.2⟩

theorem adopted_fed (s : State) (old : Policy) (p : LinePort) : s.fed p (s.adopted old) := by
  refine ((watching_fed s p).adopted (watching_fed s p) (fun u h => ?_) (fun u h => (watching_fed s p).adoptBarrel_other (by simp) h)
    ⟨.inr (.inr ⟨rfl, .inl rfl⟩), rfl⟩).1
  rcases u.enableChange_astray old (.line p) with e | lost
  · rw [e]
    exact h
  · exact ⟨.inr (.inl lost), (State.policy_of_frame (u.enableChange_frame old _)).trans h.2⟩

/-- SPf after an adoption that leaves the path CLOSED on a line port (R142, R144). -/
theorem adopted_spf (closed : (s.adopted old).path.state = .closed (.line p)) :
    min (s.adopted old).reg.spf (s.adopted old).budget = min s.reg.spf (s.adopted old).budget := by
  have fit := ((adopted_pathEvaluated s old).2.2 _ closed).1
  rcases adopted_fed s old p with open' | lost | ⟨same, spf⟩
  · exact absurd closed open'
  · rw [State.astray_ineligible lost] at fit
    cases fit
  · rw [State.budget_of_closed closed, PortRecord.feed_of_source same, s.policy_adopted old]
    rcases spf with e | e <;> rw [e]
    rw [Nat.min_assoc, Nat.min_self]

/-! ### The regulator (R160) -/

theorem State.adoptedRegulator_of (policy : t.policy = s.policy) (path : t.path = u.path)
    (reg : t.reg = (u.reg.setTarget u.budget).adopt s.policy u.pathClosed) (mode : u.reg.mode = s.reg.mode)
    (last : u.reg.lastPV = s.reg.lastPV) (saturation : u.reg.saturation = s.reg.saturation)
    (manual : u.reg.manualTarget = s.reg.manualTarget) (spf : u.reg.spf ≤ s.reg.spf) (counts : s.counts u)
    (fed : ∀ p, u.path.state = .closed (.line p) → min u.reg.spf u.budget = min s.reg.spf u.budget) : s.adoptedRegulator t := by
  have closed : t.pathClosed = u.pathClosed := State.pathClosed_congr (by rw [path])
  have fields : ∀ (r : Regulator) (q : Policy) (b : Bool), (r.adopt q b).mode = r.mode ∧ (r.adopt q b).lastPV = r.lastPV ∧
      (r.adopt q b).saturation = r.saturation ∧ (r.adopt q b).manualTarget = clampCount q r.manualTarget ∧
      (r.adopt q b).transfer = r.transfer ∧ (r.adopt q b).overdraw = r.overdraw ∧ (r.adopt q b).spf = r.spf ∧
      (r.adopt q b).spTarget = r.spTarget ∧ (r.mode = .off → (r.adopt q b).output = 0 ∧ (r.adopt q b).iacc = 0) ∧
      (r.mode ≠ .off → b = false → (r.adopt q b).output = q.satLo ∧ (r.adopt q b).iacc = (q.satLo : Int) * 256) ∧
      (r.mode ≠ .off → b = true → (r.adopt q b).output = clampCount q r.output ∧ (r.adopt q b).iacc = clampAcc q r.iacc) := fun r q b => by
    rcases r with ⟨_, _, _, _, mode, _, _, _, _, _⟩
    cases mode <;> cases b <;> simp [Regulator.adopt, Regulator.atSatLo]
  obtain ⟨modeF, lastF, satF, manualF, transferF, overdrawF, spfF, targetF, offF, openF, closedF⟩ :=
    fields (u.reg.setTarget u.budget) s.policy u.pathClosed
  rw [← reg] at modeF lastF satF manualF transferF overdrawF spfF targetF offF openF closedF
  rw [State.adoptedRegulator, closed, policy]
  have target : t.reg.spTarget = u.budget := targetF
  have filter : t.reg.spf = min u.reg.spf u.budget := spfF
  have transfer : t.reg.transfer = u.reg.transfer := transferF
  have overdraw : t.reg.overdraw = u.reg.overdraw := overdrawF
  refine ⟨modeF.trans mode, lastF.trans last, satF.trans saturation, manualF.trans ?_, ?_, ?_, fun p his => ?_,
    fun off => offF (mode.trans off), fun on opened => openF (fun off => on (mode.symm.trans off)) opened, fun on shut => ?_, fun same => ?_,
    fun was now => ?_⟩
  · show clampCount s.policy u.reg.manualTarget = _
    rw [manual]
    rfl
  · rw [filter]
    exact (Nat.min_le_left _ _).trans spf
  · rw [filter, target]
    exact Nat.min_le_right _ _
  · rw [filter, target]
    exact fed p (by rw [← path]; exact his)
  · obtain ⟨-, output, iacc⟩ := counts.closed shut
    obtain ⟨a, b⟩ := closedF (fun off => on (mode.symm.trans off)) shut
    refine ⟨a.trans ?_, b.trans ?_⟩
    · show clampCount s.policy u.reg.output = _
      rw [output]
      rfl
    · show clampAcc s.policy u.reg.iacc = _
      rw [iacc]
      rfl
  · rw [transfer, overdraw]
    exact counts.same same.symm
  · rw [transfer, overdraw]
    exact counts.left was now

theorem State.reg_of_frame (h : t.frame = s.frame) : t.reg.mode = s.reg.mode ∧ t.reg.lastPV = s.reg.lastPV ∧
    t.reg.saturation = s.reg.saturation ∧ t.reg.manualTarget = s.reg.manualTarget :=
  ⟨(congrArg (fun u => u.reg.mode) h :), (congrArg (fun u => u.reg.lastPV) h :), (congrArg (fun u => u.reg.saturation) h :),
    (congrArg (fun u => u.reg.manualTarget) h :)⟩

theorem adopted_regulator (s : State) (old : Policy) : s.adoptedRegulator (s.adopted old).adoptRegulator := by
  have policy := s.policy_adopted old
  have counts := adopted_counts s old
  have fed : ∀ p, (s.adopted old).path.state = .closed (.line p) → _ := fun p => adopted_spf
  have spf : (s.adopted old).reg.spf ≤ s.reg.spf := Watching.stands (fun x => watching_spf x _) (Nat.le_refl _)
  obtain ⟨mode, last, saturation, manual⟩ := State.reg_of_frame (s.frame_adopted old)
  generalize s.adopted old = u at *
  exact State.adoptedRegulator_of (u := u) policy rfl (by rw [State.adoptRegulator_reg, policy]) mode last saturation manual spf counts fed

theorem State.budgetOk_adoptRegulator (u : State) : u.adoptRegulator.budgetOk := (Regulator.adopt_filter _ _ _).2

end

end Sys2Proof.Machine
end

/-! # The records of an adoption that detaches a connector (R4, R116, R171) -/

section
namespace Sys2Proof.Machine

section
variable {P Q : State → Prop} {s t u v : State} {x y : Connector} {p : LinePort} {old : Policy} {held : Fin 8 → Prop}
  {l : List (Byte × Byte × List Byte)}

/-! ### Turns that detach nothing -/

/-- Trackers that are not attached have moved, with the state of their owners, and nothing else. -/
structure State.Reseated (s u : State) : Prop where
  adopts : ∀ held, s.Adopts held [] u
  path : u.path = s.path
  meas : u.meas = s.meas
  attached : ∀ x, u.attached x = s.attached x
  port : ∀ p, ∃ k, u.port p = { s.port p with state := k }
  line : ∀ p, s.attached (.line p) = true → u.port p = s.port p
  barrel : u.barrel = s.barrel ∨ s.attached .barrel = false ∧ (u.barrel.state = .empty ∨ u.barrel.state = .settling) ∧
    u.barrel.inFlight = s.barrel.inFlight

theorem State.Reseated.refl (s : State) : s.Reseated s :=
  ⟨fun _ => .refl s, rfl, rfl, fun _ => rfl, fun p => ⟨(s.port p).state, rfl⟩, fun _ _ => rfl, .inl rfl⟩

/-- The record of the owner of a connector whose tracker moves. -/
theorem State.Reseated.moved (h : s.Reseated u) (loose : u.attached y = false) (k : Tracker) (unattached : k.state ≠ .attached) (b : Bool) :
    s.Reseated ((u.setTracker y k).ownerSettling y b) where
  adopts held := ((h.adopts held).trans (u.adopts_setTracker y k)).trans (State.adopts_ownerSettling _ y b)
  path := by cases y <;> exact h.path
  meas := by cases y <;> exact h.meas
  attached x := by
    rw [← h.attached x]
    by_cases here : y = x
    · subst here
      rw [loose, State.attached, State.moved_tracker, decide_eq_false unattached]
    · rw [State.attached, State.moved_tracker_of_ne u here, ← State.attached]
  port p := by
    obtain ⟨a, e⟩ := h.port p
    cases y with
    | barrel => exact ⟨a, e⟩
    | line o =>
      by_cases here : o = p
      · subst here
        refine ⟨if b then .settling else .empty, ?_⟩
        show ((u.setTracker (.line o) k).setPort o _).port o = _
        rw [State.port_setPort_self, show (u.setTracker (.line o) k).port o = u.port o from rfl, e]
      · refine ⟨a, Eq.trans ?_ e⟩
        exact State.port_setPort_of_ne (u.setTracker (.line o) k) _ (Ne.symm here)
  line p seated := by
    cases y with
    | barrel => exact h.line p seated
    | line o =>
      have other : p ≠ o := by
        rintro rfl
        rw [h.attached, seated] at loose
        cases loose
      exact (State.port_setPort_of_ne (u.setTracker (.line o) k) _ other).trans (h.line p seated)
  barrel := by
    cases y with
    | line o => exact h.barrel
    | barrel =>
      refine .inr ⟨(h.attached .barrel).symm.trans loose, by cases b <;> simp [State.ownerSettling], ?_⟩
      have flight : u.barrel.inFlight = s.barrel.inFlight := by
        rcases h.barrel with e | ⟨-, -, e⟩
        · rw [e]
        · exact e
      exact flight

/-- A turn that detaches nothing. -/
theorem State.Reseated.enableChange (h : s.Reseated u)
    (calm : ¬ (old.enabled y = true ∧ u.policy.enabled y = false ∧ s.attached y = true)) : s.Reseated (u.enableChange old y) := by
  have loose : ∀ k, (u.tracker y).state = k → k ≠ .attached → u.attached y = false := fun k e ne => by
    rw [State.attached, e, decide_eq_false ne]
  rcases u.enableChange_cases old y with ⟨-, -, state, e⟩ | ⟨on, off, state, -⟩ | ⟨-, -, state, -, e⟩ | ⟨e, -⟩
  · rw [e]
    exact h.moved (loose _ state (by simp)) _ (by simp [Tracker.cleared]) false
  · refine absurd ⟨on, off, ?_⟩ calm
    rw [← h.attached y, State.attached, state]
    rfl
  · rw [e]
    exact h.moved (loose _ state (by simp)) _ (by simp) true
  · rw [e]
    exact h

theorem State.Reseated.policy (h : s.Reseated u) : u.policy = s.policy := State.policy_of_frame (h.adopts fun _ => True).frame

/-- An adoption that disables no attached connector. -/
theorem State.reseated_adoptTrackers (calm : ∀ x, ¬ (old.enabled x = true ∧ s.policy.enabled x = false ∧ s.attached x = true)) :
    s.Reseated (s.adoptTrackers old) :=
  State.adoptTrackers_keeps (P := s.Reseated) (fun u y h => h.enableChange (by rw [h.policy]; exact calm y)) (.refl s)

theorem State.Reseated.eligible (h : s.Reseated u) (seated : s.attached x = true) : u.eligible x = s.eligible x := by
  cases x with
  | line p => simp only [State.eligible, h.path, h.line p seated]
  | barrel =>
    rcases h.barrel with e | ⟨loose, -⟩
    · rw [State.eligible, e, State.eligible]
    · rw [seated] at loose
      cases loose

/-! ### The first connector that detaches -/

/-- The first connector's turn that counts: those before it, by number, keep one predicate, those after it another. -/
theorem State.adoptTrackers_first (x : Connector) (before : ∀ (u : State) y, connectorNumber y < connectorNumber x → P u → P (u.enableChange old y))
    (here : ∀ u : State, P u → Q (u.enableChange old x)) (after : ∀ (u : State) y, Q u → Q (u.enableChange old y)) (h : P s) :
    Q (s.adoptTrackers old) := by
  show Q ((((s.enableChange old (.line .a)).enableChange old (.line .b)).enableChange old (.line .c)).enableChange old .barrel)
  rcases x with (_ | _ | _) | _
  · exact after _ _ (after _ _ (after _ _ (here _ h)))
  · exact after _ _ (after _ _ (here _ (before _ _ (by decide) h)))
  · exact after _ _ (here _ (before _ _ (by decide) (before _ _ (by decide) h)))
  · exact here _ (before _ _ (by decide) (before _ _ (by decide) (before _ _ (by decide) h)))

/-- The DETACH record of a connector (10.3.5). -/
def State.detachRecord (s : State) (x : Connector) : Byte × Byte × List Byte :=
  (0x02, connectorCode (some x), match x with
    | .line p => le2 (s.port p).badFrame ++ le2 (s.port p).staleFrame ++ le2 (s.port p).missedHail
    | .barrel => [])

theorem State.follows_detached (s : State) (x : Connector) :
    (s.setTracker x Tracker.cleared).Follows true held [s.detachRecord x] (s.detached x) := by
  cases x with
  | line p => exact (State.follows_clearDroop _ _).trans (State.follows_portDetach _ p)
  | barrel => exact (State.follows_clearDroop _ _).trans (State.follows_barrelDetach _)

theorem State.detached_lossCause (s : State) (x : Connector) : (s.detached x).lossCause x = some .detached := by
  cases x with
  | line p => rw [State.lossCause, (s.gone_detached p).1]; rfl
  | barrel => rw [State.lossCause, s.detached_barrel_cleared]; rfl

theorem State.detached_astray (s : State) (x : Connector) : (s.detached x).astray false x := by
  cases x with
  | line p => exact .inl (by rw [(s.gone_detached p).1]; rfl)
  | barrel => exact .inl (by rw [s.detached_barrel_cleared]; rfl)

/-- A detach within an adoption, with the FAILOVER of a path CLOSED on the connector (R116). -/
theorem State.adopts_lost (u : State) (fit : u.eligible x = true) :
    ∃ m, u.Adopts held ([u.detachRecord x] ++ u.failover x 1 ++ m) (u.settlesWithin (u.detached x)) := by
  obtain ⟨m, follows⟩ := lost_follows (pages := false) (n := Config.reportDepth) (s := u) (State.follows_detached (held := held) u x)
    (u.detached_path x) fit (State.astray_ineligible (u.detached_astray x)) (u.detached_lossCause x)
  exact ⟨m, (u.adopts_setTracker x _).trans follows.adopts⟩

theorem State.Reseated.detaches (h : s.Reseated u) (on : old.enabled x = true) (off : s.policy.enabled x = false)
    (seated : s.attached x = true) (fit : s.eligible x = true) :
    ∃ m, s.Adopts held ([s.detachRecord x] ++ s.failover x 1 ++ m) (u.enableChange old x) := by
  have state : (u.tracker x).state = .attached := of_decide_eq_true ((h.attached x).trans seated)
  rw [State.enableChange_detaches on (by rw [h.policy]; exact off) state]
  obtain ⟨m, lost⟩ := u.adopts_lost (held := held) ((h.eligible seated).trans fit)
  have record : u.detachRecord x = s.detachRecord x := by
    cases x with
    | line p => rw [State.detachRecord, State.detachRecord, h.line p seated]
    | barrel => rfl
  have failover : u.failover x 1 = s.failover x 1 := by rw [State.failover, h.path, State.failover]
  rw [record, failover] at lost
  exact ⟨m, (h.adopts held).trans lost⟩

/-- The records of an adoption that disables an attached connector, the first in number (R4, R116). -/
theorem adopted_detach (on : old.enabled x = true) (off : s.policy.enabled x = false) (seated : s.attached x = true)
    (first : ∀ y, old.enabled y = true → s.policy.enabled y = false → s.attached y = true → connectorNumber x ≤ connectorNumber y)
    (fit : s.eligible x = true) : ∃ m, s.Adopts held ([s.detachRecord x] ++ s.failover x 1 ++ m) (s.adopted old) :=
  (stages_adopts held s _).adopted <| State.adoptTrackers_first x (P := s.Reseated)
    (Q := fun u => ∃ m, s.Adopts held ([s.detachRecord x] ++ s.failover x 1 ++ m) u)
    (fun u y less h => h.enableChange fun ⟨a, b, c⟩ => by
      have := first y a (by rw [← h.policy]; exact b) c
      omega)
    (fun u h => h.detaches on off seated fit)
    (fun u y ⟨m, h⟩ => by
      obtain ⟨n, k⟩ := u.adopts_enableChange (held := held) old y
      exact ⟨m ++ n, by rw [← List.append_assoc]; exact h.trans k⟩)
    (.refl s)

end

end Sys2Proof.Machine
end

/-! # The records of an adoption that detaches nothing: DEAD, BARREL_ID and PIN_VOID (R10, R101, R132) -/

section
namespace Sys2Proof.Machine

section
variable {P Q : State → Prop} {s t u v : State} {x y : Connector} {p o : LinePort} {old q : Policy} {held : Fin 8 → Prop}
  {l m : List (Byte × Byte × List Byte)} {i : StoredId} {f : PortRequest} {k : Fin 8}

/-! ### The dead-battery flag -/

/-- The adoption clears a set dead-battery flag (R132). -/
def State.revives (s : State) (q : Policy) : Prop := s.meas.dead = true ∧ q.deadMv = 0

theorem Stages.after_measurement (stages : Stages P) (h : P (s.adoptTrackers old).adoptMeasurement) : P (s.adopted old) :=
  stages.path _ (stages.negotiation (stages.selector _ (stages.barrel _ h)))

theorem State.adopts_adoptMeasurement (h : s.revives s.policy) :
    ∃ m, s.Adopts held ([(0x14, 0xFF, [0, 0] ++ le2 s.meas.table.vbat.last)] ++ m) s.adoptMeasurement := by
  obtain ⟨dead, zero⟩ := h
  generalize hu : s.withMeas { s.meas with droop := ⟨0, 0, 0, 0⟩ } = u
  have e : s.adoptMeasurement = u.settlesWithin (u.deadChange false s.meas.table.vbat.last) := by
    subst hu
    exact if_pos ⟨zero, dead⟩
  have start : s.Adopts held [] u := hu ▸ s.adopts_droops
  obtain ⟨m, goes⟩ := (State.goes_settlesWithin (held := held) u (u.deadChange false s.meas.table.vbat.last)).adopts
  rw [e]
  exact ⟨m, start.trans ((State.adopts_deadChange u false _).trans goes)⟩

theorem State.adoptMeasurement_of_keeps (h : ¬ s.revives s.policy) :
    s.adoptMeasurement = s.withMeas { s.meas with droop := ⟨0, 0, 0, 0⟩ } :=
  if_neg fun clears => h ⟨clears.2, clears.1⟩

theorem State.Reseated.revives (h : s.Reseated u) : u.revives u.policy ↔ s.revives s.policy := by
  rw [h.policy, State.revives, h.meas, State.revives]

/-- DEAD comes first where the flag clears. -/
theorem adopted_deadRecord (h : s.Reseated (s.adoptTrackers old)) (clears : s.revives s.policy) :
    ∃ m, s.Adopts held ([(0x14, 0xFF, [0, 0] ++ le2 s.meas.table.vbat.last)] ++ m) (s.adopted old) := by
  refine (stages_adopts held s _).after_measurement ?_
  obtain ⟨m, goes⟩ := State.adopts_adoptMeasurement (held := held) (h.revives.mpr clears)
  rw [h.meas] at goes
  exact ⟨m, (h.adopts held).trans goes⟩

/-- A state in which D's step begins, where nothing has detached and the flag stays. -/
structure State.Calm (s u : State) : Prop where
  adopts : ∀ held, s.Adopts held [] u
  path : u.path = s.path
  singles : u.meas.singles = s.meas.singles
  port : ∀ p, ∃ k, u.port p = { s.port p with state := k }
  barrel : u.barrel = s.barrel ∨ s.attached .barrel = false ∧ (u.barrel.state = .empty ∨ u.barrel.state = .settling) ∧
    u.barrel.inFlight = s.barrel.inFlight

theorem State.Reseated.calm (h : s.Reseated u) (keeps : ¬ s.revives s.policy) : s.Calm u.adoptMeasurement := by
  rw [State.adoptMeasurement_of_keeps fun clears => keeps (h.revives.mp clears)]
  exact ⟨fun held => (h.adopts held).trans u.adopts_droops, h.path, by rw [← h.meas]; rfl, h.port, h.barrel⟩

theorem State.Calm.policy (h : s.Calm u) : u.policy = s.policy := State.policy_of_frame (h.adopts fun _ => True).frame

/-! ### D (R10, R14) -/

/-- A reclassification that takes effect changes D. -/
theorem State.reclassified_ne (h : s.reclassifies s.policy i) : (s.reclassified i).barrel ≠ s.barrel := by
  intro same
  obtain ⟨-, stored, changes⟩ := h
  rw [State.reclassified_barrel] at same
  dsimp only at same
  refine changes ⟨?_, fun binds => ?_, fun loose => ?_⟩
  · have : s.barrel.stored = some ⟨i.average, (s.policy.identified i.average).1, i.volts⟩ := by
      rw [← same]
      split <;> rfl
    exact (congrArg StoredId.entry (Option.some.inj (stored.symm.trans this)) :).symm
  · rw [if_pos binds] at same
    rw [← same]
    exact ⟨rfl, rfl⟩
  · rw [if_neg (by rw [loose]; simp)] at same
    rw [← same]
    exact ⟨rfl, rfl⟩

/-- The BARREL_ID record of a reclassification (R10). -/
def State.idRecord (s : State) (i : StoredId) : Byte × Byte × List Byte :=
  s.barrelRecord ⟨i.average, (s.policy.identified i.average).1, i.volts⟩ (s.policy.identified i.average).2

theorem State.idRecord_eq (s : State) (i : StoredId) :
    s.idRecord i = (0x12, 3, [BitVec.ofNat 8 (s.policy.identified i.average).1,
        (if s.policy.binds i.volts (s.policy.identified i.average).2 then 0
          else if i.volts < s.policy.vinMin ∨ s.policy.vinMax < i.volts then 1 else 2)] ++ le2 i.average ++ le2 i.volts ++
      le2 (if s.policy.binds i.volts (s.policy.identified i.average).2 then (s.policy.identified i.average).2 else 0)) := by
  rw [State.idRecord, State.barrelRecord, Policy.barrelCause_binds]
  dsimp only
  cases s.policy.binds i.volts (s.policy.identified i.average).2
  · by_cases out : i.volts < s.policy.vinMin ∨ s.policy.vinMax < i.volts
    · simp only [out, if_true]
      rfl
    · simp only [out, if_false]
      rfl
  · rfl

theorem State.follows_reclassified (s : State) (i : StoredId) : s.Follows true held [s.idRecord i] (s.reclassified i) :=
  State.follows_barrelOutcome s _ _

theorem State.barrelAdopt_of_reclassifies (h : s.reclassifies s.policy i) : s.barrelAdopt = s.reclassified i := by
  rcases s.barrelAdopt_cases with ⟨j, ⟨-, stored, -⟩, e⟩ | ⟨kept, -⟩
  · rw [h.2.1] at stored
    cases stored
    exact e
  · exact absurd h (kept i)

/-- D's step journals BARREL_ID, and FAILOVER where D was the primary and becomes UNUSABLE (R10, R116). -/
theorem State.adopts_adoptBarrel (h : s.reclassifies s.policy i) :
    (∃ m, s.Adopts held ([s.idRecord i] ++ m) s.adoptBarrel) ∧
      (s.policy.binds i.volts (s.policy.identified i.average).2 = false → s.eligible .barrel = true →
        ∃ m, s.Adopts held ([s.idRecord i] ++ s.failover .barrel 3 ++ m) s.adoptBarrel) := by
  have e : s.adoptBarrel = s.settlesWithin (s.reclassified i) := by
    rw [State.adoptBarrel, State.barrelAdopt_of_reclassifies h, if_neg (State.reclassified_ne h)]
  rw [e]
  refine ⟨?_, fun loose fit => ?_⟩
  · obtain ⟨m, goes⟩ := (State.goes_settlesWithin (held := held) s (s.reclassified i)).adopts
    exact ⟨m, (s.follows_reclassified i).adopts.trans goes⟩
  · have unusable : (s.reclassified i).barrel.state = .unusable := by
      rw [State.reclassified_barrel]
      dsimp only
      rw [if_neg (by rw [loose]; simp)]
    have path : (s.reclassified i).path = s.path := by
      rw [← State.barrelAdopt_of_reclassifies h, State.barrelAdopt_path]
    obtain ⟨m, follows⟩ := lost_follows (pages := false) (n := Config.reportDepth) (cause := .unusable) (s := s)
      (s.follows_reclassified (held := held) i) path fit
      (State.astray_ineligible (j := true) (x := .barrel) (.inr (.inr ⟨rfl, unusable⟩))) (by rw [State.lossCause, unusable])
    exact ⟨m, follows.adopts⟩

theorem Stages.after_barrel (stages : Stages P) (h : P (s.adoptTrackers old).adoptMeasurement.adoptBarrel) : P (s.adopted old) :=
  stages.path _ (stages.negotiation (stages.selector _ h))

/-- The records of an adoption that reclassifies D. -/
theorem adopted_idRecord (h : s.Calm (s.adoptTrackers old).adoptMeasurement) (seated : s.attached .barrel = true)
    (changes : s.reclassifies s.policy i) :
    (∃ m, s.Adopts held ([s.idRecord i] ++ m) (s.adopted old)) ∧
      (s.policy.binds i.volts (s.policy.identified i.average).2 = false → s.eligible .barrel = true →
        ∃ m, s.Adopts held ([s.idRecord i] ++ s.failover .barrel 3 ++ m) (s.adopted old)) := by
  generalize hu : (s.adoptTrackers old).adoptMeasurement = u at h
  have barrel : u.barrel = s.barrel := h.barrel.resolve_right fun ⟨loose, _⟩ => by
    rw [seated] at loose
    cases loose
  obtain ⟨first, second⟩ := State.adopts_adoptBarrel (held := held) (s := u) (i := i)
    (by rw [h.policy]; exact (State.reclassifies_congr barrel).mpr changes)
  have record : u.idRecord i = s.idRecord i := by rw [State.idRecord_eq, State.idRecord_eq, h.policy]
  have failover : u.failover .barrel 3 = s.failover .barrel 3 := by rw [State.failover, h.path, State.failover]
  rw [record] at first
  have eligible : u.eligible .barrel = s.eligible .barrel := by rw [State.eligible, barrel, State.eligible]
  rw [record, failover, h.policy, eligible] at second
  refine ⟨(stages_adopts held s _).after_barrel ?_, fun loose fit => (stages_adopts held s _).after_barrel ?_⟩
  · rw [hu]
    obtain ⟨m, goes⟩ := first
    exact ⟨m, (h.adopts held).trans goes⟩
  · rw [hu]
    obtain ⟨m, goes⟩ := second loose fit
    exact ⟨m, (h.adopts held).trans goes⟩

end

end Sys2Proof.Machine
end

/-! # The void pins of an adoption (R100, R101) -/

section
namespace Sys2Proof.Machine

section
variable {P Q : State → Prop} {s t u v : State} {x y : Connector} {p o : LinePort} {old q : Policy} {held : Fin 8 → Prop}
  {l m : List (Byte × Byte × List Byte)} {f : PortRequest} {k : Fin 8} {code : ResultCode} {r : PortRecord} {pages : Bool}

/-! ### PIN_VOID -/

theorem State.voidRecord_congr (pin : (t.port p).pin = (s.port p).pin) (image : (t.port p).image.isSome = (s.port p).image.isSome) :
    t.voidRecord q p = s.voidRecord q p := by
  unfold State.voidRecord
  rw [pin]
  cases (s.port p).pin with
  | none => rfl
  | some n =>
    cases hs : (s.port p).image <;> cases ht : (t.port p).image <;> rw [hs, ht] at image
    · cases image
    · cases image

theorem State.follows_adoptPin (s : State) (p : LinePort) : s.Follows pages held (s.voidRecord s.policy p) (s.adoptPin p) := by
  unfold State.adoptPin State.voidRecord
  cases (s.port p).pin with
  | none => exact .refl s
  | some n =>
    cases (s.port p).image with
    | none => exact .refl s
    | some i =>
      dsimp only
      by_cases void : n.volts < s.policy.windowLo ∨ s.policy.windowHi < n.volts
      · rw [if_pos void, if_pos ((s.policy.outside_iff n.volts).mpr void)]
        exact State.follows_voidPin s p n .volts
      · rw [if_neg void, if_neg fun h => void ((s.policy.outside_iff n.volts).mp h)]
        exact State.follows_setPort_kept s p _ (by rfl)

/-- The images rescored, before the pins are checked (R103). -/
def State.rescored (s : State) : State := linePorts.foldl (fun u p => u.setPort p (rescore u.policy p (u.port p))) s

theorem State.adoptImages_eq (s : State) : s.adoptImages = ((s.rescored.adoptPin .a).adoptPin .b).adoptPin .c := rfl

theorem State.port_rescored (s : State) (p : LinePort) : s.rescored.port p = rescore s.policy p (s.port p) := by
  show (((s.setPort .a (rescore s.policy .a (s.port .a))).setPort .b _).setPort .c _).port p = _
  cases p <;> rfl

theorem State.follows_rescored (s : State) : s.Follows pages held [] s.rescored :=
  have step : ∀ (u : State) p, u.Follows pages held [] (u.setPort p (rescore u.policy p (u.port p))) := fun u p =>
    State.follows_setPort_kept u p _ (by rfl)
  (((step s .a).trans (step _ .b)).trans (step _ .c))

theorem State.voidRecord_rescored (s : State) (p : LinePort) : s.rescored.voidRecord q p = s.voidRecord q p :=
  State.voidRecord_congr (by rw [State.port_rescored]; rfl) (by
    rw [State.port_rescored]
    show ((s.port p).image.map _).isSome = _
    rw [Option.isSome_map])

theorem State.voidRecord_adoptPin (s : State) (ne : p ≠ o) : (s.adoptPin o).voidRecord q p = s.voidRecord q p := by
  have same : (s.adoptPin o).port p = s.port p := s.othersKept_adoptPin p ne
  exact State.voidRecord_congr (by rw [same]) (by rw [same])

/-- The PIN_VOIDs come in the order of the ports. -/
theorem State.follows_adoptImages (s : State) :
    s.Follows pages held (s.voidRecord s.policy .a ++ s.voidRecord s.policy .b ++ s.voidRecord s.policy .c) s.adoptImages := by
  rw [State.adoptImages_eq]
  have a := State.follows_adoptPin (pages := pages) (held := held) s.rescored .a
  have b := State.follows_adoptPin (pages := pages) (held := held) (s.rescored.adoptPin .a) .b
  have c := State.follows_adoptPin (pages := pages) (held := held) ((s.rescored.adoptPin .a).adoptPin .b) .c
  rw [State.voidRecord_rescored, show s.rescored.policy = s.policy from rfl] at a
  rw [State.adoptPin_policy, State.voidRecord_adoptPin _ (by simp), State.voidRecord_rescored, show s.rescored.policy = s.policy from rfl] at b
  rw [State.adoptPin_policy, State.adoptPin_policy, State.voidRecord_adoptPin _ (by simp), State.voidRecord_adoptPin _ (by simp),
    State.voidRecord_rescored, show s.rescored.policy = s.policy from rfl] at c
  exact (s.follows_rescored.trans a).trans b |>.trans c

/-! ### A PIN in flight (R100) -/

/-- The pin check of another port leaves a request that shares no slot. -/
theorem State.soleRequest.adoptPin (h : s.soleRequest p f) (ne : p ≠ o) : (s.adoptPin o).soleRequest p f := by
  obtain ⟨mine, others, barrel, path, singles⟩ := State.soleRequest_iff.mp h
  refine State.soleRequest_iff.mpr ⟨by rw [s.othersKept_adoptPin p ne]; exact mine, fun z w hz his => ?_,
    by rw [State.adoptPin_barrel]; exact barrel, by rw [State.adoptPin_path]; exact path, by rw [State.adoptPin_meas]; exact singles⟩
  by_cases here : z = o
  · subst here
    obtain ⟨g, e, flight, -⟩ := s.port_adoptPin z
    rw [e] at his
    have his : g = some w := his
    rcases flight with same | none
    · exact others z w hz (same.symm.trans his)
    · rw [none] at his
      cases his
  · rw [s.othersKept_adoptPin z here] at his
    exact others z w hz his

theorem State.adoptPin_answers (sole : s.soleRequest p f) (kind : f.kind = .pin) (void : s.voidRecord s.policy p ≠ []) :
    (s.adoptPin p).unheld f.slot ∧ (s.adoptPin p).answered f.slot .lost := by
  unfold State.voidRecord at void
  unfold State.adoptPin
  cases pin : (s.port p).pin with
  | none =>
    rw [pin] at void
    exact absurd rfl void
  | some n =>
    cases image : (s.port p).image with
    | none =>
      rw [pin, image] at void
      exact absurd rfl void
    | some i =>
      rw [pin, image] at void
      dsimp only at void ⊢
      have out : s.policy.outside n.volts = true := by
        by_contra inside
        rw [if_neg inside] at void
        exact void rfl
      rw [if_pos ((s.policy.outside_iff n.volts).mp out)]
      have sole := State.soleRequest.journalled (r := { s.port p with pin := none }) sole rfl 0x10 (lineByte p)
        ([byte n.level, VoidReason.volts.code] ++ le2 n.volts ++ le2 n.limit)
      exact (sole.completePort (by rw [kind]; rfl) .lost).2

theorem State.soleRequest.rescored (h : s.soleRequest p f) : s.rescored.soleRequest p f := by
  have step : ∀ (u : State) o, u.soleRequest p f → (u.setPort o (rescore u.policy o (u.port o))).soleRequest p f := fun u o hu =>
    hu.of_flights (fun z => u.setPort_inFlight o z rfl) rfl rfl rfl
  exact step _ .c (step _ .b (step s .a h))

/-- A void pin ends a PIN in flight with LOST (R100). -/
theorem State.adoptImages_answers (sole : s.soleRequest p f) (kind : f.kind = .pin) (void : s.voidRecord s.policy p ≠ []) :
    s.adoptImages.unheld f.slot ∧ s.adoptImages.answered f.slot .lost := by
  rw [State.adoptImages_eq]
  have answered : ∀ (u : State) o, u.unheld f.slot ∧ u.answered f.slot .lost →
      (u.adoptPin o).unheld f.slot ∧ (u.adoptPin o).answered f.slot .lost := fun u o => State.Goes.answered (u.goes_adoptPin o)
  have sole := sole.rescored
  have policy : s.rescored.policy = s.policy := rfl
  cases p with
  | a =>
    exact answered _ .c (answered _ .b (State.adoptPin_answers sole kind (by rw [State.voidRecord_rescored, policy]; exact void)))
  | b =>
    exact answered _ .c (State.adoptPin_answers (sole.adoptPin (by simp)) kind
      (by rw [State.voidRecord_adoptPin _ (by simp), State.voidRecord_rescored, State.adoptPin_policy, policy]; exact void))
  | c =>
    exact State.adoptPin_answers ((sole.adoptPin (by simp)).adoptPin (by simp)) kind
      (by rw [State.voidRecord_adoptPin _ (by simp), State.voidRecord_adoptPin _ (by simp), State.voidRecord_rescored,
            State.adoptPin_policy, State.adoptPin_policy, policy]; exact void)

/-! ### The adoption -/

theorem State.Calm.adoptBarrel (h : s.Calm u) (keeps : ∀ i, ¬ s.reclassifies s.policy i) : u.adoptBarrel = u := by
  refine if_pos ?_
  rcases h.barrel with same | ⟨-, unjudged, -⟩
  · rcases u.barrelAdopt_cases with ⟨i, changes, -⟩ | ⟨-, e⟩
    · exact absurd ((State.reclassifies_congr same).mp (by rw [← h.policy]; exact changes)) (keeps i)
    · rw [e]
  · rw [State.barrelAdopt_of_unjudged unjudged]

theorem State.Calm.voidRecord (h : s.Calm u) (p : LinePort) : u.voidRecord q p = s.voidRecord q p := by
  obtain ⟨k, e⟩ := h.port p
  exact State.voidRecord_congr (by rw [e]) (by rw [e])

theorem State.Calm.soleRequest (h : s.Calm u) (sole : s.soleRequest p f) : u.soleRequest p f := by
  refine sole.of_flights (fun o => ?_) ?_ (by rw [h.path]) h.singles
  · obtain ⟨k, e⟩ := h.port o
    rw [e]
  · rcases h.barrel with same | ⟨-, -, same⟩
    · rw [same]
    · exact same

theorem Stages.after_images (stages : Stages P) (h : P (s.adoptTrackers old).adoptMeasurement.adoptBarrel.adoptSelector) : P (s.adopted old) :=
  stages.path _ (stages.negotiation h)

/-- The records of an adoption that detaches nothing, keeps the dead-battery flag and leaves D (R101). -/
theorem adopted_voidRecords (h : s.Calm (s.adoptTrackers old).adoptMeasurement) (keeps : ∀ i, ¬ s.reclassifies s.policy i) :
    ∃ m, s.Adopts held (s.voidRecord s.policy .a ++ s.voidRecord s.policy .b ++ s.voidRecord s.policy .c ++ m) (s.adopted old) := by
  refine (stages_adopts held s _).after_images ?_
  rw [h.adoptBarrel keeps]
  generalize (s.adoptTrackers old).adoptMeasurement = u at h
  have records := State.follows_adoptImages (pages := false) (held := held) u
  rw [h.voidRecord, h.voidRecord, h.voidRecord, h.policy] at records
  obtain ⟨m, goes⟩ := (State.goes_settlesWithin (held := held) u u.adoptImages).adopts
  exact ⟨m, ((h.adopts held).trans records.adopts).trans goes⟩

/-- A PIN in flight whose pin the new window makes void is LOST after the adoption (R100, R101). -/
theorem adopted_voidAnswers (h : s.Calm (s.adoptTrackers old).adoptMeasurement) (keeps : ∀ i, ¬ s.reclassifies s.policy i)
    (sole : s.soleRequest p f) (kind : f.kind = .pin) (void : s.voidRecord s.policy p ≠ []) :
    (s.adopted old).unheld f.slot ∧ (s.adopted old).answered f.slot .lost := by
  have selected : ((s.adoptTrackers old).adoptMeasurement.adoptBarrel.adoptSelector).unheld f.slot ∧
      ((s.adoptTrackers old).adoptMeasurement.adoptBarrel.adoptSelector).answered f.slot .lost := by
    rw [h.adoptBarrel keeps]
    generalize (s.adoptTrackers old).adoptMeasurement = u at h
    exact (trailing_answered f.slot .lost).settlesWithin
      (State.adoptImages_answers (h.soleRequest sole) kind (by rw [h.voidRecord, h.policy]; exact void))
  have called : ∀ (u : State) p, u.unheld f.slot ∧ u.answered f.slot .lost → (u.adoptCall p).unheld f.slot ∧ (u.adoptCall p).answered f.slot .lost :=
    fun u p hu => (trailing_answered f.slot .lost).adoptCall (State.Goes.answered
      (State.follows_setPort_kept u p { u.port p with barred := false } rfl).goes hu)
  exact (trailing_answered f.slot .lost).settlesWithin ((trailing_answered f.slot .lost).evaluate _
    (called _ _ (called _ _ (called _ _ selected))))

end

end Sys2Proof.Machine
end

/-! # The blocks after an adoption, seen from before it (R170, R171) -/

section
namespace Sys2Proof.Machine

section
variable {s g : State} {c : Connector} {p : LinePort} {q old : Policy} {x z : Exchange} {k : Fin 8}

/-- The state with a policy installed, and the memory that goes with it (R170). -/
def State.based (s : State) (q : Policy) (x : Exchange) : State := ((s.withPolicy q).withOrigin .adopted).withExch x

theorem State.based_eligible (s : State) (q : Policy) (x : Exchange) (c : Connector) : (s.based q x).eligible c = s.eligible c := by
  cases c <;> rfl

/-! ### What the regulator's step and the end leave -/

theorem State.ends_adoptedTracker (h : s.adoptedTracker g c) : s.adoptedTracker (g.adoptRegulator.withExch z) c := h
theorem State.ends_adoptedBarrel (h : s.adoptedBarrel g) : s.adoptedBarrel (g.adoptRegulator.withExch z) := h
theorem State.ends_adoptedPort (h : s.adoptedPort g p) : s.adoptedPort (g.adoptRegulator.withExch z) p := h

theorem State.ends_adoptedPath (h : s.adoptedPath g) : s.adoptedPath (g.adoptRegulator.withExch z) := by
  have view : g.viewSame (g.adoptRegulator.withExch z) :=
    ⟨rfl, rfl, fun c => by cases c <;> rfl, fun c => by cases c <;> rfl, fun c => by cases c <;> rfl, rfl, rfl⟩
  obtain ⟨pin, last, evaluated, opening, closing, closed⟩ := h
  refine ⟨pin, last, State.pathEvaluated_congr view evaluated, opening, fun y his fit => ?_, fun w his fit => ?_⟩
  · rw [view.eligible]
    exact closing y his fit
  · rw [view.eligible]
    exact closed w his fit

theorem State.ends_budgetOk : (g.adoptRegulator.withExch z).budgetOk := g.budgetOk_adoptRegulator

theorem State.ends_adoptedRegulator (h : s.adoptedRegulator g.adoptRegulator) : s.adoptedRegulator (g.adoptRegulator.withExch z) := h

/-! ### From the installed state -/

theorem State.enginesOk_adopted (ok : s.enginesOk) (old : Policy) : (s.adopted old).enginesOk := by
  have kept : s.kept false none := State.kept_iff.mpr ⟨ok, fun h => by cases h⟩
  have after := (State.kept_iff.mp (State.kept_adoptEffects kept old)).1
  rw [State.adoptEffects_adopted] at after
  generalize s.adopted old = g at *
  exact after

theorem based_adoptedTracker (s : State) (q : Policy) (x : Exchange) (c : Connector) :
    s.adoptedTracker ((s.based q x).adopted s.policy) c := by
  have policy := (s.based q x).policy_adopted s.policy
  have tracker := adopted_trackers (s.based q x) s.policy c
  have seats : s.enginesOk → ((s.based q x).adopted s.policy).enginesOk := fun ok =>
    State.enginesOk_adopted (s := s.based q x) ok s.policy
  have line := fun p => adopted_owner_line (s.based q x) s.policy p
  have barrel := adopted_owner_barrel (s.based q x) s.policy
  generalize (s.based q x).adopted s.policy = g at *
  obtain ⟨same, off, on⟩ := tracker
  unfold State.adoptedTracker
  rw [policy]
  refine ⟨same, fun before after => ⟨off before after, fun settling => ?_, fun attached => ?_⟩, fun before after empty => ?_⟩
  · cases c with
    | line p => exact ((line p).1 before after).1 settling
    | barrel => exact (barrel.1 before after).1 settling
  · have state : (s.tracker c).state = .attached := of_decide_eq_true attached
    cases c with
    | line p =>
      obtain ⟨record, monitor, unqueued⟩ := ((line p).1 before after).2 state
      refine ⟨record, monitor, unqueued, fun ok => ?_⟩
      by_contra leased
      have held := (seats ok).2.2.2.2 p (.inr (Option.isSome_iff_ne_none.mpr leased))
      have gone := off before after
      rw [if_neg (by rw [show ((s.based q x).tracker (.line p)).state = .attached from state]; simp)] at gone
      rw [State.attached, gone] at held
      cases held
    | barrel => exact (barrel.1 before after).2 state
  · have moved := on before after empty
    by_cases present : s.presence.get c = true
    · rw [if_pos present]
      rw [if_pos (show (s.based q x).presence.get c = true from present)] at moved
      refine ⟨moved, ?_⟩
      cases c with
      | line p => exact (line p).2 before after empty present
      | barrel => exact barrel.2 before after empty present
    · rw [if_neg present]
      rw [if_neg (show ¬ (s.based q x).presence.get c = true from present)] at moved
      exact moved

theorem based_adoptedBarrel (s : State) (q : Policy) (x : Exchange) (same : s.policy.enabled .barrel = q.enabled .barrel) :
    s.adoptedBarrel ((s.based q x).adopted s.policy) := by
  have policy : ((s.based q x).adopted s.policy).policy = q := (s.based q x).policy_adopted s.policy
  have record := adopted_barrel_same (s := s.based q x) (old := s.policy) same
  have reclassified := fun i => (s.based q x).reclassified_barrel i
  generalize (s.based q x).adopted s.policy = g at *
  have changes : ∀ i, (s.based q x).reclassifies q i ↔ s.reclassifies q i := fun i => State.reclassifies_congr rfl
  rw [State.adoptedBarrel, policy]
  refine ⟨fun kept => ?_, fun i his => ?_⟩
  · rcases record with ⟨i, his, -⟩ | ⟨-, e⟩
    · exact absurd ((changes i).mp his) (kept i)
    · exact e
  · rcases record with ⟨j, ⟨-, stored, -⟩, e⟩ | ⟨kept, -⟩
    · have stored : s.barrel.stored = some j := stored
      rw [his.2.1] at stored
      cases stored
      rw [e, reclassified i]
      dsimp only
      rw [show (s.based q x).policy = q from rfl]
      cases binds : q.binds i.volts (q.identified i.average).2
      · rw [if_neg (by simp)]
        exact ⟨rfl, rfl, (nomatch ·), fun _ => ⟨rfl, rfl, rfl⟩⟩
      · rw [if_pos rfl]
        exact ⟨rfl, rfl, fun _ => ⟨rfl, rfl, rfl, rfl⟩, (nomatch ·)⟩
    · exact absurd ((changes i).mpr his) (kept i)

theorem based_adoptedPort (s : State) (q : Policy) (x : Exchange) (p : LinePort) (same : s.policy.enabled (.line p) = q.enabled (.line p)) :
    s.adoptedPort ((s.based q x).adopted s.policy) p := by
  have after := adopted_port (s.based q x) s.policy p same
  generalize (s.based q x).adopted s.policy = g at *
  exact after

theorem based_adoptedPath (s : State) (q : Policy) (x : Exchange) : s.adoptedPath ((s.based q x).adopted s.policy) := by
  have after := adopted_path (s.based q x) s.policy
  generalize (s.based q x).adopted s.policy = g at *
  obtain ⟨pin, last, evaluated, opening, closing, closed⟩ := after
  exact ⟨pin, last, evaluated, opening, fun y his fit => closing y his ((s.based_eligible q x y).trans fit),
    fun w his fit => closed w his ((s.based_eligible q x w).trans fit)⟩

theorem based_adoptedRegulator (s : State) (q : Policy) (x : Exchange) :
    s.adoptedRegulator ((s.based q x).adopted s.policy).adoptRegulator := by
  have after := adopted_regulator (s.based q x) s.policy
  generalize (s.based q x).adopted s.policy = g at *
  exact after

/-- The settings, the results and the time base. -/
structure State.settingsStand (s g : State) : Prop where
  origin : g.origin = .adopted
  presence : g.presence = s.presence
  time : g.time = s.time
  table : g.meas.table = s.meas.table
  reload : g.meas.reload = s.meas.reload
  timer : g.meas.periodTimer = s.meas.periodTimer
  single : g.meas.singlePending = s.meas.singlePending
  converting : g.meas.converting = s.meas.converting
  latest : g.latestVD = s.latestVD

theorem State.settingsStand_of_frame (h : g.frame = (s.based q x).frame) : s.settingsStand g where
  origin := (congrArg State.origin h :)
  presence := (congrArg State.presence h :)
  time := (congrArg State.time h :)
  table := (congrArg (fun u => u.meas.table) h :)
  reload := (congrArg (fun u => u.meas.reload) h :)
  timer := (congrArg (fun u => u.meas.periodTimer) h :)
  single := (congrArg (fun u => u.meas.singlePending) h :)
  converting := (congrArg (fun u => u.meas.converting) h :)
  latest := (congrArg State.latestVD h :)

end

end Sys2Proof.Machine
end

/-! # The records of an adoption (R171) -/

section
namespace Sys2Proof.Machine

section
variable {s t g i : State} {c : Connector} {p : LinePort} {q old : Policy} {x z : Exchange} {k j : Fin 8} {held : Fin 8 → Prop}
  {l m : List (Byte × Byte × List Byte)} {policy : Byte × Byte × List Byte} {code : ResultCode} {d : List Byte}

/-! ### The completion, and the page rewrites after it -/

/-- An adoption's end: the regulator's step, the completion and the rewrites. -/
def State.closes (s g : State) (k : Fin 8) (code : ResultCode) (d : List Byte) : State := s.finish (g.adoptRegulator.complete k code d)

theorem State.closes_rest (s g : State) (k : Fin 8) (code : ResultCode) (d : List Byte) :
    ∃ z, s.closes g k code d = g.adoptRegulator.withExch z :=
  Blind.finish (P := fun u => ∃ z, u = g.adoptRegulator.withExch z) (fun u z ⟨_, e⟩ => ⟨z, by rw [e]; rfl⟩)
    ⟨(g.adoptRegulator.complete k code d).exch, rfl⟩

theorem State.follows_closes (s g : State) (hk : held k) : g.adoptRegulator.Follows true held [] (s.closes g k code d) :=
  (State.follows_complete g.adoptRegulator code d fun _ => hk).trans (State.follows_finish s _)

/-- What an adoption submits, up to its end. -/
theorem State.Adopts.closes (h : i.Adopts held l g) (hs : i.heldIn held) (hk : held k) :
    i.exch.Logs true i.time held l (s.closes g k code d).exch := by
  have ends := (s.follows_closes g (code := code) (d := d) hk).logs (h.stays hs)
  have time : g.adoptRegulator.time = i.time := show g.time = i.time from State.time_of_frame h.frame
  rw [time] at ends
  rw [← List.append_nil l]
  exact (h.logs hs).trans ends

theorem State.closes_slotDone {q : Posting} {kind : Byte} {args : List Byte} (h : i.Adopts (fun j => j ≠ q.slot) l g) (unheld : i.unheld q.slot)
    (req : (i.exch.slot q.slot).req = postedRequest q kind args) : (s.closes g q.slot code d).slotDone q kind code d := by
  have hs : i.heldIn fun j => j ≠ q.slot := fun j hj => by
    rw [not_not] at hj
    exact hj ▸ unheld
  have taken : (g.adoptRegulator.exch.slot q.slot).req = postedRequest q kind args := by
    rw [← req]
    exact congrArg Slot.req ((h.logs hs).slot fun ne => ne rfl)
  have done : (g.adoptRegulator.complete q.slot code d).slotDone q kind code d := State.slotDone_complete taken
  exact done.of_logs ((State.follows_finish s (g.adoptRegulator.complete q.slot code d)).logs (h.stays hs)) fun ne => ne rfl

theorem State.closes_answered {c : ResultCode} (ne : k ≠ j) (h : g.unheld j ∧ g.answered j c) : (s.closes g k code d).answered j c :=
  (State.Goes.answered (s.follows_closes (held := fun a => a ≠ j) g ne).goes h).2

/-! ### The records -/

theorem based_adoptionRecords (tp : t.policy = q)
    (journals : ∀ l, (∃ m, (s.based q x).Adopts (fun _ => True) (l ++ m) ((s.based q x).adopted s.policy)) → s.journals t (policy :: l))
    (answered : ∀ p f, s.soleRequest p f → ((s.based q x).adopted s.policy).unheld f.slot ∧
      ((s.based q x).adopted s.policy).answered f.slot .lost → t.answered f.slot .lost) : s.adoptionRecords t policy := by
  unfold State.adoptionRecords State.disables
  rw [tp]
  refine ⟨fun c ⟨on, off, seated⟩ first fit _ => ?_, fun calm => ?_⟩
  · have records := journals _ (adopted_detach (s := s.based q x) (old := s.policy) (x := c) on off seated
      (fun y a b e => first y ⟨a, b, e⟩) ((s.based_eligible q x c).trans fit))
    cases c <;> exact records
  have reseated : (s.based q x).Reseated ((s.based q x).adoptTrackers s.policy) := State.reseated_adoptTrackers calm
  refine ⟨fun clears => ?_, fun keeps seated i changes => ?_, fun keeps kept => ⟨?_, fun p f sole kind void => ?_⟩⟩
  · exact journals _ (adopted_deadRecord reseated clears)
  · obtain ⟨first, second⟩ := adopted_idRecord (held := fun _ => True) (s := s.based q x) (old := s.policy) (i := i)
      (reseated.calm keeps) seated changes
    rw [State.idRecord_eq] at first second
    exact ⟨journals _ first, fun loose fit => journals _ (second loose fit)⟩
  · exact journals _ (adopted_voidRecords (s := s.based q x) (reseated.calm keeps) kept)
  · exact answered p f sole (adopted_voidAnswers (s := s.based q x) (reseated.calm keeps) kept sole kind void)

end

end Sys2Proof.Machine
end

/-! # ADOPT of a sound draft (R165 to R171) -/

section
namespace Sys2Proof.Machine

section
variable {s t g : State} {c : Connector} {p : LinePort} {x y : Exchange} {k : Fin 8} {d : Proposal} {mem : List Host.Cell}
  {l m : List (Byte × Byte × List Byte)} {held : Fin 8 → Prop} {q : Posting} {r : Request}

/-! ### The draft without contradiction -/

theorem contradiction_none (sound : draftContradiction mem = none) : (readDraft mem).contradiction = none := by
  rw [← contradiction_readDraft] at sound
  exact Option.map_eq_none_iff.mp sound

theorem draftCount_le (sound : draftContradiction mem = none) : draftCount mem ≤ 8 := by
  unfold draftContradiction at sound
  dsimp only at sound
  split at sound
  · cases sound
  · split at sound
    · cases sound
    · split at sound
      · cases sound
      next small => omega

theorem ids_clamped (mem : List Host.Cell) : (readDraft mem).clamped.ids = (draftEntries mem).map entryClamped := by
  rw [← considered_readDraft]
  exact List.map_congr_left fun e _ => clampEntry_eq e

/-- The POLICY record (10.3.5). -/
def policyRecord (mem : List Host.Cell) : Byte × Byte × List Byte :=
  (0x13, 0xFF, [BitVec.ofNat 8 (draftReplaced mem).length, BitVec.ofNat 8 ((draftReplaced mem).headD 0), readByte mem 0x33])

theorem policyRecord_eq (sound : draftContradiction mem = none) :
    (0x13, 0xFF, [byte (readDraft mem).clampedFields.length, byte ((readDraft mem).clampedFields.headD 0),
      byte (readDraft mem).clamped.ids.length]) = policyRecord mem := by
  have count : byte (readDraft mem).clamped.ids.length = readByte mem 0x33 := by
    rw [ids_clamped, List.length_map, draftEntries, if_pos (draftCount_le sound), List.length_map, List.length_range]
    exact (BitVec.ofNat_toNat 8 (readByte mem 0x33)).trans (BitVec.setWidth_eq _)
  rw [clampedFields_readDraft, count]
  rfl

/-! ### The installation (R170) -/

/-- The state in which POLICY is journalled. -/
def State.redrafted (s : State) (d : Proposal) : State := ((s.withPolicy d.clamped).withOrigin .adopted).writeDraft

theorem State.follows_install (s : State) (sound : draftContradiction mem = none) :
    (s.redrafted (readDraft mem)).Follows true held [policyRecord mem] (s.install (readDraft mem)) := by
  rw [← policyRecord_eq sound]
  exact State.follows_journal _ _ _ _

theorem State.install_based (s : State) (y : Exchange) (d : Proposal) :
    (s.withExch y).install d = s.based d.clamped ((s.withExch y).install d).exch := rfl

theorem State.install_keeps (s : State) (d : Proposal) : (s.install d).ports = s.ports ∧ (s.install d).barrel = s.barrel ∧
    (s.install d).path = s.path ∧ (s.install d).meas = s.meas ∧ (s.install d).time = s.time := by
  simp [State.install]

theorem State.unheld_install (s : State) (d : Proposal) (unheld : s.unheld k) : (s.install d).unheld k := by
  obtain ⟨ports, barrel, path, meas, -⟩ := s.install_keeps d
  unfold State.unheld State.port at *
  rwa [ports, barrel, path, meas]

theorem State.install_draft (s : State) (sound : draftContradiction mem = none) {i : Nat} (hi : i < 100) :
    readByte (s.install (readDraft mem)).exch.mem i = (draftBytes (readDraft mem).clamped).getD i 0 := by
  have logs := (s.follows_install (held := fun _ => True) sound).logs (State.heldIn_all _)
  exact (logs.readByte_outside (.inl (by omega))).trans ((((s.withPolicy (readDraft mem).clamped).withOrigin .adopted)).writeDraft_draft hi)

theorem State.install_req (s : State) (sound : draftContradiction mem = none) (unheld : s.unheld k) :
    (s.install (readDraft mem)).exch.slot k = s.exch.slot k := by
  have logs := (s.follows_install (held := fun j => j ≠ k) sound).logs fun j hj => by
    rw [not_not] at hj
    exact hj ▸ unheld
  exact logs.slot fun ne => ne rfl

theorem State.install_mask (s : State) (sound : draftContradiction mem = none) :
    (s.install (readDraft mem)).exch.mask = s.exch.mask := by
  have logs := (s.follows_install (held := fun _ => True) sound).logs (State.heldIn_all _)
  obtain ⟨-, mask, -⟩ := logs.keeps
  exact mask

/-- The records of an adoption are counted from where they stood before its request was taken. -/
theorem adoption_journals (took : s.exch.Took y k r) (sound : draftContradiction mem = none)
    (logs : ((s.withExch y).install (readDraft mem)).exch.Logs true s.time (fun _ => True) (l ++ m) t.exch) :
    s.journals t (policyRecord mem :: l) := by
  have first := ((s.withExch y).follows_install (held := fun _ => True) sound).logs (State.heldIn_all _)
  have all : ((s.withExch y).redrafted (readDraft mem)).journals t (policyRecord mem :: l) :=
    Exchange.Logs.journals (s := (s.withExch y).redrafted (readDraft mem)) (rest := m) (first.trans logs)
  exact took.journals all

end

/-! ### The whole -/

/-- The blocks after an adoption, whatever its end writes (R171). -/
theorem adoption_blocks (s : State) (new : Policy) (x z : Exchange) :
    ∀ t, t = ((s.based new x).adopted s.policy).adoptRegulator.withExch z → t.policy = new ∧
      (∀ c, s.adoptedTracker t c) ∧ t.meas.droop = ⟨0, 0, 0, 0⟩ ∧ t.meas.dead = (s.meas.dead && decide (t.policy.deadMv ≠ 0)) ∧
      (s.policy.enabled .barrel = t.policy.enabled .barrel → s.adoptedBarrel t) ∧
      (∀ p, s.policy.enabled (.line p) = t.policy.enabled (.line p) → s.adoptedPort t p) ∧
      (∀ p, (t.port p).barred = false) ∧ s.adoptedPath t ∧ t.budgetOk ∧ s.adoptedRegulator t ∧ s.settingsStand t := by
  have tracker := based_adoptedTracker s new x
  have barrel := based_adoptedBarrel s new x
  have port := based_adoptedPort s new x
  have path := based_adoptedPath s new x
  have reg := based_adoptedRegulator s new x
  have unbarred := adopted_unbarred (s.based new x) s.policy
  have settings := State.settingsStand_of_frame ((s.based new x).frame_adopted s.policy)
  have policy : ((s.based new x).adopted s.policy).policy = new := (s.based new x).policy_adopted s.policy
  obtain ⟨dead, droop⟩ := adopted_meas (s.based new x) s.policy
  rw [State.adoptTrackers_dead] at dead
  generalize (s.based new x).adopted s.policy = g at *
  rintro _ rfl
  have kept : (g.adoptRegulator.withExch z).policy = new := policy
  rw [kept]
  exact ⟨rfl, fun c => State.ends_adoptedTracker (tracker c), droop, dead, fun same => State.ends_adoptedBarrel (barrel same),
    fun p same => State.ends_adoptedPort (port p same), unbarred, State.ends_adoptedPath path, State.ends_budgetOk,
    State.ends_adoptedRegulator reg, settings.origin, settings.presence, settings.time, settings.table, settings.reload, settings.timer,
    settings.single, settings.converting, settings.latest⟩

section
variable {s t g i : State} {q : Posting} {y : Exchange} {mem : List Host.Cell} {args : List Byte} {code : ResultCode} {d : List Byte}
  {l : List (Byte × Byte × List Byte)} {r : Request} {k : Fin 8}

theorem State.adopts_some (i : State) (old : Policy) (held : Fin 8 → Prop) : ∃ l, i.Adopts held l (i.adopted old) := by
  obtain ⟨_, h⟩ := i.adopts_adoptTrackers (held := held) old
  obtain ⟨_, k⟩ := State.adopts_adopted h
  exact ⟨_, k⟩

/-- The draft area and the mask after an adoption. -/
theorem adoption_draft (took : s.exch.Took y k r) (sound : draftContradiction mem = none) (hi : i = (s.withExch y).install (readDraft mem))
    (logs : i.exch.Logs true s.time (fun _ => True) l t.exch) :
    (∀ a, a < 100 → readByte t.exch.mem a = (draftBytes (readDraft mem).clamped).getD a 0) ∧ t.exch.mask = s.exch.mask := by
  obtain ⟨-, mask, -⟩ := logs.keeps
  refine ⟨fun a ha => ?_, ?_⟩
  · rw [logs.readByte_outside (.inl (by omega)), hi]
    exact (s.withExch y).install_draft sound ha
  · rw [mask, hi, (s.withExch y).install_mask sound]
    exact took.fields.2.2.2.2.1

theorem adoption_slotDone (took : s.exch.Took y q.slot (postedRequest q 0x01 args)) (unheld : s.unheld q.slot)
    (sound : draftContradiction mem = none) (hi : i = (s.withExch y).install (readDraft mem)) (h : i.Adopts (fun j => j ≠ q.slot) l g) :
    ((s.withExch y).closes g q.slot code d).slotDone q 0x01 code d := by
  refine State.closes_slotDone (args := args) h (by rw [hi]; exact State.unheld_install (s := s.withExch y) (readDraft mem) unheld) ?_
  rw [hi]
  exact (congrArg Slot.req ((s.withExch y).install_req sound unheld)).trans took.req

theorem adoption_records (based : i = s.based (readDraft mem).clamped i.exch) (unheld : s.unheld k) (hg : g = i.adopted s.policy)
    (policy : ((s.withExch y).closes g k code d).policy = (readDraft mem).clamped)
    (submitted : ∀ l, (∃ m, i.Adopts (fun _ => True) (l ++ m) g) → s.journals ((s.withExch y).closes g k code d) (policyRecord mem :: l)) :
    s.adoptionRecords ((s.withExch y).closes g k code d) (policyRecord mem) := by
  rw [based] at hg submitted
  subst hg
  exact based_adoptionRecords policy submitted fun p f sole done =>
    State.closes_answered (fun same => unheld.1 p f sole.1 same.symm) done

/-- The exchange memory after an adoption (R170, R171, R184). -/
theorem adoption_exchange (took : s.exch.Took y q.slot (postedRequest q 0x01 args)) (unheld : s.unheld q.slot)
    (sound : draftContradiction mem = none) (hi : i = (s.withExch y).install (readDraft mem)) (hg : g = i.adopted s.policy)
    (policy : ((s.withExch y).closes g q.slot code d).policy = (readDraft mem).clamped) :
    (∀ a, a < 100 → readByte ((s.withExch y).closes g q.slot code d).exch.mem a = (draftBytes (readDraft mem).clamped).getD a 0) ∧
      s.adoptionRecords ((s.withExch y).closes g q.slot code d) (policyRecord mem) ∧
      s.journals ((s.withExch y).closes g q.slot code d) [policyRecord mem] ∧
      ((s.withExch y).closes g q.slot code d).slotDone q 0x01 code d ∧
      ((s.withExch y).closes g q.slot code d).exch.mask = s.exch.mask := by
  have adopts : ∀ held : Fin 8 → Prop, ∃ l, i.Adopts held l g := fun held => hg ▸ i.adopts_some s.policy held
  have time : i.time = s.time := by
    rw [hi]
    exact ((s.withExch y).install_keeps (readDraft mem)).2.2.2.2
  have logs : ∀ {l}, i.Adopts (fun _ => True) l g →
      i.exch.Logs true s.time (fun _ => True) l ((s.withExch y).closes g q.slot code d).exch := fun {l} h => by
    have := h.closes (s := s.withExch y) (k := q.slot) (code := code) (d := d) i.heldIn_all trivial
    rwa [time] at this
  have submitted : ∀ l, (∃ m, i.Adopts (fun _ => True) (l ++ m) g) →
      s.journals ((s.withExch y).closes g q.slot code d) (policyRecord mem :: l) :=
    fun l ⟨m, h⟩ => adoption_journals (m := m) took sound (by rw [← hi]; exact logs h)
  obtain ⟨l, whole⟩ := adopts fun _ => True
  obtain ⟨n, spares⟩ := adopts fun j => j ≠ q.slot
  have based : i = s.based (readDraft mem).clamped i.exch := by
    rw [hi]
    exact s.install_based y (readDraft mem)
  obtain ⟨bytes, mask⟩ := adoption_draft took sound hi (logs whole)
  exact ⟨bytes, adoption_records based unheld hg policy submitted, submitted [] ⟨l, whole⟩,
    adoption_slotDone took unheld sound hi spares, mask⟩

/-- What the blocks and the memory hold once an adoption has ended. -/
theorem adoption_outcome (took : s.exch.Took y q.slot (postedRequest q 0x01 args)) (unheld : s.unheld q.slot)
    (sound : draftContradiction mem = none)
    (ht : t = (s.withExch y).closes (((s.withExch y).install (readDraft mem)).adopted s.policy) q.slot code d) :
    (∃ x z, t = ((s.based (readDraft mem).clamped x).adopted s.policy).adoptRegulator.withExch z) ∧
      (∀ a, a < 100 → readByte t.exch.mem a = (draftBytes (readDraft mem).clamped).getD a 0) ∧ s.adoptionRecords t (policyRecord mem) ∧
      s.journals t [policyRecord mem] ∧ t.slotDone q 0x01 code d ∧ t.exch.mask = s.exch.mask := by
  obtain ⟨z, rest⟩ := State.closes_rest (s.withExch y) (((s.withExch y).install (readDraft mem)).adopted s.policy) q.slot code d
  have rest := ht.trans rest
  rw [s.install_based y (readDraft mem)] at rest
  have policy := (adoption_blocks s _ _ z t rest).1
  refine ⟨⟨_, _, rest⟩, ?_⟩
  rw [ht] at policy ⊢
  exact adoption_exchange took unheld sound rfl rfl policy

end

/-- Settles O50: each block's record is followed through the steps of R171, from the installed policy to the page rewrites. -/
theorem adoptInstallsTheClampedDraft : Obligations.AdoptInstallsTheClampedDraft := by
  unfold Obligations.AdoptInstallsTheClampedDraft
  intro s q ready mem count first policy sound
  obtain ⟨y, took, e⟩ := exec_unported (c := .adopt q) (named := .adopt) rfl ready rfl
  have below := slotAddress_bounds q.slot
  have draft : readDraft y.mem = readDraft mem := readDraft_congr fun a ha => took.bytes a (by omega)
  generalize hc : (if draftReplaced mem = [] then ResultCode.ok else .clamped) = code
  have runs : (s.withExch y).reqAdopt q.slot = (s.withExch y).closes (((s.withExch y).install (readDraft mem)).adopted s.policy) q.slot
      code [count, first, 0, 0] := by
    simp only [State.reqAdopt, State.withExch_exch, draft, contradiction_none sound, Proposal.data, clampedFields_readDraft, hc]
    rfl
  obtain ⟨t, ht⟩ : ∃ t, t = (s.withExch y).closes (((s.withExch y).install (readDraft mem)).adopted s.policy) q.slot code
    [count, first, 0, 0] := ⟨_, rfl⟩
  rw [show State.dispatch (s.withExch y) q.slot _ .adopt = (s.withExch y).reqAdopt q.slot from rfl, runs, ← ht] at e
  obtain ⟨⟨x, z, rest⟩, bytes, records, submitted, done, mask⟩ := adoption_outcome took ready.2.2 sound ht
  obtain ⟨kept, tracker, droop, dead, barrel, port, unbarred, path, budget, regulator, settings⟩ := adoption_blocks s _ x z t rest
  clear runs ht rest
  refine ⟨t, e, ?_, ?_, ?_, settings.origin, ?_, submitted, records, done, tracker, droop, dead, barrel, port, unbarred, path, budget,
    regulator, settings.presence, settings.time, settings.table, settings.reload, settings.timer, settings.single, settings.converting, mask,
    settings.latest⟩
  · rw [kept]
    exact numbers_clamped mem
  · rw [kept]
    exact ids_clamped mem
  · rw [kept]
    exact Proposal.inForce_clamped (contradiction_none sound)
  · rw [kept]
    exact bytes

end Sys2Proof.Machine
end
